-- ==== Sys2Proof/Word.lean ====
section
/-!
DEFINITION. The words the registers are made of (R8, R12) and the plain number helpers every chapter uses: bit fields of a
word, two's complement readings, and integer rounding.
-/

namespace Sys2Proof

/-- One BAR0 register word (R12). -/
abbrev Word := BitVec 32

/-- One byte of host memory, of a bus transfer or of a message. -/
abbrev Byte := BitVec 8

end Sys2Proof
end

