-- ==== Sys2Proof/Syntax.lean ====
section
/-!
DEFINITION. The commands the block takes, one constructor per row of spec/opcode_table.json, with what the outside world
supplies in each: the unit concerned, measured codes, levels, bytes read from host memory or from a bus (log entry 2).
-/
namespace Sys2Proof

/-- The levels the device samples at a frame boundary: the phase error of the frame lock (FRM_PHASE_ERR), the trim the lock gives
the PLL (CLK_TRIM), the eight
throttle lines (1 = pulled low), MST_N (true = low at some time of the frame just ended), and the gate monitors of the 16 e-fuse channels (R238). -/
structure BoundaryIn where
  phaseErr : BitVec 16
  trim     : BitVec 16
  thrIn    : BitVec 8
  mstLow   : Bool
  gateGood : BitVec 16
deriving DecidableEq, Repr

/-- A ring the device writes and the host consumes (R298). -/
inductive DevRing where
  | cq (n : Fin 4)
  | eq
  | ts (k : Fin 8)
deriving DecidableEq, Repr

/-- What the DMA read of a directory entry returned (R336): nothing (the read failed), or the domain descriptor when it
was read, and the entry's 16 bytes. -/
structure DirReply where
  descOk   : Bool
  desc     : List Byte
  entryOk  : Bool
  entry    : List Byte
deriving DecidableEq, Repr

/-- The header of a received link message whose CRC-32C is good (R378). -/
structure LinkHdr where
  port     : Fin 2
  src      : Fin 8
  dest     : Fin 8
  bcast    : Bool
  gen      : BitVec 16
  seq      : BitVec 32
  setFrame : BitVec 32
deriving DecidableEq, Repr

/-- One feed group of a FEED_REPORT (R219): estimates and power in Q16.16, and the flags of FGg_STAT. -/
structure FeedRep where
  group  : Fin 8
  vs     : BitVec 32
  r      : BitVec 32
  pdraw  : BitVec 32
  budget : BitVec 32
  flags  : BitVec 32
deriving DecidableEq, Repr

/-- One actuator of an ACT_TABLE (R217): kind 0 throttle line, 1 point-of-load entry, 2 shed group; its index, the groups
and home it names, its saving and its priority. -/
structure ActEntry where
  kind   : Fin 3
  index  : Fin 32
  fgMask : BitVec 8
  home   : Fin 8
  saving : BitVec 16
  prio   : BitVec 4
deriving DecidableEq, Repr

/-- The content of a link message this device sends or passes on (R380; a shed group is named by 32 × position + index): a type and payload bytes where the spec lays the
payload out, the fields where it names them without a layout. -/
inductive LinkBody where
  | bytes (type : Nat) (payload : List Byte)
  | feedReport (groups : List FeedRep)
  | capAlloc (thr pol sg : Nat)
  | wsShed (home : Nat) (groups : List Nat)
  | actTable (entries : List ActEntry)
  | take (entries : List (Nat × Nat × Nat))
deriving DecidableEq, Repr

/-- What a main-converter conversion serves (R438): a telemetry job, the reference check, a threshold readback, the
die-temperature scan (R515) or a management-core conversion. -/
inductive McUse where
  | job (j : Fin 32)
  | reference
  | readback
  | tempScan
  | core
deriving DecidableEq, Repr


/-- One update of a loop tile (R135): the sample code and its parity, the current sample and its parity (R146), the measured
latency in 156.25 ps units (R74), the tick of the frame at which the duty takes effect, and the SECDED outcome of the reads of
precompute (R141): nothing, or a word and whether its error is uncorrectable. -/
structure TileSample where
  code  : BitVec 12
  par   : BitVec 2
  il    : BitVec 12
  ilPar : BitVec 2
  lat   : BitVec 16
  tick  : BitVec 16
  ecc   : Option (Fin 16 × Bool)
deriving DecidableEq, Repr


/-- What a two-wire transaction or a CAN frame serves: a command under its tag, the refresh read of a pin entry, a shelf loop's
member write or booked readback, the write of a Point rail, or an update engine's transaction on a rectifier part (16 + k: the
capability read before a manifest is accepted). -/
inductive BusUse where
  | cmd (tag : Fin 256)
  | refresh (pin : Fin 13952)
  | member (m : Fin 16) (k : Fin 8)
  | readback (m : Fin 16) (k : Fin 8)
  | rail (r : Fin 32)
  | update (part : Fin 32)
deriving DecidableEq, Repr, Inhabited


/-- The straps (R38, R478): ROLE, POS2-POS0, ADDR3-ADDR0, PCIE_SRIS. -/
structure Straps where
  role : Bool
  pos  : BitVec 3
  addr : BitVec 4
  sris : Bool
deriving DecidableEq, Repr

/-- What steps 2-7 of a boot find in flash (R461, R478): whether the boot loader verifies; whether the images of each bank do (bit
2 × (kind - 1) + bank); the start mode, identifier and settings of the configuration set of the selected bank (offset and word; pin
table words from 0x100000, snapshot list entries from 0x180000), the places its stored table gives the periodic jobs, and what its
start script does: the e-fuse channels it turns on and the mask of its on request. -/
structure BootIn where
  loaderOk  : Bool
  imagesOk  : BitVec 6
  startMode : BitVec 2
  cfgId     : BitVec 32
  settings  : List (BitVec 21 × BitVec 32)
  placement : List Nat
  scriptEf  : BitVec 16
  scriptUp  : Option (BitVec 32)
deriving DecidableEq, Repr

/-- The commands and events of the block, one constructor per row of the opcode table (each docstring is the row's rule and
mnemonic), those without operands last: compiled code holds at most 244 constructors with operands. -/
inductive Instr where
  /-- FRAME_BOUNDARY (R45). -/
  | frameBoundary (inp : BoundaryIn)
  /-- RATE_LIMIT_TOKEN (R413). -/
  | rateLimitToken (c : Fin 256)
  /-- FEED_PAIR_RETURN (R201). -/
  | feedPairReturn (g : Fin 8) (p : Fin 8)
  /-- FEED_GROUP_RETURN (R203). -/
  | feedGroupReturn (g : Fin 8)
  /-- PERT_TOGGLE (R206). -/
  | pertToggle (g : Fin 8)
  /-- WRONG_SIDE_CLEAR (R209). -/
  | wrongSideClear (g : Fin 8)
  /-- SHELF_LOOP_RUN (R174). -/
  | shelfLoopRun (m : Fin 16)
  /-- SL_INPUT_LOST (R176). -/
  | slInputLost (m : Fin 16)
  /-- SL_MEMBER_LOST (R178). -/
  | slMemberLost (m : Fin 16) (k : Fin 8)
  /-- SEQUENCER_STEP (R271). -/
  | sequencerStep (lineLow : Bool)
  /-- RAIL_ONDELAY_EXPIRY (R272). -/
  | railOndelayExpiry (r : Fin 32)
  /-- RAIL_OFFDELAY_EXPIRY (R273). -/
  | railOffdelayExpiry (r : Fin 32)
  /-- RAIL_RAMP_TIMEOUT (R270). -/
  | railRampTimeout (r : Fin 32)
  /-- RAIL_FALL_TIMEOUT (R274). -/
  | railFallTimeout (r : Fin 32)
  /-- RAIL_DROPOUT (R270). -/
  | railDropout (r : Fin 32)
  /-- ARCHIVE_PROGRAM (R412). -/
  | archiveProgram (readBackOk : Bool)
  /-- ARCHIVE_ERASE_DONE (R412). -/
  | archiveEraseDone (ok : Bool)
  /-- NMI_SERVICE (R425). -/
  | nmiService (secondError : Bool)
  /-- STREAM_RECORD_WRITE (R316). -/
  | streamRecordWrite (k : Fin 8)
  /-- CAPTURE_TRIGGER (R341). -/
  | captureTrigger (j : Fin 4) (cycle : Fin 200)
  /-- CAPTURE_DRAIN_DONE (R341). -/
  | captureDrainDone (j : Fin 4)
  /-- FC_CODE_READY (R77). -/
  | fcCodeReady (k : Fin 24) (cycle : Fin 200) (code : BitVec 12) (par : BitVec 2)
  /-- MC_CONVERSION_DONE (R79). -/
  | mcConversionDone (idx : Fin 10) (use : McUse) (src : BitVec 8) (code : BitVec 16) (par : BitVec 2) (timedOut : Bool)
  /-- COMPARATOR_EVENT (R89). -/
  | comparatorEvent (n : Fin 64) (high : Bool) (asserted : Bool)
  /-- BLANKING_END (R91). -/
  | blankingEnd (n : Fin 64)
  /-- SWAP_TEST (R100). -/
  | swapTest (n : Fin 64) (highRaw : Bool) (lowRaw : Bool)
  /-- TIE_TEST (R101). -/
  | tieTest (n : Fin 64) (lowOk : Bool) (highOk : Bool)
  /-- CMP_UNTESTED (R103). -/
  | cmpUntested (n : Fin 64)
  /-- PERIOD_START (R118). -/
  | periodStart (n : Fin 48) (j : Fin 20)
  /-- LT_SAMPLE (R135). -/
  | ltSample (n : Fin 24) (upd : Fin 4) (x : TileSample)
  /-- LT_RETRY_EXPIRY (R163). -/
  | ltRetryExpiry (n : Fin 24)
  /-- LT_ILIM_LONG (R146). -/
  | ltIlimLong (n : Fin 24)
  /-- LT_RETRY_BUDGET_RESTORE (R163). -/
  | ltRetryBudgetRestore (n : Fin 24)
  /-- EF_FAST_TRIP (R252). -/
  | efFastTrip (e : Fin 16)
  /-- EF_INSERT_COMPLETE (R243). -/
  | efInsertComplete (e : Fin 16)
  /-- EF_INRUSH_TIMEOUT (R245). -/
  | efInrushTimeout (e : Fin 16)
  /-- EF_RETRY_EXPIRY (R255). -/
  | efRetryExpiry (e : Fin 16)
  /-- EF_RETRY_BUDGET_RESTORE (R255). -/
  | efRetryBudgetRestore (e : Fin 16)
  /-- EF_TD_MEASURE (R247). -/
  | efTdMeasure (e : Fin 16) (tj : BitVec 32)
  /-- EF_LIMITER_CHANGE (R244). -/
  | efLimiterChange (e : Fin 16) (limiting : Bool)
  /-- VIO_GOOD_RISE (R469). -/
  | vioGoodRise (n : Fin 4)
  /-- VIO_GOOD_FALL (R469). -/
  | vioGoodFall (n : Fin 4)
  /-- OSC_REF_CHECK (R473). -/
  | oscRefCheck (present : Bool) (err : BitVec 16)
  /-- CORE_REG_ERROR (R471). -/
  | coreRegError (limit : Bool) (window : Bool)
  /-- VHV_WARN (R471). -/
  | vhvWarn (v : BitVec 32)
  /-- LOGIC_RESET_RELEASE (R478). -/
  | logicResetRelease (straps : Straps) (boot : Option BootIn)
  /-- FIRST_FRAME (R478). -/
  | firstFrame (us : BitVec 20) (gateGood : BitVec 16)
  /-- CORE_RESTART_END (R457). -/
  | coreRestartEnd (settings : List (BitVec 21 × BitVec 32))
  /-- FRAME_MARKER (R69). -/
  | frameMarker (port : Fin 2) (src : Fin 8) (setFrame : BitVec 64)
  /-- MARKER_LOSS (R69). -/
  | markerLoss (port : Fin 2)
  /-- NOP (R55). -/
  | nop (tag : Fin 256)
  /-- FENCE (R61). -/
  | fence (tag : Fin 256)
  /-- ABORT (R313). -/
  | abort (tag : Fin 256)
  /-- POINT_READ (R332). -/
  | pointRead (tag : Fin 256)
  /-- POINT_WRITE (R333). -/
  | pointWrite (tag : Fin 256)
  /-- SETPOINT_SLEW (R149). -/
  | setpointSlew (tag : Fin 256)
  /-- LOOP_MODE (R154). -/
  | loopMode (tag : Fin 256)
  /-- EFUSE_OFF (R259). -/
  | efuseOff (tag : Fin 256)
  /-- EFUSE_ON (R259). -/
  | efuseOn (tag : Fin 256)
  /-- EFUSE_CLEAR (R256). -/
  | efuseClear (tag : Fin 256)
  /-- EFUSE_READ (R259). -/
  | efuseRead (tag : Fin 256)
  /-- SEQ_POWER_UP (R281). -/
  | seqPowerUp (tag : Fin 256)
  /-- SEQ_POWER_DOWN (R282). -/
  | seqPowerDown (tag : Fin 256)
  /-- SEQ_RAIL_ON (R269). -/
  | seqRailOn (tag : Fin 256)
  /-- SEQ_RAIL_OFF (R269). -/
  | seqRailOff (tag : Fin 256)
  /-- SEQ_CLEAR (R277). -/
  | seqClear (tag : Fin 256)
  /-- SEQ_READ (R288). -/
  | seqRead (tag : Fin 256)
  /-- CAP_SET (R231). -/
  | capSet (tag : Fin 256)
  /-- TW_XFER (R349). -/
  | twXfer (tag : Fin 256)
  /-- CAN_XFER (R367). -/
  | canXfer (tag : Fin 256)
  /-- ONYX_QUERY (R416). -/
  | onyxQuery (tag : Fin 256)
  /-- ONYX_CLEAR (R418). -/
  | onyxClear (tag : Fin 256) (token : Option (List Byte))
  /-- TIME_ANCHOR (R406). -/
  | timeAnchor (tag : Fin 256)
  /-- UPDATE_STAGE_MANIFEST (R449). -/
  | updateStageManifest (tag : Fin 256) (manifest : Option (List Byte))
  /-- UPDATE_STAGE_BLOCKS (R450). -/
  | updateStageBlocks (tag : Fin 256) (blocks : Option (List Byte))
  /-- UPDATE_ACTIVATE (R455). -/
  | updateActivate (tag : Fin 256)
  /-- UPDATE_CONFIRM (R459). -/
  | updateConfirm (tag : Fin 256)
  /-- SQ_TAIL_DOORBELL (R300). -/
  | sqTailDoorbell (n : Fin 4) (value : BitVec 32)
  /-- CQ_HEAD_DOORBELL (R300). -/
  | cqHeadDoorbell (ring : DevRing) (value : BitVec 32)
  /-- DESCRIPTOR_FETCH (R301). -/
  | descriptorFetch (n : Fin 4) (data : Option (List Byte))
  /-- COMPLETION_POST (R304). -/
  | completionPost (n : Fin 4)
  /-- MSIX_MESSAGE (R319). -/
  | msixMessage (v : Fin 32)
  /-- PAIR_ATTACH (R303). -/
  | pairAttach (n : Fin 4) (resume : Bool)
  /-- PAIR_DETACH (R303). -/
  | pairDetach (n : Fin 4)
  /-- EQ_CTL_WRITE (R303). -/
  | eqCtlWrite (value : BitVec 32)
  /-- TS_CTL_WRITE (R303). -/
  | tsCtlWrite (k : Fin 8) (value : BitVec 32)
  /-- MSIX_MAP_WRITE (R324). -/
  | msixMapWrite (isMod : Bool) (idx : Fin 32) (value : BitVec 32)
  /-- PCIE_RESET (R295). -/
  | pcieReset (cause : Fin 5)
  /-- PCIE_LINK_UP (R296). -/
  | pcieLinkUp (rate : Fin 3) (x2 : Bool)
  /-- AER_ERROR_LOGGED (R323). -/
  | aerErrorLogged (uncorrectable : Bool) (statusBit : BitVec 6)
  /-- DIRECTORY_RESOLVE (R336). -/
  | directoryResolve (tag : Fin 256) (reply : DirReply)
  /-- POINT_STALE (R331). -/
  | pointStale (point : BitVec 20)
  /-- CAP_ARM (R341). -/
  | capArm (j : Fin 4)
  /-- CAP_SW_TRIG (R341). -/
  | capSwTrig (j : Fin 4)
  /-- TW_TRANSACTION_START (R351). -/
  | twTransactionStart (p : Fin 12) (use : BusUse) (busBusy : Bool)
  /-- TW_TRANSACTION_END (R350). -/
  | twTransactionEnd (p : Fin 12) (rx : List Byte) (nack : Bool) (pecOk : Bool)
  /-- TW_STRETCH_TIMEOUT (R351). -/
  | twStretchTimeout (p : Fin 12)
  /-- TW_ARB_LOST (R353). -/
  | twArbLost (p : Fin 12) (ownAddress : Bool)
  /-- TW_BUS_ERROR (R357). -/
  | twBusError (p : Fin 12) (asTarget : Bool)
  /-- TW_BUS_CLEAR (R355). -/
  | twBusClear (p : Fin 12) (result : Option Bool)
  /-- TW_SCL_STUCK (R356). -/
  | twSclStuck (p : Fin 12)
  /-- TW_SCL_RECOVER (R356). -/
  | twSclRecover (p : Fin 12) (sdaLow : Bool)
  /-- TW_ALERT_INPUT (R354). -/
  | twAlertInput (p : Fin 12) (low : Bool)
  /-- TW_ARA_READ (R354). -/
  | twAraRead (p : Fin 12) (rx : Option (BitVec 8)) (pecOk : Bool)
  /-- TW_PORT_ENABLE (R355). -/
  | twPortEnable (p : Fin 12) (en : Bool)
  /-- TW_PORT_CLEAR (R355). -/
  | twPortClear (p : Fin 12)
  /-- TW_ALERT_LOG_READ (R354). -/
  | twAlertLogRead (p : Fin 12)
  /-- CLEAR_FAULTS (R361). -/
  | clearFaults (pec : Option Bool)
  /-- WIN_ADDR (R361). -/
  | winAddr (write : Option (BitVec 16)) (pec : Option Bool)
  /-- WIN_LO_WRITE (R362). -/
  | winLoWrite (value : BitVec 16) (pec : Option Bool)
  /-- WIN_HI_WRITE (R362). -/
  | winHiWrite (value : BitVec 16) (pec : Option Bool)
  /-- TW0_UNSUPPORTED_COMMAND (R363). -/
  | tw0UnsupportedCommand (read : Bool) (count : Fin 256)
  /-- TW0_ARA_RESPONSE (R363). -/
  | tw0AraResponse (won : Bool)
  /-- CAN_FRAME_START (R366). -/
  | canFrameStart (c : Fin 4) (use : BusUse) (idle : Bool)
  /-- CAN_FRAME_DONE (R366). -/
  | canFrameDone (c : Fin 4) (attempts : Fin 5) (outcome : Fin 3) (tec : BitVec 8) (rxe : BitVec 8)
  /-- CAN_RECEIVE (R368). -/
  | canReceive (c : Fin 4) (ide : Bool) (id : BitVec 29) (fd : Bool) (dlc : Fin 16) (data : List Byte)
  /-- CAN_ERROR_STATE_CHANGE (R366). -/
  | canErrorStateChange (c : Fin 4) (st : Fin 3) (tec : BitVec 8) (rxe : BitVec 8)
  /-- CAN_BUS_OFF_RECOVERY (R366). -/
  | canBusOffRecovery (c : Fin 4)
  /-- CAN_RECOVER (R366). -/
  | canRecover (c : Fin 4)
  /-- CAN_TX_DOMINANT (R370). -/
  | canTxDominant (c : Fin 4)
  /-- CAN_XCVR_FAULT (R370). -/
  | canXcvrFault (c : Fin 4) (thermal : Bool)
  /-- TL_PORT_TRAINED (R375). -/
  | tlPortTrained (p : Fin 2) (pos : Fin 8) (size : BitVec 4) (reported : Option (BitVec 16)) (lat : BitVec 16)
  /-- TL_PORT_DOWN (R375). -/
  | tlPortDown (p : Fin 2)
  /-- TL_TRANSIT_FORWARD (R377). -/
  | tlTransitForward (p : Fin 2) (body : LinkBody)
  /-- TL_LIVENESS_EXPIRY (R381). -/
  | tlLivenessExpiry (q : Fin 8)
  /-- HELLO (R379). -/
  | hello (h : LinkHdr) (payload : List Byte)
  /-- HEARTBEAT (R386). -/
  | heartbeat (h : LinkHdr) (payload : List Byte)
  /-- SURRENDER (R389). -/
  | surrender (h : LinkHdr) (payload : List Byte)
  /-- THROTTLE (R392). -/
  | throttle (h : LinkHdr) (payload : List Byte)
  /-- MIRROR (R394). -/
  | mirror (h : LinkHdr) (payload : List Byte)
  /-- TAKE (R397). -/
  | take (h : LinkHdr) (entries : List (Fin 4 × Fin 256 × BitVec 16))
  /-- HANDBACK (R399). -/
  | handback (h : LinkHdr)
  /-- FEED_REPORT (R219). -/
  | feedReport (h : LinkHdr) (groups : List FeedRep)
  /-- CAP_ALLOC (R219). -/
  | capAlloc (h : LinkHdr) (thr : BitVec 8) (pol : BitVec 24) (sg : BitVec 32)
  /-- WS_SHED (R220). -/
  | wsShed (h : LinkHdr) (groups : List (Fin 256))
  /-- GASP (R229). -/
  | gasp (h : LinkHdr)
  /-- ACT_TABLE (R217). -/
  | actTable (h : LinkHdr) (entries : List ActEntry)
  /-- SUBSCRIBE (R382). -/
  | subscribe (h : LinkHdr) (payload : List Byte)
  /-- SUB_NACK (R382). -/
  | subNack (h : LinkHdr) (payload : List Byte)
  /-- FWD (R382). -/
  | fwd (h : LinkHdr) (payload : List Byte)
  /-- PWRITE (R383). -/
  | pwrite (h : LinkHdr) (payload : List Byte)
  /-- PWRITE_ACK (R383). -/
  | pwriteAck (h : LinkHdr) (payload : List Byte)
  /-- PWRITE_TIMEOUT (R333). -/
  | pwriteTimeout (tag : Fin 256)
  /-- ROLE_TAKE (R396). -/
  | roleTake (cq : List (List (Fin 256)))
  /-- FAULT_ACK (R422). -/
  | faultAck (g : Fin 8) (mask : BitVec 32)
  /-- COMPILE_FINISH (R47). -/
  | compileFinish (placement : List Nat) (vioLow : BitVec 4)
  /-- PG_ENABLE_WRITE (R122). -/
  | pgEnableWrite (n : Fin 48) (en : Bool)
  /-- PG_IDLE_WRITE (R124). -/
  | pgIdleWrite (n : Fin 48) (idle : Bool)
  /-- IMM_DIS (R123). -/
  | immDis (n : Fin 48)
  /-- IMM_DIS_ALL (R123). -/
  | immDisAll (g : Fin 12)
  /-- OFS_LOAD (R117). -/
  | ofsLoad (g : Fin 12)
  /-- PG_DUTY_WRITE (R113). -/
  | pgDutyWrite (n : Fin 48) (edge : Bool) (value : BitVec 32) (tick : BitVec 16)
  /-- PAR_OFF_CLEAR (R115). -/
  | parOffClear (n : Fin 48)
  /-- TRIP_LATCH_CLEAR (R121). -/
  | tripLatchClear (g : Fin 12) (mask : BitVec 16)
  /-- CMP_THR_WRITE (R90). -/
  | cmpThrWrite (n : Fin 64) (hi : BitVec 10) (lo : BitVec 10)
  /-- CMP_LATCH_CLEAR (R94). -/
  | cmpLatchClear (w : Fin 4) (mask : BitVec 32)
  /-- PEAK_CLR (R86). -/
  | peakClr (k : Fin 256)
  /-- LT_EN_WRITE (R63). -/
  | ltEnWrite (n : Fin 24) (en : Bool)
  /-- LT_CLR (R155). -/
  | ltClr (n : Fin 24)
  /-- SL_EN_WRITE (R194). -/
  | slEnWrite (m : Fin 16) (en : Bool)
  /-- SL_CLR (R191). -/
  | slClr (m : Fin 16)
  /-- RC_CLR (R185). -/
  | rcClr (m : Fin 16)
  /-- RC_DATA_WRITE (R185). -/
  | rcDataWrite (m : Fin 16) (value : BitVec 32)
  /-- SL_TARGET_WRITE (R175). -/
  | slTargetWrite (m : Fin 16) (value : BitVec 32)
  /-- SOC_WRITE (R189). -/
  | socWrite (m : Fin 16) (value : BitVec 32)
  /-- EST_RESTART (R204). -/
  | estRestart (g : Fin 8)
  /-- CAP_EN_WRITE (R215). -/
  | capEnWrite (en : Bool)
  /-- HU_EN_WRITE (R223). -/
  | huEnWrite (en : Bool)
  /-- EF_EN_WRITE (R240). -/
  | efEnWrite (e : Fin 16) (en : Bool)
  /-- EF_ON_WRITE (R241). -/
  | efOnWrite (e : Fin 16) (on : Bool)
  /-- EF_CLR_WRITE (R256). -/
  | efClrWrite (e : Fin 16)
  /-- SEQ_EN_WRITE (R284). -/
  | seqEnWrite (en : Bool)
  /-- SEQ_RAIL_CLR (R277). -/
  | seqRailClr (r : Fin 32)
  /-- TMR_START (R432). -/
  | tmrStart (t : Fin 16) (clk : Fin 1000)
  /-- TMR_STOP (R432). -/
  | tmrStop (t : Fin 16) (clk : Fin 1000)
  /-- TMR_SYNC_START (R432). -/
  | tmrSyncStart (t : Fin 16)
  /-- TMR_CMP_WRITE (R434). -/
  | tmrCmpWrite (t : Fin 16) (clk : Fin 1000) (value : BitVec 32)
  /-- TMR_MATCH (R433). -/
  | tmrMatch (t : Fin 16) (clk : Fin 1000)
  /-- RBT_ROUND_GRANT (R439). -/
  | rbtRoundGrant (mc : Bool) (owner : Option (Fin 6)) (work : BitVec 6)
  /-- UPD_PART_VERIFY (R451). -/
  | updPartVerify (k : Fin 16) (settings : List (BitVec 21 × BitVec 32))
  /-- UPD_PART_READY (R451). -/
  | updPartReady (k : Fin 16) (ok : Bool)
  /-- UPD_MAN (R453). -/
  | updMan (h : LinkHdr) (payload : List Byte)
  /-- UPD_DATA (R453). -/
  | updData (h : LinkHdr) (payload : List Byte)
  /-- UPD_ACK (R453). -/
  | updAck (h : LinkHdr) (payload : List Byte)
  /-- UPD_PREPARE (R453). -/
  | updPrepare (h : LinkHdr) (payload : List Byte)
  /-- UPD_READY (R453). -/
  | updReady (h : LinkHdr) (payload : List Byte)
  /-- UPD_COMMIT (R453). -/
  | updCommit (h : LinkHdr) (payload : List Byte)
  /-- UPD_DONE (R453). -/
  | updDone (h : LinkHdr) (payload : List Byte)
  /-- UPD_REVERT (R453). -/
  | updRevert (h : LinkHdr) (payload : List Byte)
  /-- UPD_CONFIRM (R453). -/
  | updConfirm (h : LinkHdr) (payload : List Byte)
  /-- PROVISION (R462). -/
  | provision (coSign : Bool) (key : Option (List Byte))
  /-- LOCK_OP (R463). -/
  | lockOp (token : Option (List Byte))
  /-- DBG_LOCK_WRITE (R516). -/
  | dbgLockWrite (lock : Bool)
  /-- DBG_CTL_WRITE (R74). -/
  | dbgCtlWrite (latTest : Bool)
  /-- LAT_MAX_READ (R74). -/
  | latMaxRead (n : Fin 24)
  /-- GLB_SCRATCH_WRITE (R514). -/
  | glbScratchWrite (value : BitVec 32)
  /-- REGISTER_WRITE (R9). -/
  | registerWrite (offset : BitVec 18) (value : BitVec 32) (byteEnables : BitVec 4)
  /-- LINK_MESSAGE_DROPPED (R377). -/
  | linkMessageDropped (p : Fin 2) (unknownType : Bool)
  /-- PULSE_EDGE (R110). -/
  | pulseEdge (n : Fin 48) (rise : Bool) (readH : Bool) (readL : Bool)
  /-- FEED_ESTIMATOR_STAGE (R204). -/
  | feedEstimatorStage
  /-- ENERGY_PREDICTOR (R224). -/
  | energyPredictor
  /-- HOLD_UP_STAGE (R223). -/
  | holdUpStage
  /-- HU_RETURN_NORMAL (R228). -/
  | huReturnNormal
  /-- HU_SHUT_LONG (R234). -/
  | huShutLong
  /-- CAPPING_STAGE (R211). -/
  | cappingStage
  /-- RESTART_DELAY_EXPIRY (R281). -/
  | restartDelayExpiry
  /-- SEQ_FLT_IN (R287). -/
  | seqFltIn
  /-- SEQ_FLT_RELEASE (R286). -/
  | seqFltRelease
  /-- SEQ_FLT_LINE_HIGH (R287). -/
  | seqFltLineHigh
  /-- ADMISSION_STAGE (R50). -/
  | admissionStage
  /-- COMPLETION_SEAL (R44). -/
  | completionSeal
  /-- HEARTBEAT_BUILD (R386). -/
  | heartbeatBuild
  /-- MIRROR_SEND (R394). -/
  | mirrorSend
  /-- ONYX_RECORD_BUILD (R408). -/
  | onyxRecordBuild
  /-- MARK_RECORD (R405). -/
  | markRecord
  /-- ONYX_COMMIT (R409). -/
  | onyxCommit
  /-- SNAPSHOT_STREAM_ASSEMBLY (R338). -/
  | snapshotStreamAssembly
  /-- VHV_UVLO_FALL (R258). -/
  | vhvUvloFall
  /-- VHV_UVLO_RISE (R468). -/
  | vhvUvloRise
  /-- VSYS_POWER_ON (R475). -/
  | vsysPowerOn
  /-- VSYS_BROWN_OUT (R468). -/
  | vsysBrownOut
  /-- CORE_UV (R468). -/
  | coreUv
  /-- RESET_N_ASSERT (R476). -/
  | resetNAssert
  /-- STROBE_LOSS (R391). -/
  | strobeLoss
  /-- PIN_GUARDIAN_ACTION (R391). -/
  | pinGuardianAction
  /-- PLL_LOCK_LOSS (R474). -/
  | pllLockLoss
  /-- OSC_GUARDIAN_MISMATCH (R473). -/
  | oscGuardianMismatch
  /-- CORE_RESTART (R457). -/
  | coreRestart
  /-- SYNC_LOCK_DECLARED (R66). -/
  | syncLockDeclared
  /-- SYNC_LOST (R67). -/
  | syncLost
  /-- TIMING_MASTER_TAKEOVER (R381). -/
  | timingMasterTakeover
  /-- EVENT_POST (R315). -/
  | eventPost
  /-- DIR_FLUSH (R336). -/
  | dirFlush
  /-- TW0_TARGET_ADDRESSED (R360). -/
  | tw0TargetAddressed
  /-- CAPABILITY (R361). -/
  | capability
  /-- STATUS_BYTE (R361). -/
  | statusByte
  /-- STATUS_WORD (R361). -/
  | statusWord
  /-- STATUS_CML (R361). -/
  | statusCml
  /-- PMBUS_REVISION (R361). -/
  | pmbusRevision
  /-- MFR_ID (R361). -/
  | mfrId
  /-- MFR_MODEL (R361). -/
  | mfrModel
  /-- MFR_REVISION (R361). -/
  | mfrRevision
  /-- MFR_SERIAL (R361). -/
  | mfrSerial
  /-- WIN_LO_READ (R362). -/
  | winLoRead
  /-- WIN_HI_READ (R362). -/
  | winHiRead
  /-- HELLO_PERIODIC (R379). -/
  | helloPeriodic
  /-- PAIR_START_ROLE (R385). -/
  | pairStartRole
  /-- SECONDARY_START_TIMEOUT (R385). -/
  | secondaryStartTimeout
  /-- HB_TOGGLE_MISSED (R387). -/
  | hbToggleMissed
  /-- PEER_FAILED (R389). -/
  | peerFailed
  /-- HB_PATH_SILENT (R389). -/
  | hbPathSilent
  /-- MST_HELD (R390). -/
  | mstHeld
  /-- ACTIVE_SURRENDER (R388). -/
  | activeSurrender
  /-- RED_SURRENDER_WRITE (R388). -/
  | redSurrenderWrite
  /-- RED_RESYNC (R395). -/
  | redResync
  /-- HANDBACK_SEND (R398). -/
  | handbackSend
  /-- FAULT_CHIP_RESET (R426). -/
  | faultChipReset
  /-- FIRST_ERROR_RELEASE (R423). -/
  | firstErrorRelease
  /-- INJECT_CHECK_BITS (R427). -/
  | injectCheckBits
  /-- INJECT_FORCE (R427). -/
  | injectForce
  /-- COMPILE (R47). -/
  | compile
  /-- APPLY (R48). -/
  | apply
  /-- ABANDON (R509). -/
  | abandon
  /-- HU_RESTART_WRITE (R228). -/
  | huRestartWrite
  /-- UPD_BLOCK_PROGRAM (R451). -/
  | updBlockProgram
  /-- UPD_PREP_TIMEOUT (R455). -/
  | updPrepTimeout
  /-- UPD_SWITCH_TIMEOUT (R455). -/
  | updSwitchTimeout
  /-- UPD_CONFIRM_EXPIRED (R458). -/
  | updConfirmExpired
  /-- UPD_ABANDON (R467). -/
  | updAbandon
  /-- SOFTWARE_RESET (R476). -/
  | softwareReset
  /-- SYNC_IN_RETURN (R67). -/
  | syncInReturn
  /-- HB_TOGGLE_RETURN (R387). -/
  | hbToggleReturn
  /-- BUS_MASTER_ENABLE_WRITE (R296). -/
  | busMasterEnableWrite
deriving DecidableEq, Repr

end Sys2Proof
end

