-- ==== Sys2Proof/Config.lean ====
section
/-!
DEFINITION. What the spec fixes for every device (counts, frame lengths) and what it leaves open: the free values, opaque
constants that no proof can see into (assumption log entry 4), and the device's own identity, which the spec gives no value.
-/

namespace Sys2Proof.Config

/-- The n-th free value the machine draws: a value the spec leaves open (log entry 4). -/
opaque freeValue : Nat → BitVec 64

/-- The 64-bit device serial number of OTP (R294, R513); every device has its own. -/
opaque serialNumber : BitVec 64

/-- SHA-384 of a byte string (R14, R447, R418), most significant byte first. The spec names the algorithm of the standard
and the model uses no property of it. -/
opaque sha384 : List Byte → BitVec 384

/-- ECDSA over P-384 with SHA-384 (R14): whether a signature (r then s) over a digest verifies under a public key. -/
opaque ecdsaP384 : BitVec 384 → List Byte → List Byte → Bool

/-- Whether the 97 bytes of an uncompressed key are a point of the P-384 curve (R462): the spec names the curve of the
standard. -/
opaque onP384 : List Byte → Bool

/-- The hash of the manufacturer's root key in the boot ROM region (R447, R461). -/
opaque rootKeyHash : BitVec 384

/-- The binary32 natural logarithm of the breaker curve (R249): the spec gives the formula and no rounding of ln. -/
opaque ln32 : BitVec 32 → BitVec 32

/-- The binary32 exponential of the breaker curve (R249). -/
opaque exp32 : BitVec 32 → BitVec 32

/-- A quotient by a divisor of zero, from the dividend: the spec states none (log entry 4). -/
opaque overZero : BitVec 64 → BitVec 64

/-- Ticks of the pulse-generator position grid in one frame: 8,000 clocks of eight 156.25 ps positions (R17, R72). -/
def ticksPerFrame : Nat := 64000

/-- Frames of a deadline beyond which placement does not go (R53). -/
def maxWindow : Nat := 1024

end Sys2Proof.Config
end

