-- ==== Sys2Proof/Machine/Num.lean ====
section
/-!
DEFINITION. The arithmetic of the spec: two's complement fields (R7), rounding to nearest with ties away from zero and
saturation (R134), little-endian bytes (R8), the checks of R14 and IEEE 754 binary32 (R204).
-/
namespace Sys2Proof.Machine

/-- The two's complement reading of the low `w` bits of a number (R7). -/
def signed (w n : Nat) : Int :=
  let m := n % 2 ^ w
  if 2 * m < 2 ^ w then (m : Int) else (m : Int) - (2 ^ w : Nat)

/-- The low `w` bits of an integer, as stored in a field (R7). -/
def unsigned (w : Nat) (i : Int) : Nat := (i % ((2 ^ w : Nat) : Int)).toNat

/-- Clamp an integer between two bounds; the lower bound wins where they cross. -/
def clampI (lo hi x : Int) : Int := max lo (min hi x)

/-- Saturation to a two's complement format of `w` bits (R134). -/
def satS (w : Nat) (x : Int) : Int := clampI (-((2 ^ (w - 1) : Nat) : Int)) (((2 ^ (w - 1) : Nat) : Int) - 1) x

/-- Saturation to an unsigned format of `w` bits. -/
def satU (w : Nat) (x : Int) : Nat := (clampI 0 (((2 ^ w : Nat) : Int) - 1) x).toNat

/-- Division rounded once to nearest, ties away from zero (R134); by a divisor of 0 a value the spec does not
state (log entry 4). -/
def divRnd (a : Int) (b : Nat) : Int :=
  if b = 0 then (Config.overZero (BitVec.ofInt 64 a)).toInt
  else
    let q := (2 * a.natAbs + b) / (2 * b)
    if a < 0 then -(q : Int) else (q : Int)

/-- Division by an integer of either sign, rounded as `divRnd`. -/
def divRndI (a b : Int) : Int := if b < 0 then divRnd (-a) b.natAbs else divRnd a b.natAbs

/-- The low `n` bytes of a number, least significant first (R8). -/
def leBytes (n v : Nat) : List Byte :=
  match n with
  | 0 => []
  | k + 1 => BitVec.ofNat 8 v :: leBytes k (v / 256)

/-- The number that little-endian bytes spell (R8). -/
def leNat (l : List Byte) : Nat :=
  match l with
  | [] => 0
  | b :: t => b.toNat + 256 * leNat t

/-- `len` bytes of a byte string from an offset. -/
def slice (l : List Byte) (ofs len : Nat) : List Byte := (l.drop ofs).take len

/-- The little-endian number in `len` bytes of a byte string from an offset. -/
def numAt (l : List Byte) (ofs len : Nat) : Nat := leNat (slice l ofs len)

/-- Whether every byte of a range is zero (a reserved range, R306). -/
def zeroAt (l : List Byte) (ofs len : Nat) : Bool := (slice l ofs len).all (· == 0)

/-- Pad or cut a byte string to a length. -/
def padTo (n : Nat) (l : List Byte) : List Byte := (l ++ List.replicate n 0).take n

/-- One bit of a number. -/
def bit (n i : Nat) : Bool := n.testBit i

/-- A flag as a number. -/
def b2n (b : Bool) : Nat := if b then 1 else 0

/-- Bits [hi:lo] of a number. -/
def bits (n hi lo : Nat) : Nat := (n / 2 ^ lo) % 2 ^ (hi + 1 - lo)

/-- A mask with one bit set. -/
def maskBit (i : Nat) : Nat := 2 ^ i

/-- Set or clear one bit of a mask. -/
def setBit (m i : Nat) (b : Bool) : Nat := if b then m ||| 2 ^ i else if m.testBit i then m - 2 ^ i else m

/-- Remove from a mask the bits of another. -/
def maskOff (m n : Nat) : Nat := m ^^^ (m &&& n)

/-- The bits set in the low `n` bits of a mask, lowest first. -/
def bitsOf (n m : Nat) : List Nat := (List.range n).filter (fun i => m.testBit i)

/-- How many of the low `n` bits of a mask are set. -/
def popCount (n m : Nat) : Nat := (bitsOf n m).length

/-- The even parity bit of a byte value (R14). -/
def parity8 (n : Nat) : Nat := popCount 8 n % 2

/-- One step of the reflected CRC-32C register (R14: polynomial 0x1EDC_6F41 reflected is 0x82F6_3B78). -/
def crc32cBit (c : Nat) : Nat := if c % 2 = 1 then (c / 2) ^^^ 0x82F63B78 else c / 2

/-- CRC-32C over one byte. -/
def crc32cByte (c : Nat) (b : Byte) : Nat :=
  (List.range 8).foldl (fun a _ => crc32cBit a) (c ^^^ b.toNat)

/-- CRC-32C of a byte string (R14): initial value and final XOR 0xFFFF_FFFF. -/
def crc32c (l : List Byte) : Nat := (l.foldl crc32cByte 0xFFFFFFFF) ^^^ 0xFFFFFFFF

/-- One step of the CRC-16 register (R14: polynomial 0x1021, not reflected). -/
def crc16Bit (c : Nat) : Nat := if c.testBit 15 then ((c * 2) % 65536) ^^^ 0x1021 else (c * 2) % 65536

/-- CRC-16 over one byte. -/
def crc16Byte (c : Nat) (b : Byte) : Nat :=
  (List.range 8).foldl (fun a _ => crc16Bit a) (c ^^^ (b.toNat * 256))

/-- CRC-16 (Onyx) of a byte string (R14): initial value 0xFFFF, no final XOR. -/
def crc16 (l : List Byte) : Nat := l.foldl crc16Byte 0xFFFF

/-- A byte string closed by its CRC-32C (R15). -/
def sealCrc (l : List Byte) : List Byte := l ++ leBytes 4 (crc32c l)

/-- Whether a byte string ends in its CRC-32C (R15). -/
def crcGood (l : List Byte) : Bool :=
  let n := l.length - 4
  decide (4 ≤ l.length) && decide (crc32c (l.take n) = leNat (l.drop n))

/-! ### IEEE 754 binary32 (R204), round to nearest even -/

/-- An exact value `sgn · man · 2^exp` with a flag for a value that is not finite. -/
structure Dyad where
  man : Int
  exp : Int
  fin : Bool
deriving DecidableEq, Repr

/-- The exact value of a binary32 word; infinities and NaNs are not finite. -/
def f32Val (w : Nat) : Dyad :=
  let e := bits w 30 23
  let m := bits w 22 0
  let sg : Int := if w.testBit 31 then -1 else 1
  if e = 255 then ⟨sg * (m : Int), 0, false⟩
  else if e = 0 then ⟨sg * (m : Int), -149, true⟩
  else ⟨sg * ((m : Int) + 8388608), (e : Int) - 150, true⟩

/-- The canonical quiet NaN. -/
def f32NaN : Nat := 0x7FC00000

/-- The quotient of two naturals rounded to nearest even. -/
def divRne (a b : Nat) : Nat :=
  let q := a / b
  let r := a % b
  if 2 * r < b then q else if 2 * r > b then q + 1 else q + q % 2

/-- The binary32 word nearest to `num / den · 2^exp` (ties to even); overflow gives infinity. -/
def f32Round (num : Int) (den : Nat) (exp : Int) : Nat :=
  let sb := if num < 0 then 2 ^ 31 else 0
  let n := num.natAbs
  if n = 0 ∨ den = 0 then sb
  else
    -- floor of log2 of n / den
    let l0 : Int := (n.log2 : Int) - (den.log2 : Int)
    let ge (k : Int) : Bool := if 0 ≤ k then decide (den * 2 ^ k.toNat ≤ n) else decide (den ≤ n * 2 ^ (-k).toNat)
    let l : Int := if ge l0 then l0 else l0 - 1
    let e := max (l + exp - 23) (-149)
    let sh := exp - e
    let m := if 0 ≤ sh then divRne (n * 2 ^ sh.toNat) den else divRne n (den * 2 ^ (-sh).toNat)
    let m2 := if m ≥ 16777216 then m / 2 else m
    let e2 := if m ≥ 16777216 then e + 1 else e
    if m2 < 8388608 then sb + m2
    else if e2 + 150 ≥ 255 then sb + 0x7F800000
    else sb + (e2 + 150).toNat * 8388608 + (m2 - 8388608)

/-- Sum of two binary32 words. -/
def fadd (a b : Nat) : Nat :=
  let x := f32Val a
  let y := f32Val b
  if !x.fin || !y.fin then f32NaN
  else
    let e := min x.exp y.exp
    f32Round (x.man * ((2 ^ (x.exp - e).toNat : Nat) : Int) + y.man * ((2 ^ (y.exp - e).toNat : Nat) : Int)) 1 e

/-- Negation of a binary32 word. -/
def fneg (a : Nat) : Nat := if a.testBit 31 then a - 2 ^ 31 else a + 2 ^ 31

/-- Difference of two binary32 words. -/
def fsub (a b : Nat) : Nat := fadd a (fneg b)

/-- Product of two binary32 words. -/
def fmul (a b : Nat) : Nat :=
  let x := f32Val a
  let y := f32Val b
  if !x.fin || !y.fin then f32NaN else f32Round (x.man * y.man) 1 (x.exp + y.exp)

/-- Quotient of two binary32 words; a nonzero value divided by zero gives an infinity. -/
def fdiv (a b : Nat) : Nat :=
  let x := f32Val a
  let y := f32Val b
  if !x.fin || !y.fin || (y.man = 0 && x.man = 0) then f32NaN
  else if y.man = 0 then (if (x.man < 0) != b.testBit 31 then 0xFF800000 else 0x7F800000)
  else
    let num := if y.man < 0 then -x.man else x.man
    f32Round num y.man.natAbs (x.exp - y.exp)

/-- Whether one binary32 value is less than another; false where either is not finite. -/
def fless (a b : Nat) : Bool :=
  let x := f32Val a
  let y := f32Val b
  if !x.fin || !y.fin then false
  else
    let e := min x.exp y.exp
    decide (x.man * ((2 ^ (x.exp - e).toNat : Nat) : Int) < y.man * ((2 ^ (y.exp - e).toNat : Nat) : Int))

/-- Absolute value of a binary32 word. -/
def fabs (a : Nat) : Nat := a % 2 ^ 31

/-- Whether a binary32 word is finite. -/
def ffin (a : Nat) : Bool := (f32Val a).fin

/-- The binary32 word nearest to an integer times a power of two (a fixed-point number, R7). -/
def fofQ (v : Int) (frac : Nat) : Nat := f32Round v 1 (-(frac : Int))

/-- A binary32 value rounded to a two's complement fixed-point format of `w` bits with `frac` fraction bits, to nearest
with ties away from zero, saturating (R134, R233); 0 where it is not finite. -/
def ftoQ (w frac : Nat) (a : Nat) : Int :=
  let x := f32Val a
  if !x.fin then 0
  else
    let e := x.exp + frac
    satS w (if 0 ≤ e then x.man * ((2 ^ e.toNat : Nat) : Int) else divRnd x.man (2 ^ (-e).toNat))

end Sys2Proof.Machine
end

