-- ==== Sys2Proof/Machine/RegMap.lean ====
section
/-!
DEFINITION. The register map of BAR0 (R505-R510): every register template of the spec with its base, instance layout,
access masks (R9) and reset value, and one named constant per field (R507). The table is written from the field tables of
the chapters; `RegSpec.name` is the spec's template name.
-/

namespace Sys2Proof.Machine

/-- A field of a register: the BAR0 offset of its register and its bit range [hi:lo] (R8). -/
structure Fld where
  off : Nat
  hi  : Nat
  lo  : Nat
deriving DecidableEq, Repr

/-- How the reset value of a register template is given: one value for every instance, the instance number
(HIF_MSIXc_MAP), the class of the fault source (R426), or the requester defaults of the two Roundabout instances (R438). -/
inductive Rst where
  | val (v : Nat)
  | idx
  | src
  | nvm
  | mc
deriving DecidableEq, Repr

/-- One register template: BAR0 base, up to two instance dimensions (count and stride), whether it takes effect through
compile and apply, its reset value, and one mask per access code of R9 (a bit in no mask is reserved and reads 0). -/
structure RegSpec where
  name     : String
  base     : Nat
  cnt1     : Nat
  str1     : Nat
  cnt2     : Nat
  str2     : Nat
  shadowed : Bool
  window   : Bool
  rst      : Rst
  rw       : Nat
  ro       : Nat
  wo       : Nat
  w1c      : Nat
  rc       : Nat
  rwl      : Nat
deriving DecidableEq, Repr

/-- Register templates of offsets 0x00000 to 0x01003. -/
def regs00 : List RegSpec :=
  [ ⟨"GLB_ID", 0x00000, 1, 0x4, 1, 0x4, false, false, (.val 0x78403101), 0x0, 0xFFFFFFFF, 0x0, 0x0, 0x0, 0x0⟩
  , ⟨"GLB_STAT", 0x00004, 1, 0x4, 1, 0x4, false, false, (.val 0x0), 0x0, 0xF1FFF, 0x0, 0x0, 0x0, 0x0⟩
  , ⟨"GLB_SERIAL_LO", 0x00008, 1, 0x4, 1, 0x4, false, false, (.val 0x0), 0x0, 0xFFFFFFFF, 0x0, 0x0, 0x0, 0x0⟩
  , ⟨"GLB_SERIAL_HI", 0x0000C, 1, 0x4, 1, 0x4, false, false, (.val 0x0), 0x0, 0xFFFFFFFF, 0x0, 0x0, 0x0, 0x0⟩
  , ⟨"GLB_SHADOW", 0x00010, 1, 0x4, 1, 0x4, false, false, (.val 0x0), 0x0, 0x3, 0x0, 0x0, 0x0, 0x0⟩
  , ⟨"GLB_CFG_ID", 0x00014, 1, 0x4, 1, 0x4, false, false, (.val 0x0), 0x0, 0xFFFFFFFF, 0x0, 0x0, 0x0, 0x0⟩
  , ⟨"GLB_SCRATCH", 0x00018, 1, 0x4, 1, 0x4, false, false, (.val 0x0), 0xFFFFFFFF, 0x0, 0x0, 0x0, 0x0, 0x0⟩
  , ⟨"CLK_STAT", 0x01000, 1, 0x4, 1, 0x4, false, false, (.val 0x3), 0x0, 0x7, 0x0, 0x18, 0x0, 0x0⟩ ]

/-- Register templates of offsets 0x01004 to 0x02013. -/
def regs01 : List RegSpec :=
  [ ⟨"CLK_CHECK_CFG", 0x01004, 1, 0x4, 1, 0x4, false, false, (.val 0xA01), 0xFF01, 0x0, 0x0, 0x0, 0x0, 0x0⟩
  , ⟨"CLK_OSC_ERR", 0x01008, 1, 0x4, 1, 0x4, false, false, (.val 0x0), 0x0, 0xFFFF, 0x0, 0x0, 0x0, 0x0⟩
  , ⟨"CLK_TRIM", 0x0100C, 1, 0x4, 1, 0x4, false, false, (.val 0x0), 0x0, 0xFFFF, 0x0, 0x0, 0x0, 0x0⟩
  , ⟨"PWR_STAT", 0x02000, 1, 0x4, 1, 0x4, false, false, (.val 0x0), 0x0, 0x10F, 0x0, 0x200, 0x0, 0x0⟩
  , ⟨"PWR_CTL", 0x02004, 1, 0x4, 1, 0x4, false, false, (.val 0x0), 0x0, 0x0, 0xFF01, 0x0, 0x0, 0x0⟩
  , ⟨"PWR_RST_CAUSE", 0x02008, 1, 0x4, 1, 0x4, false, false, (.val 0x0), 0x0, 0xFF, 0x0, 0x0, 0x0, 0x0⟩
  , ⟨"PWR_VHV_WARN", 0x0200C, 1, 0x4, 1, 0x4, false, false, (.val 0xA0000), 0xFFFFFFFF, 0x0, 0x0, 0x0, 0x0, 0x0⟩
  , ⟨"PWR_BOOT_TIME", 0x02010, 1, 0x4, 1, 0x4, false, false, (.val 0x0), 0x0, 0xFFFFF, 0x0, 0x0, 0x0, 0x0⟩ ]

/-- Register templates of offsets 0x02014 to 0x0301B. -/
def regs02 : List RegSpec :=
  [ ⟨"PWR_RST_CNT", 0x02014, 1, 0x4, 1, 0x4, false, false, (.val 0x0), 0x0, 0xFFFFFFFF, 0x0, 0x0, 0x0, 0x0⟩
  , ⟨"FRM_CTL", 0x03000, 1, 0x4, 1, 0x4, false, false, (.val 0x3E82000), 0xFFFFFF00, 0x0, 0x7, 0x0, 0x0, 0x0⟩
  , ⟨"FRM_STAT", 0x03004, 1, 0x4, 1, 0x4, false, false, (.val 0x0), 0x0, 0xFF, 0x0, 0xF00, 0x0, 0x0⟩
  , ⟨"FRM_FRAME_CNT_LO", 0x03008, 1, 0x4, 1, 0x4, false, false, (.val 0x0), 0x0, 0xFFFFFFFF, 0x0, 0x0, 0x0, 0x0⟩
  , ⟨"FRM_FRAME_CNT_HI", 0x0300C, 1, 0x4, 1, 0x4, false, false, (.val 0x0), 0x0, 0xFFFFFFFF, 0x0, 0x0, 0x0, 0x0⟩
  , ⟨"FRM_SYNC_CFG", 0x03010, 1, 0x4, 1, 0x4, true, false, (.val 0x10100), 0xFF3F3F03, 0x0, 0x0, 0x0, 0x0, 0x0⟩
  , ⟨"FRM_COMPILE_STAT", 0x03014, 1, 0x4, 1, 0x4, false, false, (.val 0xE), 0x0, 0xFF3F1F0F, 0x0, 0x0, 0x0, 0x0⟩
  , ⟨"FRM_PHASE_ERR", 0x03018, 1, 0x4, 1, 0x4, false, false, (.val 0x0), 0x0, 0xFFFF, 0x0, 0x0, 0x0, 0x0⟩ ]

/-- Register templates of offsets 0x0301C to 0x041F7. -/
def regs03 : List RegSpec :=
  [ ⟨"FRM_MISS_CNT", 0x0301C, 1, 0x4, 1, 0x4, false, false, (.val 0x0), 0x0, 0xFFFFFFFF, 0x0, 0x0, 0x0, 0x0⟩
  , ⟨"FRM_REFUSED_CNT", 0x03020, 1, 0x4, 1, 0x4, false, false, (.val 0x0), 0x0, 0xFFFFFFFF, 0x0, 0x0, 0x0, 0x0⟩
  , ⟨"FRM_OVERRUN_CNT", 0x03024, 1, 0x4, 1, 0x4, false, false, (.val 0x0), 0x0, 0xFFFFFFFF, 0x0, 0x0, 0x0, 0x0⟩
  , ⟨"FRM_SET_OFF_LO", 0x03028, 1, 0x4, 1, 0x4, false, false, (.val 0x0), 0x0, 0xFFFFFFFF, 0x0, 0x0, 0x0, 0x0⟩
  , ⟨"FRM_SET_OFF_HI", 0x0302C, 1, 0x4, 1, 0x4, false, false, (.val 0x0), 0x0, 0xFFFFFFFF, 0x0, 0x0, 0x0, 0x0⟩
  , ⟨"FRM_LANEk_USE", 0x03100, 23, 0x4, 1, 0x4, false, false, (.val 0x0), 0x0, 0xFFFF, 0x0, 0x0, 0x0, 0x0⟩
  , ⟨"TMRi_CFG", 0x04000, 16, 0x20, 1, 0x4, false, false, (.val 0x0), 0x3FF, 0x0, 0x0, 0x0, 0x0, 0x0⟩
  , ⟨"TMRi_CTL", 0x04004, 16, 0x20, 1, 0x4, false, false, (.val 0x0), 0x0, 0x0, 0x7, 0x0, 0x0, 0x0⟩
  , ⟨"TMRi_STAT", 0x04008, 16, 0x20, 1, 0x4, false, false, (.val 0x0), 0x0, 0x3, 0x0, 0xC, 0x0, 0x0⟩
  , ⟨"TMRi_CMP", 0x0400C, 16, 0x20, 1, 0x4, false, false, (.val 0xFFFFFFFF), 0xFFFFFFFF, 0x0, 0x0, 0x0, 0x0, 0x0⟩
  , ⟨"TMRi_CNT", 0x04010, 16, 0x20, 1, 0x4, false, false, (.val 0x0), 0x0, 0xFFFFFFFF, 0x0, 0x0, 0x0, 0x0⟩
  , ⟨"TMRi_MATCH_CNT", 0x04014, 16, 0x20, 1, 0x4, false, false, (.val 0x0), 0x0, 0xFFFFFFFF, 0x0, 0x0, 0x0, 0x0⟩ ]

/-- Register templates of offsets 0x04200 to 0x0500F. -/
def regs04 : List RegSpec :=
  [ ⟨"TMR_OPMS_LO", 0x04200, 1, 0x4, 1, 0x4, false, false, (.val 0x0), 0x0, 0xFFFFFFFF, 0x0, 0x0, 0x0, 0x0⟩
  , ⟨"TMR_OPMS_HI", 0x04204, 1, 0x4, 1, 0x4, false, false, (.val 0x0), 0x0, 0xFFFF, 0x0, 0x0, 0x0, 0x0⟩
  , ⟨"TMR_PWRCYC", 0x04208, 1, 0x4, 1, 0x4, false, false, (.val 0x0), 0x0, 0xFFFFFFFF, 0x0, 0x0, 0x0, 0x0⟩
  , ⟨"TMR_MATCH_SUM", 0x0420C, 1, 0x4, 1, 0x4, false, false, (.val 0x0), 0x0, 0xFFFF, 0x0, 0x0, 0x0, 0x0⟩
  , ⟨"FLT_STAT", 0x05000, 1, 0x4, 1, 0x4, false, false, (.val 0x0), 0x0, 0x304, 0x0, 0x3, 0x0, 0x0⟩
  , ⟨"FLT_FIRST_SRC", 0x05004, 1, 0x4, 1, 0x4, false, false, (.val 0x0), 0x0, 0x400300FF, 0x0, 0x80000000, 0x0, 0x0⟩
  , ⟨"FLT_FIRST_FRAME", 0x05008, 1, 0x4, 1, 0x4, false, false, (.val 0x0), 0x0, 0xFFFFFFFF, 0x0, 0x0, 0x0, 0x0⟩
  , ⟨"FLT_FIRST_SYN", 0x0500C, 1, 0x4, 1, 0x4, false, false, (.val 0x0), 0x0, 0xFFFF, 0x0, 0x0, 0x0, 0x0⟩ ]

/-- Register templates of offsets 0x05010 to 0x06007. -/
def regs05 : List RegSpec :=
  [ ⟨"FLT_INJ", 0x05010, 1, 0x4, 1, 0x4, false, false, (.val 0x0), 0x3FFDFF3, 0x40000000, 0x80000000, 0x0, 0x0, 0x0⟩
  , ⟨"FLT_INJ_SYN", 0x05014, 1, 0x4, 1, 0x4, false, false, (.val 0x0), 0xFFFF, 0x0, 0x0, 0x0, 0x0, 0x0⟩
  , ⟨"FLT_ESC_CNT", 0x05018, 1, 0x4, 1, 0x4, false, false, (.val 0x0), 0x0, 0xFFFFFFFF, 0x0, 0x0, 0x0, 0x0⟩
  , ⟨"FLT_GRPg_STAT", 0x05040, 8, 0x4, 1, 0x4, false, false, (.val 0x0), 0x0, 0x0, 0x0, 0xFFFFFFFF, 0x0, 0x0⟩
  , ⟨"FLT_SRCs_CFG", 0x05400, 256, 0x4, 1, 0x4, false, false, .src, 0xFF, 0x80000300, 0x0, 0x0, 0x0, 0x0⟩
  , ⟨"FLT_SRCs_CNT", 0x05800, 256, 0x4, 1, 0x4, false, false, (.val 0x0), 0x0, 0xFFFFFFFF, 0x0, 0x0, 0x0, 0x0⟩
  , ⟨"RBT_NVM_CFG", 0x06000, 1, 0x4, 1, 0x4, true, false, (.val 0x10), 0xFF, 0x0, 0x0, 0x0, 0x0, 0x0⟩
  , ⟨"RBT_NVM_STAT", 0x06004, 1, 0x4, 1, 0x4, false, false, (.val 0x0), 0x0, 0x3F, 0x0, 0x0, 0x0, 0x0⟩ ]

/-- Register templates of offsets 0x06008 to 0x0610B. -/
def regs06 : List RegSpec :=
  [ ⟨"RBT_NVM_PREEMPT_CNT", 0x06008, 1, 0x4, 1, 0x4, false, false, (.val 0x0), 0x0, 0xFFFFFFFF, 0x0, 0x0, 0x0, 0x0⟩
  , ⟨"RBT_NVM_REQr_CFG", 0x06020, 6, 0x10, 1, 0x4, true, false, .nvm, 0xF, 0x0, 0x0, 0x0, 0x0, 0x0⟩
  , ⟨"RBT_NVM_REQr_STAT", 0x06024, 6, 0x10, 1, 0x4, false, false, (.val 0x0), 0x0, 0x100FF, 0x0, 0x0, 0xFF00, 0x0⟩
  , ⟨"RBT_NVM_REQr_GRANT_CNT", 0x06028, 6, 0x10, 1, 0x4, false, false, (.val 0x0), 0x0, 0xFFFFFFFF, 0x0, 0x0, 0x0, 0x0⟩
  , ⟨"RBT_NVM_REQr_FORCED_CNT", 0x0602C, 6, 0x10, 1, 0x4, false, false, (.val 0x0), 0x0, 0xFFFFFFFF, 0x0, 0x0, 0x0, 0x0⟩
  , ⟨"RBT_MC_CFG", 0x06100, 1, 0x4, 1, 0x4, true, false, (.val 0x10), 0xFF, 0x0, 0x0, 0x0, 0x0, 0x0⟩
  , ⟨"RBT_MC_STAT", 0x06104, 1, 0x4, 1, 0x4, false, false, (.val 0x0), 0x0, 0x3F, 0x0, 0x0, 0x0, 0x0⟩
  , ⟨"RBT_MC_PREEMPT_CNT", 0x06108, 1, 0x4, 1, 0x4, false, false, (.val 0x0), 0x0, 0xFFFFFFFF, 0x0, 0x0, 0x0, 0x0⟩ ]

/-- Register templates of offsets 0x06120 to 0x0700F. -/
def regs07 : List RegSpec :=
  [ ⟨"RBT_MC_REQr_CFG", 0x06120, 4, 0x10, 1, 0x4, true, false, .mc, 0xF, 0x0, 0x0, 0x0, 0x0, 0x0⟩
  , ⟨"RBT_MC_REQr_STAT", 0x06124, 4, 0x10, 1, 0x4, false, false, (.val 0x0), 0x0, 0x100FF, 0x0, 0x0, 0xFF00, 0x0⟩
  , ⟨"RBT_MC_REQr_GRANT_CNT", 0x06128, 4, 0x10, 1, 0x4, false, false, (.val 0x0), 0x0, 0xFFFFFFFF, 0x0, 0x0, 0x0, 0x0⟩
  , ⟨"RBT_MC_REQr_FORCED_CNT", 0x0612C, 4, 0x10, 1, 0x4, false, false, (.val 0x0), 0x0, 0xFFFFFFFF, 0x0, 0x0, 0x0, 0x0⟩
  , ⟨"ONX_CFG", 0x07000, 1, 0x4, 1, 0x4, true, false, (.val 0x10A6402), 0x1FFFF07, 0x0, 0x0, 0x0, 0x0, 0x0⟩
  , ⟨"ONX_STAT", 0x07004, 1, 0x4, 1, 0x4, false, false, (.val 0x0), 0x0, 0x3F, 0x0, 0x0, 0x0, 0x0⟩
  , ⟨"ONX_NEXT_SEQ", 0x07008, 1, 0x4, 1, 0x4, false, false, (.val 0x0), 0x0, 0xFFFFFFFF, 0x0, 0x0, 0x0, 0x0⟩
  , ⟨"ONX_COMMIT_SEQ", 0x0700C, 1, 0x4, 1, 0x4, false, false, (.val 0x0), 0x0, 0xFFFFFFFF, 0x0, 0x0, 0x0, 0x0⟩ ]

/-- Register templates of offsets 0x07010 to 0x0702F. -/
def regs08 : List RegSpec :=
  [ ⟨"ONX_ARCH_SEQ", 0x07010, 1, 0x4, 1, 0x4, false, false, (.val 0x0), 0x0, 0xFFFFFFFF, 0x0, 0x0, 0x0, 0x0⟩
  , ⟨"ONX_OLDEST_SEQ", 0x07014, 1, 0x4, 1, 0x4, false, false, (.val 0x0), 0x0, 0xFFFFFFFF, 0x0, 0x0, 0x0, 0x0⟩
  , ⟨"ONX_LOW_WATER", 0x07018, 1, 0x4, 1, 0x4, false, false, (.val 0x0), 0x0, 0xFFFFFFFF, 0x0, 0x0, 0x0, 0x0⟩
  , ⟨"ONX_PEND", 0x0701C, 1, 0x4, 1, 0x4, false, false, (.val 0x0), 0x0, 0xFFF, 0x0, 0x0, 0x0, 0x0⟩
  , ⟨"ONX_LOST_CNT", 0x07020, 1, 0x4, 1, 0x4, false, false, (.val 0x0), 0x0, 0xFFFFFFFF, 0x0, 0x0, 0x0, 0x0⟩
  , ⟨"ONX_REFUSED_CNT", 0x07024, 1, 0x4, 1, 0x4, false, false, (.val 0x0), 0x0, 0xFFFFFFFF, 0x0, 0x0, 0x0, 0x0⟩
  , ⟨"ONX_SUPP_CNT", 0x07028, 1, 0x4, 1, 0x4, false, false, (.val 0x0), 0x0, 0xFFFFFFFF, 0x0, 0x0, 0x0, 0x0⟩
  , ⟨"ONX_ARCH_LOST_CNT", 0x0702C, 1, 0x4, 1, 0x4, false, false, (.val 0x0), 0x0, 0xFFFFFFFF, 0x0, 0x0, 0x0, 0x0⟩ ]

/-- Register templates of offsets 0x07030 to 0x08017. -/
def regs09 : List RegSpec :=
  [ ⟨"ONX_GAP_CNT", 0x07030, 1, 0x4, 1, 0x4, false, false, (.val 0x0), 0x0, 0xFFFFFFFF, 0x0, 0x0, 0x0, 0x0⟩
  , ⟨"ONX_RLc_CFG", 0x07400, 256, 0x4, 1, 0x4, true, false, (.val 0x0), 0xFFFFFF, 0x0, 0x0, 0x0, 0x0, 0x0⟩
  , ⟨"ONX_RLc_SUPP", 0x07800, 256, 0x4, 1, 0x4, false, false, (.val 0x0), 0x0, 0xFFFF, 0x0, 0x0, 0x0, 0x0⟩
  , ⟨"AFE_CTL", 0x08000, 1, 0x4, 1, 0x4, false, false, (.val 0x7303), 0xFF03, 0x0, 0x0, 0x0, 0x0, 0x0⟩
  , ⟨"AFE_STAT", 0x08004, 1, 0x4, 1, 0x4, false, false, (.val 0x0), 0x0, 0xF, 0x0, 0x0, 0x0, 0x0⟩
  , ⟨"AFE_ST_CFG", 0x08008, 1, 0x4, 1, 0x4, true, false, (.val 0x4004001), 0xFFFFFFF9, 0x0, 0x0, 0x0, 0x0, 0x0⟩
  , ⟨"AFE_ST_COV0", 0x08010, 1, 0x4, 1, 0x4, false, false, (.val 0x0), 0x0, 0xFFFFFFFF, 0x0, 0x0, 0x0, 0x0⟩
  , ⟨"AFE_ST_COV1", 0x08014, 1, 0x4, 1, 0x4, false, false, (.val 0x0), 0x0, 0xFFFFFFFF, 0x0, 0x0, 0x0, 0x0⟩ ]

/-- Register templates of offsets 0x08100 to 0x0AFF7. -/
def regs10 : List RegSpec :=
  [ ⟨"AFE_FCk_CFG", 0x08100, 24, 0x40, 1, 0x4, true, false, (.val 0x0), 0x1, 0x0, 0x0, 0x0, 0x0, 0x0⟩
  , ⟨"AFE_FCk_STAT", 0x08104, 24, 0x40, 1, 0x4, false, false, (.val 0x0), 0x0, 0xFF, 0x0, 0x0, 0x0, 0x0⟩
  , ⟨"AFE_FCk_SEQj", 0x08110, 24, 0x40, 8, 0x4, true, false, (.val 0x4), 0x800003FF, 0x0, 0x0, 0x0, 0x0, 0x0⟩
  , ⟨"AFE_MC_JOBj", 0x08800, 32, 0x4, 1, 0x4, true, false, (.val 0x0), 0x8003FFFF, 0x0, 0x0, 0x0, 0x0, 0x0⟩
  , ⟨"AFE_MC_RESj", 0x08880, 32, 0x4, 1, 0x4, false, false, (.val 0x0), 0x0, 0x8000FFFF, 0x0, 0x0, 0x0, 0x0⟩
  , ⟨"AFE_TMk_CFG", 0x09000, 256, 0x20, 1, 0x4, true, false, (.val 0x0), 0xFFFFFFFF, 0x0, 0x0, 0x0, 0x0, 0x0⟩
  , ⟨"AFE_TMk_CTL", 0x09004, 256, 0x20, 1, 0x4, false, false, (.val 0x0), 0x0, 0x0, 0x1, 0x0, 0x0, 0x0⟩
  , ⟨"AFE_TMk_GAIN", 0x09008, 256, 0x20, 1, 0x4, true, false, (.val 0x0), 0xFFFFFFFF, 0x0, 0x0, 0x0, 0x0, 0x0⟩
  , ⟨"AFE_TMk_OFS", 0x0900C, 256, 0x20, 1, 0x4, true, false, (.val 0x0), 0xFFFFFFFF, 0x0, 0x0, 0x0, 0x0, 0x0⟩
  , ⟨"AFE_TMk_STAT", 0x09010, 256, 0x20, 1, 0x4, false, false, (.val 0x0), 0x0, 0x0, 0x0, 0xF, 0x0, 0x0⟩
  , ⟨"AFE_TMk_AVG", 0x09014, 256, 0x20, 1, 0x4, false, false, (.val 0x0), 0x0, 0xFFFFFFFF, 0x0, 0x0, 0x0, 0x0⟩ ]

/-- Register templates of offsets 0x0C000 to 0x0C93F. -/
def regs11 : List RegSpec :=
  [ ⟨"CMP_RAWi", 0x0C000, 4, 0x4, 1, 0x4, false, false, (.val 0x0), 0x0, 0xFFFFFFFF, 0x0, 0x0, 0x0, 0x0⟩
  , ⟨"CMP_LATCHi", 0x0C010, 4, 0x4, 1, 0x4, false, false, (.val 0x0), 0x0, 0x0, 0x0, 0xFFFFFFFF, 0x0, 0x0⟩
  , ⟨"CMPn_CFG", 0x0C100, 64, 0x10, 1, 0x4, true, false, (.val 0x784), 0x7FF, 0x0, 0x0, 0x0, 0x0, 0x0⟩
  , ⟨"CMPn_THR", 0x0C104, 64, 0x10, 1, 0x4, false, false, (.val 0x3FF0000), 0x3FF03FF, 0x0, 0x0, 0x0, 0x0, 0x0⟩
  , ⟨"CMPn_BLANK", 0x0C108, 64, 0x10, 1, 0x4, true, false, (.val 0x0), 0x8000F7FF, 0x0, 0x0, 0x0, 0x0, 0x0⟩
  , ⟨"CMPn_CNT", 0x0C10C, 64, 0x10, 1, 0x4, false, false, (.val 0x0), 0x0, 0xFFFFFFFF, 0x0, 0x0, 0x0, 0x0⟩
  , ⟨"CMP_TRIPt_MASKm", 0x0C800, 16, 0x10, 4, 0x4, true, false, (.val 0x0), 0xFFFFFFFF, 0x0, 0x0, 0x0, 0x0, 0x0⟩
  , ⟨"CMP_TRIPt_CNT", 0x0C900, 16, 0x4, 1, 0x4, false, false, (.val 0x0), 0x0, 0xFFFFFFFF, 0x0, 0x0, 0x0, 0x0⟩ ]

/-- Register templates of offsets 0x0CA00 to 0x12F2B. -/
def regs12 : List RegSpec :=
  [ ⟨"CMP_EFe_SRC", 0x0CA00, 16, 0x4, 1, 0x4, true, false, (.val 0x0), 0xFF, 0x0, 0x0, 0x0, 0x0, 0x0⟩
  , ⟨"PG_CHn_CFG", 0x10000, 48, 0x100, 1, 0x4, true, false, (.val 0x5020), 0x17FFF, 0x0, 0x0, 0x0, 0x0, 0x0⟩
  , ⟨"PG_CHn_CTL", 0x10004, 48, 0x100, 1, 0x4, false, false, (.val 0x0), 0x3, 0x0, 0x4, 0x0, 0x0, 0x0⟩
  , ⟨"PG_CHn_DUTY", 0x10008, 48, 0x100, 1, 0x4, false, false, (.val 0x0), 0xFFFF, 0x0, 0x0, 0x0, 0x0, 0x0⟩
  , ⟨"PG_CHn_EDGE", 0x1000C, 48, 0x100, 1, 0x4, false, false, (.val 0x0), 0xFFFFFFFF, 0x0, 0x0, 0x0, 0x0, 0x0⟩
  , ⟨"PG_CHn_DT", 0x10010, 48, 0x100, 1, 0x4, true, false, (.val 0x0), 0x3FFF3FFF, 0x0, 0x0, 0x0, 0x0, 0x0⟩
  , ⟨"PG_CHn_LIMIT", 0x10014, 48, 0x100, 1, 0x4, true, false, (.val 0xFFFF0000), 0xFFFFFFFF, 0x0, 0x0, 0x0, 0x0, 0x0⟩
  , ⟨"PG_CHn_OFS", 0x10018, 48, 0x100, 1, 0x4, false, false, (.val 0x0), 0xFFFF, 0xFFFF0000, 0x0, 0x0, 0x0, 0x0⟩
  , ⟨"PG_CHn_STAT", 0x1001C, 48, 0x100, 1, 0x4, false, false, (.val 0x2), 0x0, 0x307, 0x0, 0xF8, 0x0, 0x0⟩
  , ⟨"PG_CHn_LATE_CNT", 0x10020, 48, 0x100, 1, 0x4, false, false, (.val 0x0), 0x0, 0xFFFFFFFF, 0x0, 0x0, 0x0, 0x0⟩
  , ⟨"PG_CHn_CLAMP_CNT", 0x10024, 48, 0x100, 1, 0x4, false, false, (.val 0x0), 0x0, 0xFFFFFFFF, 0x0, 0x0, 0x0, 0x0⟩
  , ⟨"PG_CHn_SKIP_CNT", 0x10028, 48, 0x100, 1, 0x4, false, false, (.val 0x0), 0x0, 0xFFFFFFFF, 0x0, 0x0, 0x0, 0x0⟩ ]

/-- Register templates of offsets 0x13000 to 0x1DD0F. -/
def regs13 : List RegSpec :=
  [ ⟨"PG_GRPg_CFG", 0x13000, 12, 0x40, 1, 0x4, true, false, (.val 0x1), 0x1F, 0x0, 0x0, 0x0, 0x0, 0x0⟩
  , ⟨"PG_GRPg_CTL", 0x13004, 12, 0x40, 1, 0x4, false, false, (.val 0x0), 0x0, 0x0, 0x3, 0x0, 0x0, 0x0⟩
  , ⟨"PG_GRPg_STAG", 0x13008, 12, 0x40, 1, 0x4, false, false, (.val 0x0), 0x1F, 0x0, 0x0, 0x0, 0x0, 0x0⟩
  , ⟨"PG_GRPg_TRIP_ACT", 0x1300C, 12, 0x40, 1, 0x4, true, false, (.val 0x0), 0xFFFFFFFF, 0x0, 0x0, 0x0, 0x0, 0x0⟩
  , ⟨"PG_GRPg_TRIP_CH", 0x13010, 12, 0x40, 1, 0x4, true, false, (.val 0xF), 0xF, 0x0, 0x0, 0x0, 0x0, 0x0⟩
  , ⟨"PG_GRPg_STAT", 0x13014, 12, 0x40, 1, 0x4, false, false, (.val 0x0), 0x0, 0x10000, 0x0, 0xFFFF, 0x0, 0x0⟩
  , ⟨"LTn_CFG", 0x18000, 24, 0x400, 1, 0x4, true, false, (.val 0x4C000), 0x1FEFF3, 0x0, 0x0, 0x0, 0x0, 0x0⟩
  , ⟨"LTn_CTL", 0x18004, 24, 0x400, 1, 0x4, false, false, (.val 0x0), 0x1, 0x0, 0x2, 0x0, 0x0, 0x0⟩
  , ⟨"LTn_STAT", 0x18008, 24, 0x400, 1, 0x4, false, false, (.val 0x0), 0x0, 0xF4DF, 0x0, 0xB20, 0x0, 0x0⟩
  , ⟨"LTn_SAMPLE_SRC", 0x1800C, 24, 0x400, 1, 0x4, true, false, (.val 0x0), 0x7F7F, 0x0, 0x0, 0x0, 0x0, 0x0⟩
  , ⟨"LTn_SAMPLE_OFS", 0x18010, 24, 0x400, 1, 0x4, true, false, (.val 0x140), 0xFFFF, 0xFFFF0000, 0x0, 0x0, 0x0, 0x0⟩
  , ⟨"LTn_LAT_MAX", 0x18014, 24, 0x400, 1, 0x4, false, false, (.val 0x0), 0x0, 0xFFFF0000, 0x0, 0x0, 0xFFFF, 0x0⟩
  , ⟨"LTn_AVG", 0x18018, 24, 0x400, 1, 0x4, false, false, (.val 0x0), 0x0, 0xFFFFFFFF, 0x0, 0x0, 0x0, 0x0⟩
  , ⟨"LTn_MAN_DUTY", 0x1801C, 24, 0x400, 1, 0x4, false, false, (.val 0x0), 0xFFFF, 0x0, 0x0, 0x0, 0x0, 0x0⟩
  , ⟨"LTn_COEF_B0", 0x18020, 24, 0x400, 1, 0x4, true, false, (.val 0x0), 0x3FFFFFFF, 0x0, 0x0, 0x0, 0x0, 0x0⟩
  , ⟨"LTn_COEF_Q1", 0x18024, 24, 0x400, 1, 0x4, true, false, (.val 0x0), 0xFFFFFF, 0x0, 0x0, 0x0, 0x0, 0x0⟩
  , ⟨"LTn_COEF_P1", 0x18028, 24, 0x400, 1, 0x4, true, false, (.val 0x0), 0xFFFFFF, 0x0, 0x0, 0x0, 0x0, 0x0⟩
  , ⟨"LTn_COEF_Q2", 0x1802C, 24, 0x400, 1, 0x4, true, false, (.val 0x0), 0xFFFFFF, 0x0, 0x0, 0x0, 0x0, 0x0⟩
  , ⟨"LTn_COEF_P2", 0x18030, 24, 0x400, 1, 0x4, true, false, (.val 0x0), 0xFFFFFF, 0x0, 0x0, 0x0, 0x0, 0x0⟩
  , ⟨"LTn_COEF_Q3", 0x18034, 24, 0x400, 1, 0x4, true, false, (.val 0x0), 0xFFFFFF, 0x0, 0x0, 0x0, 0x0, 0x0⟩
  , ⟨"LTn_COEF_P3", 0x18038, 24, 0x400, 1, 0x4, true, false, (.val 0x0), 0xFFFFFF, 0x0, 0x0, 0x0, 0x0, 0x0⟩
  , ⟨"LTn_LIMIT", 0x1803C, 24, 0x400, 1, 0x4, true, false, (.val 0x0), 0xFFFFFFFF, 0x0, 0x0, 0x0, 0x0, 0x0⟩
  , ⟨"LTn_ILIM", 0x18040, 24, 0x400, 1, 0x4, true, false, (.val 0x0), 0xFFFF0FFF, 0x0, 0x0, 0x0, 0x0, 0x0⟩
  , ⟨"LTn_ILIM_CFG", 0x18044, 24, 0x400, 1, 0x4, true, false, (.val 0x0), 0xFFFF, 0x0, 0x0, 0x0, 0x0, 0x0⟩
  , ⟨"LTn_BAL", 0x18048, 24, 0x400, 1, 0x4, true, false, (.val 0x0), 0xFFFFFFFF, 0x0, 0x0, 0x0, 0x0, 0x0⟩
  , ⟨"LTn_BAL_CH", 0x1804C, 24, 0x400, 1, 0x4, true, false, (.val 0x0), 0xFFFFFFFF, 0x0, 0x0, 0x0, 0x0, 0x0⟩
  , ⟨"LTn_CHj_TRIM", 0x18050, 24, 0x400, 4, 0x4, false, false, (.val 0x0), 0x0, 0xFFFFFFFF, 0x0, 0x0, 0x0, 0x0⟩
  , ⟨"LTn_REF_SCALE", 0x18060, 24, 0x400, 1, 0x4, true, false, (.val 0x0), 0xFFFFFFFF, 0x0, 0x0, 0x0, 0x0, 0x0⟩
  , ⟨"LTn_REF_OFS", 0x18064, 24, 0x400, 1, 0x4, true, false, (.val 0x0), 0xFFFFFFFF, 0x0, 0x0, 0x0, 0x0, 0x0⟩
  , ⟨"LTn_REF_MIN", 0x18068, 24, 0x400, 1, 0x4, true, false, (.val 0x0), 0xFFFFFFFF, 0x0, 0x0, 0x0, 0x0, 0x0⟩
  , ⟨"LTn_REF_MAX", 0x1806C, 24, 0x400, 1, 0x4, true, false, (.val 0x0), 0xFFFFFFFF, 0x0, 0x0, 0x0, 0x0, 0x0⟩
  , ⟨"LTn_REF_TGT", 0x18070, 24, 0x400, 1, 0x4, false, false, (.val 0x0), 0x0, 0xFFFFFFFF, 0x0, 0x0, 0x0, 0x0⟩
  , ⟨"LTn_REF_CUR", 0x18074, 24, 0x400, 1, 0x4, false, false, (.val 0x0), 0x0, 0xFFFFFFFF, 0x0, 0x0, 0x0, 0x0⟩
  , ⟨"LTn_SLEW_DEF", 0x18078, 24, 0x400, 1, 0x4, true, false, (.val 0x0), 0xFFFFFFFF, 0x0, 0x0, 0x0, 0x0, 0x0⟩
  , ⟨"LTn_SLEW_CAP", 0x1807C, 24, 0x400, 1, 0x4, true, false, (.val 0x0), 0xFFFFFFFF, 0x0, 0x0, 0x0, 0x0, 0x0⟩
  , ⟨"LTn_SLEW_START", 0x18080, 24, 0x400, 1, 0x4, true, false, (.val 0x0), 0xFFFFFFFF, 0x0, 0x0, 0x0, 0x0, 0x0⟩
  , ⟨"LTn_START", 0x18084, 24, 0x400, 1, 0x4, true, false, (.val 0x0), 0xFF03, 0x0, 0x0, 0x0, 0x0, 0x0⟩
  , ⟨"LTn_START_MARGIN", 0x18088, 24, 0x400, 1, 0x4, true, false, (.val 0x0), 0xFFF0FFF, 0x0, 0x0, 0x0, 0x0, 0x0⟩
  , ⟨"LTn_RETRY", 0x1808C, 24, 0x400, 1, 0x4, true, false, (.val 0x3E8000C), 0xFFFF003F, 0x0, 0x0, 0x0, 0x0, 0x0⟩
  , ⟨"LTn_STATEi", 0x180C0, 24, 0x400, 8, 0x4, false, false, (.val 0x0), 0x0, 0xFFFFFFFF, 0x0, 0x0, 0x0, 0x0⟩
  , ⟨"LTn_MISS_CNT", 0x18100, 24, 0x400, 1, 0x4, false, false, (.val 0x0), 0x0, 0xFFFFFFFF, 0x0, 0x0, 0x0, 0x0⟩
  , ⟨"LTn_ILIM_CNT", 0x18104, 24, 0x400, 1, 0x4, false, false, (.val 0x0), 0x0, 0xFFFFFFFF, 0x0, 0x0, 0x0, 0x0⟩
  , ⟨"LTn_UPD_CNT", 0x18108, 24, 0x400, 1, 0x4, false, false, (.val 0x0), 0x0, 0xFFFFFFFF, 0x0, 0x0, 0x0, 0x0⟩
  , ⟨"LTn_RETRY_CNT", 0x1810C, 24, 0x400, 1, 0x4, false, false, (.val 0x0), 0x0, 0xFFFFFFFF, 0x0, 0x0, 0x0, 0x0⟩ ]

/-- Register templates of offsets 0x20000 to 0x21F3F. -/
def regs14 : List RegSpec :=
  [ ⟨"SLm_CFG", 0x20000, 16, 0x200, 1, 0x4, true, false, (.val 0x1), 0xEFFF03FF, 0x0, 0x0, 0x0, 0x0, 0x0⟩
  , ⟨"SLm_CTL", 0x20004, 16, 0x200, 1, 0x4, false, false, (.val 0x0), 0x9, 0x0, 0x6, 0x0, 0x0, 0x0⟩
  , ⟨"SLm_STAT", 0x20008, 16, 0x200, 1, 0x4, false, false, (.val 0x0), 0x0, 0xFFDFF7, 0x0, 0x2000, 0x0, 0x0⟩
  , ⟨"SLm_IN", 0x2000C, 16, 0x200, 1, 0x4, true, false, (.val 0x0), 0xFFFFF, 0x0, 0x0, 0x0, 0x0, 0x0⟩
  , ⟨"SLm_TARGET", 0x20010, 16, 0x200, 1, 0x4, false, false, (.val 0x0), 0xFFFFFFFF, 0x0, 0x0, 0x0, 0x0, 0x0⟩
  , ⟨"SLm_BAND_HOLD", 0x20014, 16, 0x200, 1, 0x4, true, false, (.val 0x0), 0xFFFFFFFF, 0x0, 0x0, 0x0, 0x0, 0x0⟩
  , ⟨"SLm_BAND_REL", 0x20018, 16, 0x200, 1, 0x4, true, false, (.val 0x0), 0xFFFFFFFF, 0x0, 0x0, 0x0, 0x0, 0x0⟩
  , ⟨"SLm_BAND_FAST", 0x2001C, 16, 0x200, 1, 0x4, true, false, (.val 0x0), 0xFFFFFFFF, 0x0, 0x0, 0x0, 0x0, 0x0⟩
  , ⟨"SLm_GAIN", 0x20020, 16, 0x200, 1, 0x4, true, false, (.val 0x0), 0xFFFFFFFF, 0x0, 0x0, 0x0, 0x0, 0x0⟩
  , ⟨"SLm_STEP_MAX", 0x20024, 16, 0x200, 1, 0x4, true, false, (.val 0x0), 0xFFFFFFFF, 0x0, 0x0, 0x0, 0x0, 0x0⟩
  , ⟨"SLm_STEP_FAST", 0x20028, 16, 0x200, 1, 0x4, true, false, (.val 0x0), 0xFFFFFFFF, 0x0, 0x0, 0x0, 0x0, 0x0⟩
  , ⟨"SLm_RATE", 0x2002C, 16, 0x200, 1, 0x4, true, false, (.val 0x0), 0xFFFFFFFF, 0x0, 0x0, 0x0, 0x0, 0x0⟩
  , ⟨"SLm_OUT_MIN", 0x20030, 16, 0x200, 1, 0x4, true, false, (.val 0x0), 0xFFFFFFFF, 0x0, 0x0, 0x0, 0x0, 0x0⟩
  , ⟨"SLm_OUT_MAX", 0x20034, 16, 0x200, 1, 0x4, true, false, (.val 0x0), 0xFFFFFFFF, 0x0, 0x0, 0x0, 0x0, 0x0⟩
  , ⟨"SLm_SHARE_HOLD", 0x20038, 16, 0x200, 1, 0x4, true, false, (.val 0x0), 0xFFFFFFFF, 0x0, 0x0, 0x0, 0x0, 0x0⟩
  , ⟨"SLm_SHARE_REL", 0x2003C, 16, 0x200, 1, 0x4, true, false, (.val 0x0), 0xFFFFFFFF, 0x0, 0x0, 0x0, 0x0, 0x0⟩
  , ⟨"SLm_SHARE_GAIN", 0x20040, 16, 0x200, 1, 0x4, true, false, (.val 0x0), 0xFFFFFFFF, 0x0, 0x0, 0x0, 0x0, 0x0⟩
  , ⟨"SLm_SHARE_STEP", 0x20044, 16, 0x200, 1, 0x4, true, false, (.val 0x0), 0xFFFFFFFF, 0x0, 0x0, 0x0, 0x0, 0x0⟩
  , ⟨"SLm_TRIM_MAX", 0x20048, 16, 0x200, 1, 0x4, true, false, (.val 0x0), 0xFFFFFFFF, 0x0, 0x0, 0x0, 0x0, 0x0⟩
  , ⟨"SLm_MEM_CFG", 0x2004C, 16, 0x200, 1, 0x4, true, false, (.val 0x33), 0xFF, 0x0, 0x0, 0x0, 0x0, 0x0⟩
  , ⟨"SLm_RC_CFG", 0x20050, 16, 0x200, 1, 0x4, true, false, (.val 0x2), 0xFF01FFFF, 0x0, 0x0, 0x0, 0x0, 0x0⟩
  , ⟨"SLm_RC_GAIN", 0x20054, 16, 0x200, 1, 0x4, true, false, (.val 0x0), 0xFFFFFFFF, 0x0, 0x0, 0x0, 0x0, 0x0⟩
  , ⟨"SLm_RC_FORGET", 0x20058, 16, 0x200, 1, 0x4, true, false, (.val 0x0), 0xFFFF, 0x0, 0x0, 0x0, 0x0, 0x0⟩
  , ⟨"SLm_RC_LIMIT", 0x2005C, 16, 0x200, 1, 0x4, true, false, (.val 0x0), 0xFFFFFFFF, 0x0, 0x0, 0x0, 0x0, 0x0⟩
  , ⟨"SLm_RC_ADDR", 0x20060, 16, 0x200, 1, 0x4, false, false, (.val 0x0), 0x3FF, 0x0, 0x0, 0x0, 0x0, 0x0⟩
  , ⟨"SLm_RC_DATA", 0x20064, 16, 0x200, 1, 0x4, false, false, (.val 0x0), 0xFFFFFFFF, 0x0, 0x0, 0x0, 0x0, 0x0⟩
  , ⟨"SLm_U_INT", 0x20068, 16, 0x200, 1, 0x4, false, false, (.val 0x0), 0x0, 0xFFFFFFFF, 0x0, 0x0, 0x0, 0x0⟩
  , ⟨"SLm_FF", 0x2006C, 16, 0x200, 1, 0x4, false, false, (.val 0x0), 0x0, 0xFFFFFFFF, 0x0, 0x0, 0x0, 0x0⟩
  , ⟨"SLm_MAN_OUT", 0x20070, 16, 0x200, 1, 0x4, false, false, (.val 0x0), 0xFFFFFFFF, 0x0, 0x0, 0x0, 0x0, 0x0⟩
  , ⟨"SLm_RUN_CNT", 0x20074, 16, 0x200, 1, 0x4, false, false, (.val 0x0), 0x0, 0xFFFFFFFF, 0x0, 0x0, 0x0, 0x0⟩
  , ⟨"SLm_SKIP_CNT", 0x20078, 16, 0x200, 1, 0x4, false, false, (.val 0x0), 0x0, 0xFFFFFFFF, 0x0, 0x0, 0x0, 0x0⟩
  , ⟨"SLm_BAT_CH", 0x20100, 16, 0x200, 1, 0x4, true, false, (.val 0x0), 0xFFFFFFFF, 0x0, 0x0, 0x0, 0x0, 0x0⟩
  , ⟨"SLm_BAT_CFG", 0x20104, 16, 0x200, 1, 0x4, true, false, (.val 0x0), 0x1F, 0x0, 0x0, 0x0, 0x0, 0x0⟩
  , ⟨"SLm_BAT_IBULK", 0x20108, 16, 0x200, 1, 0x4, true, false, (.val 0x0), 0xFFFFFFFF, 0x0, 0x0, 0x0, 0x0, 0x0⟩
  , ⟨"SLm_BAT_VABS", 0x2010C, 16, 0x200, 1, 0x4, true, false, (.val 0x0), 0xFFFFFFFF, 0x0, 0x0, 0x0, 0x0, 0x0⟩
  , ⟨"SLm_BAT_VFLOAT", 0x20110, 16, 0x200, 1, 0x4, true, false, (.val 0x0), 0xFFFFFFFF, 0x0, 0x0, 0x0, 0x0, 0x0⟩
  , ⟨"SLm_BAT_VREBULK", 0x20114, 16, 0x200, 1, 0x4, true, false, (.val 0x0), 0xFFFFFFFF, 0x0, 0x0, 0x0, 0x0, 0x0⟩
  , ⟨"SLm_BAT_TCO", 0x20118, 16, 0x200, 1, 0x4, true, false, (.val 0x0), 0xFFFFFFFF, 0x0, 0x0, 0x0, 0x0, 0x0⟩
  , ⟨"SLm_BAT_ITAIL", 0x2011C, 16, 0x200, 1, 0x4, true, false, (.val 0x0), 0xFFFFFFFF, 0x0, 0x0, 0x0, 0x0, 0x0⟩
  , ⟨"SLm_BAT_VDIS", 0x20120, 16, 0x200, 1, 0x4, true, false, (.val 0x0), 0xFFFFFFFF, 0x0, 0x0, 0x0, 0x0, 0x0⟩
  , ⟨"SLm_BAT_VDISREG", 0x20124, 16, 0x200, 1, 0x4, true, false, (.val 0x0), 0xFFFFFFFF, 0x0, 0x0, 0x0, 0x0, 0x0⟩
  , ⟨"SLm_BAT_IDISMAX", 0x20128, 16, 0x200, 1, 0x4, true, false, (.val 0x0), 0xFFFFFFFF, 0x0, 0x0, 0x0, 0x0, 0x0⟩
  , ⟨"SLm_BAT_RUNS", 0x2012C, 16, 0x200, 1, 0x4, true, false, (.val 0x0), 0xFFFFFFFF, 0x0, 0x0, 0x0, 0x0, 0x0⟩
  , ⟨"SLm_BAT_TMAX", 0x20130, 16, 0x200, 1, 0x4, true, false, (.val 0x0), 0xFFFFFFFF, 0x0, 0x0, 0x0, 0x0, 0x0⟩
  , ⟨"SLm_BAT_TWIN", 0x20134, 16, 0x200, 1, 0x4, true, false, (.val 0x0), 0xFFFFFF, 0x0, 0x0, 0x0, 0x0, 0x0⟩
  , ⟨"SLm_BAT_CAP", 0x20138, 16, 0x200, 1, 0x4, true, false, (.val 0x0), 0xFFFFFFFF, 0x0, 0x0, 0x0, 0x0, 0x0⟩
  , ⟨"SLm_BAT_SOC", 0x2013C, 16, 0x200, 1, 0x4, false, false, (.val 0x8000), 0xFFFFFFFF, 0x0, 0x0, 0x0, 0x0, 0x0⟩ ]

/-- Register templates of offsets 0x22000 to 0x24007. -/
def regs15 : List RegSpec :=
  [ ⟨"SLm_MEMk_CFG", 0x22000, 16, 0x100, 8, 0x20, true, false, (.val 0x1), 0x3FF, 0x0, 0x0, 0x0, 0x0, 0x0⟩
  , ⟨"SLm_MEMk_OUT", 0x22004, 16, 0x100, 8, 0x20, true, false, (.val 0x0), 0xFFFFF, 0x0, 0x0, 0x0, 0x0, 0x0⟩
  , ⟨"SLm_MEMk_RB", 0x22008, 16, 0x100, 8, 0x20, true, false, (.val 0xFFFFF), 0xFFFFF, 0x0, 0x0, 0x0, 0x0, 0x0⟩
  , ⟨"SLm_MEMk_STAT", 0x2200C, 16, 0x100, 8, 0x20, false, false, (.val 0x0), 0x0, 0xF03, 0x0, 0xC, 0x0, 0x0⟩
  , ⟨"SLm_MEMk_CMD", 0x22010, 16, 0x100, 8, 0x20, false, false, (.val 0x0), 0x0, 0xFFFFFFFF, 0x0, 0x0, 0x0, 0x0⟩
  , ⟨"SLm_MEMk_TRIM", 0x22014, 16, 0x100, 8, 0x20, false, false, (.val 0x0), 0x0, 0xFFFFFFFF, 0x0, 0x0, 0x0, 0x0⟩
  , ⟨"CAP_CTL", 0x24000, 1, 0x4, 1, 0x4, false, false, (.val 0x2), 0x3, 0x0, 0x0, 0x0, 0x0, 0x0⟩
  , ⟨"CAP_STAT", 0x24004, 1, 0x4, 1, 0x4, false, false, (.val 0x0), 0x0, 0xFFFFFF0F, 0x0, 0x0, 0x0, 0x0⟩ ]

/-- Register templates of offsets 0x24008 to 0x24027. -/
def regs16 : List RegSpec :=
  [ ⟨"CAP_TIMING", 0x24008, 1, 0x4, 1, 0x4, true, false, (.val 0x640064), 0xFFFFFFFF, 0x0, 0x0, 0x0, 0x0, 0x0⟩
  , ⟨"CAP_SHED_STATE", 0x2400C, 1, 0x4, 1, 0x4, false, false, (.val 0x0), 0x0, 0xFFFFFFFF, 0x0, 0x0, 0x0, 0x0⟩
  , ⟨"CAP_SHAVE_CFG", 0x24010, 1, 0x4, 1, 0x4, true, false, (.val 0x0), 0x1F, 0x0, 0x0, 0x0, 0x0, 0x0⟩
  , ⟨"CAP_SHAVE_IMAX", 0x24014, 1, 0x4, 1, 0x4, true, false, (.val 0x0), 0xFFFFFFFF, 0x0, 0x0, 0x0, 0x0, 0x0⟩
  , ⟨"CAP_SHAVE_SOCMIN", 0x24018, 1, 0x4, 1, 0x4, true, false, (.val 0x0), 0xFFFFFFFF, 0x0, 0x0, 0x0, 0x0, 0x0⟩
  , ⟨"CAP_REL", 0x2401C, 1, 0x4, 1, 0x4, true, false, (.val 0x0), 0xFFFFFFFF, 0x0, 0x0, 0x0, 0x0, 0x0⟩
  , ⟨"CAP_ALLOC_AGE", 0x24020, 1, 0x4, 1, 0x4, true, false, (.val 0x4), 0xFF, 0x0, 0x0, 0x0, 0x0, 0x0⟩
  , ⟨"CAP_SET_PLIM", 0x24024, 1, 0x4, 1, 0x4, true, false, (.val 0x0), 0xFFFFFFFF, 0x0, 0x0, 0x0, 0x0, 0x0⟩ ]

/-- Register templates of offsets 0x24400 to 0x24BAB. -/
def regs17 : List RegSpec :=
  [ ⟨"FGg_CFG", 0x24400, 8, 0x100, 1, 0x4, true, false, (.val 0xCCCD0000), 0xFFFFFFFF, 0x0, 0x0, 0x0, 0x0, 0x0⟩
  , ⟨"FGg_CTL", 0x24404, 8, 0x100, 1, 0x4, false, false, (.val 0x0), 0x0, 0x0, 0x1, 0x0, 0x0, 0x0⟩
  , ⟨"FGg_STAT", 0x24408, 8, 0x100, 1, 0x4, false, false, (.val 0x0), 0x0, 0x7FFFF, 0x0, 0x180000, 0x0, 0x0⟩
  , ⟨"FGg_PAIRS", 0x2440C, 8, 0x100, 1, 0x4, true, false, (.val 0x0), 0x7FFF, 0x0, 0x0, 0x0, 0x0, 0x0⟩
  , ⟨"FGg_PAIR_CHi", 0x24410, 8, 0x100, 2, 0x4, true, false, (.val 0x0), 0xFFFFFFFF, 0x0, 0x0, 0x0, 0x0, 0x0⟩
  , ⟨"FGg_PLIM", 0x24418, 8, 0x100, 1, 0x4, true, false, (.val 0x0), 0xFFFFFFFF, 0x0, 0x0, 0x0, 0x0, 0x0⟩
  , ⟨"FGg_VS_NOM", 0x2441C, 8, 0x100, 1, 0x4, true, false, (.val 0x0), 0xFFFFFFFF, 0x0, 0x0, 0x0, 0x0, 0x0⟩
  , ⟨"FGg_R_NOM", 0x24420, 8, 0x100, 1, 0x4, true, false, (.val 0x0), 0xFFFFFFFF, 0x0, 0x0, 0x0, 0x0, 0x0⟩
  , ⟨"FGg_VS_MIN", 0x24424, 8, 0x100, 1, 0x4, true, false, (.val 0x0), 0xFFFFFFFF, 0x0, 0x0, 0x0, 0x0, 0x0⟩
  , ⟨"FGg_VS_MAX", 0x24428, 8, 0x100, 1, 0x4, true, false, (.val 0x0), 0xFFFFFFFF, 0x0, 0x0, 0x0, 0x0, 0x0⟩
  , ⟨"FGg_R_MIN", 0x2442C, 8, 0x100, 1, 0x4, true, false, (.val 0x0), 0xFFFFFFFF, 0x0, 0x0, 0x0, 0x0, 0x0⟩
  , ⟨"FGg_R_MAX", 0x24430, 8, 0x100, 1, 0x4, true, false, (.val 0x0), 0xFFFFFFFF, 0x0, 0x0, 0x0, 0x0, 0x0⟩
  , ⟨"FGg_EST", 0x24434, 8, 0x100, 1, 0x4, true, false, (.val 0x800000A), 0xFFFF000F, 0x0, 0x0, 0x0, 0x0, 0x0⟩
  , ⟨"FGg_EXC_MIN", 0x24438, 8, 0x100, 1, 0x4, true, false, (.val 0x0), 0xFFFFFFFF, 0x0, 0x0, 0x0, 0x0, 0x0⟩
  , ⟨"FGg_RES_MAX", 0x2443C, 8, 0x100, 1, 0x4, true, false, (.val 0x0), 0xFFFFFFFF, 0x0, 0x0, 0x0, 0x0, 0x0⟩
  , ⟨"FGg_PERT", 0x24440, 8, 0x100, 1, 0x4, true, false, (.val 0x40), 0xFFFF, 0x0, 0x0, 0x0, 0x0, 0x0⟩
  , ⟨"FGg_PERT_AMP", 0x24444, 8, 0x100, 1, 0x4, true, false, (.val 0x0), 0xFFFFFFFF, 0x0, 0x0, 0x0, 0x0, 0x0⟩
  , ⟨"FGg_WS", 0x24448, 8, 0x100, 1, 0x4, true, false, (.val 0x640CCD), 0xFFFFFFFF, 0x0, 0x0, 0x0, 0x0, 0x0⟩
  , ⟨"FGg_DI_MIN", 0x2444C, 8, 0x100, 1, 0x4, true, false, (.val 0x0), 0xFFFFFFFF, 0x0, 0x0, 0x0, 0x0, 0x0⟩
  , ⟨"FGg_VIN_LOSS", 0x24450, 8, 0x100, 1, 0x4, true, false, (.val 0x0), 0xFFFFFFFF, 0x0, 0x0, 0x0, 0x0, 0x0⟩
  , ⟨"FGg_VIN_OK", 0x24454, 8, 0x100, 1, 0x4, true, false, (.val 0x0), 0xFFFFFFFF, 0x0, 0x0, 0x0, 0x0, 0x0⟩
  , ⟨"FGg_PAIR_LOSS_I", 0x24458, 8, 0x100, 1, 0x4, true, false, (.val 0x0), 0xFFFFFFFF, 0x0, 0x0, 0x0, 0x0, 0x0⟩
  , ⟨"FGg_REL_BAND", 0x2445C, 8, 0x100, 1, 0x4, true, false, (.val 0x0), 0xFFFFFFFF, 0x0, 0x0, 0x0, 0x0, 0x0⟩
  , ⟨"FGg_ACT", 0x24460, 8, 0x100, 1, 0x4, true, false, (.val 0x0), 0x1FF, 0x0, 0x0, 0x0, 0x0, 0x0⟩
  , ⟨"FGg_VS_EST", 0x24480, 8, 0x100, 1, 0x4, false, false, (.val 0x0), 0x0, 0xFFFFFFFF, 0x0, 0x0, 0x0, 0x0⟩
  , ⟨"FGg_R_EST", 0x24484, 8, 0x100, 1, 0x4, false, false, (.val 0x0), 0x0, 0xFFFFFFFF, 0x0, 0x0, 0x0, 0x0⟩
  , ⟨"FGg_PMAX", 0x24488, 8, 0x100, 1, 0x4, false, false, (.val 0x0), 0x0, 0xFFFFFFFF, 0x0, 0x0, 0x0, 0x0⟩
  , ⟨"FGg_BUDGET", 0x2448C, 8, 0x100, 1, 0x4, false, false, (.val 0x0), 0x0, 0xFFFFFFFF, 0x0, 0x0, 0x0, 0x0⟩
  , ⟨"FGg_PDRAW", 0x24490, 8, 0x100, 1, 0x4, false, false, (.val 0x0), 0x0, 0xFFFFFFFF, 0x0, 0x0, 0x0, 0x0⟩
  , ⟨"FGg_DEMAND", 0x24494, 8, 0x100, 1, 0x4, false, false, (.val 0x0), 0x0, 0xFFFFFFFF, 0x0, 0x0, 0x0, 0x0⟩
  , ⟨"FGg_SHAREi", 0x24498, 8, 0x100, 2, 0x4, false, false, (.val 0x0), 0x0, 0xFFFFFFFF, 0x0, 0x0, 0x0, 0x0⟩
  , ⟨"FGg_WS_CNT", 0x244A0, 8, 0x100, 1, 0x4, false, false, (.val 0x0), 0x0, 0xFFFFFFFF, 0x0, 0x0, 0x0, 0x0⟩
  , ⟨"FGg_PAIR_LOSS_CNT", 0x244A4, 8, 0x100, 1, 0x4, false, false, (.val 0x0), 0x0, 0xFFFFFFFF, 0x0, 0x0, 0x0, 0x0⟩
  , ⟨"FGg_RESTART_CNT", 0x244A8, 8, 0x100, 1, 0x4, false, false, (.val 0x0), 0x0, 0xFFFFFFFF, 0x0, 0x0, 0x0, 0x0⟩ ]

/-- Register templates of offsets 0x24C00 to 0x25807. -/
def regs18 : List RegSpec :=
  [ ⟨"CAP_THRt_CFG", 0x24C00, 8, 0x4, 1, 0x4, true, false, (.val 0x0), 0x1FFFF, 0x0, 0x0, 0x0, 0x0, 0x0⟩
  , ⟨"CAP_POLi_CFG", 0x24D00, 24, 0x10, 1, 0x4, true, false, (.val 0x0), 0xFF0F1F, 0x0, 0x0, 0x0, 0x0, 0x0⟩
  , ⟨"CAP_POLi_SAV", 0x24D04, 24, 0x10, 1, 0x4, true, false, (.val 0x0), 0xFFFF, 0x0, 0x0, 0x0, 0x0, 0x0⟩
  , ⟨"CAP_POLi_VRED", 0x24D08, 24, 0x10, 1, 0x4, true, false, (.val 0x0), 0xFFFFFFFF, 0x0, 0x0, 0x0, 0x0, 0x0⟩
  , ⟨"CAP_SGs_CFG", 0x25000, 32, 0x10, 1, 0x4, true, false, (.val 0x0), 0xFFFFFFFF, 0x0, 0x0, 0x0, 0x0, 0x0⟩
  , ⟨"CAP_SGs_SAV", 0x25004, 32, 0x10, 1, 0x4, true, false, (.val 0x0), 0xFFFF, 0x0, 0x0, 0x0, 0x0, 0x0⟩
  , ⟨"HU_CFG", 0x25800, 1, 0x4, 1, 0x4, true, false, (.val 0x40000008), 0xFFFF003E, 0x0, 0x0, 0x0, 0x0, 0x0⟩
  , ⟨"HU_CTL", 0x25804, 1, 0x4, 1, 0x4, false, false, (.val 0x0), 0x1, 0x0, 0x2, 0x0, 0x0, 0x0⟩ ]

/-- Register templates of offsets 0x25808 to 0x25827. -/
def regs19 : List RegSpec :=
  [ ⟨"HU_STAT", 0x25808, 1, 0x4, 1, 0x4, false, false, (.val 0x0), 0x0, 0xFFFF001F, 0x0, 0x20, 0x0, 0x0⟩
  , ⟨"HU_CH", 0x2580C, 1, 0x4, 1, 0x4, true, false, (.val 0x0), 0xFFFFFF, 0x0, 0x0, 0x0, 0x0, 0x0⟩
  , ⟨"HU_CAP_C", 0x25810, 1, 0x4, 1, 0x4, true, false, (.val 0x0), 0xFFFFFFFF, 0x0, 0x0, 0x0, 0x0, 0x0⟩
  , ⟨"HU_CAP_VMIN", 0x25814, 1, 0x4, 1, 0x4, true, false, (.val 0x0), 0xFFFFFFFF, 0x0, 0x0, 0x0, 0x0, 0x0⟩
  , ⟨"HU_ETA", 0x25818, 1, 0x4, 1, 0x4, true, false, (.val 0x0), 0xFFFFFFFF, 0x0, 0x0, 0x0, 0x0, 0x0⟩
  , ⟨"HU_BAT", 0x2581C, 1, 0x4, 1, 0x4, true, false, (.val 0x0), 0xF, 0x0, 0x0, 0x0, 0x0, 0x0⟩
  , ⟨"HU_BAT_SOCMIN", 0x25820, 1, 0x4, 1, 0x4, true, false, (.val 0x0), 0xFFFFFFFF, 0x0, 0x0, 0x0, 0x0, 0x0⟩
  , ⟨"HU_E_SHUT", 0x25824, 1, 0x4, 1, 0x4, true, false, (.val 0x0), 0xFFFFFFFF, 0x0, 0x0, 0x0, 0x0, 0x0⟩ ]

/-- Register templates of offsets 0x25828 to 0x25883. -/
def regs20 : List RegSpec :=
  [ ⟨"HU_E_MARGIN", 0x25828, 1, 0x4, 1, 0x4, true, false, (.val 0x0), 0xFFFFFFFF, 0x0, 0x0, 0x0, 0x0, 0x0⟩
  , ⟨"HU_PMAX", 0x2582C, 1, 0x4, 1, 0x4, true, false, (.val 0x0), 0xFFFFFFFF, 0x0, 0x0, 0x0, 0x0, 0x0⟩
  , ⟨"HU_VBUS_LOSS", 0x25830, 1, 0x4, 1, 0x4, true, false, (.val 0x0), 0xFFFFFFFF, 0x0, 0x0, 0x0, 0x0, 0x0⟩
  , ⟨"HU_VBUS_OK", 0x25834, 1, 0x4, 1, 0x4, true, false, (.val 0x0), 0xFFFFFFFF, 0x0, 0x0, 0x0, 0x0, 0x0⟩
  , ⟨"HU_DELAY", 0x25838, 1, 0x4, 1, 0x4, true, false, (.val 0x0), 0xFFFF, 0x0, 0x0, 0x0, 0x0, 0x0⟩
  , ⟨"HU_UPD_SOCMIN", 0x2583C, 1, 0x4, 1, 0x4, true, false, (.val 0x0), 0xFFFFFFFF, 0x0, 0x0, 0x0, 0x0, 0x0⟩
  , ⟨"HU_RT_THR", 0x25840, 1, 0x4, 1, 0x4, true, false, (.val 0x0), 0xFF, 0x0, 0x0, 0x0, 0x0, 0x0⟩
  , ⟨"HU_EAVAIL", 0x25880, 1, 0x4, 1, 0x4, false, false, (.val 0x0), 0x0, 0xFFFFFFFF, 0x0, 0x0, 0x0, 0x0⟩ ]

/-- Register templates of offsets 0x25884 to 0x28FB7. -/
def regs21 : List RegSpec :=
  [ ⟨"HU_ENEED", 0x25884, 1, 0x4, 1, 0x4, false, false, (.val 0x0), 0x0, 0xFFFFFFFF, 0x0, 0x0, 0x0, 0x0⟩
  , ⟨"HU_ALLOW", 0x25888, 1, 0x4, 1, 0x4, false, false, (.val 0x0), 0x0, 0xFFFFFFFF, 0x0, 0x0, 0x0, 0x0⟩
  , ⟨"HU_INPUT_LOSS_CNT", 0x2588C, 1, 0x4, 1, 0x4, false, false, (.val 0x0), 0x0, 0xFFFFFFFF, 0x0, 0x0, 0x0, 0x0⟩
  , ⟨"HU_GASP_CNT", 0x25890, 1, 0x4, 1, 0x4, false, false, (.val 0x0), 0x0, 0xFFFFFFFF, 0x0, 0x0, 0x0, 0x0⟩
  , ⟨"EFe_CFG", 0x28000, 16, 0x100, 1, 0x4, true, false, (.val 0x1000000), 0xFFE00000, 0x0, 0x0, 0x0, 0x0, 0x0⟩
  , ⟨"EFe_CTL", 0x28004, 16, 0x100, 1, 0x4, false, false, (.val 0x0), 0x3, 0x0, 0x4, 0x0, 0x0, 0x0⟩
  , ⟨"EFe_STAT", 0x28008, 16, 0x100, 1, 0x4, false, false, (.val 0x0), 0x0, 0xF3FFF, 0x0, 0x10C000, 0x0, 0x0⟩
  , ⟨"EFe_MEAS", 0x2800C, 16, 0x100, 1, 0x4, true, false, (.val 0x0), 0xFFFFFFFF, 0x0, 0x0, 0x0, 0x0, 0x0⟩
  , ⟨"EFe_UV_OFF", 0x28010, 16, 0x100, 1, 0x4, true, false, (.val 0x0), 0xFFFFFFFF, 0x0, 0x0, 0x0, 0x0, 0x0⟩
  , ⟨"EFe_UV_ON", 0x28014, 16, 0x100, 1, 0x4, true, false, (.val 0x0), 0xFFFFFFFF, 0x0, 0x0, 0x0, 0x0, 0x0⟩
  , ⟨"EFe_OV_ON", 0x28018, 16, 0x100, 1, 0x4, true, false, (.val 0x0), 0xFFFFFFFF, 0x0, 0x0, 0x0, 0x0, 0x0⟩
  , ⟨"EFe_OV_OFF", 0x2801C, 16, 0x100, 1, 0x4, true, false, (.val 0x0), 0xFFFFFFFF, 0x0, 0x0, 0x0, 0x0, 0x0⟩
  , ⟨"EFe_DELAY", 0x28020, 16, 0x100, 1, 0x4, true, false, (.val 0x0), 0xFFFFFFFF, 0x0, 0x0, 0x0, 0x0, 0x0⟩
  , ⟨"EFe_INRUSH", 0x28024, 16, 0x100, 1, 0x4, true, false, (.val 0x3), 0x3FF001F, 0x0, 0x0, 0x0, 0x0, 0x0⟩
  , ⟨"EFe_INRUSH_MAX", 0x28028, 16, 0x100, 1, 0x4, true, false, (.val 0x2710), 0xFFFFFF, 0x0, 0x0, 0x0, 0x0, 0x0⟩
  , ⟨"EFe_PG", 0x2802C, 16, 0x100, 1, 0x4, true, false, (.val 0x0), 0xFFFF, 0x0, 0x0, 0x0, 0x0, 0x0⟩
  , ⟨"EFe_BRK_Ik", 0x28030, 16, 0x100, 8, 0x4, true, false, (.val 0x0), 0xFFFFFFFF, 0x0, 0x0, 0x0, 0x0, 0x0⟩
  , ⟨"EFe_BRK_Tk", 0x28050, 16, 0x100, 8, 0x4, true, false, (.val 0x0), 0xFFFFFFFF, 0x0, 0x0, 0x0, 0x0, 0x0⟩
  , ⟨"EFe_BRK_CFG", 0x28070, 16, 0x100, 1, 0x4, true, false, (.val 0x80C00011), 0xFFFF001F, 0x0, 0x0, 0x0, 0x0, 0x0⟩
  , ⟨"EFe_INST", 0x28074, 16, 0x100, 1, 0x4, true, false, (.val 0xFFF), 0x3FFF, 0x0, 0x0, 0x0, 0x0, 0x0⟩
  , ⟨"EFe_RTH1", 0x28078, 16, 0x100, 1, 0x4, true, false, (.val 0x0), 0xFFFFFFFF, 0x0, 0x0, 0x0, 0x0, 0x0⟩
  , ⟨"EFe_RTH2", 0x2807C, 16, 0x100, 1, 0x4, true, false, (.val 0x0), 0xFFFFFFFF, 0x0, 0x0, 0x0, 0x0, 0x0⟩
  , ⟨"EFe_ALPHA1", 0x28080, 16, 0x100, 1, 0x4, true, false, (.val 0x0), 0xFFFFFFFF, 0x0, 0x0, 0x0, 0x0, 0x0⟩
  , ⟨"EFe_ALPHA2", 0x28084, 16, 0x100, 1, 0x4, true, false, (.val 0x0), 0xFFFFFFFF, 0x0, 0x0, 0x0, 0x0, 0x0⟩
  , ⟨"EFe_TAMB", 0x28088, 16, 0x100, 1, 0x4, true, false, (.val 0x0), 0xFFFFFFFF, 0x0, 0x0, 0x0, 0x0, 0x0⟩
  , ⟨"EFe_TMAX", 0x2808C, 16, 0x100, 1, 0x4, true, false, (.val 0x0), 0xFFFFFFFF, 0x0, 0x0, 0x0, 0x0, 0x0⟩
  , ⟨"EFe_TREARM", 0x28090, 16, 0x100, 1, 0x4, true, false, (.val 0x0), 0xFFFFFFFF, 0x0, 0x0, 0x0, 0x0, 0x0⟩
  , ⟨"EFe_TD_CFG", 0x28094, 16, 0x100, 1, 0x4, true, false, (.val 0x8106), 0xFFFF, 0x0, 0x0, 0x0, 0x0, 0x0⟩
  , ⟨"EFe_RETRY", 0x28098, 16, 0x100, 1, 0x4, true, false, (.val 0x3E8000C), 0xFFFF003F, 0x0, 0x0, 0x0, 0x0, 0x0⟩
  , ⟨"EFe_BRK_ACC", 0x2809C, 16, 0x100, 1, 0x4, false, false, (.val 0x0), 0x0, 0xFFFFFFFF, 0x0, 0x0, 0x0, 0x0⟩
  , ⟨"EFe_TJ", 0x280A0, 16, 0x100, 1, 0x4, false, false, (.val 0x0), 0x0, 0xFFFFFFFF, 0x0, 0x0, 0x0, 0x0⟩
  , ⟨"EFe_PFET", 0x280A4, 16, 0x100, 1, 0x4, false, false, (.val 0x0), 0x0, 0xFFFFFFFF, 0x0, 0x0, 0x0, 0x0⟩
  , ⟨"EFe_TJ_MEAS", 0x280A8, 16, 0x100, 1, 0x4, false, false, (.val 0x0), 0x0, 0xFFFFFFFF, 0x0, 0x0, 0x0, 0x0⟩
  , ⟨"EFe_TRIP_CNT", 0x280AC, 16, 0x100, 1, 0x4, false, false, (.val 0x0), 0x0, 0xFFFFFFFF, 0x0, 0x0, 0x0, 0x0⟩
  , ⟨"EFe_RETRY_CNT", 0x280B0, 16, 0x100, 1, 0x4, false, false, (.val 0x0), 0x0, 0xFFFFFFFF, 0x0, 0x0, 0x0, 0x0⟩
  , ⟨"EFe_ON_CNT", 0x280B4, 16, 0x100, 1, 0x4, false, false, (.val 0x0), 0x0, 0xFFFFFFFF, 0x0, 0x0, 0x0, 0x0⟩ ]

/-- Register templates of offsets 0x29000 to 0x2A013. -/
def regs22 : List RegSpec :=
  [ ⟨"EF_SUM", 0x29000, 1, 0x4, 1, 0x4, false, false, (.val 0x0), 0x0, 0xFFFFFFFF, 0x0, 0x0, 0x0, 0x0⟩
  , ⟨"EF_HELD", 0x29004, 1, 0x4, 1, 0x4, false, false, (.val 0x0), 0x0, 0x0, 0x0, 0xFFFF, 0x0, 0x0⟩
  , ⟨"EF_VHV_LOSS_CNT", 0x29008, 1, 0x4, 1, 0x4, false, false, (.val 0x0), 0x0, 0xFFFFFFFF, 0x0, 0x0, 0x0, 0x0⟩
  , ⟨"SEQ_CTL", 0x2A000, 1, 0x4, 1, 0x4, false, false, (.val 0x0), 0x1, 0x0, 0x0, 0x0, 0x0, 0x0⟩
  , ⟨"SEQ_STAT", 0x2A004, 1, 0x4, 1, 0x4, false, false, (.val 0x0), 0x0, 0x7F, 0x0, 0x80, 0x0, 0x0⟩
  , ⟨"SEQ_UP_MASK", 0x2A008, 1, 0x4, 1, 0x4, true, false, (.val 0x0), 0xFFFFFFFF, 0x0, 0x0, 0x0, 0x0, 0x0⟩
  , ⟨"SEQ_TIMING", 0x2A00C, 1, 0x4, 1, 0x4, true, false, (.val 0x64), 0x1FFFF, 0x0, 0x0, 0x0, 0x0, 0x0⟩
  , ⟨"SEQ_FLT_CFG", 0x2A010, 1, 0x4, 1, 0x4, true, false, (.val 0x101), 0x1FFFFF, 0x0, 0x0, 0x0, 0x0, 0x0⟩ ]

/-- Register templates of offsets 0x2A014 to 0x2ABF7. -/
def regs23 : List RegSpec :=
  [ ⟨"SEQ_DEMAND", 0x2A014, 1, 0x4, 1, 0x4, false, false, (.val 0x0), 0x0, 0xFFFFFFFF, 0x0, 0x0, 0x0, 0x0⟩
  , ⟨"SEQ_UP", 0x2A018, 1, 0x4, 1, 0x4, false, false, (.val 0x0), 0x0, 0xFFFFFFFF, 0x0, 0x0, 0x0, 0x0⟩
  , ⟨"SEQ_FAILED", 0x2A01C, 1, 0x4, 1, 0x4, false, false, (.val 0x0), 0x0, 0xFFFFFFFF, 0x0, 0x0, 0x0, 0x0⟩
  , ⟨"SEQ_FLT_LOW_CNT", 0x2A020, 1, 0x4, 1, 0x4, false, false, (.val 0x0), 0x0, 0xFFFFFFFF, 0x0, 0x0, 0x0, 0x0⟩
  , ⟨"SEQ_FLT_OUT_MASK", 0x2A024, 1, 0x4, 1, 0x4, true, false, (.val 0x0), 0xFFFFFFFF, 0x0, 0x0, 0x0, 0x0, 0x0⟩
  , ⟨"SEQ_FLT_IN_MASK", 0x2A028, 1, 0x4, 1, 0x4, true, false, (.val 0x0), 0xFFFFFFFF, 0x0, 0x0, 0x0, 0x0, 0x0⟩
  , ⟨"SEQ_RAILr_CFG", 0x2A400, 32, 0x40, 1, 0x4, true, false, (.val 0x100), 0xDFFFFF01, 0x0, 0x0, 0x0, 0x0, 0x0⟩
  , ⟨"SEQ_RAILr_CTL", 0x2A404, 32, 0x40, 1, 0x4, false, false, (.val 0x0), 0x0, 0x0, 0x1, 0x0, 0x0, 0x0⟩
  , ⟨"SEQ_RAILr_STAT", 0x2A408, 32, 0x40, 1, 0x4, false, false, (.val 0x0), 0x0, 0xFFFF037F, 0x0, 0x480, 0x0, 0x0⟩
  , ⟨"SEQ_RAILr_PRE", 0x2A40C, 32, 0x40, 1, 0x4, true, false, (.val 0x0), 0xFFFFFFFF, 0x0, 0x0, 0x0, 0x0, 0x0⟩
  , ⟨"SEQ_RAILr_UP_THR", 0x2A410, 32, 0x40, 1, 0x4, true, false, (.val 0x0), 0xFFFFFFFF, 0x0, 0x0, 0x0, 0x0, 0x0⟩
  , ⟨"SEQ_RAILr_DROP_THR", 0x2A414, 32, 0x40, 1, 0x4, true, false, (.val 0x0), 0xFFFFFFFF, 0x0, 0x0, 0x0, 0x0, 0x0⟩
  , ⟨"SEQ_RAILr_OFF_THR", 0x2A418, 32, 0x40, 1, 0x4, true, false, (.val 0x0), 0xFFFFFFFF, 0x0, 0x0, 0x0, 0x0, 0x0⟩
  , ⟨"SEQ_RAILr_DELAY", 0x2A41C, 32, 0x40, 1, 0x4, true, false, (.val 0x0), 0xFFFFFFFF, 0x0, 0x0, 0x0, 0x0, 0x0⟩
  , ⟨"SEQ_RAILr_LIMIT", 0x2A420, 32, 0x40, 1, 0x4, true, false, (.val 0x3E8), 0xFFFFFFFF, 0x0, 0x0, 0x0, 0x0, 0x0⟩
  , ⟨"SEQ_RAILr_PNT", 0x2A424, 32, 0x40, 1, 0x4, true, false, (.val 0x0), 0xFF0FFFFF, 0x0, 0x0, 0x0, 0x0, 0x0⟩
  , ⟨"SEQ_RAILr_ONVAL", 0x2A428, 32, 0x40, 1, 0x4, true, false, (.val 0x0), 0xFFFFFFFF, 0x0, 0x0, 0x0, 0x0, 0x0⟩
  , ⟨"SEQ_RAILr_OFFVAL", 0x2A42C, 32, 0x40, 1, 0x4, true, false, (.val 0x0), 0xFFFFFFFF, 0x0, 0x0, 0x0, 0x0, 0x0⟩
  , ⟨"SEQ_RAILr_FAIL_CNT", 0x2A430, 32, 0x40, 1, 0x4, false, false, (.val 0x0), 0x0, 0xFFFFFFFF, 0x0, 0x0, 0x0, 0x0⟩
  , ⟨"SEQ_RAILr_RAMP_LAST", 0x2A434, 32, 0x40, 1, 0x4, false, false, (.val 0x0), 0x0, 0xFFFF, 0x0, 0x0, 0x0, 0x0⟩ ]

/-- Register templates of offsets 0x2C000 to 0x2C1FB. -/
def regs24 : List RegSpec :=
  [ ⟨"HIF_STAT", 0x2C000, 1, 0x4, 1, 0x4, false, false, (.val 0x10000), 0x0, 0xFFFF03FF, 0x0, 0x0, 0x0, 0x0⟩
  , ⟨"HIF_LINKDOWN_CNT", 0x2C004, 1, 0x4, 1, 0x4, false, false, (.val 0x0), 0x0, 0xFFFFFFFF, 0x0, 0x0, 0x0, 0x0⟩
  , ⟨"HIF_DROP_CNT", 0x2C008, 1, 0x4, 1, 0x4, false, false, (.val 0x0), 0x0, 0xFFFFFFFF, 0x0, 0x0, 0x0, 0x0⟩
  , ⟨"HIF_BADCRC_CNT", 0x2C00C, 1, 0x4, 1, 0x4, false, false, (.val 0x0), 0x0, 0xFFFFFFFF, 0x0, 0x0, 0x0, 0x0⟩
  , ⟨"HIF_BADTAG_CNT", 0x2C010, 1, 0x4, 1, 0x4, false, false, (.val 0x0), 0x0, 0xFFFFFFFF, 0x0, 0x0, 0x0, 0x0⟩
  , ⟨"HIF_SQn_BASE_LO", 0x2C100, 4, 0x40, 1, 0x4, false, false, (.val 0x0), 0xFFFFF000, 0x0, 0x0, 0x0, 0x0, 0x0⟩
  , ⟨"HIF_SQn_BASE_HI", 0x2C104, 4, 0x40, 1, 0x4, false, false, (.val 0x0), 0xFFFFFFFF, 0x0, 0x0, 0x0, 0x0, 0x0⟩
  , ⟨"HIF_SQn_CFG", 0x2C108, 4, 0x40, 1, 0x4, false, false, (.val 0x4), 0xF, 0x0, 0x0, 0x0, 0x0, 0x0⟩
  , ⟨"HIF_SQn_CTL", 0x2C10C, 4, 0x40, 1, 0x4, false, false, (.val 0x0), 0x3, 0x0, 0x0, 0x0, 0x0, 0x0⟩
  , ⟨"HIF_SQn_STAT", 0x2C110, 4, 0x40, 1, 0x4, false, false, (.val 0x0), 0x0, 0x7, 0x0, 0x18, 0x0, 0x0⟩
  , ⟨"HIF_SQn_TAIL", 0x2C114, 4, 0x40, 1, 0x4, false, false, (.val 0x0), 0xFFFFFFFF, 0x0, 0x0, 0x0, 0x0, 0x0⟩
  , ⟨"HIF_SQn_ACCEPTED_SEQ", 0x2C118, 4, 0x40, 1, 0x4, false, false, (.val 0x0), 0x0, 0xFFFFFFFF, 0x0, 0x0, 0x0, 0x0⟩
  , ⟨"HIF_SQn_INIT_SEQ", 0x2C11C, 4, 0x40, 1, 0x4, false, false, (.val 0x0), 0xFFFFFFFF, 0x0, 0x0, 0x0, 0x0, 0x0⟩
  , ⟨"HIF_CQn_BASE_LO", 0x2C120, 4, 0x40, 1, 0x4, false, false, (.val 0x0), 0xFFFFF000, 0x0, 0x0, 0x0, 0x0, 0x0⟩
  , ⟨"HIF_CQn_BASE_HI", 0x2C124, 4, 0x40, 1, 0x4, false, false, (.val 0x0), 0xFFFFFFFF, 0x0, 0x0, 0x0, 0x0, 0x0⟩
  , ⟨"HIF_CQn_CFG", 0x2C128, 4, 0x40, 1, 0x4, false, false, (.val 0x4), 0xF, 0x0, 0x0, 0x0, 0x0, 0x0⟩
  , ⟨"HIF_CQn_HEAD", 0x2C12C, 4, 0x40, 1, 0x4, false, false, (.val 0x0), 0xFFFFFFFF, 0x0, 0x0, 0x0, 0x0, 0x0⟩
  , ⟨"HIF_CQn_POSTED_SEQ", 0x2C130, 4, 0x40, 1, 0x4, false, false, (.val 0x0), 0x0, 0xFFFFFFFF, 0x0, 0x0, 0x0, 0x0⟩
  , ⟨"HIF_CQn_INIT_SEQ", 0x2C134, 4, 0x40, 1, 0x4, false, false, (.val 0x0), 0xFFFFFFFF, 0x0, 0x0, 0x0, 0x0, 0x0⟩
  , ⟨"HIF_CQn_HELD", 0x2C138, 4, 0x40, 1, 0x4, false, false, (.val 0x0), 0x0, 0x1FF, 0x0, 0x0, 0x0, 0x0⟩ ]

/-- Register templates of offsets 0x2C200 to 0x2C21F. -/
def regs25 : List RegSpec :=
  [ ⟨"HIF_EQ_BASE_LO", 0x2C200, 1, 0x4, 1, 0x4, false, false, (.val 0x0), 0xFFFFF000, 0x0, 0x0, 0x0, 0x0, 0x0⟩
  , ⟨"HIF_EQ_BASE_HI", 0x2C204, 1, 0x4, 1, 0x4, false, false, (.val 0x0), 0xFFFFFFFF, 0x0, 0x0, 0x0, 0x0, 0x0⟩
  , ⟨"HIF_EQ_CFG", 0x2C208, 1, 0x4, 1, 0x4, false, false, (.val 0x4), 0xF, 0x0, 0x0, 0x0, 0x0, 0x0⟩
  , ⟨"HIF_EQ_CTL", 0x2C20C, 1, 0x4, 1, 0x4, false, false, (.val 0x0), 0x3, 0x0, 0x0, 0x0, 0x0, 0x0⟩
  , ⟨"HIF_EQ_HEAD", 0x2C210, 1, 0x4, 1, 0x4, false, false, (.val 0x0), 0xFFFFFFFF, 0x0, 0x0, 0x0, 0x0, 0x0⟩
  , ⟨"HIF_EQ_POSTED_SEQ", 0x2C214, 1, 0x4, 1, 0x4, false, false, (.val 0x0), 0x0, 0xFFFFFFFF, 0x0, 0x0, 0x0, 0x0⟩
  , ⟨"HIF_EQ_INIT_SEQ", 0x2C218, 1, 0x4, 1, 0x4, false, false, (.val 0x0), 0xFFFFFFFF, 0x0, 0x0, 0x0, 0x0, 0x0⟩
  , ⟨"HIF_EQ_LOST_CNT", 0x2C21C, 1, 0x4, 1, 0x4, false, false, (.val 0x0), 0x0, 0xFFFFFFFF, 0x0, 0x0, 0x0, 0x0⟩ ]

/-- Register templates of offsets 0x2C300 to 0x2C3FF. -/
def regs26 : List RegSpec :=
  [ ⟨"HIF_TSk_BASE_LO", 0x2C300, 8, 0x20, 1, 0x4, false, false, (.val 0x0), 0xFFFFF000, 0x0, 0x0, 0x0, 0x0, 0x0⟩
  , ⟨"HIF_TSk_BASE_HI", 0x2C304, 8, 0x20, 1, 0x4, false, false, (.val 0x0), 0xFFFFFFFF, 0x0, 0x0, 0x0, 0x0, 0x0⟩
  , ⟨"HIF_TSk_CFG", 0x2C308, 8, 0x20, 1, 0x4, false, false, (.val 0x4), 0xF, 0x0, 0x0, 0x0, 0x0, 0x0⟩
  , ⟨"HIF_TSk_CTL", 0x2C30C, 8, 0x20, 1, 0x4, false, false, (.val 0x0), 0x3, 0x0, 0x0, 0x0, 0x0, 0x0⟩
  , ⟨"HIF_TSk_HEAD", 0x2C310, 8, 0x20, 1, 0x4, false, false, (.val 0x0), 0xFFFFFFFF, 0x0, 0x0, 0x0, 0x0, 0x0⟩
  , ⟨"HIF_TSk_POSTED_SEQ", 0x2C314, 8, 0x20, 1, 0x4, false, false, (.val 0x0), 0x0, 0xFFFFFFFF, 0x0, 0x0, 0x0, 0x0⟩
  , ⟨"HIF_TSk_INIT_SEQ", 0x2C318, 8, 0x20, 1, 0x4, false, false, (.val 0x0), 0xFFFFFFFF, 0x0, 0x0, 0x0, 0x0, 0x0⟩
  , ⟨"HIF_TSk_DROP_CNT", 0x2C31C, 8, 0x20, 1, 0x4, false, false, (.val 0x0), 0x0, 0xFFFFFFFF, 0x0, 0x0, 0x0, 0x0⟩ ]

/-- Register templates of offsets 0x2C400 to 0x2E013. -/
def regs27 : List RegSpec :=
  [ ⟨"HIF_MSIXc_MAP", 0x2C400, 32, 0x4, 1, 0x4, false, false, .idx, 0x1F, 0x0, 0x0, 0x0, 0x0, 0x0⟩
  , ⟨"HIF_MSIXv_MOD", 0x2C520, 24, 0x4, 1, 0x4, false, false, (.val 0x1), 0xFFFFFF, 0x0, 0x0, 0x0, 0x0, 0x0⟩
  , ⟨"HIF_TAGt", 0x2C800, 256, 0x4, 1, 0x4, false, false, (.val 0xFFFF0000), 0x0, 0xFFFF0303, 0x0, 0x0, 0x0, 0x0⟩
  , ⟨"PNT_STAT", 0x2E000, 1, 0x4, 1, 0x4, false, false, (.val 0x0), 0x0, 0x7F3FFF, 0x0, 0x0, 0x0, 0x0⟩
  , ⟨"PNT_DIR_BASE_LO", 0x2E004, 1, 0x4, 1, 0x4, false, false, (.val 0x0), 0xFFFFF000, 0x0, 0x0, 0x0, 0x0, 0x0⟩
  , ⟨"PNT_DIR_BASE_HI", 0x2E008, 1, 0x4, 1, 0x4, false, false, (.val 0x0), 0xFFFFFFFF, 0x0, 0x0, 0x0, 0x0, 0x0⟩
  , ⟨"PNT_DIR_CTL", 0x2E00C, 1, 0x4, 1, 0x4, false, false, (.val 0x0), 0x1, 0x0, 0x2, 0x0, 0x0, 0x0⟩
  , ⟨"PNT_STALE_CNT", 0x2E010, 1, 0x4, 1, 0x4, false, false, (.val 0x0), 0x0, 0xFFFFFFFF, 0x0, 0x0, 0x0, 0x0⟩ ]

/-- Register templates of offsets 0x2E014 to 0x2E17B. -/
def regs28 : List RegSpec :=
  [ ⟨"PNT_DIRMISS_CNT", 0x2E014, 1, 0x4, 1, 0x4, false, false, (.val 0x0), 0x0, 0xFFFFFFFF, 0x0, 0x0, 0x0, 0x0⟩
  , ⟨"PNT_DIRCRC_CNT", 0x2E018, 1, 0x4, 1, 0x4, false, false, (.val 0x0), 0x0, 0xFFFFFFFF, 0x0, 0x0, 0x0, 0x0⟩
  , ⟨"PNT_PIN_ADDR", 0x2E040, 1, 0x4, 1, 0x4, false, false, (.val 0x0), 0x3FFF, 0x0, 0x0, 0x0, 0x0, 0x0⟩
  , ⟨"PNT_PIN_DATAi", 0x2E044, 4, 0x4, 1, 0x4, false, true, (.val 0x0), 0xFFFFFFFF, 0x0, 0x0, 0x0, 0x0, 0x0⟩
  , ⟨"PNT_LIST_ADDR", 0x2E060, 1, 0x4, 1, 0x4, false, false, (.val 0x0), 0x3FF, 0x0, 0x0, 0x0, 0x0, 0x0⟩
  , ⟨"PNT_LIST_DATA", 0x2E064, 1, 0x4, 1, 0x4, false, true, (.val 0x0), 0xFFFFF, 0x0, 0x0, 0x0, 0x0, 0x0⟩
  , ⟨"PNT_TSk_CFG", 0x2E100, 8, 0x10, 1, 0x4, true, false, (.val 0x4), 0x3FFFFF, 0x0, 0x0, 0x0, 0x0, 0x0⟩
  , ⟨"PNT_TSk_LIST", 0x2E104, 8, 0x10, 1, 0x4, true, false, (.val 0x0), 0x7FF03FF, 0x0, 0x0, 0x0, 0x0, 0x0⟩
  , ⟨"PNT_TSk_REC_CNT", 0x2E108, 8, 0x10, 1, 0x4, false, false, (.val 0x0), 0x0, 0xFFFFFFFF, 0x0, 0x0, 0x0, 0x0⟩ ]

/-- Register templates of offsets 0x2E200 to 0x2FFF7. -/
def regs29 : List RegSpec :=
  [ ⟨"CAPj_CFG", 0x2E200, 4, 0x20, 1, 0x4, true, false, (.val 0x0), 0xFFFFFF03, 0x0, 0x0, 0x0, 0x0, 0x0⟩
  , ⟨"CAPj_CTL", 0x2E204, 4, 0x20, 1, 0x4, false, false, (.val 0x0), 0x0, 0x0, 0x3, 0x0, 0x0, 0x0⟩
  , ⟨"CAPj_TRIG", 0x2E208, 4, 0x20, 1, 0x4, true, false, (.val 0x0), 0xFF03, 0x0, 0x0, 0x0, 0x0, 0x0⟩
  , ⟨"CAPj_TFRAME", 0x2E20C, 4, 0x20, 1, 0x4, true, false, (.val 0x0), 0xFFFFFFFF, 0x0, 0x0, 0x0, 0x0, 0x0⟩
  , ⟨"CAPj_STAT", 0x2E210, 4, 0x20, 1, 0x4, false, false, (.val 0x0), 0x0, 0xFF03, 0x0, 0x0, 0x0, 0x0⟩
  , ⟨"CAPj_TRIG_FRAME", 0x2E214, 4, 0x20, 1, 0x4, false, false, (.val 0x0), 0x0, 0xFFFFFFFF, 0x0, 0x0, 0x0, 0x0⟩
  , ⟨"PNT_DRVi_CFG", 0x2F000, 128, 0x20, 1, 0x4, true, false, (.val 0x0), 0x8000007F, 0x0, 0x0, 0x0, 0x0, 0x0⟩
  , ⟨"PNT_DRVi_SRCs", 0x2F004, 128, 0x20, 4, 0x4, true, false, (.val 0x0), 0xFFFFFFFF, 0x0, 0x0, 0x0, 0x0, 0x0⟩
  , ⟨"PNT_DRVi_K", 0x2F014, 128, 0x20, 1, 0x4, true, false, (.val 0x0), 0xFFFFFFFF, 0x0, 0x0, 0x0, 0x0, 0x0⟩ ]

/-- Register templates of offsets 0x30000 to 0x30B2B. -/
def regs30 : List RegSpec :=
  [ ⟨"TW_PORTp_CFG", 0x30000, 12, 0x100, 1, 0x4, true, false, (.val 0x400000), 0xFFE00000, 0x0, 0x0, 0x0, 0x0, 0x0⟩
  , ⟨"TW_PORTp_CTL", 0x30004, 12, 0x100, 1, 0x4, false, false, (.val 0x0), 0x1, 0x0, 0x2, 0x0, 0x0, 0x0⟩
  , ⟨"TW_PORTp_STAT", 0x30008, 12, 0x100, 1, 0x4, false, false, (.val 0x0), 0x0, 0x507, 0x0, 0x2F8, 0x0, 0x0⟩
  , ⟨"TW_PORTp_TIMING", 0x3000C, 12, 0x100, 1, 0x4, true, false, (.val 0x19230008), 0xFFFF0FFF, 0x0, 0x0, 0x0, 0x0, 0x0⟩
  , ⟨"TW_PORTp_ARA", 0x30010, 12, 0x100, 1, 0x4, true, false, (.val 0x0), 0x1FF, 0x0, 0x0, 0x0, 0x0, 0x0⟩
  , ⟨"TW_PORTp_ALERT_LOG", 0x30014, 12, 0x100, 1, 0x4, false, true, (.val 0x0), 0x0, 0x0, 0x0, 0x0, 0x17F, 0x0⟩
  , ⟨"TW_PORTp_XFER_CNT", 0x30018, 12, 0x100, 1, 0x4, false, false, (.val 0x0), 0x0, 0xFFFFFFFF, 0x0, 0x0, 0x0, 0x0⟩
  , ⟨"TW_PORTp_NACK_CNT", 0x3001C, 12, 0x100, 1, 0x4, false, false, (.val 0x0), 0x0, 0xFFFFFFFF, 0x0, 0x0, 0x0, 0x0⟩
  , ⟨"TW_PORTp_ERR_CNT", 0x30020, 12, 0x100, 1, 0x4, false, false, (.val 0x0), 0x0, 0xFFFFFFFF, 0x0, 0x0, 0x0, 0x0⟩
  , ⟨"TW_PORTp_PEC_CNT", 0x30024, 12, 0x100, 1, 0x4, false, false, (.val 0x0), 0x0, 0xFFFFFFFF, 0x0, 0x0, 0x0, 0x0⟩
  , ⟨"TW_PORTp_CLR_CNT", 0x30028, 12, 0x100, 1, 0x4, false, false, (.val 0x0), 0x0, 0xFFFFFFFF, 0x0, 0x0, 0x0, 0x0⟩ ]

/-- Register templates of offsets 0x30C00 to 0x32DFF. -/
def regs31 : List RegSpec :=
  [ ⟨"TW_TGT_CFG", 0x30C00, 1, 0x4, 1, 0x4, false, false, (.val 0x3), 0x1F, 0x0, 0x0, 0x0, 0x0, 0x0⟩
  , ⟨"TW_TGT_STAT", 0x30C04, 1, 0x4, 1, 0x4, false, false, (.val 0x0), 0x0, 0xFF7F, 0x0, 0x0, 0x0, 0x0⟩
  , ⟨"TW_TGT_CNT", 0x30C08, 1, 0x4, 1, 0x4, false, false, (.val 0x0), 0x0, 0xFFFFFFFF, 0x0, 0x0, 0x0, 0x0⟩
  , ⟨"TW_DIRk_MB", 0x30E00, 16, 0x8, 1, 0x4, true, false, (.val 0x0), 0xFFFFFFFF, 0x0, 0x0, 0x0, 0x0, 0x0⟩
  , ⟨"TW_DIRk_EXP", 0x30E04, 16, 0x8, 1, 0x4, true, false, (.val 0x0), 0xFF, 0x0, 0x0, 0x0, 0x0, 0x0⟩
  , ⟨"CANc_CFG", 0x32000, 4, 0x400, 1, 0x4, true, false, (.val 0x10000000), 0xFE000000, 0x0, 0x0, 0x0, 0x0, 0x0⟩
  , ⟨"CANc_CTL", 0x32004, 4, 0x400, 1, 0x4, false, false, (.val 0x0), 0x1, 0x0, 0x2, 0x0, 0x0, 0x0⟩
  , ⟨"CANc_STAT", 0x32008, 4, 0x400, 1, 0x4, false, false, (.val 0x3), 0x0, 0xF, 0x0, 0x10, 0x0, 0x0⟩
  , ⟨"CANc_NBT", 0x3200C, 4, 0x400, 1, 0x4, true, false, (.val 0x0), 0x7F7FFFFF, 0x0, 0x0, 0x0, 0x0, 0x0⟩
  , ⟨"CANc_DBT", 0x32010, 4, 0x400, 1, 0x4, true, false, (.val 0x0), 0x7F7FFFFF, 0x0, 0x0, 0x0, 0x0, 0x0⟩
  , ⟨"CANc_TDC", 0x32014, 4, 0x400, 1, 0x4, true, false, (.val 0x0), 0xFF, 0x0, 0x0, 0x0, 0x0, 0x0⟩
  , ⟨"CANc_ERR_CNT", 0x32018, 4, 0x400, 1, 0x4, false, false, (.val 0x0), 0x0, 0xFFFF, 0x0, 0x0, 0x0, 0x0⟩
  , ⟨"CANc_TX_CNT", 0x3201C, 4, 0x400, 1, 0x4, false, false, (.val 0x0), 0x0, 0xFFFFFFFF, 0x0, 0x0, 0x0, 0x0⟩
  , ⟨"CANc_RX_CNT", 0x32020, 4, 0x400, 1, 0x4, false, false, (.val 0x0), 0x0, 0xFFFFFFFF, 0x0, 0x0, 0x0, 0x0⟩
  , ⟨"CANc_BUSOFF_CNT", 0x32024, 4, 0x400, 1, 0x4, false, false, (.val 0x0), 0x0, 0xFFFFFFFF, 0x0, 0x0, 0x0, 0x0⟩
  , ⟨"CANc_LOST_CNT", 0x32028, 4, 0x400, 1, 0x4, false, false, (.val 0x0), 0x0, 0xFFFFFFFF, 0x0, 0x0, 0x0, 0x0⟩
  , ⟨"CANc_FLTk_ID", 0x32100, 4, 0x400, 32, 0x8, true, false, (.val 0x0), 0xFFFFFFFF, 0x0, 0x0, 0x0, 0x0, 0x0⟩
  , ⟨"CANc_FLTk_MASK", 0x32104, 4, 0x400, 32, 0x8, true, false, (.val 0x0), 0x1FFFFFFF, 0x0, 0x0, 0x0, 0x0, 0x0⟩ ]

/-- Register templates of offsets 0x34000 to 0x3407B. -/
def regs32 : List RegSpec :=
  [ ⟨"TL_CFG", 0x34000, 1, 0x4, 1, 0x4, true, false, (.val 0x1), 0x1F1F, 0x0, 0x0, 0x0, 0x0, 0x0⟩
  , ⟨"TL_STAT", 0x34004, 1, 0x4, 1, 0x4, false, false, (.val 0x0), 0x0, 0x3F, 0x0, 0x0, 0x0, 0x0⟩
  , ⟨"TL_GEN", 0x34008, 1, 0x4, 1, 0x4, false, false, (.val 0x0), 0x0, 0xFFFF, 0x0, 0x0, 0x0, 0x0⟩
  , ⟨"TL_LIVE", 0x3400C, 1, 0x4, 1, 0x4, false, false, (.val 0x0), 0x0, 0x7FF, 0x0, 0x0, 0x0, 0x0⟩
  , ⟨"TL_PORTp_STAT", 0x34040, 2, 0x20, 1, 0x4, false, false, (.val 0x0), 0x0, 0x7FF, 0x0, 0x0, 0x0, 0x0⟩
  , ⟨"TL_PORTp_HOPLAT", 0x34044, 2, 0x20, 1, 0x4, false, false, (.val 0x0), 0x0, 0xFFFF, 0x0, 0x0, 0x0, 0x0⟩
  , ⟨"TL_PORTp_TX_CNT", 0x34048, 2, 0x20, 1, 0x4, false, false, (.val 0x0), 0x0, 0xFFFFFFFF, 0x0, 0x0, 0x0, 0x0⟩
  , ⟨"TL_PORTp_RX_CNT", 0x3404C, 2, 0x20, 1, 0x4, false, false, (.val 0x0), 0x0, 0xFFFFFFFF, 0x0, 0x0, 0x0, 0x0⟩
  , ⟨"TL_PORTp_CRC_CNT", 0x34050, 2, 0x20, 1, 0x4, false, false, (.val 0x0), 0x0, 0xFFFFFFFF, 0x0, 0x0, 0x0, 0x0⟩
  , ⟨"TL_PORTp_STALE_CNT", 0x34054, 2, 0x20, 1, 0x4, false, false, (.val 0x0), 0x0, 0xFFFFFFFF, 0x0, 0x0, 0x0, 0x0⟩
  , ⟨"TL_PORTp_DOWN_CNT", 0x34058, 2, 0x20, 1, 0x4, false, false, (.val 0x0), 0x0, 0xFFFFFFFF, 0x0, 0x0, 0x0, 0x0⟩ ]

/-- Register templates of offsets 0x34100 to 0x3601B. -/
def regs33 : List RegSpec :=
  [ ⟨"TL_GENq_SEEN", 0x34100, 8, 0x4, 1, 0x4, false, false, (.val 0x0), 0x0, 0x1FFFF, 0x0, 0x0, 0x0, 0x0⟩
  , ⟨"RED_CFG", 0x36000, 1, 0x4, 1, 0x4, true, false, (.val 0x300), 0x371, 0x0, 0x0, 0x0, 0x0, 0x0⟩
  , ⟨"RED_CTL", 0x36004, 1, 0x4, 1, 0x4, false, false, (.val 0x0), 0x0, 0x0, 0x3, 0x0, 0x0, 0x0⟩
  , ⟨"RED_STAT", 0x36008, 1, 0x4, 1, 0x4, false, false, (.val 0x0), 0x0, 0x1FF03C7, 0x0, 0x0, 0x0, 0x0⟩
  , ⟨"RED_TIMING", 0x3600C, 1, 0x4, 1, 0x4, true, false, (.val 0x640A04), 0xFFFFFF1F, 0x0, 0x0, 0x0, 0x0, 0x0⟩
  , ⟨"RED_MIRROR_MASK", 0x36010, 1, 0x4, 1, 0x4, true, false, (.val 0x3F), 0x3F, 0x0, 0x0, 0x0, 0x0, 0x0⟩
  , ⟨"RED_MIRROR_CFG", 0x36014, 1, 0x4, 1, 0x4, true, false, (.val 0x8), 0xF, 0x0, 0x0, 0x0, 0x0, 0x0⟩
  , ⟨"RED_MIRROR_STAT", 0x36018, 1, 0x4, 1, 0x4, false, false, (.val 0x0), 0x0, 0xFFFF003F, 0x0, 0x0, 0x0, 0x0⟩ ]

/-- Register templates of offsets 0x3601C to 0x38007. -/
def regs34 : List RegSpec :=
  [ ⟨"RED_CFG_DIGEST", 0x3601C, 1, 0x4, 1, 0x4, false, false, (.val 0x0), 0x0, 0xFFFFFFFF, 0x0, 0x0, 0x0, 0x0⟩
  , ⟨"RED_HEALTHY", 0x36020, 1, 0x4, 1, 0x4, false, false, (.val 0x0), 0x0, 0xFFFFFFFF, 0x0, 0x0, 0x0, 0x0⟩
  , ⟨"RED_LAST_GAP", 0x36024, 1, 0x4, 1, 0x4, false, false, (.val 0x0), 0x0, 0xFFFF, 0x0, 0x0, 0x0, 0x0⟩
  , ⟨"RED_TAKEOVER_CNT", 0x36028, 1, 0x4, 1, 0x4, false, false, (.val 0x0), 0x0, 0xFFFFFFFF, 0x0, 0x0, 0x0, 0x0⟩
  , ⟨"RED_REVERT_CNT", 0x3602C, 1, 0x4, 1, 0x4, false, false, (.val 0x0), 0x0, 0xFFFFFFFF, 0x0, 0x0, 0x0, 0x0⟩
  , ⟨"RED_MIRROR_GAP_CNT", 0x36030, 1, 0x4, 1, 0x4, false, false, (.val 0x0), 0x0, 0xFFFFFFFF, 0x0, 0x0, 0x0, 0x0⟩
  , ⟨"UPD_CFG", 0x38000, 1, 0x4, 1, 0x4, false, false, (.val 0x3E80258), 0x7FFFFFF, 0x0, 0x0, 0x0, 0x0, 0x0⟩
  , ⟨"UPD_CTL", 0x38004, 1, 0x4, 1, 0x4, false, false, (.val 0x0), 0x0, 0x0, 0xF, 0x0, 0x0, 0x0⟩ ]

/-- Register templates of offsets 0x38008 to 0x38027. -/
def regs35 : List RegSpec :=
  [ ⟨"UPD_STAT", 0x38008, 1, 0x4, 1, 0x4, false, false, (.val 0x4000), 0x0, 0xF0FF07, 0x0, 0x70, 0x0, 0x0⟩
  , ⟨"UPD_BUNDLE_ID", 0x3800C, 1, 0x4, 1, 0x4, false, false, (.val 0x0), 0x0, 0xFFFFFFFF, 0x0, 0x0, 0x0, 0x0⟩
  , ⟨"UPD_SECVER", 0x38010, 1, 0x4, 1, 0x4, false, false, (.val 0x0), 0x0, 0xFFFF, 0x0, 0x0, 0x0, 0x0⟩
  , ⟨"UPD_DEADLINE_LO", 0x38014, 1, 0x4, 1, 0x4, false, false, (.val 0x0), 0x0, 0xFFFFFFFF, 0x0, 0x0, 0x0, 0x0⟩
  , ⟨"UPD_DEADLINE_HI", 0x38018, 1, 0x4, 1, 0x4, false, false, (.val 0x0), 0x0, 0xFFFF, 0x0, 0x0, 0x0, 0x0⟩
  , ⟨"UPD_TOKEN_LO", 0x3801C, 1, 0x4, 1, 0x4, false, false, (.val 0x0), 0xFFFFFFFF, 0x0, 0x0, 0x0, 0x0, 0x0⟩
  , ⟨"UPD_TOKEN_HI", 0x38020, 1, 0x4, 1, 0x4, false, false, (.val 0x0), 0xFFFFFFFF, 0x0, 0x0, 0x0, 0x0, 0x0⟩
  , ⟨"UPD_LOCK", 0x38024, 1, 0x4, 1, 0x4, false, false, (.val 0x0), 0x0, 0xFFFF0007, 0x0, 0x0, 0x0, 0x0⟩ ]

/-- Register templates of offsets 0x38028 to 0x3C007. -/
def regs36 : List RegSpec :=
  [ ⟨"UPD_RUN_LIMIT", 0x38028, 1, 0x4, 1, 0x4, false, false, (.val 0x7A120), 0xFFFFFF, 0x0, 0x0, 0x0, 0x0, 0x0⟩
  , ⟨"UPD_PARTk_STAT", 0x38100, 16, 0x10, 1, 0x4, false, false, (.val 0x0), 0x0, 0xFFFFFF0F, 0x0, 0x0, 0x0, 0x0⟩
  , ⟨"UPD_PARTk_VER", 0x38104, 16, 0x10, 1, 0x4, false, false, (.val 0x0), 0x0, 0xFFFFFFFF, 0x0, 0x0, 0x0, 0x0⟩
  , ⟨"DBG_CTL", 0x3C000, 1, 0x4, 1, 0x4, false, false, (.val 0x0), 0x1, 0x0, 0x0, 0x0, 0x0, 0x0⟩
  , ⟨"DBG_LOCK", 0x3C004, 1, 0x4, 1, 0x4, false, false, (.val 0x0), 0x0, 0x2, 0x0, 0x0, 0x0, 0x1⟩ ]

/-- The templates among which an offset is looked up. -/
def regsAt (o : Nat) : List RegSpec :=
  if o < 0x24C00 then
    if o < 0x07030 then
      if o < 0x04200 then
        if o < 0x02014 then
          if o < 0x01004 then
            regs00
          else
            regs01
        else
          if o < 0x0301C then
            regs02
          else
            regs03
      else
        if o < 0x06008 then
          if o < 0x05010 then
            regs04
          else
            regs05
        else
          if o < 0x06120 then
            regs06
          else
            if o < 0x07010 then
              regs07
            else
              regs08
    else
      if o < 0x13000 then
        if o < 0x0C000 then
          if o < 0x08100 then
            regs09
          else
            regs10
        else
          if o < 0x0CA00 then
            regs11
          else
            regs12
      else
        if o < 0x22000 then
          if o < 0x20000 then
            regs13
          else
            regs14
        else
          if o < 0x24008 then
            regs15
          else
            if o < 0x24400 then
              regs16
            else
              regs17
  else
    if o < 0x2C400 then
      if o < 0x29000 then
        if o < 0x25828 then
          if o < 0x25808 then
            regs18
          else
            regs19
        else
          if o < 0x25884 then
            regs20
          else
            regs21
      else
        if o < 0x2C000 then
          if o < 0x2A014 then
            regs22
          else
            regs23
        else
          if o < 0x2C200 then
            regs24
          else
            if o < 0x2C300 then
              regs25
            else
              regs26
    else
      if o < 0x34000 then
        if o < 0x2E200 then
          if o < 0x2E014 then
            regs27
          else
            regs28
        else
          if o < 0x30000 then
            regs29
          else
            if o < 0x30C00 then
              regs30
            else
              regs31
      else
        if o < 0x3601C then
          if o < 0x34100 then
            regs32
          else
            regs33
        else
          if o < 0x38008 then
            regs34
          else
            if o < 0x38028 then
              regs35
            else
              regs36

/-- Every template of the map. -/
def allRegs : List RegSpec :=
  regs00 ++ regs01 ++ regs02 ++ regs03 ++ regs04 ++ regs05 ++ regs06 ++ regs07 ++ regs08 ++ regs09 ++ regs10 ++ regs11 ++ regs12 ++ regs13 ++ regs14 ++ regs15 ++ regs16 ++ regs17 ++ regs18 ++ regs19 ++ regs20 ++ regs21 ++ regs22 ++ regs23 ++ regs24 ++ regs25 ++ regs26 ++ regs27 ++ regs28 ++ regs29 ++ regs30 ++ regs31 ++ regs32 ++ regs33 ++ regs34 ++ regs35 ++ regs36

/-- Whether an offset is an instance of a template, and which: the two instance indexes (R506, R507). -/
def RegSpec.index? (r : RegSpec) (o : Nat) : Option (Nat × Nat) :=
  if o < r.base then none
  else
    let d := o - r.base
    let i := d / r.str1
    let e := d % r.str1
    if i < r.cnt1 ∧ e / r.str2 < r.cnt2 ∧ e % r.str2 = 0 then some (i, e / r.str2) else none

/-- The template and instance at an offset, if the offset is assigned (R506). -/
def findReg (l : List RegSpec) (o : Nat) : Option (RegSpec × Nat × Nat) :=
  match l with
  | [] => none
  | r :: t =>
    match r.index? o with
    | some (i, j) => some (r, i, j)
    | none => findReg t o

/-- The register assigned at a BAR0 offset (R505, R506); `none` for an unassigned offset. -/
def regAt (o : Nat) : Option (RegSpec × Nat × Nat) := findReg (regsAt o) o

/-- The assigned fault sources whose table gives class C (R421, R323, R344, R402, R104, R168, R263, R292, R199, R235, R373, R467, R484). -/
def classCSources : List Nat :=
  [0, 2, 4, 21, 33, 34, 35, 39, 48, 49, 53, 54, 70, 71, 104, 109, 110, 134, 135, 138, 149, 150, 161, 165, 166, 170,
   185, 186, 187, 189, 191, 194, 195, 196, 198, 200, 225, 228, 229, 231, 233, 237, 238, 240, 246, 247, 250, 253]

/-- The assigned fault sources whose table gives class U. -/
def classUSources : List Nat :=
  [1, 3, 5, 6, 7, 20, 32, 36, 37, 38, 50, 51, 52, 64, 65, 66, 67, 68, 69, 72, 96, 97, 98, 105, 106, 107, 108, 111,
   128, 129, 130, 131, 132, 133, 136, 137, 139, 144, 145, 146, 147, 148, 160, 162, 163, 164, 167, 168, 169, 171,
   184, 188, 190, 192, 193, 197, 199, 201, 224, 226, 227, 230, 232, 234, 235, 236, 241, 242, 243, 244, 245, 248,
   249, 251, 252, 254, 255]

/-- The reset word of FLT_SRCs_CFG (R420, R430, and the reset values by class of R426): bit 31 assigned, bits 9-8 the
class. No source of the spec's tables has class F. HIF_LINK_DOWN accepts only Irq and Nmi, so its Record bit reads 0 (R323). -/
def srcReset (s : Nat) : Nat :=
  if s = 34 then 0x80000041
  else if classCSources.contains s then 0x800000C1
  else if classUSources.contains s then 0x80000185
  else 0

/-- The reset value of an instance of a template (R510). -/
def RegSpec.reset (r : RegSpec) (i : Nat) : Nat :=
  match r.rst with
  | .val v => v
  | .idx => i
  | .src => srcReset i
  | .nvm => [0, 0xE, 0xA, 0xC, 0x9, 0xB].getD i 0
  | .mc => [0xC, 0xD, 0xB, 0xA].getD i 0

/-- What a register that nothing has written reads as: its reset value (R510); 0 at an unassigned offset (R11). -/
def resetWord (o : Nat) : Word :=
  match regAt o with
  | some (r, i, _) => BitVec.ofNat 32 (r.reset i)
  | none => 0

/-- GLB_ID (R2 of chapter 00). -/
def GLB_ID : Nat := 0x00000
def GLB_ID_PartNum : Fld := ⟨GLB_ID, 31, 16⟩
def GLB_ID_Family : Fld := ⟨GLB_ID, 15, 12⟩
def GLB_ID_StepMajor : Fld := ⟨GLB_ID, 11, 8⟩
def GLB_ID_StepMinor : Fld := ⟨GLB_ID, 7, 4⟩
def GLB_ID_Pkg : Fld := ⟨GLB_ID, 3, 0⟩
/-- GLB_STAT (R37 of chapter 01). -/
def GLB_STAT : Nat := 0x00004
def GLB_STAT_Fallback : Fld := ⟨GLB_STAT, 19, 19⟩
def GLB_STAT_CfgBank : Fld := ⟨GLB_STAT, 18, 18⟩
def GLB_STAT_LtBank : Fld := ⟨GLB_STAT, 17, 17⟩
def GLB_STAT_FwBank : Fld := ⟨GLB_STAT, 16, 16⟩
def GLB_STAT_Active : Fld := ⟨GLB_STAT, 12, 12⟩
def GLB_STAT_Role : Fld := ⟨GLB_STAT, 11, 11⟩
def GLB_STAT_Pos : Fld := ⟨GLB_STAT, 10, 8⟩
def GLB_STAT_Standalone : Fld := ⟨GLB_STAT, 7, 7⟩
def GLB_STAT_ShelfMaster : Fld := ⟨GLB_STAT, 6, 6⟩
def GLB_STAT_HostAttached : Fld := ⟨GLB_STAT, 5, 5⟩
def GLB_STAT_HostLink : Fld := ⟨GLB_STAT, 4, 4⟩
def GLB_STAT_StartMode : Fld := ⟨GLB_STAT, 3, 2⟩
def GLB_STAT_Running : Fld := ⟨GLB_STAT, 1, 1⟩
def GLB_STAT_CfgValid : Fld := ⟨GLB_STAT, 0, 0⟩
/-- GLB_SERIAL_LO (R513 of chapter 19). -/
def GLB_SERIAL_LO : Nat := 0x00008
def GLB_SERIAL_LO_Lo : Fld := ⟨GLB_SERIAL_LO, 31, 0⟩
/-- GLB_SERIAL_HI (R513 of chapter 19). -/
def GLB_SERIAL_HI : Nat := 0x0000C
def GLB_SERIAL_HI_Hi : Fld := ⟨GLB_SERIAL_HI, 31, 0⟩
/-- GLB_SHADOW (R513 of chapter 19). -/
def GLB_SHADOW : Nat := 0x00010
def GLB_SHADOW_Snap : Fld := ⟨GLB_SHADOW, 1, 1⟩
def GLB_SHADOW_Dirty : Fld := ⟨GLB_SHADOW, 0, 0⟩
/-- GLB_CFG_ID (R513 of chapter 19). -/
def GLB_CFG_ID : Nat := 0x00014
def GLB_CFG_ID_CfgId : Fld := ⟨GLB_CFG_ID, 31, 0⟩
/-- GLB_SCRATCH (R513 of chapter 19). -/
def GLB_SCRATCH : Nat := 0x00018
def GLB_SCRATCH_Scratch : Fld := ⟨GLB_SCRATCH, 31, 0⟩
/-- CLK_STAT (R484 of chapter 17). -/
def CLK_STAT : Nat := 0x01000
def CLK_STAT_GuardErr : Fld := ⟨CLK_STAT, 4, 4⟩
def CLK_STAT_RefErr : Fld := ⟨CLK_STAT, 3, 3⟩
def CLK_STAT_RefclkOk : Fld := ⟨CLK_STAT, 2, 2⟩
def CLK_STAT_PllLock : Fld := ⟨CLK_STAT, 1, 1⟩
def CLK_STAT_OscOk : Fld := ⟨CLK_STAT, 0, 0⟩
/-- CLK_CHECK_CFG (R473 of chapter 17). -/
def CLK_CHECK_CFG : Nat := 0x01004
def CLK_CHECK_CFG_RefTol : Fld := ⟨CLK_CHECK_CFG, 15, 8⟩
def CLK_CHECK_CFG_RefEn : Fld := ⟨CLK_CHECK_CFG, 0, 0⟩
/-- CLK_OSC_ERR (R473 of chapter 17). -/
def CLK_OSC_ERR : Nat := 0x01008
def CLK_OSC_ERR_Err : Fld := ⟨CLK_OSC_ERR, 15, 0⟩
/-- CLK_TRIM (R484 of chapter 17). -/
def CLK_TRIM : Nat := 0x0100C
def CLK_TRIM_Trim : Fld := ⟨CLK_TRIM, 15, 0⟩
/-- PWR_STAT (R471 of chapter 17). -/
def PWR_STAT : Nat := 0x02000
def PWR_STAT_CoreLim : Fld := ⟨PWR_STAT, 9, 9⟩
def PWR_STAT_VhvWarn : Fld := ⟨PWR_STAT, 8, 8⟩
def PWR_STAT_VioOk : Fld := ⟨PWR_STAT, 3, 0⟩
/-- PWR_CTL (R475 of chapter 17). -/
def PWR_CTL : Nat := 0x02004
def PWR_CTL_Key : Fld := ⟨PWR_CTL, 15, 8⟩
def PWR_CTL_ChipReset : Fld := ⟨PWR_CTL, 0, 0⟩
/-- PWR_RST_CAUSE (R475 of chapter 17). -/
def PWR_RST_CAUSE : Nat := 0x02008
def PWR_RST_CAUSE_Cause : Fld := ⟨PWR_RST_CAUSE, 7, 0⟩
/-- PWR_VHV_WARN (R471 of chapter 17). -/
def PWR_VHV_WARN : Nat := 0x0200C
def PWR_VHV_WARN_V : Fld := ⟨PWR_VHV_WARN, 31, 0⟩
/-- PWR_BOOT_TIME (R480 of chapter 17). -/
def PWR_BOOT_TIME : Nat := 0x02010
def PWR_BOOT_TIME_Us : Fld := ⟨PWR_BOOT_TIME, 19, 0⟩
/-- PWR_RST_CNT (R477 of chapter 17). -/
def PWR_RST_CNT : Nat := 0x02014
def PWR_RST_CNT_Cnt : Fld := ⟨PWR_RST_CNT, 31, 0⟩
/-- FRM_CTL (R74 of chapter 02). -/
def FRM_CTL : Nat := 0x03000
def FRM_CTL_BeLimit : Fld := ⟨FRM_CTL, 31, 16⟩
def FRM_CTL_AdmitMax : Fld := ⟨FRM_CTL, 15, 8⟩
def FRM_CTL_Abandon : Fld := ⟨FRM_CTL, 2, 2⟩
def FRM_CTL_Apply : Fld := ⟨FRM_CTL, 1, 1⟩
def FRM_CTL_Compile : Fld := ⟨FRM_CTL, 0, 0⟩
/-- FRM_STAT (R74 of chapter 02). -/
def FRM_STAT : Nat := 0x03004
def FRM_STAT_SyncLost : Fld := ⟨FRM_STAT, 11, 11⟩
def FRM_STAT_DrainErr : Fld := ⟨FRM_STAT, 10, 10⟩
def FRM_STAT_Missed : Fld := ⟨FRM_STAT, 9, 9⟩
def FRM_STAT_Overrun : Fld := ⟨FRM_STAT, 8, 8⟩
def FRM_STAT_Pending : Fld := ⟨FRM_STAT, 7, 7⟩
def FRM_STAT_Compiling : Fld := ⟨FRM_STAT, 6, 6⟩
def FRM_STAT_TimingMaster : Fld := ⟨FRM_STAT, 5, 5⟩
def FRM_STAT_SyncSrc : Fld := ⟨FRM_STAT, 4, 3⟩
def FRM_STAT_Holdover : Fld := ⟨FRM_STAT, 2, 2⟩
def FRM_STAT_Locked : Fld := ⟨FRM_STAT, 1, 1⟩
def FRM_STAT_Running : Fld := ⟨FRM_STAT, 0, 0⟩
/-- FRM_FRAME_CNT_LO (R16 of chapter 02). -/
def FRM_FRAME_CNT_LO : Nat := 0x03008
def FRM_FRAME_CNT_LO_Lo : Fld := ⟨FRM_FRAME_CNT_LO, 31, 0⟩
/-- FRM_FRAME_CNT_HI (R16 of chapter 02). -/
def FRM_FRAME_CNT_HI : Nat := 0x0300C
def FRM_FRAME_CNT_HI_Hi : Fld := ⟨FRM_FRAME_CNT_HI, 31, 0⟩
/-- FRM_SYNC_CFG (R64 of chapter 02). -/
def FRM_SYNC_CFG : Nat := 0x03010
def FRM_SYNC_CFG_Phase : Fld := ⟨FRM_SYNC_CFG, 31, 24⟩
def FRM_SYNC_CFG_FrameMul : Fld := ⟨FRM_SYNC_CFG, 21, 16⟩
def FRM_SYNC_CFG_SyncDiv : Fld := ⟨FRM_SYNC_CFG, 13, 8⟩
def FRM_SYNC_CFG_Edge : Fld := ⟨FRM_SYNC_CFG, 1, 1⟩
def FRM_SYNC_CFG_En : Fld := ⟨FRM_SYNC_CFG, 0, 0⟩
/-- FRM_COMPILE_STAT (R47 of chapter 02). -/
def FRM_COMPILE_STAT : Nat := 0x03014
def FRM_COMPILE_STAT_Item : Fld := ⟨FRM_COMPILE_STAT, 31, 24⟩
def FRM_COMPILE_STAT_Slot : Fld := ⟨FRM_COMPILE_STAT, 21, 16⟩
def FRM_COMPILE_STAT_Lane : Fld := ⟨FRM_COMPILE_STAT, 12, 8⟩
def FRM_COMPILE_STAT_Result : Fld := ⟨FRM_COMPILE_STAT, 3, 0⟩
/-- FRM_PHASE_ERR (R74 of chapter 02). -/
def FRM_PHASE_ERR : Nat := 0x03018
def FRM_PHASE_ERR_Err : Fld := ⟨FRM_PHASE_ERR, 15, 0⟩
/-- FRM_MISS_CNT (R59 of chapter 02). -/
def FRM_MISS_CNT : Nat := 0x0301C
def FRM_MISS_CNT_Cnt : Fld := ⟨FRM_MISS_CNT, 31, 0⟩
/-- FRM_REFUSED_CNT (R74 of chapter 02). -/
def FRM_REFUSED_CNT : Nat := 0x03020
def FRM_REFUSED_CNT_Cnt : Fld := ⟨FRM_REFUSED_CNT, 31, 0⟩
/-- FRM_OVERRUN_CNT (R74 of chapter 02). -/
def FRM_OVERRUN_CNT : Nat := 0x03024
def FRM_OVERRUN_CNT_Cnt : Fld := ⟨FRM_OVERRUN_CNT, 31, 0⟩
/-- FRM_SET_OFF_LO (R70 of chapter 02). -/
def FRM_SET_OFF_LO : Nat := 0x03028
def FRM_SET_OFF_LO_Lo : Fld := ⟨FRM_SET_OFF_LO, 31, 0⟩
/-- FRM_SET_OFF_HI (R70 of chapter 02). -/
def FRM_SET_OFF_HI : Nat := 0x0302C
def FRM_SET_OFF_HI_Hi : Fld := ⟨FRM_SET_OFF_HI, 31, 0⟩
/-- FRM_LANEk_USE (R42 of chapter 02). -/
def FRM_LANE_USE (k : Nat) : Nat := 0x03100 + 0x4 * k
def FRM_LANE_USE_Reserved (k : Nat) : Fld := ⟨FRM_LANE_USE k, 15, 8⟩
def FRM_LANE_USE_Booked (k : Nat) : Fld := ⟨FRM_LANE_USE k, 7, 0⟩
/-- TMRi_CFG (R432 of chapter 15). -/
def TMR_CFG (i : Nat) : Nat := 0x04000 + 0x20 * i
def TMR_CFG_EvEn (i : Nat) : Fld := ⟨TMR_CFG i, 9, 9⟩
def TMR_CFG_Mode (i : Nat) : Fld := ⟨TMR_CFG i, 8, 8⟩
def TMR_CFG_Pre (i : Nat) : Fld := ⟨TMR_CFG i, 7, 0⟩
/-- TMRi_CTL (R432 of chapter 15). -/
def TMR_CTL (i : Nat) : Nat := 0x04004 + 0x20 * i
def TMR_CTL_SyncStart (i : Nat) : Fld := ⟨TMR_CTL i, 2, 2⟩
def TMR_CTL_Stop (i : Nat) : Fld := ⟨TMR_CTL i, 1, 1⟩
def TMR_CTL_Start (i : Nat) : Fld := ⟨TMR_CTL i, 0, 0⟩
/-- TMRi_STAT (R432 of chapter 15). -/
def TMR_STAT (i : Nat) : Nat := 0x04008 + 0x20 * i
def TMR_STAT_CmpLate (i : Nat) : Fld := ⟨TMR_STAT i, 3, 3⟩
def TMR_STAT_Match (i : Nat) : Fld := ⟨TMR_STAT i, 2, 2⟩
def TMR_STAT_State (i : Nat) : Fld := ⟨TMR_STAT i, 1, 0⟩
/-- TMRi_CMP (R434 of chapter 15). -/
def TMR_CMP (i : Nat) : Nat := 0x0400C + 0x20 * i
def TMR_CMP_Cmp (i : Nat) : Fld := ⟨TMR_CMP i, 31, 0⟩
/-- TMRi_CNT (R431 of chapter 15). -/
def TMR_CNT (i : Nat) : Nat := 0x04010 + 0x20 * i
def TMR_CNT_Cnt (i : Nat) : Fld := ⟨TMR_CNT i, 31, 0⟩
/-- TMRi_MATCH_CNT (R433 of chapter 15). -/
def TMR_MATCH_CNT (i : Nat) : Nat := 0x04014 + 0x20 * i
def TMR_MATCH_CNT_Cnt (i : Nat) : Fld := ⟨TMR_MATCH_CNT i, 31, 0⟩
/-- TMR_OPMS_LO (R436 of chapter 15). -/
def TMR_OPMS_LO : Nat := 0x04200
def TMR_OPMS_LO_Lo : Fld := ⟨TMR_OPMS_LO, 31, 0⟩
/-- TMR_OPMS_HI (R436 of chapter 15). -/
def TMR_OPMS_HI : Nat := 0x04204
def TMR_OPMS_HI_Hi : Fld := ⟨TMR_OPMS_HI, 15, 0⟩
/-- TMR_PWRCYC (R436 of chapter 15). -/
def TMR_PWRCYC : Nat := 0x04208
def TMR_PWRCYC_Cnt : Fld := ⟨TMR_PWRCYC, 31, 0⟩
/-- TMR_MATCH_SUM (R444 of chapter 15). -/
def TMR_MATCH_SUM : Nat := 0x0420C
def TMR_MATCH_SUM_Match : Fld := ⟨TMR_MATCH_SUM, 15, 0⟩
/-- FLT_STAT (R430 of chapter 14). -/
def FLT_STAT : Nat := 0x05000
def FLT_STAT_MaxClass : Fld := ⟨FLT_STAT, 9, 8⟩
def FLT_STAT_FaultN : Fld := ⟨FLT_STAT, 2, 2⟩
def FLT_STAT_InjRefused : Fld := ⟨FLT_STAT, 1, 1⟩
def FLT_STAT_Ovf : Fld := ⟨FLT_STAT, 0, 0⟩
/-- FLT_FIRST_SRC (R423 of chapter 14). -/
def FLT_FIRST_SRC : Nat := 0x05004
def FLT_FIRST_SRC_Valid : Fld := ⟨FLT_FIRST_SRC, 31, 31⟩
def FLT_FIRST_SRC_Injected : Fld := ⟨FLT_FIRST_SRC, 30, 30⟩
def FLT_FIRST_SRC_Class : Fld := ⟨FLT_FIRST_SRC, 17, 16⟩
def FLT_FIRST_SRC_Src : Fld := ⟨FLT_FIRST_SRC, 7, 0⟩
/-- FLT_FIRST_FRAME (R423 of chapter 14). -/
def FLT_FIRST_FRAME : Nat := 0x05008
def FLT_FIRST_FRAME_Frame : Fld := ⟨FLT_FIRST_FRAME, 31, 0⟩
/-- FLT_FIRST_SYN (R423 of chapter 14). -/
def FLT_FIRST_SYN : Nat := 0x0500C
def FLT_FIRST_SYN_Syn : Fld := ⟨FLT_FIRST_SYN, 15, 0⟩
/-- FLT_INJ (R427 of chapter 14). -/
def FLT_INJ : Nat := 0x05010
def FLT_INJ_Go : Fld := ⟨FLT_INJ, 31, 31⟩
def FLT_INJ_Armed : Fld := ⟨FLT_INJ, 30, 30⟩
def FLT_INJ_Class : Fld := ⟨FLT_INJ, 25, 24⟩
def FLT_INJ_Src : Fld := ⟨FLT_INJ, 23, 16⟩
def FLT_INJ_InvMask : Fld := ⟨FLT_INJ, 15, 14⟩
def FLT_INJ_Inst : Fld := ⟨FLT_INJ, 12, 8⟩
def FLT_INJ_Target : Fld := ⟨FLT_INJ, 7, 4⟩
def FLT_INJ_Mode : Fld := ⟨FLT_INJ, 1, 0⟩
/-- FLT_INJ_SYN (R427 of chapter 14). -/
def FLT_INJ_SYN : Nat := 0x05014
def FLT_INJ_SYN_Syn : Fld := ⟨FLT_INJ_SYN, 15, 0⟩
/-- FLT_ESC_CNT (R424 of chapter 14). -/
def FLT_ESC_CNT : Nat := 0x05018
def FLT_ESC_CNT_Cnt : Fld := ⟨FLT_ESC_CNT, 31, 0⟩
/-- FLT_GRPg_STAT (R422 of chapter 14). -/
def FLT_GRP_STAT (g : Nat) : Nat := 0x05040 + 0x4 * g
def FLT_GRP_STAT_Bits (g : Nat) : Fld := ⟨FLT_GRP_STAT g, 31, 0⟩
/-- FLT_SRCs_CFG (R430 of chapter 14). -/
def FLT_SRC_CFG (s : Nat) : Nat := 0x05400 + 0x4 * s
def FLT_SRC_CFG_Assigned (s : Nat) : Fld := ⟨FLT_SRC_CFG s, 31, 31⟩
def FLT_SRC_CFG_Class (s : Nat) : Fld := ⟨FLT_SRC_CFG s, 9, 8⟩
def FLT_SRC_CFG_Record (s : Nat) : Fld := ⟨FLT_SRC_CFG s, 7, 7⟩
def FLT_SRC_CFG_AutoAck (s : Nat) : Fld := ⟨FLT_SRC_CFG s, 6, 6⟩
def FLT_SRC_CFG_FaultN (s : Nat) : Fld := ⟨FLT_SRC_CFG s, 5, 5⟩
def FLT_SRC_CFG_ChipReset (s : Nat) : Fld := ⟨FLT_SRC_CFG s, 4, 4⟩
def FLT_SRC_CFG_BlockReset (s : Nat) : Fld := ⟨FLT_SRC_CFG s, 3, 3⟩
def FLT_SRC_CFG_Nmi (s : Nat) : Fld := ⟨FLT_SRC_CFG s, 2, 2⟩
def FLT_SRC_CFG_Alert (s : Nat) : Fld := ⟨FLT_SRC_CFG s, 1, 1⟩
def FLT_SRC_CFG_Irq (s : Nat) : Fld := ⟨FLT_SRC_CFG s, 0, 0⟩
/-- FLT_SRCs_CNT (R422 of chapter 14). -/
def FLT_SRC_CNT (s : Nat) : Nat := 0x05800 + 0x4 * s
def FLT_SRC_CNT_Syn (s : Nat) : Fld := ⟨FLT_SRC_CNT s, 31, 16⟩
def FLT_SRC_CNT_Raises (s : Nat) : Fld := ⟨FLT_SRC_CNT s, 15, 0⟩
/-- RBT_NVM_CFG (R439 of chapter 15). -/
def RBT_NVM_CFG : Nat := 0x06000
def RBT_NVM_CFG_WaitMax : Fld := ⟨RBT_NVM_CFG, 7, 0⟩
/-- RBT_NVM_STAT (R441 of chapter 15). -/
def RBT_NVM_STAT : Nat := 0x06004
def RBT_NVM_STAT_Gasp : Fld := ⟨RBT_NVM_STAT, 5, 5⟩
def RBT_NVM_STAT_Parked : Fld := ⟨RBT_NVM_STAT, 4, 4⟩
def RBT_NVM_STAT_Busy : Fld := ⟨RBT_NVM_STAT, 3, 3⟩
def RBT_NVM_STAT_Owner : Fld := ⟨RBT_NVM_STAT, 2, 0⟩
/-- RBT_NVM_PREEMPT_CNT (R442 of chapter 15). -/
def RBT_NVM_PREEMPT_CNT : Nat := 0x06008
def RBT_NVM_PREEMPT_CNT_Cnt : Fld := ⟨RBT_NVM_PREEMPT_CNT, 31, 0⟩
/-- RBT_NVM_REQr_CFG (R438 of chapter 15). -/
def RBT_NVM_REQ_CFG (r : Nat) : Nat := 0x06020 + 0x10 * r
def RBT_NVM_REQ_CFG_En (r : Nat) : Fld := ⟨RBT_NVM_REQ_CFG r, 3, 3⟩
def RBT_NVM_REQ_CFG_BasePrio (r : Nat) : Fld := ⟨RBT_NVM_REQ_CFG r, 2, 0⟩
/-- RBT_NVM_REQr_STAT (R440 of chapter 15). -/
def RBT_NVM_REQ_STAT (r : Nat) : Nat := 0x06024 + 0x10 * r
def RBT_NVM_REQ_STAT_Pending (r : Nat) : Fld := ⟨RBT_NVM_REQ_STAT r, 16, 16⟩
def RBT_NVM_REQ_STAT_WaitPeak (r : Nat) : Fld := ⟨RBT_NVM_REQ_STAT r, 15, 8⟩
def RBT_NVM_REQ_STAT_Wait (r : Nat) : Fld := ⟨RBT_NVM_REQ_STAT r, 7, 0⟩
/-- RBT_NVM_REQr_GRANT_CNT (R444 of chapter 15). -/
def RBT_NVM_REQ_GRANT_CNT (r : Nat) : Nat := 0x06028 + 0x10 * r
def RBT_NVM_REQ_GRANT_CNT_Cnt (r : Nat) : Fld := ⟨RBT_NVM_REQ_GRANT_CNT r, 31, 0⟩
/-- RBT_NVM_REQr_FORCED_CNT (R440 of chapter 15). -/
def RBT_NVM_REQ_FORCED_CNT (r : Nat) : Nat := 0x0602C + 0x10 * r
def RBT_NVM_REQ_FORCED_CNT_Cnt (r : Nat) : Fld := ⟨RBT_NVM_REQ_FORCED_CNT r, 31, 0⟩
/-- RBT_MC_CFG (R439 of chapter 15). -/
def RBT_MC_CFG : Nat := 0x06100
def RBT_MC_CFG_WaitMax : Fld := ⟨RBT_MC_CFG, 7, 0⟩
/-- RBT_MC_STAT (R441 of chapter 15). -/
def RBT_MC_STAT : Nat := 0x06104
def RBT_MC_STAT_Gasp : Fld := ⟨RBT_MC_STAT, 5, 5⟩
def RBT_MC_STAT_Parked : Fld := ⟨RBT_MC_STAT, 4, 4⟩
def RBT_MC_STAT_Busy : Fld := ⟨RBT_MC_STAT, 3, 3⟩
def RBT_MC_STAT_Owner : Fld := ⟨RBT_MC_STAT, 2, 0⟩
/-- RBT_MC_PREEMPT_CNT (R442 of chapter 15). -/
def RBT_MC_PREEMPT_CNT : Nat := 0x06108
def RBT_MC_PREEMPT_CNT_Cnt : Fld := ⟨RBT_MC_PREEMPT_CNT, 31, 0⟩
/-- RBT_MC_REQr_CFG (R438 of chapter 15). -/
def RBT_MC_REQ_CFG (r : Nat) : Nat := 0x06120 + 0x10 * r
def RBT_MC_REQ_CFG_En (r : Nat) : Fld := ⟨RBT_MC_REQ_CFG r, 3, 3⟩
def RBT_MC_REQ_CFG_BasePrio (r : Nat) : Fld := ⟨RBT_MC_REQ_CFG r, 2, 0⟩
/-- RBT_MC_REQr_STAT (R440 of chapter 15). -/
def RBT_MC_REQ_STAT (r : Nat) : Nat := 0x06124 + 0x10 * r
def RBT_MC_REQ_STAT_Pending (r : Nat) : Fld := ⟨RBT_MC_REQ_STAT r, 16, 16⟩
def RBT_MC_REQ_STAT_WaitPeak (r : Nat) : Fld := ⟨RBT_MC_REQ_STAT r, 15, 8⟩
def RBT_MC_REQ_STAT_Wait (r : Nat) : Fld := ⟨RBT_MC_REQ_STAT r, 7, 0⟩
/-- RBT_MC_REQr_GRANT_CNT (R444 of chapter 15). -/
def RBT_MC_REQ_GRANT_CNT (r : Nat) : Nat := 0x06128 + 0x10 * r
def RBT_MC_REQ_GRANT_CNT_Cnt (r : Nat) : Fld := ⟨RBT_MC_REQ_GRANT_CNT r, 31, 0⟩
/-- RBT_MC_REQr_FORCED_CNT (R440 of chapter 15). -/
def RBT_MC_REQ_FORCED_CNT (r : Nat) : Nat := 0x0612C + 0x10 * r
def RBT_MC_REQ_FORCED_CNT_Cnt (r : Nat) : Fld := ⟨RBT_MC_REQ_FORCED_CNT r, 31, 0⟩
/-- ONX_CFG (R430 of chapter 14). -/
def ONX_CFG : Nat := 0x07000
def ONX_CFG_ArchEn : Fld := ⟨ONX_CFG, 24, 24⟩
def ONX_CFG_MarkMin : Fld := ⟨ONX_CFG, 23, 16⟩
def ONX_CFG_ArchPeriod : Fld := ⟨ONX_CFG, 15, 8⟩
def ONX_CFG_CommitSlots : Fld := ⟨ONX_CFG, 2, 0⟩
/-- ONX_STAT (R430 of chapter 14). -/
def ONX_STAT : Nat := 0x07004
def ONX_STAT_NoHead : Fld := ⟨ONX_STAT, 5, 5⟩
def ONX_STAT_Allow : Fld := ⟨ONX_STAT, 4, 4⟩
def ONX_STAT_QueueFull : Fld := ⟨ONX_STAT, 3, 3⟩
def ONX_STAT_Erasing : Fld := ⟨ONX_STAT, 2, 2⟩
def ONX_STAT_Gasp : Fld := ⟨ONX_STAT, 1, 1⟩
def ONX_STAT_Ready : Fld := ⟨ONX_STAT, 0, 0⟩
/-- ONX_NEXT_SEQ (R408 of chapter 14). -/
def ONX_NEXT_SEQ : Nat := 0x07008
def ONX_NEXT_SEQ_Seq : Fld := ⟨ONX_NEXT_SEQ, 31, 0⟩
/-- ONX_COMMIT_SEQ (R409 of chapter 14). -/
def ONX_COMMIT_SEQ : Nat := 0x0700C
def ONX_COMMIT_SEQ_Seq : Fld := ⟨ONX_COMMIT_SEQ, 31, 0⟩
/-- ONX_ARCH_SEQ (R412 of chapter 14). -/
def ONX_ARCH_SEQ : Nat := 0x07010
def ONX_ARCH_SEQ_Seq : Fld := ⟨ONX_ARCH_SEQ, 31, 0⟩
/-- ONX_OLDEST_SEQ (R416 of chapter 14). -/
def ONX_OLDEST_SEQ : Nat := 0x07014
def ONX_OLDEST_SEQ_Seq : Fld := ⟨ONX_OLDEST_SEQ, 31, 0⟩
/-- ONX_LOW_WATER (R419 of chapter 14). -/
def ONX_LOW_WATER : Nat := 0x07018
def ONX_LOW_WATER_Seq : Fld := ⟨ONX_LOW_WATER, 31, 0⟩
/-- ONX_PEND (R409 of chapter 14). -/
def ONX_PEND : Nat := 0x0701C
def ONX_PEND_N : Fld := ⟨ONX_PEND, 11, 0⟩
/-- ONX_LOST_CNT (R408 of chapter 14). -/
def ONX_LOST_CNT : Nat := 0x07020
def ONX_LOST_CNT_Cnt : Fld := ⟨ONX_LOST_CNT, 31, 0⟩
/-- ONX_REFUSED_CNT (R408 of chapter 14). -/
def ONX_REFUSED_CNT : Nat := 0x07024
def ONX_REFUSED_CNT_Cnt : Fld := ⟨ONX_REFUSED_CNT, 31, 0⟩
/-- ONX_SUPP_CNT (R413 of chapter 14). -/
def ONX_SUPP_CNT : Nat := 0x07028
def ONX_SUPP_CNT_Cnt : Fld := ⟨ONX_SUPP_CNT, 31, 0⟩
/-- ONX_ARCH_LOST_CNT (R412 of chapter 14). -/
def ONX_ARCH_LOST_CNT : Nat := 0x0702C
def ONX_ARCH_LOST_CNT_Cnt : Fld := ⟨ONX_ARCH_LOST_CNT, 31, 0⟩
/-- ONX_GAP_CNT (R430 of chapter 14). -/
def ONX_GAP_CNT : Nat := 0x07030
def ONX_GAP_CNT_Cnt : Fld := ⟨ONX_GAP_CNT, 31, 0⟩
/-- ONX_RLc_CFG (R413 of chapter 14). -/
def ONX_RL_CFG (c : Nat) : Nat := 0x07400 + 0x4 * c
def ONX_RL_CFG_Burst (c : Nat) : Fld := ⟨ONX_RL_CFG c, 23, 16⟩
def ONX_RL_CFG_Period (c : Nat) : Fld := ⟨ONX_RL_CFG c, 15, 0⟩
/-- ONX_RLc_SUPP (R413 of chapter 14). -/
def ONX_RL_SUPP (c : Nat) : Nat := 0x07800 + 0x4 * c
def ONX_RL_SUPP_Cnt (c : Nat) : Fld := ⟨ONX_RL_SUPP c, 15, 0⟩
/-- AFE_CTL (R515 of chapter 19). -/
def AFE_CTL : Nat := 0x08000
def AFE_CTL_TempAlarm : Fld := ⟨AFE_CTL, 15, 8⟩
def AFE_CTL_TempScan : Fld := ⟨AFE_CTL, 1, 1⟩
def AFE_CTL_McEn : Fld := ⟨AFE_CTL, 0, 0⟩
/-- AFE_STAT (R515 of chapter 19). -/
def AFE_STAT : Nat := 0x08004
def AFE_STAT_TempHighFlash : Fld := ⟨AFE_STAT, 3, 3⟩
def AFE_STAT_TempHighHv : Fld := ⟨AFE_STAT, 2, 2⟩
def AFE_STAT_TempHighLogic : Fld := ⟨AFE_STAT, 1, 1⟩
def AFE_STAT_McAvail : Fld := ⟨AFE_STAT, 0, 0⟩
/-- AFE_ST_CFG (R99 of chapter 03). -/
def AFE_ST_CFG : Nat := 0x08008
def AFE_ST_CFG_DacTol : Fld := ⟨AFE_ST_CFG, 31, 24⟩
def AFE_ST_CFG_McPeriod : Fld := ⟨AFE_ST_CFG, 23, 20⟩
def AFE_ST_CFG_RbPerFrame : Fld := ⟨AFE_ST_CFG, 19, 16⟩
def AFE_ST_CFG_SwPeriod : Fld := ⟨AFE_ST_CFG, 15, 8⟩
def AFE_ST_CFG_MaxAge : Fld := ⟨AFE_ST_CFG, 7, 6⟩
def AFE_ST_CFG_McCheck : Fld := ⟨AFE_ST_CFG, 5, 5⟩
def AFE_ST_CFG_Fallback : Fld := ⟨AFE_ST_CFG, 4, 4⟩
def AFE_ST_CFG_SwEn : Fld := ⟨AFE_ST_CFG, 3, 3⟩
def AFE_ST_CFG_RbEn : Fld := ⟨AFE_ST_CFG, 0, 0⟩
/-- AFE_ST_COV0 (R103 of chapter 03). -/
def AFE_ST_COV0 : Nat := 0x08010
def AFE_ST_COV0_Cov : Fld := ⟨AFE_ST_COV0, 31, 0⟩
/-- AFE_ST_COV1 (R103 of chapter 03). -/
def AFE_ST_COV1 : Nat := 0x08014
def AFE_ST_COV1_Cov : Fld := ⟨AFE_ST_COV1, 31, 0⟩
/-- AFE_FCk_CFG (R515 of chapter 19). -/
def AFE_FC_CFG (k : Nat) : Nat := 0x08100 + 0x40 * k
def AFE_FC_CFG_En (k : Nat) : Fld := ⟨AFE_FC_CFG k, 0, 0⟩
/-- AFE_FCk_STAT (R104 of chapter 03). -/
def AFE_FC_STAT (k : Nat) : Nat := 0x08104 + 0x40 * k
def AFE_FC_STAT_Cycles (k : Nat) : Fld := ⟨AFE_FC_STAT k, 7, 0⟩
/-- AFE_FCk_SEQj (R78 of chapter 03). -/
def AFE_FC_SEQ (k j : Nat) : Nat := 0x08110 + 0x40 * k + 0x4 * j
def AFE_FC_SEQ_En (k j : Nat) : Fld := ⟨AFE_FC_SEQ k j, 31, 31⟩
def AFE_FC_SEQ_Count (k j : Nat) : Fld := ⟨AFE_FC_SEQ k j, 9, 2⟩
def AFE_FC_SEQ_Mux (k j : Nat) : Fld := ⟨AFE_FC_SEQ k j, 1, 0⟩
/-- AFE_MC_JOBj (R79 of chapter 03). -/
def AFE_MC_JOB (j : Nat) : Nat := 0x08800 + 0x4 * j
def AFE_MC_JOB_En (j : Nat) : Fld := ⟨AFE_MC_JOB j, 31, 31⟩
def AFE_MC_JOB_Period (j : Nat) : Fld := ⟨AFE_MC_JOB j, 17, 8⟩
def AFE_MC_JOB_Src (j : Nat) : Fld := ⟨AFE_MC_JOB j, 7, 0⟩
/-- AFE_MC_RESj (R79 of chapter 03). -/
def AFE_MC_RES (j : Nat) : Nat := 0x08880 + 0x4 * j
def AFE_MC_RES_Valid (j : Nat) : Fld := ⟨AFE_MC_RES j, 31, 31⟩
def AFE_MC_RES_Res (j : Nat) : Fld := ⟨AFE_MC_RES j, 15, 0⟩
/-- AFE_TMk_CFG (R83 of chapter 03). -/
def AFE_TM_CFG (k : Nat) : Nat := 0x09000 + 0x20 * k
def AFE_TM_CFG_Kind (k : Nat) : Fld := ⟨AFE_TM_CFG k, 31, 30⟩
def AFE_TM_CFG_Win (k : Nat) : Fld := ⟨AFE_TM_CFG k, 29, 26⟩
def AFE_TM_CFG_Peak (k : Nat) : Fld := ⟨AFE_TM_CFG k, 25, 25⟩
def AFE_TM_CFG_En (k : Nat) : Fld := ⟨AFE_TM_CFG k, 24, 24⟩
def AFE_TM_CFG_SrcType (k : Nat) : Fld := ⟨AFE_TM_CFG k, 23, 22⟩
def AFE_TM_CFG_Src (k : Nat) : Fld := ⟨AFE_TM_CFG k, 21, 0⟩
/-- AFE_TMk_CTL (R86 of chapter 03). -/
def AFE_TM_CTL (k : Nat) : Nat := 0x09004 + 0x20 * k
def AFE_TM_CTL_PeakClr (k : Nat) : Fld := ⟨AFE_TM_CTL k, 0, 0⟩
/-- AFE_TMk_GAIN (R84 of chapter 03). -/
def AFE_TM_GAIN (k : Nat) : Nat := 0x09008 + 0x20 * k
def AFE_TM_GAIN_Gain (k : Nat) : Fld := ⟨AFE_TM_GAIN k, 31, 0⟩
/-- AFE_TMk_OFS (R84 of chapter 03). -/
def AFE_TM_OFS (k : Nat) : Nat := 0x0900C + 0x20 * k
def AFE_TM_OFS_Ofs (k : Nat) : Fld := ⟨AFE_TM_OFS k, 31, 0⟩
/-- AFE_TMk_STAT (R88 of chapter 03). -/
def AFE_TM_STAT (k : Nat) : Nat := 0x09010 + 0x20 * k
def AFE_TM_STAT_Empty (k : Nat) : Fld := ⟨AFE_TM_STAT k, 3, 3⟩
def AFE_TM_STAT_Miss (k : Nat) : Fld := ⟨AFE_TM_STAT k, 2, 2⟩
def AFE_TM_STAT_Par (k : Nat) : Fld := ⟨AFE_TM_STAT k, 1, 1⟩
def AFE_TM_STAT_Sat (k : Nat) : Fld := ⟨AFE_TM_STAT k, 0, 0⟩
/-- AFE_TMk_AVG (R85 of chapter 03). -/
def AFE_TM_AVG (k : Nat) : Nat := 0x09014 + 0x20 * k
def AFE_TM_AVG_Avg (k : Nat) : Fld := ⟨AFE_TM_AVG k, 31, 0⟩
/-- CMP_RAWi (R95 of chapter 03). -/
def CMP_RAW (i : Nat) : Nat := 0x0C000 + 0x4 * i
def CMP_RAW_Raw (i : Nat) : Fld := ⟨CMP_RAW i, 31, 0⟩
/-- CMP_LATCHi (R92 of chapter 03). -/
def CMP_LATCH (i : Nat) : Nat := 0x0C010 + 0x4 * i
def CMP_LATCH_Latch (i : Nat) : Fld := ⟨CMP_LATCH i, 31, 0⟩
/-- CMPn_CFG (R104 of chapter 03). -/
def CMP_CFG (n : Nat) : Nat := 0x0C100 + 0x10 * n
def CMP_CFG_Group (n : Nat) : Fld := ⟨CMP_CFG n, 10, 7⟩
def CMP_CFG_Hyst (n : Nat) : Fld := ⟨CMP_CFG n, 6, 5⟩
def CMP_CFG_StEn (n : Nat) : Fld := ⟨CMP_CFG n, 4, 4⟩
def CMP_CFG_Irq (n : Nat) : Fld := ⟨CMP_CFG n, 3, 3⟩
def CMP_CFG_Latch (n : Nat) : Fld := ⟨CMP_CFG n, 2, 2⟩
def CMP_CFG_LoEn (n : Nat) : Fld := ⟨CMP_CFG n, 1, 1⟩
def CMP_CFG_HiEn (n : Nat) : Fld := ⟨CMP_CFG n, 0, 0⟩
/-- CMPn_THR (R90 of chapter 03). -/
def CMP_THR (n : Nat) : Nat := 0x0C104 + 0x10 * n
def CMP_THR_Hi (n : Nat) : Fld := ⟨CMP_THR n, 25, 16⟩
def CMP_THR_Lo (n : Nat) : Fld := ⟨CMP_THR n, 9, 0⟩
/-- CMPn_BLANK (R91 of chapter 03). -/
def CMP_BLANK (n : Nat) : Nat := 0x0C108 + 0x10 * n
def CMP_BLANK_BlankEn (n : Nat) : Fld := ⟨CMP_BLANK n, 31, 31⟩
def CMP_BLANK_Edge (n : Nat) : Fld := ⟨CMP_BLANK n, 15, 14⟩
def CMP_BLANK_Ch (n : Nat) : Fld := ⟨CMP_BLANK n, 13, 12⟩
def CMP_BLANK_Len (n : Nat) : Fld := ⟨CMP_BLANK n, 10, 0⟩
/-- CMPn_CNT (R95 of chapter 03). -/
def CMP_CNT (n : Nat) : Nat := 0x0C10C + 0x10 * n
def CMP_CNT_Cnt (n : Nat) : Fld := ⟨CMP_CNT n, 31, 0⟩
/-- CMP_TRIPt_MASKm (R96 of chapter 03). -/
def CMP_TRIP_MASK (t m : Nat) : Nat := 0x0C800 + 0x10 * t + 0x4 * m
def CMP_TRIP_MASK_Mask (t m : Nat) : Fld := ⟨CMP_TRIP_MASK t m, 31, 0⟩
/-- CMP_TRIPt_CNT (R96 of chapter 03). -/
def CMP_TRIP_CNT (t : Nat) : Nat := 0x0C900 + 0x4 * t
def CMP_TRIP_CNT_Cnt (t : Nat) : Fld := ⟨CMP_TRIP_CNT t, 31, 0⟩
/-- CMP_EFe_SRC (R97 of chapter 03). -/
def CMP_EF_SRC (e : Nat) : Nat := 0x0CA00 + 0x4 * e
def CMP_EF_SRC_Sel (e : Nat) : Fld := ⟨CMP_EF_SRC e, 7, 6⟩
def CMP_EF_SRC_Cmp (e : Nat) : Fld := ⟨CMP_EF_SRC e, 5, 0⟩
/-- PG_CHn_CFG (R131 of chapter 04). -/
def PG_CH_CFG (n : Nat) : Nat := 0x10000 + 0x100 * n
def PG_CH_CFG_RbEn (n : Nat) : Fld := ⟨PG_CH_CFG n, 16, 16⟩
def PG_CH_CFG_SafeL (n : Nat) : Fld := ⟨PG_CH_CFG n, 14, 13⟩
def PG_CH_CFG_SafeH (n : Nat) : Fld := ⟨PG_CH_CFG n, 12, 11⟩
def PG_CH_CFG_Upd (n : Nat) : Fld := ⟨PG_CH_CFG n, 10, 10⟩
def PG_CH_CFG_Align (n : Nat) : Fld := ⟨PG_CH_CFG n, 9, 8⟩
def PG_CH_CFG_OutMode (n : Nat) : Fld := ⟨PG_CH_CFG n, 7, 6⟩
def PG_CH_CFG_Src (n : Nat) : Fld := ⟨PG_CH_CFG n, 5, 5⟩
def PG_CH_CFG_Tile (n : Nat) : Fld := ⟨PG_CH_CFG n, 4, 0⟩
/-- PG_CHn_CTL (R122 of chapter 04). -/
def PG_CH_CTL (n : Nat) : Nat := 0x10004 + 0x100 * n
def PG_CH_CTL_ImmDis (n : Nat) : Fld := ⟨PG_CH_CTL n, 2, 2⟩
def PG_CH_CTL_Idle (n : Nat) : Fld := ⟨PG_CH_CTL n, 1, 1⟩
def PG_CH_CTL_En (n : Nat) : Fld := ⟨PG_CH_CTL n, 0, 0⟩
/-- PG_CHn_DUTY (R113 of chapter 04). -/
def PG_CH_DUTY (n : Nat) : Nat := 0x10008 + 0x100 * n
def PG_CH_DUTY_Duty (n : Nat) : Fld := ⟨PG_CH_DUTY n, 15, 0⟩
/-- PG_CHn_EDGE (R110 of chapter 04). -/
def PG_CH_EDGE (n : Nat) : Nat := 0x1000C + 0x100 * n
def PG_CH_EDGE_Fall (n : Nat) : Fld := ⟨PG_CH_EDGE n, 31, 16⟩
def PG_CH_EDGE_Rise (n : Nat) : Fld := ⟨PG_CH_EDGE n, 15, 0⟩
/-- PG_CHn_DT (R112 of chapter 04). -/
def PG_CH_DT (n : Nat) : Nat := 0x10010 + 0x100 * n
def PG_CH_DT_DtL (n : Nat) : Fld := ⟨PG_CH_DT n, 29, 16⟩
def PG_CH_DT_DtH (n : Nat) : Fld := ⟨PG_CH_DT n, 13, 0⟩
/-- PG_CHn_LIMIT (R111 of chapter 04). -/
def PG_CH_LIMIT (n : Nat) : Nat := 0x10014 + 0x100 * n
def PG_CH_LIMIT_MaxOn (n : Nat) : Fld := ⟨PG_CH_LIMIT n, 31, 16⟩
def PG_CH_LIMIT_MinOn (n : Nat) : Fld := ⟨PG_CH_LIMIT n, 15, 0⟩
/-- PG_CHn_OFS (R117 of chapter 04). -/
def PG_CH_OFS (n : Nat) : Nat := 0x10018 + 0x100 * n
def PG_CH_OFS_OfsCur (n : Nat) : Fld := ⟨PG_CH_OFS n, 31, 16⟩
def PG_CH_OFS_Ofs (n : Nat) : Fld := ⟨PG_CH_OFS n, 15, 0⟩
/-- PG_CHn_STAT (R131 of chapter 04). -/
def PG_CH_STAT (n : Nat) : Nat := 0x1001C + 0x100 * n
def PG_CH_STAT_Trip (n : Nat) : Fld := ⟨PG_CH_STAT n, 9, 8⟩
def PG_CH_STAT_Mismatch (n : Nat) : Fld := ⟨PG_CH_STAT n, 7, 7⟩
def PG_CH_STAT_ParOff (n : Nat) : Fld := ⟨PG_CH_STAT n, 6, 6⟩
def PG_CH_STAT_Skip (n : Nat) : Fld := ⟨PG_CH_STAT n, 5, 5⟩
def PG_CH_STAT_Clamp (n : Nat) : Fld := ⟨PG_CH_STAT n, 4, 4⟩
def PG_CH_STAT_Late (n : Nat) : Fld := ⟨PG_CH_STAT n, 3, 3⟩
def PG_CH_STAT_IdleSt (n : Nat) : Fld := ⟨PG_CH_STAT n, 2, 2⟩
def PG_CH_STAT_Safe (n : Nat) : Fld := ⟨PG_CH_STAT n, 1, 1⟩
def PG_CH_STAT_Run (n : Nat) : Fld := ⟨PG_CH_STAT n, 0, 0⟩
/-- PG_CHn_LATE_CNT (R114 of chapter 04). -/
def PG_CH_LATE_CNT (n : Nat) : Nat := 0x10020 + 0x100 * n
def PG_CH_LATE_CNT_Cnt (n : Nat) : Fld := ⟨PG_CH_LATE_CNT n, 31, 0⟩
/-- PG_CHn_CLAMP_CNT (R111 of chapter 04). -/
def PG_CH_CLAMP_CNT (n : Nat) : Nat := 0x10024 + 0x100 * n
def PG_CH_CLAMP_CNT_Cnt (n : Nat) : Fld := ⟨PG_CH_CLAMP_CNT n, 31, 0⟩
/-- PG_CHn_SKIP_CNT (R111 of chapter 04). -/
def PG_CH_SKIP_CNT (n : Nat) : Nat := 0x10028 + 0x100 * n
def PG_CH_SKIP_CNT_Cnt (n : Nat) : Fld := ⟨PG_CH_SKIP_CNT n, 31, 0⟩
/-- PG_GRPg_CFG (R107 of chapter 04). -/
def PG_GRP_CFG (g : Nat) : Nat := 0x13000 + 0x40 * g
def PG_GRP_CFG_Mul (g : Nat) : Fld := ⟨PG_GRP_CFG g, 4, 0⟩
/-- PG_GRPg_CTL (R117 of chapter 04). -/
def PG_GRP_CTL (g : Nat) : Nat := 0x13004 + 0x40 * g
def PG_GRP_CTL_ImmDisAll (g : Nat) : Fld := ⟨PG_GRP_CTL g, 1, 1⟩
def PG_GRP_CTL_OfsLoad (g : Nat) : Fld := ⟨PG_GRP_CTL g, 0, 0⟩
/-- PG_GRPg_STAG (R109 of chapter 04). -/
def PG_GRP_STAG (g : Nat) : Nat := 0x13008 + 0x40 * g
def PG_GRP_STAG_En (g : Nat) : Fld := ⟨PG_GRP_STAG g, 4, 4⟩
def PG_GRP_STAG_Mask (g : Nat) : Fld := ⟨PG_GRP_STAG g, 3, 0⟩
/-- PG_GRPg_TRIP_ACT (R119 of chapter 04). -/
def PG_GRP_TRIP_ACT (g : Nat) : Nat := 0x1300C + 0x40 * g
def PG_GRP_TRIP_ACT_Act (g : Nat) : Fld := ⟨PG_GRP_TRIP_ACT g, 31, 0⟩
/-- PG_GRPg_TRIP_CH (R119 of chapter 04). -/
def PG_GRP_TRIP_CH (g : Nat) : Nat := 0x13010 + 0x40 * g
def PG_GRP_TRIP_CH_Mask (g : Nat) : Fld := ⟨PG_GRP_TRIP_CH g, 3, 0⟩
/-- PG_GRPg_STAT (R117 of chapter 04). -/
def PG_GRP_STAT (g : Nat) : Nat := 0x13014 + 0x40 * g
def PG_GRP_STAT_OfsPend (g : Nat) : Fld := ⟨PG_GRP_STAT g, 16, 16⟩
def PG_GRP_STAT_TripLatch (g : Nat) : Fld := ⟨PG_GRP_STAT g, 15, 0⟩
/-- LTn_CFG (R168 of chapter 05). -/
def LT_CFG (n : Nat) : Nat := 0x18000 + 0x400 * n
def LT_CFG_BalEn (n : Nat) : Fld := ⟨LT_CFG n, 20, 20⟩
def LT_CFG_IlimEn (n : Nat) : Fld := ⟨LT_CFG n, 19, 19⟩
def LT_CFG_AwEn (n : Nat) : Fld := ⟨LT_CFG n, 18, 18⟩
def LT_CFG_MissMax (n : Nat) : Fld := ⟨LT_CFG n, 17, 14⟩
def LT_CFG_Multi (n : Nat) : Fld := ⟨LT_CFG n, 13, 13⟩
def LT_CFG_Group (n : Nat) : Fld := ⟨LT_CFG n, 11, 8⟩
def LT_CFG_ChMask (n : Nat) : Fld := ⟨LT_CFG n, 7, 4⟩
def LT_CFG_Form (n : Nat) : Fld := ⟨LT_CFG n, 1, 0⟩
/-- LTn_CTL (R155 of chapter 05). -/
def LT_CTL (n : Nat) : Nat := 0x18004 + 0x400 * n
def LT_CTL_Clr (n : Nat) : Fld := ⟨LT_CTL n, 1, 1⟩
def LT_CTL_En (n : Nat) : Fld := ⟨LT_CTL n, 0, 0⟩
/-- LTn_STAT (R154 of chapter 05). -/
def LT_STAT (n : Nat) : Nat := 0x18008 + 0x400 * n
def LT_STAT_RetryLeft (n : Nat) : Fld := ⟨LT_STAT n, 15, 12⟩
def LT_STAT_Miss (n : Nat) : Fld := ⟨LT_STAT n, 11, 11⟩
def LT_STAT_PbHigh (n : Nat) : Fld := ⟨LT_STAT n, 10, 10⟩
def LT_STAT_RefClamp (n : Nat) : Fld := ⟨LT_STAT n, 9, 9⟩
def LT_STAT_StateSat (n : Nat) : Fld := ⟨LT_STAT n, 8, 8⟩
def LT_STAT_ILim (n : Nat) : Fld := ⟨LT_STAT n, 7, 7⟩
def LT_STAT_AwActive (n : Nat) : Fld := ⟨LT_STAT n, 6, 6⟩
def LT_STAT_Sat (n : Nat) : Fld := ⟨LT_STAT n, 5, 5⟩
def LT_STAT_Slewing (n : Nat) : Fld := ⟨LT_STAT n, 4, 4⟩
def LT_STAT_Pg (n : Nat) : Fld := ⟨LT_STAT n, 3, 3⟩
def LT_STAT_Mode (n : Nat) : Fld := ⟨LT_STAT n, 2, 0⟩
/-- LTn_SAMPLE_SRC (R137 of chapter 05). -/
def LT_SAMPLE_SRC (n : Nat) : Nat := 0x1800C + 0x400 * n
def LT_SAMPLE_SRC_IlMux (n : Nat) : Fld := ⟨LT_SAMPLE_SRC n, 14, 13⟩
def LT_SAMPLE_SRC_IlConv (n : Nat) : Fld := ⟨LT_SAMPLE_SRC n, 12, 8⟩
def LT_SAMPLE_SRC_Mux (n : Nat) : Fld := ⟨LT_SAMPLE_SRC n, 6, 5⟩
def LT_SAMPLE_SRC_Conv (n : Nat) : Fld := ⟨LT_SAMPLE_SRC n, 4, 0⟩
/-- LTn_SAMPLE_OFS (R138 of chapter 05). -/
def LT_SAMPLE_OFS (n : Nat) : Nat := 0x18010 + 0x400 * n
def LT_SAMPLE_OFS_OfsMin (n : Nat) : Fld := ⟨LT_SAMPLE_OFS n, 31, 16⟩
def LT_SAMPLE_OFS_Ofs (n : Nat) : Fld := ⟨LT_SAMPLE_OFS n, 15, 0⟩
/-- LTn_LAT_MAX (R74 of chapter 05). -/
def LT_LAT_MAX (n : Nat) : Nat := 0x18014 + 0x400 * n
def LT_LAT_MAX_LatLast (n : Nat) : Fld := ⟨LT_LAT_MAX n, 31, 16⟩
def LT_LAT_MAX_LatMax (n : Nat) : Fld := ⟨LT_LAT_MAX n, 15, 0⟩
/-- LTn_AVG (R161 of chapter 05). -/
def LT_AVG (n : Nat) : Nat := 0x18018 + 0x400 * n
def LT_AVG_R (n : Nat) : Fld := ⟨LT_AVG n, 31, 16⟩
def LT_AVG_C (n : Nat) : Fld := ⟨LT_AVG n, 15, 0⟩
/-- LTn_MAN_DUTY (R156 of chapter 05). -/
def LT_MAN_DUTY (n : Nat) : Nat := 0x1801C + 0x400 * n
def LT_MAN_DUTY_Duty (n : Nat) : Fld := ⟨LT_MAN_DUTY n, 15, 0⟩
/-- LTn_COEF_B0 (R132 of chapter 05). -/
def LT_COEF_B0 (n : Nat) : Nat := 0x18020 + 0x400 * n
def LT_COEF_B0_Exp (n : Nat) : Fld := ⟨LT_COEF_B0 n, 29, 24⟩
def LT_COEF_B0_B0 (n : Nat) : Fld := ⟨LT_COEF_B0 n, 23, 0⟩
/-- LTn_COEF_Q1 (R132 of chapter 05). -/
def LT_COEF_Q1 (n : Nat) : Nat := 0x18024 + 0x400 * n
def LT_COEF_Q1_Q (n : Nat) : Fld := ⟨LT_COEF_Q1 n, 23, 0⟩
/-- LTn_COEF_P1 (R132 of chapter 05). -/
def LT_COEF_P1 (n : Nat) : Nat := 0x18028 + 0x400 * n
def LT_COEF_P1_P (n : Nat) : Fld := ⟨LT_COEF_P1 n, 23, 0⟩
/-- LTn_COEF_Q2 (R132 of chapter 05). -/
def LT_COEF_Q2 (n : Nat) : Nat := 0x1802C + 0x400 * n
def LT_COEF_Q2_Q (n : Nat) : Fld := ⟨LT_COEF_Q2 n, 23, 0⟩
/-- LTn_COEF_P2 (R132 of chapter 05). -/
def LT_COEF_P2 (n : Nat) : Nat := 0x18030 + 0x400 * n
def LT_COEF_P2_P (n : Nat) : Fld := ⟨LT_COEF_P2 n, 23, 0⟩
/-- LTn_COEF_Q3 (R132 of chapter 05). -/
def LT_COEF_Q3 (n : Nat) : Nat := 0x18034 + 0x400 * n
def LT_COEF_Q3_Q (n : Nat) : Fld := ⟨LT_COEF_Q3 n, 23, 0⟩
/-- LTn_COEF_P3 (R132 of chapter 05). -/
def LT_COEF_P3 (n : Nat) : Nat := 0x18038 + 0x400 * n
def LT_COEF_P3_P (n : Nat) : Fld := ⟨LT_COEF_P3 n, 23, 0⟩
/-- LTn_LIMIT (R143 of chapter 05). -/
def LT_LIMIT (n : Nat) : Nat := 0x1803C + 0x400 * n
def LT_LIMIT_Max (n : Nat) : Fld := ⟨LT_LIMIT n, 31, 16⟩
def LT_LIMIT_Min (n : Nat) : Fld := ⟨LT_LIMIT n, 15, 0⟩
/-- LTn_ILIM (R146 of chapter 05). -/
def LT_ILIM (n : Nat) : Nat := 0x18040 + 0x400 * n
def LT_ILIM_StepUp (n : Nat) : Fld := ⟨LT_ILIM n, 31, 24⟩
def LT_ILIM_StepDn (n : Nat) : Fld := ⟨LT_ILIM n, 23, 16⟩
def LT_ILIM_Thr (n : Nat) : Fld := ⟨LT_ILIM n, 11, 0⟩
/-- LTn_ILIM_CFG (R146 of chapter 05). -/
def LT_ILIM_CFG (n : Nat) : Nat := 0x18044 + 0x400 * n
def LT_ILIM_CFG_MaxFrames (n : Nat) : Fld := ⟨LT_ILIM_CFG n, 15, 0⟩
/-- LTn_BAL (R145 of chapter 05). -/
def LT_BAL (n : Nat) : Nat := 0x18048 + 0x400 * n
def LT_BAL_BalMax (n : Nat) : Fld := ⟨LT_BAL n, 31, 16⟩
def LT_BAL_Kbal (n : Nat) : Fld := ⟨LT_BAL n, 15, 0⟩
/-- LTn_BAL_CH (R145 of chapter 05). -/
def LT_BAL_CH (n : Nat) : Nat := 0x1804C + 0x400 * n
def LT_BAL_CH_Ch3 (n : Nat) : Fld := ⟨LT_BAL_CH n, 31, 24⟩
def LT_BAL_CH_Ch2 (n : Nat) : Fld := ⟨LT_BAL_CH n, 23, 16⟩
def LT_BAL_CH_Ch1 (n : Nat) : Fld := ⟨LT_BAL_CH n, 15, 8⟩
def LT_BAL_CH_Ch0 (n : Nat) : Fld := ⟨LT_BAL_CH n, 7, 0⟩
/-- LTn_CHj_TRIM (R145 of chapter 05). -/
def LT_CH_TRIM (n j : Nat) : Nat := 0x18050 + 0x400 * n + 0x4 * j
def LT_CH_TRIM_Trim (n j : Nat) : Fld := ⟨LT_CH_TRIM n j, 31, 0⟩
/-- LTn_REF_SCALE (R148 of chapter 05). -/
def LT_REF_SCALE (n : Nat) : Nat := 0x18060 + 0x400 * n
def LT_REF_SCALE_Scale (n : Nat) : Fld := ⟨LT_REF_SCALE n, 31, 0⟩
/-- LTn_REF_OFS (R148 of chapter 05). -/
def LT_REF_OFS (n : Nat) : Nat := 0x18064 + 0x400 * n
def LT_REF_OFS_Ofs (n : Nat) : Fld := ⟨LT_REF_OFS n, 31, 0⟩
/-- LTn_REF_MIN (R148 of chapter 05). -/
def LT_REF_MIN (n : Nat) : Nat := 0x18068 + 0x400 * n
def LT_REF_MIN_V (n : Nat) : Fld := ⟨LT_REF_MIN n, 31, 0⟩
/-- LTn_REF_MAX (R148 of chapter 05). -/
def LT_REF_MAX (n : Nat) : Nat := 0x1806C + 0x400 * n
def LT_REF_MAX_V (n : Nat) : Fld := ⟨LT_REF_MAX n, 31, 0⟩
/-- LTn_REF_TGT (R148 of chapter 05). -/
def LT_REF_TGT (n : Nat) : Nat := 0x18070 + 0x400 * n
def LT_REF_TGT_R (n : Nat) : Fld := ⟨LT_REF_TGT n, 31, 0⟩
/-- LTn_REF_CUR (R148 of chapter 05). -/
def LT_REF_CUR (n : Nat) : Nat := 0x18074 + 0x400 * n
def LT_REF_CUR_R (n : Nat) : Fld := ⟨LT_REF_CUR n, 31, 0⟩
/-- LTn_SLEW_DEF (R149 of chapter 05). -/
def LT_SLEW_DEF (n : Nat) : Nat := 0x18078 + 0x400 * n
def LT_SLEW_DEF_Rate (n : Nat) : Fld := ⟨LT_SLEW_DEF n, 31, 0⟩
/-- LTn_SLEW_CAP (R149 of chapter 05). -/
def LT_SLEW_CAP (n : Nat) : Nat := 0x1807C + 0x400 * n
def LT_SLEW_CAP_Rate (n : Nat) : Fld := ⟨LT_SLEW_CAP n, 31, 0⟩
/-- LTn_SLEW_START (R149 of chapter 05). -/
def LT_SLEW_START (n : Nat) : Nat := 0x18080 + 0x400 * n
def LT_SLEW_START_Rate (n : Nat) : Fld := ⟨LT_SLEW_START n, 31, 0⟩
/-- LTn_START (R158 of chapter 05). -/
def LT_START (n : Nat) : Nat := 0x18084 + 0x400 * n
def LT_START_VinCh (n : Nat) : Fld := ⟨LT_START n, 15, 8⟩
def LT_START_SoftStop (n : Nat) : Fld := ⟨LT_START n, 1, 1⟩
def LT_START_PbEn (n : Nat) : Fld := ⟨LT_START n, 0, 0⟩
/-- LTn_START_MARGIN (R161 of chapter 05). -/
def LT_START_MARGIN (n : Nat) : Nat := 0x18088 + 0x400 * n
def LT_START_MARGIN_PgWin (n : Nat) : Fld := ⟨LT_START_MARGIN n, 27, 16⟩
def LT_START_MARGIN_ProgMargin (n : Nat) : Fld := ⟨LT_START_MARGIN n, 11, 0⟩
/-- LTn_RETRY (R163 of chapter 05). -/
def LT_RETRY (n : Nat) : Nat := 0x1808C + 0x400 * n
def LT_RETRY_Interval (n : Nat) : Fld := ⟨LT_RETRY n, 31, 16⟩
def LT_RETRY_Count (n : Nat) : Fld := ⟨LT_RETRY n, 5, 2⟩
def LT_RETRY_Mode (n : Nat) : Fld := ⟨LT_RETRY n, 1, 0⟩
/-- LTn_STATEi (R135 of chapter 05). -/
def LT_STATE (n i : Nat) : Nat := 0x180C0 + 0x400 * n + 0x4 * i
def LT_STATE_V (n i : Nat) : Fld := ⟨LT_STATE n i, 31, 0⟩
/-- LTn_MISS_CNT (R140 of chapter 05). -/
def LT_MISS_CNT (n : Nat) : Nat := 0x18100 + 0x400 * n
def LT_MISS_CNT_Cnt (n : Nat) : Fld := ⟨LT_MISS_CNT n, 31, 0⟩
/-- LTn_ILIM_CNT (R146 of chapter 05). -/
def LT_ILIM_CNT (n : Nat) : Nat := 0x18104 + 0x400 * n
def LT_ILIM_CNT_Cnt (n : Nat) : Fld := ⟨LT_ILIM_CNT n, 31, 0⟩
/-- LTn_UPD_CNT (R168 of chapter 05). -/
def LT_UPD_CNT (n : Nat) : Nat := 0x18108 + 0x400 * n
def LT_UPD_CNT_Cnt (n : Nat) : Fld := ⟨LT_UPD_CNT n, 31, 0⟩
/-- LTn_RETRY_CNT (R163 of chapter 05). -/
def LT_RETRY_CNT (n : Nat) : Nat := 0x1810C + 0x400 * n
def LT_RETRY_CNT_Cnt (n : Nat) : Fld := ⟨LT_RETRY_CNT n, 31, 0⟩
/-- SLm_CFG (R199 of chapter 06). -/
def SL_CFG (m : Nat) : Nat := 0x20000 + 0x200 * m
def SL_CFG_Kind (m : Nat) : Fld := ⟨SL_CFG m, 31, 30⟩
def SL_CFG_ShareEn (m : Nat) : Fld := ⟨SL_CFG m, 29, 29⟩
def SL_CFG_InitMode (m : Nat) : Fld := ⟨SL_CFG m, 27, 26⟩
def SL_CFG_PhaseOfs (m : Nat) : Fld := ⟨SL_CFG m, 25, 16⟩
def SL_CFG_Period (m : Nat) : Fld := ⟨SL_CFG m, 9, 0⟩
/-- SLm_CTL (R194 of chapter 06). -/
def SL_CTL (m : Nat) : Nat := 0x20004 + 0x200 * m
def SL_CTL_RcFreeze (m : Nat) : Fld := ⟨SL_CTL m, 3, 3⟩
def SL_CTL_RcClr (m : Nat) : Fld := ⟨SL_CTL m, 2, 2⟩
def SL_CTL_Clr (m : Nat) : Fld := ⟨SL_CTL m, 1, 1⟩
def SL_CTL_En (m : Nat) : Fld := ⟨SL_CTL m, 0, 0⟩
/-- SLm_STAT (R190 of chapter 06). -/
def SL_STAT (m : Nat) : Nat := 0x20008 + 0x200 * m
def SL_STAT_Present (m : Nat) : Fld := ⟨SL_STAT m, 23, 16⟩
def SL_STAT_SocValid (m : Nat) : Fld := ⟨SL_STAT m, 15, 15⟩
def SL_STAT_TempDef (m : Nat) : Fld := ⟨SL_STAT m, 14, 14⟩
def SL_STAT_RcSat (m : Nat) : Fld := ⟨SL_STAT m, 13, 13⟩
def SL_STAT_RcActive (m : Nat) : Fld := ⟨SL_STAT m, 12, 12⟩
def SL_STAT_InLost (m : Nat) : Fld := ⟨SL_STAT m, 11, 11⟩
def SL_STAT_Claimed (m : Nat) : Fld := ⟨SL_STAT m, 10, 10⟩
def SL_STAT_OutSat (m : Nat) : Fld := ⟨SL_STAT m, 9, 9⟩
def SL_STAT_Fast (m : Nat) : Fld := ⟨SL_STAT m, 8, 8⟩
def SL_STAT_Hold (m : Nat) : Fld := ⟨SL_STAT m, 7, 7⟩
def SL_STAT_Stage (m : Nat) : Fld := ⟨SL_STAT m, 6, 4⟩
def SL_STAT_Mode (m : Nat) : Fld := ⟨SL_STAT m, 2, 0⟩
/-- SLm_IN (R171 of chapter 06). -/
def SL_IN (m : Nat) : Nat := 0x2000C + 0x200 * m
def SL_IN_Id (m : Nat) : Fld := ⟨SL_IN m, 19, 0⟩
/-- SLm_TARGET (R175 of chapter 06). -/
def SL_TARGET (m : Nat) : Nat := 0x20010 + 0x200 * m
def SL_TARGET_V (m : Nat) : Fld := ⟨SL_TARGET m, 31, 0⟩
/-- SLm_BAND_HOLD (R173 of chapter 06). -/
def SL_BAND_HOLD (m : Nat) : Nat := 0x20014 + 0x200 * m
def SL_BAND_HOLD_V (m : Nat) : Fld := ⟨SL_BAND_HOLD m, 31, 0⟩
/-- SLm_BAND_REL (R173 of chapter 06). -/
def SL_BAND_REL (m : Nat) : Nat := 0x20018 + 0x200 * m
def SL_BAND_REL_V (m : Nat) : Fld := ⟨SL_BAND_REL m, 31, 0⟩
/-- SLm_BAND_FAST (R173 of chapter 06). -/
def SL_BAND_FAST (m : Nat) : Nat := 0x2001C + 0x200 * m
def SL_BAND_FAST_V (m : Nat) : Fld := ⟨SL_BAND_FAST m, 31, 0⟩
/-- SLm_GAIN (R173 of chapter 06). -/
def SL_GAIN (m : Nat) : Nat := 0x20020 + 0x200 * m
def SL_GAIN_V (m : Nat) : Fld := ⟨SL_GAIN m, 31, 0⟩
/-- SLm_STEP_MAX (R173 of chapter 06). -/
def SL_STEP_MAX (m : Nat) : Nat := 0x20024 + 0x200 * m
def SL_STEP_MAX_V (m : Nat) : Fld := ⟨SL_STEP_MAX m, 31, 0⟩
/-- SLm_STEP_FAST (R173 of chapter 06). -/
def SL_STEP_FAST (m : Nat) : Nat := 0x20028 + 0x200 * m
def SL_STEP_FAST_V (m : Nat) : Fld := ⟨SL_STEP_FAST m, 31, 0⟩
/-- SLm_RATE (R173 of chapter 06). -/
def SL_RATE (m : Nat) : Nat := 0x2002C + 0x200 * m
def SL_RATE_V (m : Nat) : Fld := ⟨SL_RATE m, 31, 0⟩
/-- SLm_OUT_MIN (R174 of chapter 06). -/
def SL_OUT_MIN (m : Nat) : Nat := 0x20030 + 0x200 * m
def SL_OUT_MIN_V (m : Nat) : Fld := ⟨SL_OUT_MIN m, 31, 0⟩
/-- SLm_OUT_MAX (R174 of chapter 06). -/
def SL_OUT_MAX (m : Nat) : Nat := 0x20034 + 0x200 * m
def SL_OUT_MAX_V (m : Nat) : Fld := ⟨SL_OUT_MAX m, 31, 0⟩
/-- SLm_SHARE_HOLD (R180 of chapter 06). -/
def SL_SHARE_HOLD (m : Nat) : Nat := 0x20038 + 0x200 * m
def SL_SHARE_HOLD_V (m : Nat) : Fld := ⟨SL_SHARE_HOLD m, 31, 0⟩
/-- SLm_SHARE_REL (R180 of chapter 06). -/
def SL_SHARE_REL (m : Nat) : Nat := 0x2003C + 0x200 * m
def SL_SHARE_REL_V (m : Nat) : Fld := ⟨SL_SHARE_REL m, 31, 0⟩
/-- SLm_SHARE_GAIN (R180 of chapter 06). -/
def SL_SHARE_GAIN (m : Nat) : Nat := 0x20040 + 0x200 * m
def SL_SHARE_GAIN_V (m : Nat) : Fld := ⟨SL_SHARE_GAIN m, 31, 0⟩
/-- SLm_SHARE_STEP (R180 of chapter 06). -/
def SL_SHARE_STEP (m : Nat) : Nat := 0x20044 + 0x200 * m
def SL_SHARE_STEP_V (m : Nat) : Fld := ⟨SL_SHARE_STEP m, 31, 0⟩
/-- SLm_TRIM_MAX (R180 of chapter 06). -/
def SL_TRIM_MAX (m : Nat) : Nat := 0x20048 + 0x200 * m
def SL_TRIM_MAX_V (m : Nat) : Fld := ⟨SL_TRIM_MAX m, 31, 0⟩
/-- SLm_MEM_CFG (R178 of chapter 06). -/
def SL_MEMS_CFG (m : Nat) : Nat := 0x2004C + 0x200 * m
def SL_MEMS_CFG_StaleRuns (m : Nat) : Fld := ⟨SL_MEMS_CFG m, 7, 4⟩
def SL_MEMS_CFG_MissMax (m : Nat) : Fld := ⟨SL_MEMS_CFG m, 3, 0⟩
/-- SLm_RC_CFG (R181 of chapter 06). -/
def SL_RC_CFG (m : Nat) : Nat := 0x20050 + 0x200 * m
def SL_RC_CFG_Lead (m : Nat) : Fld := ⟨SL_RC_CFG m, 31, 24⟩
def SL_RC_CFG_En (m : Nat) : Fld := ⟨SL_RC_CFG m, 16, 16⟩
def SL_RC_CFG_Period (m : Nat) : Fld := ⟨SL_RC_CFG m, 15, 0⟩
/-- SLm_RC_GAIN (R183 of chapter 06). -/
def SL_RC_GAIN (m : Nat) : Nat := 0x20054 + 0x200 * m
def SL_RC_GAIN_V (m : Nat) : Fld := ⟨SL_RC_GAIN m, 31, 0⟩
/-- SLm_RC_FORGET (R183 of chapter 06). -/
def SL_RC_FORGET (m : Nat) : Nat := 0x20058 + 0x200 * m
def SL_RC_FORGET_F (m : Nat) : Fld := ⟨SL_RC_FORGET m, 15, 0⟩
/-- SLm_RC_LIMIT (R183 of chapter 06). -/
def SL_RC_LIMIT (m : Nat) : Nat := 0x2005C + 0x200 * m
def SL_RC_LIMIT_V (m : Nat) : Fld := ⟨SL_RC_LIMIT m, 31, 0⟩
/-- SLm_RC_ADDR (R185 of chapter 06). -/
def SL_RC_ADDR (m : Nat) : Nat := 0x20060 + 0x200 * m
def SL_RC_ADDR_Bin (m : Nat) : Fld := ⟨SL_RC_ADDR m, 9, 0⟩
/-- SLm_RC_DATA (R185 of chapter 06). -/
def SL_RC_DATA (m : Nat) : Nat := 0x20064 + 0x200 * m
def SL_RC_DATA_V (m : Nat) : Fld := ⟨SL_RC_DATA m, 31, 0⟩
/-- SLm_U_INT (R174 of chapter 06). -/
def SL_U_INT (m : Nat) : Nat := 0x20068 + 0x200 * m
def SL_U_INT_V (m : Nat) : Fld := ⟨SL_U_INT m, 31, 0⟩
/-- SLm_FF (R182 of chapter 06). -/
def SL_FF (m : Nat) : Nat := 0x2006C + 0x200 * m
def SL_FF_V (m : Nat) : Fld := ⟨SL_FF m, 31, 0⟩
/-- SLm_MAN_OUT (R192 of chapter 06). -/
def SL_MAN_OUT (m : Nat) : Nat := 0x20070 + 0x200 * m
def SL_MAN_OUT_V (m : Nat) : Fld := ⟨SL_MAN_OUT m, 31, 0⟩
/-- SLm_RUN_CNT (R199 of chapter 06). -/
def SL_RUN_CNT (m : Nat) : Nat := 0x20074 + 0x200 * m
def SL_RUN_CNT_Cnt (m : Nat) : Fld := ⟨SL_RUN_CNT m, 31, 0⟩
/-- SLm_SKIP_CNT (R176 of chapter 06). -/
def SL_SKIP_CNT (m : Nat) : Nat := 0x20078 + 0x200 * m
def SL_SKIP_CNT_Cnt (m : Nat) : Fld := ⟨SL_SKIP_CNT m, 31, 0⟩
/-- SLm_BAT_CH (R187 of chapter 06). -/
def SL_BAT_CH (m : Nat) : Nat := 0x20100 + 0x200 * m
def SL_BAT_CH_VBus (m : Nat) : Fld := ⟨SL_BAT_CH m, 31, 24⟩
def SL_BAT_CH_T (m : Nat) : Fld := ⟨SL_BAT_CH m, 23, 16⟩
def SL_BAT_CH_IBat (m : Nat) : Fld := ⟨SL_BAT_CH m, 15, 8⟩
def SL_BAT_CH_VBat (m : Nat) : Fld := ⟨SL_BAT_CH m, 7, 0⟩
/-- SLm_BAT_CFG (R187 of chapter 06). -/
def SL_BAT_CFG (m : Nat) : Nat := 0x20104 + 0x200 * m
def SL_BAT_CFG_ChargeEn (m : Nat) : Fld := ⟨SL_BAT_CFG m, 4, 4⟩
def SL_BAT_CFG_BusLoop (m : Nat) : Fld := ⟨SL_BAT_CFG m, 3, 0⟩
/-- SLm_BAT_IBULK (R187 of chapter 06). -/
def SL_BAT_IBULK (m : Nat) : Nat := 0x20108 + 0x200 * m
def SL_BAT_IBULK_V (m : Nat) : Fld := ⟨SL_BAT_IBULK m, 31, 0⟩
/-- SLm_BAT_VABS (R186 of chapter 06). -/
def SL_BAT_VABS (m : Nat) : Nat := 0x2010C + 0x200 * m
def SL_BAT_VABS_V (m : Nat) : Fld := ⟨SL_BAT_VABS m, 31, 0⟩
/-- SLm_BAT_VFLOAT (R186 of chapter 06). -/
def SL_BAT_VFLOAT (m : Nat) : Nat := 0x20110 + 0x200 * m
def SL_BAT_VFLOAT_V (m : Nat) : Fld := ⟨SL_BAT_VFLOAT m, 31, 0⟩
/-- SLm_BAT_VREBULK (R187 of chapter 06). -/
def SL_BAT_VREBULK (m : Nat) : Nat := 0x20114 + 0x200 * m
def SL_BAT_VREBULK_V (m : Nat) : Fld := ⟨SL_BAT_VREBULK m, 31, 0⟩
/-- SLm_BAT_TCO (R186 of chapter 06). -/
def SL_BAT_TCO (m : Nat) : Nat := 0x20118 + 0x200 * m
def SL_BAT_TCO_V (m : Nat) : Fld := ⟨SL_BAT_TCO m, 31, 0⟩
/-- SLm_BAT_ITAIL (R187 of chapter 06). -/
def SL_BAT_ITAIL (m : Nat) : Nat := 0x2011C + 0x200 * m
def SL_BAT_ITAIL_V (m : Nat) : Fld := ⟨SL_BAT_ITAIL m, 31, 0⟩
/-- SLm_BAT_VDIS (R187 of chapter 06). -/
def SL_BAT_VDIS (m : Nat) : Nat := 0x20120 + 0x200 * m
def SL_BAT_VDIS_V (m : Nat) : Fld := ⟨SL_BAT_VDIS m, 31, 0⟩
/-- SLm_BAT_VDISREG (R187 of chapter 06). -/
def SL_BAT_VDISREG (m : Nat) : Nat := 0x20124 + 0x200 * m
def SL_BAT_VDISREG_V (m : Nat) : Fld := ⟨SL_BAT_VDISREG m, 31, 0⟩
/-- SLm_BAT_IDISMAX (R187 of chapter 06). -/
def SL_BAT_IDISMAX (m : Nat) : Nat := 0x20128 + 0x200 * m
def SL_BAT_IDISMAX_V (m : Nat) : Fld := ⟨SL_BAT_IDISMAX m, 31, 0⟩
/-- SLm_BAT_RUNS (R187 of chapter 06). -/
def SL_BAT_RUNS (m : Nat) : Nat := 0x2012C + 0x200 * m
def SL_BAT_RUNS_Ret (m : Nat) : Fld := ⟨SL_BAT_RUNS m, 31, 24⟩
def SL_BAT_RUNS_Dis (m : Nat) : Fld := ⟨SL_BAT_RUNS m, 23, 16⟩
def SL_BAT_RUNS_Rebulk (m : Nat) : Fld := ⟨SL_BAT_RUNS m, 15, 8⟩
def SL_BAT_RUNS_Tail (m : Nat) : Fld := ⟨SL_BAT_RUNS m, 7, 0⟩
/-- SLm_BAT_TMAX (R187 of chapter 06). -/
def SL_BAT_TMAX (m : Nat) : Nat := 0x20130 + 0x200 * m
def SL_BAT_TMAX_AbsMax (m : Nat) : Fld := ⟨SL_BAT_TMAX m, 31, 16⟩
def SL_BAT_TMAX_BulkMax (m : Nat) : Fld := ⟨SL_BAT_TMAX m, 15, 0⟩
/-- SLm_BAT_TWIN (R187 of chapter 06). -/
def SL_BAT_TWIN (m : Nat) : Nat := 0x20134 + 0x200 * m
def SL_BAT_TWIN_TAlarm (m : Nat) : Fld := ⟨SL_BAT_TWIN m, 23, 16⟩
def SL_BAT_TWIN_TchMax (m : Nat) : Fld := ⟨SL_BAT_TWIN m, 15, 8⟩
def SL_BAT_TWIN_TchMin (m : Nat) : Fld := ⟨SL_BAT_TWIN m, 7, 0⟩
/-- SLm_BAT_CAP (R189 of chapter 06). -/
def SL_BAT_CAP (m : Nat) : Nat := 0x20138 + 0x200 * m
def SL_BAT_CAP_V (m : Nat) : Fld := ⟨SL_BAT_CAP m, 31, 0⟩
/-- SLm_BAT_SOC (R189 of chapter 06). -/
def SL_BAT_SOC (m : Nat) : Nat := 0x2013C + 0x200 * m
def SL_BAT_SOC_V (m : Nat) : Fld := ⟨SL_BAT_SOC m, 31, 0⟩
/-- SLm_MEMk_CFG (R179 of chapter 06). -/
def SL_MEM_CFG (m k : Nat) : Nat := 0x22000 + 0x100 * m + 0x20 * k
def SL_MEM_CFG_ShareEn (m k : Nat) : Fld := ⟨SL_MEM_CFG m k, 9, 9⟩
def SL_MEM_CFG_En (m k : Nat) : Fld := ⟨SL_MEM_CFG m k, 8, 8⟩
def SL_MEM_CFG_Weight (m k : Nat) : Fld := ⟨SL_MEM_CFG m k, 7, 0⟩
/-- SLm_MEMk_OUT (R177 of chapter 06). -/
def SL_MEM_OUT (m k : Nat) : Nat := 0x22004 + 0x100 * m + 0x20 * k
def SL_MEM_OUT_Id (m k : Nat) : Fld := ⟨SL_MEM_OUT m k, 19, 0⟩
/-- SLm_MEMk_RB (R178 of chapter 06). -/
def SL_MEM_RB (m k : Nat) : Nat := 0x22008 + 0x100 * m + 0x20 * k
def SL_MEM_RB_Id (m k : Nat) : Fld := ⟨SL_MEM_RB m k, 19, 0⟩
/-- SLm_MEMk_STAT (R178 of chapter 06). -/
def SL_MEM_STAT (m k : Nat) : Nat := 0x2200C + 0x100 * m + 0x20 * k
def SL_MEM_STAT_Miss (m k : Nat) : Fld := ⟨SL_MEM_STAT m k, 11, 8⟩
def SL_MEM_STAT_TrimLim (m k : Nat) : Fld := ⟨SL_MEM_STAT m k, 3, 3⟩
def SL_MEM_STAT_Lost (m k : Nat) : Fld := ⟨SL_MEM_STAT m k, 2, 2⟩
def SL_MEM_STAT_Stale (m k : Nat) : Fld := ⟨SL_MEM_STAT m k, 1, 1⟩
def SL_MEM_STAT_Present (m k : Nat) : Fld := ⟨SL_MEM_STAT m k, 0, 0⟩
/-- SLm_MEMk_CMD (R177 of chapter 06). -/
def SL_MEM_CMD (m k : Nat) : Nat := 0x22010 + 0x100 * m + 0x20 * k
def SL_MEM_CMD_V (m k : Nat) : Fld := ⟨SL_MEM_CMD m k, 31, 0⟩
/-- SLm_MEMk_TRIM (R180 of chapter 06). -/
def SL_MEM_TRIM (m k : Nat) : Nat := 0x22014 + 0x100 * m + 0x20 * k
def SL_MEM_TRIM_V (m k : Nat) : Fld := ⟨SL_MEM_TRIM m k, 31, 0⟩
/-- CAP_CTL (R215 of chapter 07). -/
def CAP_CTL : Nat := 0x24000
def CAP_CTL_WsEn : Fld := ⟨CAP_CTL, 1, 1⟩
def CAP_CTL_En : Fld := ⟨CAP_CTL, 0, 0⟩
/-- CAP_STAT (R213 of chapter 07). -/
def CAP_STAT : Nat := 0x24004
def CAP_STAT_WrongSide : Fld := ⟨CAP_STAT, 31, 24⟩
def CAP_STAT_ThrDrive : Fld := ⟨CAP_STAT, 23, 16⟩
def CAP_STAT_ThrIn : Fld := ⟨CAP_STAT, 15, 8⟩
def CAP_STAT_Master : Fld := ⟨CAP_STAT, 3, 3⟩
def CAP_STAT_Severity : Fld := ⟨CAP_STAT, 2, 0⟩
/-- CAP_TIMING (R212 of chapter 07). -/
def CAP_TIMING : Nat := 0x24008
def CAP_TIMING_RestoreGap : Fld := ⟨CAP_TIMING, 31, 16⟩
def CAP_TIMING_MinHold : Fld := ⟨CAP_TIMING, 15, 0⟩
/-- CAP_SHED_STATE (R212 of chapter 07). -/
def CAP_SHED_STATE : Nat := 0x2400C
def CAP_SHED_STATE_Sg : Fld := ⟨CAP_SHED_STATE, 31, 0⟩
/-- CAP_SHAVE_CFG (R213 of chapter 07). -/
def CAP_SHAVE_CFG : Nat := 0x24010
def CAP_SHAVE_CFG_En : Fld := ⟨CAP_SHAVE_CFG, 4, 4⟩
def CAP_SHAVE_CFG_Loop : Fld := ⟨CAP_SHAVE_CFG, 3, 0⟩
/-- CAP_SHAVE_IMAX (R212 of chapter 07). -/
def CAP_SHAVE_IMAX : Nat := 0x24014
def CAP_SHAVE_IMAX_V : Fld := ⟨CAP_SHAVE_IMAX, 31, 0⟩
/-- CAP_SHAVE_SOCMIN (R213 of chapter 07). -/
def CAP_SHAVE_SOCMIN : Nat := 0x24018
def CAP_SHAVE_SOCMIN_V : Fld := ⟨CAP_SHAVE_SOCMIN, 31, 0⟩
/-- CAP_REL (R211 of chapter 07). -/
def CAP_REL : Nat := 0x2401C
def CAP_REL_Step : Fld := ⟨CAP_REL, 31, 0⟩
/-- CAP_ALLOC_AGE (R219 of chapter 07). -/
def CAP_ALLOC_AGE : Nat := 0x24020
def CAP_ALLOC_AGE_Stale : Fld := ⟨CAP_ALLOC_AGE, 7, 0⟩
/-- CAP_SET_PLIM (R218 of chapter 07). -/
def CAP_SET_PLIM : Nat := 0x24024
def CAP_SET_PLIM_V : Fld := ⟨CAP_SET_PLIM, 31, 0⟩
/-- FGg_CFG (R207 of chapter 07). -/
def FG_CFG (g : Nat) : Nat := 0x24400 + 0x100 * g
def FG_CFG_K (g : Nat) : Fld := ⟨FG_CFG g, 31, 16⟩
def FG_CFG_En (g : Nat) : Fld := ⟨FG_CFG g, 15, 15⟩
def FG_CFG_PertEn (g : Nat) : Fld := ⟨FG_CFG g, 14, 14⟩
def FG_CFG_PertSrc (g : Nat) : Fld := ⟨FG_CFG g, 13, 13⟩
def FG_CFG_PertUnit (g : Nat) : Fld := ⟨FG_CFG g, 12, 8⟩
def FG_CFG_VrCh (g : Nat) : Fld := ⟨FG_CFG g, 7, 0⟩
/-- FGg_CTL (R204 of chapter 07). -/
def FG_CTL (g : Nat) : Nat := 0x24404 + 0x100 * g
def FG_CTL_EstRestart (g : Nat) : Fld := ⟨FG_CTL g, 0, 0⟩
/-- FGg_STAT (R235 of chapter 07). -/
def FG_STAT (g : Nat) : Nat := 0x24408 + 0x100 * g
def FG_STAT_RangeErr (g : Nat) : Fld := ⟨FG_STAT g, 20, 20⟩
def FG_STAT_Exhausted (g : Nat) : Fld := ⟨FG_STAT g, 19, 19⟩
def FG_STAT_Severity (g : Nat) : Fld := ⟨FG_STAT g, 18, 16⟩
def FG_STAT_Stale (g : Nat) : Fld := ⟨FG_STAT g, 15, 15⟩
def FG_STAT_Lost (g : Nat) : Fld := ⟨FG_STAT g, 14, 14⟩
def FG_STAT_WrongSide (g : Nat) : Fld := ⟨FG_STAT g, 13, 13⟩
def FG_STAT_PertOn (g : Nat) : Fld := ⟨FG_STAT g, 12, 12⟩
def FG_STAT_Exc (g : Nat) : Fld := ⟨FG_STAT g, 11, 11⟩
def FG_STAT_Scaled (g : Nat) : Fld := ⟨FG_STAT g, 10, 10⟩
def FG_STAT_Held (g : Nat) : Fld := ⟨FG_STAT g, 9, 9⟩
def FG_STAT_EstValid (g : Nat) : Fld := ⟨FG_STAT g, 8, 8⟩
def FG_STAT_PairPresent (g : Nat) : Fld := ⟨FG_STAT g, 7, 0⟩
/-- FGg_PAIRS (R200 of chapter 07). -/
def FG_PAIRS (g : Nat) : Nat := 0x2440C + 0x100 * g
def FG_PAIRS_LossCmpEn (g : Nat) : Fld := ⟨FG_PAIRS g, 14, 14⟩
def FG_PAIRS_LossCmp (g : Nat) : Fld := ⟨FG_PAIRS g, 13, 8⟩
def FG_PAIRS_PairEn (g : Nat) : Fld := ⟨FG_PAIRS g, 7, 0⟩
/-- FGg_PAIR_CHi (R200 of chapter 07). -/
def FG_PAIR_CH (g i : Nat) : Nat := 0x24410 + 0x100 * g + 0x4 * i
def FG_PAIR_CH_Ch (g i : Nat) : Fld := ⟨FG_PAIR_CH g i, 31, 0⟩
/-- FGg_PLIM (R207 of chapter 07). -/
def FG_PLIM (g : Nat) : Nat := 0x24418 + 0x100 * g
def FG_PLIM_V (g : Nat) : Fld := ⟨FG_PLIM g, 31, 0⟩
/-- FGg_VS_NOM (R204 of chapter 07). -/
def FG_VS_NOM (g : Nat) : Nat := 0x2441C + 0x100 * g
def FG_VS_NOM_V (g : Nat) : Fld := ⟨FG_VS_NOM g, 31, 0⟩
/-- FGg_R_NOM (R204 of chapter 07). -/
def FG_R_NOM (g : Nat) : Nat := 0x24420 + 0x100 * g
def FG_R_NOM_V (g : Nat) : Fld := ⟨FG_R_NOM g, 31, 0⟩
/-- FGg_VS_MIN (R205 of chapter 07). -/
def FG_VS_MIN (g : Nat) : Nat := 0x24424 + 0x100 * g
def FG_VS_MIN_V (g : Nat) : Fld := ⟨FG_VS_MIN g, 31, 0⟩
/-- FGg_VS_MAX (R205 of chapter 07). -/
def FG_VS_MAX (g : Nat) : Nat := 0x24428 + 0x100 * g
def FG_VS_MAX_V (g : Nat) : Fld := ⟨FG_VS_MAX g, 31, 0⟩
/-- FGg_R_MIN (R205 of chapter 07). -/
def FG_R_MIN (g : Nat) : Nat := 0x2442C + 0x100 * g
def FG_R_MIN_V (g : Nat) : Fld := ⟨FG_R_MIN g, 31, 0⟩
/-- FGg_R_MAX (R205 of chapter 07). -/
def FG_R_MAX (g : Nat) : Nat := 0x24430 + 0x100 * g
def FG_R_MAX_V (g : Nat) : Fld := ⟨FG_R_MAX g, 31, 0⟩
/-- FGg_EST (R204 of chapter 07). -/
def FG_EST (g : Nat) : Nat := 0x24434 + 0x100 * g
def FG_EST_EstMinFrames (g : Nat) : Fld := ⟨FG_EST g, 31, 16⟩
def FG_EST_LamExp (g : Nat) : Fld := ⟨FG_EST g, 3, 0⟩
/-- FGg_EXC_MIN (R205 of chapter 07). -/
def FG_EXC_MIN (g : Nat) : Nat := 0x24438 + 0x100 * g
def FG_EXC_MIN_V (g : Nat) : Fld := ⟨FG_EXC_MIN g, 31, 0⟩
/-- FGg_RES_MAX (R204 of chapter 07). -/
def FG_RES_MAX (g : Nat) : Nat := 0x2443C + 0x100 * g
def FG_RES_MAX_V (g : Nat) : Fld := ⟨FG_RES_MAX g, 31, 0⟩
/-- FGg_PERT (R206 of chapter 07). -/
def FG_PERT (g : Nat) : Nat := 0x24440 + 0x100 * g
def FG_PERT_Half (g : Nat) : Fld := ⟨FG_PERT g, 15, 0⟩
/-- FGg_PERT_AMP (R206 of chapter 07). -/
def FG_PERT_AMP (g : Nat) : Nat := 0x24444 + 0x100 * g
def FG_PERT_AMP_V (g : Nat) : Fld := ⟨FG_PERT_AMP g, 31, 0⟩
/-- FGg_WS (R208 of chapter 07). -/
def FG_WS (g : Nat) : Nat := 0x24448 + 0x100 * g
def FG_WS_WsClear (g : Nat) : Fld := ⟨FG_WS g, 31, 16⟩
def FG_WS_WsMargin (g : Nat) : Fld := ⟨FG_WS g, 15, 0⟩
/-- FGg_DI_MIN (R208 of chapter 07). -/
def FG_DI_MIN (g : Nat) : Nat := 0x2444C + 0x100 * g
def FG_DI_MIN_V (g : Nat) : Fld := ⟨FG_DI_MIN g, 31, 0⟩
/-- FGg_VIN_LOSS (R203 of chapter 07). -/
def FG_VIN_LOSS (g : Nat) : Nat := 0x24450 + 0x100 * g
def FG_VIN_LOSS_V (g : Nat) : Fld := ⟨FG_VIN_LOSS g, 31, 0⟩
/-- FGg_VIN_OK (R203 of chapter 07). -/
def FG_VIN_OK (g : Nat) : Nat := 0x24454 + 0x100 * g
def FG_VIN_OK_V (g : Nat) : Fld := ⟨FG_VIN_OK g, 31, 0⟩
/-- FGg_PAIR_LOSS_I (R201 of chapter 07). -/
def FG_PAIR_LOSS_I (g : Nat) : Nat := 0x24458 + 0x100 * g
def FG_PAIR_LOSS_I_V (g : Nat) : Fld := ⟨FG_PAIR_LOSS_I g, 31, 0⟩
/-- FGg_REL_BAND (R211 of chapter 07). -/
def FG_REL_BAND (g : Nat) : Nat := 0x2445C + 0x100 * g
def FG_REL_BAND_V (g : Nat) : Fld := ⟨FG_REL_BAND g, 31, 0⟩
/-- FGg_ACT (R212 of chapter 07). -/
def FG_ACT (g : Nat) : Nat := 0x24460 + 0x100 * g
def FG_ACT_ShaveEn (g : Nat) : Fld := ⟨FG_ACT g, 8, 8⟩
def FG_ACT_ThrMask (g : Nat) : Fld := ⟨FG_ACT g, 7, 0⟩
/-- FGg_VS_EST (R233 of chapter 07). -/
def FG_VS_EST (g : Nat) : Nat := 0x24480 + 0x100 * g
def FG_VS_EST_V (g : Nat) : Fld := ⟨FG_VS_EST g, 31, 0⟩
/-- FGg_R_EST (R233 of chapter 07). -/
def FG_R_EST (g : Nat) : Nat := 0x24484 + 0x100 * g
def FG_R_EST_V (g : Nat) : Fld := ⟨FG_R_EST g, 31, 0⟩
/-- FGg_PMAX (R207 of chapter 07). -/
def FG_PMAX (g : Nat) : Nat := 0x24488 + 0x100 * g
def FG_PMAX_V (g : Nat) : Fld := ⟨FG_PMAX g, 31, 0⟩
/-- FGg_BUDGET (R207 of chapter 07). -/
def FG_BUDGET (g : Nat) : Nat := 0x2448C + 0x100 * g
def FG_BUDGET_V (g : Nat) : Fld := ⟨FG_BUDGET g, 31, 0⟩
/-- FGg_PDRAW (R200 of chapter 07). -/
def FG_PDRAW (g : Nat) : Nat := 0x24490 + 0x100 * g
def FG_PDRAW_V (g : Nat) : Fld := ⟨FG_PDRAW g, 31, 0⟩
/-- FGg_DEMAND (R211 of chapter 07). -/
def FG_DEMAND (g : Nat) : Nat := 0x24494 + 0x100 * g
def FG_DEMAND_V (g : Nat) : Fld := ⟨FG_DEMAND g, 31, 0⟩
/-- FGg_SHAREi (R202 of chapter 07). -/
def FG_SHARE (g i : Nat) : Nat := 0x24498 + 0x100 * g + 0x4 * i
def FG_SHARE_S (g i : Nat) : Fld := ⟨FG_SHARE g i, 31, 0⟩
/-- FGg_WS_CNT (R209 of chapter 07). -/
def FG_WS_CNT (g : Nat) : Nat := 0x244A0 + 0x100 * g
def FG_WS_CNT_Cnt (g : Nat) : Fld := ⟨FG_WS_CNT g, 31, 0⟩
/-- FGg_PAIR_LOSS_CNT (R201 of chapter 07). -/
def FG_PAIR_LOSS_CNT (g : Nat) : Nat := 0x244A4 + 0x100 * g
def FG_PAIR_LOSS_CNT_Cnt (g : Nat) : Fld := ⟨FG_PAIR_LOSS_CNT g, 31, 0⟩
/-- FGg_RESTART_CNT (R204 of chapter 07). -/
def FG_RESTART_CNT (g : Nat) : Nat := 0x244A8 + 0x100 * g
def FG_RESTART_CNT_Cnt (g : Nat) : Fld := ⟨FG_RESTART_CNT g, 31, 0⟩
/-- CAP_THRt_CFG (R212 of chapter 07). -/
def CAP_THR_CFG (t : Nat) : Nat := 0x24C00 + 0x4 * t
def CAP_THR_CFG_En (t : Nat) : Fld := ⟨CAP_THR_CFG t, 16, 16⟩
def CAP_THR_CFG_Saving (t : Nat) : Fld := ⟨CAP_THR_CFG t, 15, 0⟩
/-- CAP_POLi_CFG (R212 of chapter 07). -/
def CAP_POL_CFG (i : Nat) : Nat := 0x24D00 + 0x10 * i
def CAP_POL_CFG_FgMask (i : Nat) : Fld := ⟨CAP_POL_CFG i, 23, 16⟩
def CAP_POL_CFG_HomePos (i : Nat) : Fld := ⟨CAP_POL_CFG i, 11, 9⟩
def CAP_POL_CFG_En (i : Nat) : Fld := ⟨CAP_POL_CFG i, 8, 8⟩
def CAP_POL_CFG_Tile (i : Nat) : Fld := ⟨CAP_POL_CFG i, 4, 0⟩
/-- CAP_POLi_SAV (R212 of chapter 07). -/
def CAP_POL_SAV (i : Nat) : Nat := 0x24D04 + 0x10 * i
def CAP_POL_SAV_Saving (i : Nat) : Fld := ⟨CAP_POL_SAV i, 15, 0⟩
/-- CAP_POLi_VRED (R212 of chapter 07). -/
def CAP_POL_VRED (i : Nat) : Nat := 0x24D08 + 0x10 * i
def CAP_POL_VRED_V (i : Nat) : Fld := ⟨CAP_POL_VRED i, 31, 0⟩
/-- CAP_SGs_CFG (R212 of chapter 07). -/
def CAP_SG_CFG (s : Nat) : Nat := 0x25000 + 0x10 * s
def CAP_SG_CFG_FgMask (s : Nat) : Fld := ⟨CAP_SG_CFG s, 31, 24⟩
def CAP_SG_CFG_HomePos (s : Nat) : Fld := ⟨CAP_SG_CFG s, 23, 21⟩
def CAP_SG_CFG_RtShed (s : Nat) : Fld := ⟨CAP_SG_CFG s, 20, 20⟩
def CAP_SG_CFG_Prio (s : Nat) : Fld := ⟨CAP_SG_CFG s, 19, 16⟩
def CAP_SG_CFG_EfMask (s : Nat) : Fld := ⟨CAP_SG_CFG s, 15, 0⟩
/-- CAP_SGs_SAV (R212 of chapter 07). -/
def CAP_SG_SAV (s : Nat) : Nat := 0x25004 + 0x10 * s
def CAP_SG_SAV_Saving (s : Nat) : Fld := ⟨CAP_SG_SAV s, 15, 0⟩
/-- HU_CFG (R222 of chapter 07). -/
def HU_CFG : Nat := 0x25800
def HU_CFG_ResRecs : Fld := ⟨HU_CFG, 31, 24⟩
def HU_CFG_InMask : Fld := ⟨HU_CFG, 23, 16⟩
def HU_CFG_SetGasp : Fld := ⟨HU_CFG, 5, 5⟩
def HU_CFG_BusCheck : Fld := ⟨HU_CFG, 4, 4⟩
def HU_CFG_AutoRestart : Fld := ⟨HU_CFG, 3, 3⟩
def HU_CFG_Store : Fld := ⟨HU_CFG, 2, 1⟩
/-- HU_CTL (R223 of chapter 07). -/
def HU_CTL : Nat := 0x25804
def HU_CTL_Restart : Fld := ⟨HU_CTL, 1, 1⟩
def HU_CTL_En : Fld := ⟨HU_CTL, 0, 0⟩
/-- HU_STAT (R222 of chapter 07). -/
def HU_STAT : Nat := 0x25808
def HU_STAT_ValidCnt : Fld := ⟨HU_STAT, 31, 16⟩
def HU_STAT_StoreBad : Fld := ⟨HU_STAT, 5, 5⟩
def HU_STAT_RestartPend : Fld := ⟨HU_STAT, 4, 4⟩
def HU_STAT_InValid : Fld := ⟨HU_STAT, 3, 3⟩
def HU_STAT_State : Fld := ⟨HU_STAT, 2, 0⟩
/-- HU_CH (R224 of chapter 07). -/
def HU_CH : Nat := 0x2580C
def HU_CH_BusV : Fld := ⟨HU_CH, 23, 16⟩
def HU_CH_PwrCh : Fld := ⟨HU_CH, 15, 8⟩
def HU_CH_StoreV : Fld := ⟨HU_CH, 7, 0⟩
/-- HU_CAP_C (R224 of chapter 07). -/
def HU_CAP_C : Nat := 0x25810
def HU_CAP_C_V : Fld := ⟨HU_CAP_C, 31, 0⟩
/-- HU_CAP_VMIN (R224 of chapter 07). -/
def HU_CAP_VMIN : Nat := 0x25814
def HU_CAP_VMIN_V : Fld := ⟨HU_CAP_VMIN, 31, 0⟩
/-- HU_ETA (R224 of chapter 07). -/
def HU_ETA : Nat := 0x25818
def HU_ETA_EtaBat : Fld := ⟨HU_ETA, 31, 16⟩
def HU_ETA_EtaCap : Fld := ⟨HU_ETA, 15, 0⟩
/-- HU_BAT (R224 of chapter 07). -/
def HU_BAT : Nat := 0x2581C
def HU_BAT_Loop : Fld := ⟨HU_BAT, 3, 0⟩
/-- HU_BAT_SOCMIN (R224 of chapter 07). -/
def HU_BAT_SOCMIN : Nat := 0x25820
def HU_BAT_SOCMIN_V : Fld := ⟨HU_BAT_SOCMIN, 31, 0⟩
/-- HU_E_SHUT (R225 of chapter 07). -/
def HU_E_SHUT : Nat := 0x25824
def HU_E_SHUT_V : Fld := ⟨HU_E_SHUT, 31, 0⟩
/-- HU_E_MARGIN (R225 of chapter 07). -/
def HU_E_MARGIN : Nat := 0x25828
def HU_E_MARGIN_V : Fld := ⟨HU_E_MARGIN, 31, 0⟩
/-- HU_PMAX (R225 of chapter 07). -/
def HU_PMAX : Nat := 0x2582C
def HU_PMAX_V : Fld := ⟨HU_PMAX, 31, 0⟩
/-- HU_VBUS_LOSS (R222 of chapter 07). -/
def HU_VBUS_LOSS : Nat := 0x25830
def HU_VBUS_LOSS_V : Fld := ⟨HU_VBUS_LOSS, 31, 0⟩
/-- HU_VBUS_OK (R222 of chapter 07). -/
def HU_VBUS_OK : Nat := 0x25834
def HU_VBUS_OK_V : Fld := ⟨HU_VBUS_OK, 31, 0⟩
/-- HU_DELAY (R223 of chapter 07). -/
def HU_DELAY : Nat := 0x25838
def HU_DELAY_InValid : Fld := ⟨HU_DELAY, 15, 0⟩
/-- HU_UPD_SOCMIN (R230 of chapter 07). -/
def HU_UPD_SOCMIN : Nat := 0x2583C
def HU_UPD_SOCMIN_V : Fld := ⟨HU_UPD_SOCMIN, 31, 0⟩
/-- HU_RT_THR (R223 of chapter 07). -/
def HU_RT_THR : Nat := 0x25840
def HU_RT_THR_Thr : Fld := ⟨HU_RT_THR, 7, 0⟩
/-- HU_EAVAIL (R224 of chapter 07). -/
def HU_EAVAIL : Nat := 0x25880
def HU_EAVAIL_V : Fld := ⟨HU_EAVAIL, 31, 0⟩
/-- HU_ENEED (R225 of chapter 07). -/
def HU_ENEED : Nat := 0x25884
def HU_ENEED_V : Fld := ⟨HU_ENEED, 31, 0⟩
/-- HU_ALLOW (R226 of chapter 07). -/
def HU_ALLOW : Nat := 0x25888
def HU_ALLOW_V : Fld := ⟨HU_ALLOW, 31, 0⟩
/-- HU_INPUT_LOSS_CNT (R223 of chapter 07). -/
def HU_INPUT_LOSS_CNT : Nat := 0x2588C
def HU_INPUT_LOSS_CNT_Cnt : Fld := ⟨HU_INPUT_LOSS_CNT, 31, 0⟩
/-- HU_GASP_CNT (R227 of chapter 07). -/
def HU_GASP_CNT : Nat := 0x25890
def HU_GASP_CNT_Cnt : Fld := ⟨HU_GASP_CNT, 31, 0⟩
/-- EFe_CFG (R263 of chapter 08). -/
def EF_CFG (e : Nat) : Nat := 0x28000 + 0x100 * e
def EF_CFG_Rail (e : Nat) : Fld := ⟨EF_CFG e, 31, 27⟩
def EF_CFG_RailEn (e : Nat) : Fld := ⟨EF_CFG e, 26, 26⟩
def EF_CFG_TMode (e : Nat) : Fld := ⟨EF_CFG e, 25, 24⟩
def EF_CFG_Hold (e : Nat) : Fld := ⟨EF_CFG e, 23, 23⟩
def EF_CFG_OnLim (e : Nat) : Fld := ⟨EF_CFG e, 22, 22⟩
def EF_CFG_SoftOff (e : Nat) : Fld := ⟨EF_CFG e, 21, 21⟩
/-- EFe_CTL (R241 of chapter 08). -/
def EF_CTL (e : Nat) : Nat := 0x28004 + 0x100 * e
def EF_CTL_Clr (e : Nat) : Fld := ⟨EF_CTL e, 2, 2⟩
def EF_CTL_On (e : Nat) : Fld := ⟨EF_CTL e, 1, 1⟩
def EF_CTL_En (e : Nat) : Fld := ⟨EF_CTL e, 0, 0⟩
/-- EFe_STAT (R240 of chapter 08). -/
def EF_STAT (e : Nat) : Nat := 0x28008 + 0x100 * e
def EF_STAT_TdFault (e : Nat) : Fld := ⟨EF_STAT e, 20, 20⟩
def EF_STAT_RetryLeft (e : Nat) : Fld := ⟨EF_STAT e, 19, 16⟩
def EF_STAT_BrkWarn (e : Nat) : Fld := ⟨EF_STAT e, 15, 15⟩
def EF_STAT_Adopted (e : Nat) : Fld := ⟨EF_STAT e, 14, 14⟩
def EF_STAT_HuOff (e : Nat) : Fld := ⟨EF_STAT e, 13, 13⟩
def EF_STAT_ShedOff (e : Nat) : Fld := ⟨EF_STAT e, 12, 12⟩
def EF_STAT_WinOk (e : Nat) : Fld := ⟨EF_STAT e, 11, 11⟩
def EF_STAT_Limiting (e : Nat) : Fld := ⟨EF_STAT e, 10, 10⟩
def EF_STAT_GateGood (e : Nat) : Fld := ⟨EF_STAT e, 9, 9⟩
def EF_STAT_Pg (e : Nat) : Fld := ⟨EF_STAT e, 8, 8⟩
def EF_STAT_Cause (e : Nat) : Fld := ⟨EF_STAT e, 7, 4⟩
def EF_STAT_State (e : Nat) : Fld := ⟨EF_STAT e, 3, 0⟩
/-- EFe_MEAS (R237 of chapter 08). -/
def EF_MEAS (e : Nat) : Nat := 0x2800C + 0x100 * e
def EF_MEAS_TambCh (e : Nat) : Fld := ⟨EF_MEAS e, 31, 24⟩
def EF_MEAS_IinCh (e : Nat) : Fld := ⟨EF_MEAS e, 23, 16⟩
def EF_MEAS_VoutCh (e : Nat) : Fld := ⟨EF_MEAS e, 15, 8⟩
def EF_MEAS_VinCh (e : Nat) : Fld := ⟨EF_MEAS e, 7, 0⟩
/-- EFe_UV_OFF (R242 of chapter 08). -/
def EF_UV_OFF (e : Nat) : Nat := 0x28010 + 0x100 * e
def EF_UV_OFF_V (e : Nat) : Fld := ⟨EF_UV_OFF e, 31, 0⟩
/-- EFe_UV_ON (R242 of chapter 08). -/
def EF_UV_ON (e : Nat) : Nat := 0x28014 + 0x100 * e
def EF_UV_ON_V (e : Nat) : Fld := ⟨EF_UV_ON e, 31, 0⟩
/-- EFe_OV_ON (R242 of chapter 08). -/
def EF_OV_ON (e : Nat) : Nat := 0x28018 + 0x100 * e
def EF_OV_ON_V (e : Nat) : Fld := ⟨EF_OV_ON e, 31, 0⟩
/-- EFe_OV_OFF (R242 of chapter 08). -/
def EF_OV_OFF (e : Nat) : Nat := 0x2801C + 0x100 * e
def EF_OV_OFF_V (e : Nat) : Fld := ⟨EF_OV_OFF e, 31, 0⟩
/-- EFe_DELAY (R242 of chapter 08). -/
def EF_DELAY (e : Nat) : Nat := 0x28020 + 0x100 * e
def EF_DELAY_UvDelay (e : Nat) : Fld := ⟨EF_DELAY e, 31, 16⟩
def EF_DELAY_InsDelay (e : Nat) : Fld := ⟨EF_DELAY e, 15, 0⟩
/-- EFe_INRUSH (R244 of chapter 08). -/
def EF_INRUSH (e : Nat) : Nat := 0x28024 + 0x100 * e
def EF_INRUSH_LimCode (e : Nat) : Fld := ⟨EF_INRUSH e, 25, 16⟩
def EF_INRUSH_LimEn (e : Nat) : Fld := ⟨EF_INRUSH e, 4, 4⟩
def EF_INRUSH_Ig (e : Nat) : Fld := ⟨EF_INRUSH e, 3, 0⟩
/-- EFe_INRUSH_MAX (R245 of chapter 08). -/
def EF_INRUSH_MAX (e : Nat) : Nat := 0x28028 + 0x100 * e
def EF_INRUSH_MAX_Frames (e : Nat) : Fld := ⟨EF_INRUSH_MAX e, 23, 0⟩
/-- EFe_PG (R245 of chapter 08). -/
def EF_PG (e : Nat) : Nat := 0x2802C + 0x100 * e
def EF_PG_Drop (e : Nat) : Fld := ⟨EF_PG e, 15, 0⟩
/-- EFe_BRK_Ik (R249 of chapter 08). -/
def EF_BRK_I (e k : Nat) : Nat := 0x28030 + 0x100 * e + 0x4 * k
def EF_BRK_I_I (e k : Nat) : Fld := ⟨EF_BRK_I e k, 31, 0⟩
/-- EFe_BRK_Tk (R249 of chapter 08). -/
def EF_BRK_T (e k : Nat) : Nat := 0x28050 + 0x100 * e + 0x4 * k
def EF_BRK_T_T (e k : Nat) : Fld := ⟨EF_BRK_T e k, 31, 0⟩
/-- EFe_BRK_CFG (R250 of chapter 08). -/
def EF_BRK_CFG (e : Nat) : Nat := 0x28070 + 0x100 * e
def EF_BRK_CFG_Rearm (e : Nat) : Fld := ⟨EF_BRK_CFG e, 31, 24⟩
def EF_BRK_CFG_Warn (e : Nat) : Fld := ⟨EF_BRK_CFG e, 23, 16⟩
def EF_BRK_CFG_CoolExp (e : Nat) : Fld := ⟨EF_BRK_CFG e, 4, 0⟩
/-- EFe_INST (R251 of chapter 08). -/
def EF_INST (e : Nat) : Nat := 0x28074 + 0x100 * e
def EF_INST_N (e : Nat) : Fld := ⟨EF_INST e, 13, 12⟩
def EF_INST_Code (e : Nat) : Fld := ⟨EF_INST e, 11, 0⟩
/-- EFe_RTH1 (R246 of chapter 08). -/
def EF_RTH1 (e : Nat) : Nat := 0x28078 + 0x100 * e
def EF_RTH1_V (e : Nat) : Fld := ⟨EF_RTH1 e, 31, 0⟩
/-- EFe_RTH2 (R246 of chapter 08). -/
def EF_RTH2 (e : Nat) : Nat := 0x2807C + 0x100 * e
def EF_RTH2_V (e : Nat) : Fld := ⟨EF_RTH2 e, 31, 0⟩
/-- EFe_ALPHA1 (R246 of chapter 08). -/
def EF_ALPHA1 (e : Nat) : Nat := 0x28080 + 0x100 * e
def EF_ALPHA1_V (e : Nat) : Fld := ⟨EF_ALPHA1 e, 31, 0⟩
/-- EFe_ALPHA2 (R246 of chapter 08). -/
def EF_ALPHA2 (e : Nat) : Nat := 0x28084 + 0x100 * e
def EF_ALPHA2_V (e : Nat) : Fld := ⟨EF_ALPHA2 e, 31, 0⟩
/-- EFe_TAMB (R246 of chapter 08). -/
def EF_TAMB (e : Nat) : Nat := 0x28088 + 0x100 * e
def EF_TAMB_V (e : Nat) : Fld := ⟨EF_TAMB e, 31, 0⟩
/-- EFe_TMAX (R248 of chapter 08). -/
def EF_TMAX (e : Nat) : Nat := 0x2808C + 0x100 * e
def EF_TMAX_V (e : Nat) : Fld := ⟨EF_TMAX e, 31, 0⟩
/-- EFe_TREARM (R255 of chapter 08). -/
def EF_TREARM (e : Nat) : Nat := 0x28090 + 0x100 * e
def EF_TREARM_V (e : Nat) : Fld := ⟨EF_TREARM e, 31, 0⟩
/-- EFe_TD_CFG (R247 of chapter 08). -/
def EF_TD_CFG (e : Nat) : Nat := 0x28094 + 0x100 * e
def EF_TD_CFG_Eta (e : Nat) : Fld := ⟨EF_TD_CFG e, 15, 0⟩
/-- EFe_RETRY (R255 of chapter 08). -/
def EF_RETRY (e : Nat) : Nat := 0x28098 + 0x100 * e
def EF_RETRY_Interval (e : Nat) : Fld := ⟨EF_RETRY e, 31, 16⟩
def EF_RETRY_Count (e : Nat) : Fld := ⟨EF_RETRY e, 5, 2⟩
def EF_RETRY_Mode (e : Nat) : Fld := ⟨EF_RETRY e, 1, 0⟩
/-- EFe_BRK_ACC (R250 of chapter 08). -/
def EF_BRK_ACC (e : Nat) : Nat := 0x2809C + 0x100 * e
def EF_BRK_ACC_A (e : Nat) : Fld := ⟨EF_BRK_ACC e, 31, 0⟩
/-- EFe_TJ (R248 of chapter 08). -/
def EF_TJ (e : Nat) : Nat := 0x280A0 + 0x100 * e
def EF_TJ_V (e : Nat) : Fld := ⟨EF_TJ e, 31, 0⟩
/-- EFe_PFET (R246 of chapter 08). -/
def EF_PFET (e : Nat) : Nat := 0x280A4 + 0x100 * e
def EF_PFET_V (e : Nat) : Fld := ⟨EF_PFET e, 31, 0⟩
/-- EFe_TJ_MEAS (R247 of chapter 08). -/
def EF_TJ_MEAS (e : Nat) : Nat := 0x280A8 + 0x100 * e
def EF_TJ_MEAS_V (e : Nat) : Fld := ⟨EF_TJ_MEAS e, 31, 0⟩
/-- EFe_TRIP_CNT (R254 of chapter 08). -/
def EF_TRIP_CNT (e : Nat) : Nat := 0x280AC + 0x100 * e
def EF_TRIP_CNT_Cnt (e : Nat) : Fld := ⟨EF_TRIP_CNT e, 31, 0⟩
/-- EFe_RETRY_CNT (R255 of chapter 08). -/
def EF_RETRY_CNT (e : Nat) : Nat := 0x280B0 + 0x100 * e
def EF_RETRY_CNT_Cnt (e : Nat) : Fld := ⟨EF_RETRY_CNT e, 31, 0⟩
/-- EFe_ON_CNT (R245 of chapter 08). -/
def EF_ON_CNT (e : Nat) : Nat := 0x280B4 + 0x100 * e
def EF_ON_CNT_Cnt (e : Nat) : Fld := ⟨EF_ON_CNT e, 31, 0⟩
/-- EF_SUM (R263 of chapter 08). -/
def EF_SUM : Nat := 0x29000
def EF_SUM_Trip : Fld := ⟨EF_SUM, 31, 16⟩
def EF_SUM_On : Fld := ⟨EF_SUM, 15, 0⟩
/-- EF_HELD (R257 of chapter 08). -/
def EF_HELD : Nat := 0x29004
def EF_HELD_Held : Fld := ⟨EF_HELD, 15, 0⟩
/-- EF_VHV_LOSS_CNT (R258 of chapter 08). -/
def EF_VHV_LOSS_CNT : Nat := 0x29008
def EF_VHV_LOSS_CNT_Cnt : Fld := ⟨EF_VHV_LOSS_CNT, 31, 0⟩
/-- SEQ_CTL (R284 of chapter 09). -/
def SEQ_CTL : Nat := 0x2A000
def SEQ_CTL_En : Fld := ⟨SEQ_CTL, 0, 0⟩
/-- SEQ_STAT (R280 of chapter 09). -/
def SEQ_STAT : Nat := 0x2A004
def SEQ_STAT_FltIn : Fld := ⟨SEQ_STAT, 7, 7⟩
def SEQ_STAT_FltLevel : Fld := ⟨SEQ_STAT, 6, 6⟩
def SEQ_STAT_FltDrive : Fld := ⟨SEQ_STAT, 5, 5⟩
def SEQ_STAT_Degraded : Fld := ⟨SEQ_STAT, 4, 4⟩
def SEQ_STAT_OnPending : Fld := ⟨SEQ_STAT, 3, 3⟩
def SEQ_STAT_State : Fld := ⟨SEQ_STAT, 2, 0⟩
/-- SEQ_UP_MASK (R288 of chapter 09). -/
def SEQ_UP_MASK : Nat := 0x2A008
def SEQ_UP_MASK_Mask : Fld := ⟨SEQ_UP_MASK, 31, 0⟩
/-- SEQ_TIMING (R281 of chapter 09). -/
def SEQ_TIMING : Nat := 0x2A00C
def SEQ_TIMING_AdoptHeld : Fld := ⟨SEQ_TIMING, 16, 16⟩
def SEQ_TIMING_RestartDelay : Fld := ⟨SEQ_TIMING, 15, 0⟩
/-- SEQ_FLT_CFG (R286 of chapter 09). -/
def SEQ_FLT_CFG : Nat := 0x2A010
def SEQ_FLT_CFG_ReUp : Fld := ⟨SEQ_FLT_CFG, 20, 20⟩
def SEQ_FLT_CFG_GuardLow : Fld := ⟨SEQ_FLT_CFG, 19, 19⟩
def SEQ_FLT_CFG_OutMode : Fld := ⟨SEQ_FLT_CFG, 18, 18⟩
def SEQ_FLT_CFG_InAct : Fld := ⟨SEQ_FLT_CFG, 17, 16⟩
def SEQ_FLT_CFG_RelFrames : Fld := ⟨SEQ_FLT_CFG, 15, 8⟩
def SEQ_FLT_CFG_MinLow : Fld := ⟨SEQ_FLT_CFG, 7, 0⟩
/-- SEQ_DEMAND (R269 of chapter 09). -/
def SEQ_DEMAND : Nat := 0x2A014
def SEQ_DEMAND_Mask : Fld := ⟨SEQ_DEMAND, 31, 0⟩
/-- SEQ_UP (R288 of chapter 09). -/
def SEQ_UP : Nat := 0x2A018
def SEQ_UP_Mask : Fld := ⟨SEQ_UP, 31, 0⟩
/-- SEQ_FAILED (R288 of chapter 09). -/
def SEQ_FAILED : Nat := 0x2A01C
def SEQ_FAILED_Mask : Fld := ⟨SEQ_FAILED, 31, 0⟩
/-- SEQ_FLT_LOW_CNT (R287 of chapter 09). -/
def SEQ_FLT_LOW_CNT : Nat := 0x2A020
def SEQ_FLT_LOW_CNT_Cnt : Fld := ⟨SEQ_FLT_LOW_CNT, 31, 0⟩
/-- SEQ_FLT_OUT_MASK (R286 of chapter 09). -/
def SEQ_FLT_OUT_MASK : Nat := 0x2A024
def SEQ_FLT_OUT_MASK_Mask : Fld := ⟨SEQ_FLT_OUT_MASK, 31, 0⟩
/-- SEQ_FLT_IN_MASK (R287 of chapter 09). -/
def SEQ_FLT_IN_MASK : Nat := 0x2A028
def SEQ_FLT_IN_MASK_Mask : Fld := ⟨SEQ_FLT_IN_MASK, 31, 0⟩
/-- SEQ_RAILr_CFG (R264 of chapter 09). -/
def SEQ_RAIL_CFG (r : Nat) : Nat := 0x2A400 + 0x40 * r
def SEQ_RAIL_CFG_Kind (r : Nat) : Fld := ⟨SEQ_RAIL_CFG r, 31, 30⟩
def SEQ_RAIL_CFG_Unit (r : Nat) : Fld := ⟨SEQ_RAIL_CFG r, 28, 24⟩
def SEQ_RAIL_CFG_MonCh (r : Nat) : Fld := ⟨SEQ_RAIL_CFG r, 23, 16⟩
def SEQ_RAIL_CFG_DropFrames (r : Nat) : Fld := ⟨SEQ_RAIL_CFG r, 15, 8⟩
def SEQ_RAIL_CFG_En (r : Nat) : Fld := ⟨SEQ_RAIL_CFG r, 0, 0⟩
/-- SEQ_RAILr_CTL (R277 of chapter 09). -/
def SEQ_RAIL_CTL (r : Nat) : Nat := 0x2A404 + 0x40 * r
def SEQ_RAIL_CTL_Clr (r : Nat) : Fld := ⟨SEQ_RAIL_CTL r, 0, 0⟩
/-- SEQ_RAILr_STAT (R270 of chapter 09). -/
def SEQ_RAIL_STAT (r : Nat) : Nat := 0x2A408 + 0x40 * r
def SEQ_RAIL_STAT_Frames (r : Nat) : Fld := ⟨SEQ_RAIL_STAT r, 31, 16⟩
def SEQ_RAIL_STAT_Adopted (r : Nat) : Fld := ⟨SEQ_RAIL_STAT r, 10, 10⟩
def SEQ_RAIL_STAT_Grant (r : Nat) : Fld := ⟨SEQ_RAIL_STAT r, 9, 9⟩
def SEQ_RAIL_STAT_Demand (r : Nat) : Fld := ⟨SEQ_RAIL_STAT r, 8, 8⟩
def SEQ_RAIL_STAT_Stuck (r : Nat) : Fld := ⟨SEQ_RAIL_STAT r, 7, 7⟩
def SEQ_RAIL_STAT_Cause (r : Nat) : Fld := ⟨SEQ_RAIL_STAT r, 6, 4⟩
def SEQ_RAIL_STAT_State (r : Nat) : Fld := ⟨SEQ_RAIL_STAT r, 3, 0⟩
/-- SEQ_RAILr_PRE (R268 of chapter 09). -/
def SEQ_RAIL_PRE (r : Nat) : Nat := 0x2A40C + 0x40 * r
def SEQ_RAIL_PRE_P3 (r : Nat) : Fld := ⟨SEQ_RAIL_PRE r, 31, 24⟩
def SEQ_RAIL_PRE_P2 (r : Nat) : Fld := ⟨SEQ_RAIL_PRE r, 23, 16⟩
def SEQ_RAIL_PRE_P1 (r : Nat) : Fld := ⟨SEQ_RAIL_PRE r, 15, 8⟩
def SEQ_RAIL_PRE_P0 (r : Nat) : Fld := ⟨SEQ_RAIL_PRE r, 7, 0⟩
/-- SEQ_RAILr_UP_THR (R267 of chapter 09). -/
def SEQ_RAIL_UP_THR (r : Nat) : Nat := 0x2A410 + 0x40 * r
def SEQ_RAIL_UP_THR_V (r : Nat) : Fld := ⟨SEQ_RAIL_UP_THR r, 31, 0⟩
/-- SEQ_RAILr_DROP_THR (R267 of chapter 09). -/
def SEQ_RAIL_DROP_THR (r : Nat) : Nat := 0x2A414 + 0x40 * r
def SEQ_RAIL_DROP_THR_V (r : Nat) : Fld := ⟨SEQ_RAIL_DROP_THR r, 31, 0⟩
/-- SEQ_RAILr_OFF_THR (R267 of chapter 09). -/
def SEQ_RAIL_OFF_THR (r : Nat) : Nat := 0x2A418 + 0x40 * r
def SEQ_RAIL_OFF_THR_V (r : Nat) : Fld := ⟨SEQ_RAIL_OFF_THR r, 31, 0⟩
/-- SEQ_RAILr_DELAY (R272 of chapter 09). -/
def SEQ_RAIL_DELAY (r : Nat) : Nat := 0x2A41C + 0x40 * r
def SEQ_RAIL_DELAY_OffDelay (r : Nat) : Fld := ⟨SEQ_RAIL_DELAY r, 31, 16⟩
def SEQ_RAIL_DELAY_OnDelay (r : Nat) : Fld := ⟨SEQ_RAIL_DELAY r, 15, 0⟩
/-- SEQ_RAILr_LIMIT (R270 of chapter 09). -/
def SEQ_RAIL_LIMIT (r : Nat) : Nat := 0x2A420 + 0x40 * r
def SEQ_RAIL_LIMIT_FallMax (r : Nat) : Fld := ⟨SEQ_RAIL_LIMIT r, 31, 16⟩
def SEQ_RAIL_LIMIT_RampMax (r : Nat) : Fld := ⟨SEQ_RAIL_LIMIT r, 15, 0⟩
/-- SEQ_RAILr_PNT (R266 of chapter 09). -/
def SEQ_RAIL_PNT (r : Nat) : Nat := 0x2A424 + 0x40 * r
def SEQ_RAIL_PNT_Every (r : Nat) : Fld := ⟨SEQ_RAIL_PNT r, 31, 24⟩
def SEQ_RAIL_PNT_Point (r : Nat) : Fld := ⟨SEQ_RAIL_PNT r, 19, 0⟩
/-- SEQ_RAILr_ONVAL (R264 of chapter 09). -/
def SEQ_RAIL_ONVAL (r : Nat) : Nat := 0x2A428 + 0x40 * r
def SEQ_RAIL_ONVAL_V (r : Nat) : Fld := ⟨SEQ_RAIL_ONVAL r, 31, 0⟩
/-- SEQ_RAILr_OFFVAL (R264 of chapter 09). -/
def SEQ_RAIL_OFFVAL (r : Nat) : Nat := 0x2A42C + 0x40 * r
def SEQ_RAIL_OFFVAL_V (r : Nat) : Fld := ⟨SEQ_RAIL_OFFVAL r, 31, 0⟩
/-- SEQ_RAILr_FAIL_CNT (R275 of chapter 09). -/
def SEQ_RAIL_FAIL_CNT (r : Nat) : Nat := 0x2A430 + 0x40 * r
def SEQ_RAIL_FAIL_CNT_Cnt (r : Nat) : Fld := ⟨SEQ_RAIL_FAIL_CNT r, 31, 0⟩
/-- SEQ_RAILr_RAMP_LAST (R272 of chapter 09). -/
def SEQ_RAIL_RAMP_LAST (r : Nat) : Nat := 0x2A434 + 0x40 * r
def SEQ_RAIL_RAMP_LAST_Frames (r : Nat) : Fld := ⟨SEQ_RAIL_RAMP_LAST r, 15, 0⟩
/-- HIF_STAT (R324 of chapter 10). -/
def HIF_STAT : Nat := 0x2C000
def HIF_STAT_StreamDiv : Fld := ⟨HIF_STAT, 31, 16⟩
def HIF_STAT_Width : Fld := ⟨HIF_STAT, 9, 8⟩
def HIF_STAT_Rate : Fld := ⟨HIF_STAT, 7, 6⟩
def HIF_STAT_Sris : Fld := ⟨HIF_STAT, 5, 5⟩
def HIF_STAT_D3 : Fld := ⟨HIF_STAT, 4, 4⟩
def HIF_STAT_BusMaster : Fld := ⟨HIF_STAT, 3, 3⟩
def HIF_STAT_L1 : Fld := ⟨HIF_STAT, 2, 2⟩
def HIF_STAT_LinkUp : Fld := ⟨HIF_STAT, 1, 1⟩
def HIF_STAT_DmaOk : Fld := ⟨HIF_STAT, 0, 0⟩
/-- HIF_LINKDOWN_CNT (R295 of chapter 10). -/
def HIF_LINKDOWN_CNT : Nat := 0x2C004
def HIF_LINKDOWN_CNT_Cnt : Fld := ⟨HIF_LINKDOWN_CNT, 31, 0⟩
/-- HIF_DROP_CNT (R303 of chapter 10). -/
def HIF_DROP_CNT : Nat := 0x2C008
def HIF_DROP_CNT_Cnt : Fld := ⟨HIF_DROP_CNT, 31, 0⟩
/-- HIF_BADCRC_CNT (R308 of chapter 10). -/
def HIF_BADCRC_CNT : Nat := 0x2C00C
def HIF_BADCRC_CNT_Cnt : Fld := ⟨HIF_BADCRC_CNT, 31, 0⟩
/-- HIF_BADTAG_CNT (R308 of chapter 10). -/
def HIF_BADTAG_CNT : Nat := 0x2C010
def HIF_BADTAG_CNT_Cnt : Fld := ⟨HIF_BADTAG_CNT, 31, 0⟩
/-- HIF_SQn_BASE_LO (R298 of chapter 10). -/
def HIF_SQ_BASE_LO (n : Nat) : Nat := 0x2C100 + 0x40 * n
def HIF_SQ_BASE_LO_Base (n : Nat) : Fld := ⟨HIF_SQ_BASE_LO n, 31, 12⟩
/-- HIF_SQn_BASE_HI (R298 of chapter 10). -/
def HIF_SQ_BASE_HI (n : Nat) : Nat := 0x2C104 + 0x40 * n
def HIF_SQ_BASE_HI_Base (n : Nat) : Fld := ⟨HIF_SQ_BASE_HI n, 31, 0⟩
/-- HIF_SQn_CFG (R324 of chapter 10). -/
def HIF_SQ_CFG (n : Nat) : Nat := 0x2C108 + 0x40 * n
def HIF_SQ_CFG_SizeLog2 (n : Nat) : Fld := ⟨HIF_SQ_CFG n, 3, 0⟩
/-- HIF_SQn_CTL (R303 of chapter 10). -/
def HIF_SQ_CTL (n : Nat) : Nat := 0x2C10C + 0x40 * n
def HIF_SQ_CTL_Resume (n : Nat) : Fld := ⟨HIF_SQ_CTL n, 1, 1⟩
def HIF_SQ_CTL_En (n : Nat) : Fld := ⟨HIF_SQ_CTL n, 0, 0⟩
/-- HIF_SQn_STAT (R324 of chapter 10). -/
def HIF_SQ_STAT (n : Nat) : Nat := 0x2C110 + 0x40 * n
def HIF_SQ_STAT_DmaErr (n : Nat) : Fld := ⟨HIF_SQ_STAT n, 4, 4⟩
def HIF_SQ_STAT_DbErr (n : Nat) : Fld := ⟨HIF_SQ_STAT n, 3, 3⟩
def HIF_SQ_STAT_NoCredit (n : Nat) : Fld := ⟨HIF_SQ_STAT n, 2, 2⟩
def HIF_SQ_STAT_Held (n : Nat) : Fld := ⟨HIF_SQ_STAT n, 1, 1⟩
def HIF_SQ_STAT_Attached (n : Nat) : Fld := ⟨HIF_SQ_STAT n, 0, 0⟩
/-- HIF_SQn_TAIL (R300 of chapter 10). -/
def HIF_SQ_TAIL (n : Nat) : Nat := 0x2C114 + 0x40 * n
def HIF_SQ_TAIL_Seq (n : Nat) : Fld := ⟨HIF_SQ_TAIL n, 31, 0⟩
/-- HIF_SQn_ACCEPTED_SEQ (R301 of chapter 10). -/
def HIF_SQ_ACCEPTED_SEQ (n : Nat) : Nat := 0x2C118 + 0x40 * n
def HIF_SQ_ACCEPTED_SEQ_Seq (n : Nat) : Fld := ⟨HIF_SQ_ACCEPTED_SEQ n, 31, 0⟩
/-- HIF_SQn_INIT_SEQ (R299 of chapter 10). -/
def HIF_SQ_INIT_SEQ (n : Nat) : Nat := 0x2C11C + 0x40 * n
def HIF_SQ_INIT_SEQ_Seq (n : Nat) : Fld := ⟨HIF_SQ_INIT_SEQ n, 31, 0⟩
/-- HIF_CQn_BASE_LO (R298 of chapter 10). -/
def HIF_CQ_BASE_LO (n : Nat) : Nat := 0x2C120 + 0x40 * n
def HIF_CQ_BASE_LO_Base (n : Nat) : Fld := ⟨HIF_CQ_BASE_LO n, 31, 12⟩
/-- HIF_CQn_BASE_HI (R298 of chapter 10). -/
def HIF_CQ_BASE_HI (n : Nat) : Nat := 0x2C124 + 0x40 * n
def HIF_CQ_BASE_HI_Base (n : Nat) : Fld := ⟨HIF_CQ_BASE_HI n, 31, 0⟩
/-- HIF_CQn_CFG (R324 of chapter 10). -/
def HIF_CQ_CFG (n : Nat) : Nat := 0x2C128 + 0x40 * n
def HIF_CQ_CFG_SizeLog2 (n : Nat) : Fld := ⟨HIF_CQ_CFG n, 3, 0⟩
/-- HIF_CQn_HEAD (R300 of chapter 10). -/
def HIF_CQ_HEAD (n : Nat) : Nat := 0x2C12C + 0x40 * n
def HIF_CQ_HEAD_Seq (n : Nat) : Fld := ⟨HIF_CQ_HEAD n, 31, 0⟩
/-- HIF_CQn_POSTED_SEQ (R300 of chapter 10). -/
def HIF_CQ_POSTED_SEQ (n : Nat) : Nat := 0x2C130 + 0x40 * n
def HIF_CQ_POSTED_SEQ_Seq (n : Nat) : Fld := ⟨HIF_CQ_POSTED_SEQ n, 31, 0⟩
/-- HIF_CQn_INIT_SEQ (R299 of chapter 10). -/
def HIF_CQ_INIT_SEQ (n : Nat) : Nat := 0x2C134 + 0x40 * n
def HIF_CQ_INIT_SEQ_Seq (n : Nat) : Fld := ⟨HIF_CQ_INIT_SEQ n, 31, 0⟩
/-- HIF_CQn_HELD (R304 of chapter 10). -/
def HIF_CQ_HELD (n : Nat) : Nat := 0x2C138 + 0x40 * n
def HIF_CQ_HELD_Cnt (n : Nat) : Fld := ⟨HIF_CQ_HELD n, 8, 0⟩
/-- HIF_EQ_BASE_LO (R298 of chapter 10). -/
def HIF_EQ_BASE_LO : Nat := 0x2C200
def HIF_EQ_BASE_LO_Base : Fld := ⟨HIF_EQ_BASE_LO, 31, 12⟩
/-- HIF_EQ_BASE_HI (R298 of chapter 10). -/
def HIF_EQ_BASE_HI : Nat := 0x2C204
def HIF_EQ_BASE_HI_Base : Fld := ⟨HIF_EQ_BASE_HI, 31, 0⟩
/-- HIF_EQ_CFG (R324 of chapter 10). -/
def HIF_EQ_CFG : Nat := 0x2C208
def HIF_EQ_CFG_SizeLog2 : Fld := ⟨HIF_EQ_CFG, 3, 0⟩
/-- HIF_EQ_CTL (R303 of chapter 10). -/
def HIF_EQ_CTL : Nat := 0x2C20C
def HIF_EQ_CTL_Resume : Fld := ⟨HIF_EQ_CTL, 1, 1⟩
def HIF_EQ_CTL_En : Fld := ⟨HIF_EQ_CTL, 0, 0⟩
/-- HIF_EQ_HEAD (R300 of chapter 10). -/
def HIF_EQ_HEAD : Nat := 0x2C210
def HIF_EQ_HEAD_Seq : Fld := ⟨HIF_EQ_HEAD, 31, 0⟩
/-- HIF_EQ_POSTED_SEQ (R300 of chapter 10). -/
def HIF_EQ_POSTED_SEQ : Nat := 0x2C214
def HIF_EQ_POSTED_SEQ_Seq : Fld := ⟨HIF_EQ_POSTED_SEQ, 31, 0⟩
/-- HIF_EQ_INIT_SEQ (R299 of chapter 10). -/
def HIF_EQ_INIT_SEQ : Nat := 0x2C218
def HIF_EQ_INIT_SEQ_Seq : Fld := ⟨HIF_EQ_INIT_SEQ, 31, 0⟩
/-- HIF_EQ_LOST_CNT (R315 of chapter 10). -/
def HIF_EQ_LOST_CNT : Nat := 0x2C21C
def HIF_EQ_LOST_CNT_Cnt : Fld := ⟨HIF_EQ_LOST_CNT, 31, 0⟩
/-- HIF_TSk_BASE_LO (R298 of chapter 10). -/
def HIF_TS_BASE_LO (k : Nat) : Nat := 0x2C300 + 0x20 * k
def HIF_TS_BASE_LO_Base (k : Nat) : Fld := ⟨HIF_TS_BASE_LO k, 31, 12⟩
/-- HIF_TSk_BASE_HI (R298 of chapter 10). -/
def HIF_TS_BASE_HI (k : Nat) : Nat := 0x2C304 + 0x20 * k
def HIF_TS_BASE_HI_Base (k : Nat) : Fld := ⟨HIF_TS_BASE_HI k, 31, 0⟩
/-- HIF_TSk_CFG (R324 of chapter 10). -/
def HIF_TS_CFG (k : Nat) : Nat := 0x2C308 + 0x20 * k
def HIF_TS_CFG_SizeLog2 (k : Nat) : Fld := ⟨HIF_TS_CFG k, 3, 0⟩
/-- HIF_TSk_CTL (R303 of chapter 10). -/
def HIF_TS_CTL (k : Nat) : Nat := 0x2C30C + 0x20 * k
def HIF_TS_CTL_Resume (k : Nat) : Fld := ⟨HIF_TS_CTL k, 1, 1⟩
def HIF_TS_CTL_En (k : Nat) : Fld := ⟨HIF_TS_CTL k, 0, 0⟩
/-- HIF_TSk_HEAD (R300 of chapter 10). -/
def HIF_TS_HEAD (k : Nat) : Nat := 0x2C310 + 0x20 * k
def HIF_TS_HEAD_Seq (k : Nat) : Fld := ⟨HIF_TS_HEAD k, 31, 0⟩
/-- HIF_TSk_POSTED_SEQ (R300 of chapter 10). -/
def HIF_TS_POSTED_SEQ (k : Nat) : Nat := 0x2C314 + 0x20 * k
def HIF_TS_POSTED_SEQ_Seq (k : Nat) : Fld := ⟨HIF_TS_POSTED_SEQ k, 31, 0⟩
/-- HIF_TSk_INIT_SEQ (R299 of chapter 10). -/
def HIF_TS_INIT_SEQ (k : Nat) : Nat := 0x2C318 + 0x20 * k
def HIF_TS_INIT_SEQ_Seq (k : Nat) : Fld := ⟨HIF_TS_INIT_SEQ k, 31, 0⟩
/-- HIF_TSk_DROP_CNT (R316 of chapter 10). -/
def HIF_TS_DROP_CNT (k : Nat) : Nat := 0x2C31C + 0x20 * k
def HIF_TS_DROP_CNT_Cnt (k : Nat) : Fld := ⟨HIF_TS_DROP_CNT k, 31, 0⟩
/-- HIF_MSIXc_MAP (R324 of chapter 10). -/
def HIF_MSIX_MAP (c : Nat) : Nat := 0x2C400 + 0x4 * c
def HIF_MSIX_MAP_Vec (c : Nat) : Fld := ⟨HIF_MSIX_MAP c, 4, 0⟩
/-- HIF_MSIXv_MOD (R319 of chapter 10). -/
def HIF_MSIX_MOD (v : Nat) : Nat := 0x2C500 + 0x4 * v
def HIF_MSIX_MOD_Frames (v : Nat) : Fld := ⟨HIF_MSIX_MOD v, 23, 8⟩
def HIF_MSIX_MOD_Count (v : Nat) : Fld := ⟨HIF_MSIX_MOD v, 7, 0⟩
/-- HIF_TAGt (R310 of chapter 10). -/
def HIF_TAG (t : Nat) : Nat := 0x2C800 + 0x4 * t
def HIF_TAG_Gen (t : Nat) : Fld := ⟨HIF_TAG t, 31, 16⟩
def HIF_TAG_Pair (t : Nat) : Fld := ⟨HIF_TAG t, 9, 8⟩
def HIF_TAG_State (t : Nat) : Fld := ⟨HIF_TAG t, 1, 0⟩
/-- PNT_STAT (R345 of chapter 11). -/
def PNT_STAT : Nat := 0x2E000
def PNT_STAT_Drv : Fld := ⟨PNT_STAT, 22, 16⟩
def PNT_STAT_Pins : Fld := ⟨PNT_STAT, 13, 0⟩
/-- PNT_DIR_BASE_LO (R335 of chapter 11). -/
def PNT_DIR_BASE_LO : Nat := 0x2E004
def PNT_DIR_BASE_LO_Base : Fld := ⟨PNT_DIR_BASE_LO, 31, 12⟩
/-- PNT_DIR_BASE_HI (R335 of chapter 11). -/
def PNT_DIR_BASE_HI : Nat := 0x2E008
def PNT_DIR_BASE_HI_Base : Fld := ⟨PNT_DIR_BASE_HI, 31, 0⟩
/-- PNT_DIR_CTL (R336 of chapter 11). -/
def PNT_DIR_CTL : Nat := 0x2E00C
def PNT_DIR_CTL_Flush : Fld := ⟨PNT_DIR_CTL, 1, 1⟩
def PNT_DIR_CTL_En : Fld := ⟨PNT_DIR_CTL, 0, 0⟩
/-- PNT_STALE_CNT (R331 of chapter 11). -/
def PNT_STALE_CNT : Nat := 0x2E010
def PNT_STALE_CNT_Cnt : Fld := ⟨PNT_STALE_CNT, 31, 0⟩
/-- PNT_DIRMISS_CNT (R336 of chapter 11). -/
def PNT_DIRMISS_CNT : Nat := 0x2E014
def PNT_DIRMISS_CNT_Cnt : Fld := ⟨PNT_DIRMISS_CNT, 31, 0⟩
/-- PNT_DIRCRC_CNT (R336 of chapter 11). -/
def PNT_DIRCRC_CNT : Nat := 0x2E018
def PNT_DIRCRC_CNT_Cnt : Fld := ⟨PNT_DIRCRC_CNT, 31, 0⟩
/-- PNT_PIN_ADDR (R327 of chapter 11). -/
def PNT_PIN_ADDR : Nat := 0x2E040
def PNT_PIN_ADDR_Entry : Fld := ⟨PNT_PIN_ADDR, 13, 0⟩
/-- PNT_PIN_DATAi (R327 of chapter 11). -/
def PNT_PIN_DATA (i : Nat) : Nat := 0x2E044 + 0x4 * i
def PNT_PIN_DATA_Word (i : Nat) : Fld := ⟨PNT_PIN_DATA i, 31, 0⟩
/-- PNT_LIST_ADDR (R337 of chapter 11). -/
def PNT_LIST_ADDR : Nat := 0x2E060
def PNT_LIST_ADDR_Entry : Fld := ⟨PNT_LIST_ADDR, 9, 0⟩
/-- PNT_LIST_DATA (R337 of chapter 11). -/
def PNT_LIST_DATA : Nat := 0x2E064
def PNT_LIST_DATA_Id : Fld := ⟨PNT_LIST_DATA, 19, 0⟩
/-- PNT_TSk_CFG (R337 of chapter 11). -/
def PNT_TS_CFG (k : Nat) : Nat := 0x2E100 + 0x10 * k
def PNT_TS_CFG_Phase (k : Nat) : Fld := ⟨PNT_TS_CFG k, 21, 12⟩
def PNT_TS_CFG_Period (k : Nat) : Fld := ⟨PNT_TS_CFG k, 11, 2⟩
def PNT_TS_CFG_Kind (k : Nat) : Fld := ⟨PNT_TS_CFG k, 1, 1⟩
def PNT_TS_CFG_En (k : Nat) : Fld := ⟨PNT_TS_CFG k, 0, 0⟩
/-- PNT_TSk_LIST (R337 of chapter 11). -/
def PNT_TS_LIST (k : Nat) : Nat := 0x2E104 + 0x10 * k
def PNT_TS_LIST_Count (k : Nat) : Fld := ⟨PNT_TS_LIST k, 26, 16⟩
def PNT_TS_LIST_First (k : Nat) : Fld := ⟨PNT_TS_LIST k, 9, 0⟩
/-- PNT_TSk_REC_CNT (R338 of chapter 11). -/
def PNT_TS_REC_CNT (k : Nat) : Nat := 0x2E108 + 0x10 * k
def PNT_TS_REC_CNT_Cnt (k : Nat) : Fld := ⟨PNT_TS_REC_CNT k, 31, 0⟩
/-- CAPj_CFG (R341 of chapter 11). -/
def CAPU_CFG (j : Nat) : Nat := 0x2E200 + 0x20 * j
def CAPU_CFG_Post (j : Nat) : Fld := ⟨CAPU_CFG j, 31, 24⟩
def CAPU_CFG_Pre (j : Nat) : Fld := ⟨CAPU_CFG j, 23, 16⟩
def CAPU_CFG_Ring (j : Nat) : Fld := ⟨CAPU_CFG j, 15, 13⟩
def CAPU_CFG_Conv (j : Nat) : Fld := ⟨CAPU_CFG j, 12, 8⟩
def CAPU_CFG_Mode (j : Nat) : Fld := ⟨CAPU_CFG j, 1, 1⟩
def CAPU_CFG_En (j : Nat) : Fld := ⟨CAPU_CFG j, 0, 0⟩
/-- CAPj_CTL (R341 of chapter 11). -/
def CAPU_CTL (j : Nat) : Nat := 0x2E204 + 0x20 * j
def CAPU_CTL_Trig (j : Nat) : Fld := ⟨CAPU_CTL j, 1, 1⟩
def CAPU_CTL_Arm (j : Nat) : Fld := ⟨CAPU_CTL j, 0, 0⟩
/-- CAPj_TRIG (R341 of chapter 11). -/
def CAPU_TRIG (j : Nat) : Nat := 0x2E208 + 0x20 * j
def CAPU_TRIG_Line (j : Nat) : Fld := ⟨CAPU_TRIG j, 15, 8⟩
def CAPU_TRIG_Kind (j : Nat) : Fld := ⟨CAPU_TRIG j, 1, 0⟩
/-- CAPj_TFRAME (R341 of chapter 11). -/
def CAPU_TFRAME (j : Nat) : Nat := 0x2E20C + 0x20 * j
def CAPU_TFRAME_Frame (j : Nat) : Fld := ⟨CAPU_TFRAME j, 31, 0⟩
/-- CAPj_STAT (R341 of chapter 11). -/
def CAPU_STAT (j : Nat) : Nat := 0x2E210 + 0x20 * j
def CAPU_STAT_Cycle (j : Nat) : Fld := ⟨CAPU_STAT j, 15, 8⟩
def CAPU_STAT_State (j : Nat) : Fld := ⟨CAPU_STAT j, 1, 0⟩
/-- CAPj_TRIG_FRAME (R341 of chapter 11). -/
def CAPU_TRIG_FRAME (j : Nat) : Nat := 0x2E214 + 0x20 * j
def CAPU_TRIG_FRAME_Frame (j : Nat) : Fld := ⟨CAPU_TRIG_FRAME j, 31, 0⟩
/-- PNT_DRVi_CFG (R334 of chapter 11). -/
def PNT_DRV_CFG (i : Nat) : Nat := 0x2F000 + 0x20 * i
def PNT_DRV_CFG_En (i : Nat) : Fld := ⟨PNT_DRV_CFG i, 31, 31⟩
def PNT_DRV_CFG_N (i : Nat) : Fld := ⟨PNT_DRV_CFG i, 6, 4⟩
def PNT_DRV_CFG_Op (i : Nat) : Fld := ⟨PNT_DRV_CFG i, 3, 0⟩
/-- PNT_DRVi_SRCs (R334 of chapter 11). -/
def PNT_DRV_SRC (i s : Nat) : Nat := 0x2F004 + 0x20 * i + 0x4 * s
def PNT_DRV_SRC_W (i s : Nat) : Fld := ⟨PNT_DRV_SRC i s, 31, 20⟩
def PNT_DRV_SRC_Id (i s : Nat) : Fld := ⟨PNT_DRV_SRC i s, 19, 0⟩
/-- PNT_DRVi_K (R334 of chapter 11). -/
def PNT_DRV_K (i : Nat) : Nat := 0x2F014 + 0x20 * i
def PNT_DRV_K_K (i : Nat) : Fld := ⟨PNT_DRV_K i, 31, 0⟩
/-- TW_PORTp_CFG (R373 of chapter 12). -/
def TW_PORT_CFG (p : Nat) : Nat := 0x30000 + 0x100 * p
def TW_PORT_CFG_Speed (p : Nat) : Fld := ⟨TW_PORT_CFG p, 31, 30⟩
def TW_PORT_CFG_Proto (p : Nat) : Fld := ⟨TW_PORT_CFG p, 29, 28⟩
def TW_PORT_CFG_ShelfBus (p : Nat) : Fld := ⟨TW_PORT_CFG p, 27, 27⟩
def TW_PORT_CFG_PuScl (p : Nat) : Fld := ⟨TW_PORT_CFG p, 26, 26⟩
def TW_PORT_CFG_PuSda (p : Nat) : Fld := ⟨TW_PORT_CFG p, 25, 25⟩
def TW_PORT_CFG_PuAlert (p : Nat) : Fld := ⟨TW_PORT_CFG p, 24, 24⟩
def TW_PORT_CFG_PuVal (p : Nat) : Fld := ⟨TW_PORT_CFG p, 23, 22⟩
def TW_PORT_CFG_AlertEn (p : Nat) : Fld := ⟨TW_PORT_CFG p, 21, 21⟩
/-- TW_PORTp_CTL (R355 of chapter 12). -/
def TW_PORT_CTL (p : Nat) : Nat := 0x30004 + 0x100 * p
def TW_PORT_CTL_Clear (p : Nat) : Fld := ⟨TW_PORT_CTL p, 1, 1⟩
def TW_PORT_CTL_En (p : Nat) : Fld := ⟨TW_PORT_CTL p, 0, 0⟩
/-- TW_PORTp_STAT (R373 of chapter 12). -/
def TW_PORT_STAT (p : Nat) : Nat := 0x30008 + 0x100 * p
def TW_PORT_STAT_Clearing (p : Nat) : Fld := ⟨TW_PORT_STAT p, 10, 10⟩
def TW_PORT_STAT_BlkLen (p : Nat) : Fld := ⟨TW_PORT_STAT p, 9, 9⟩
def TW_PORT_STAT_Alert (p : Nat) : Fld := ⟨TW_PORT_STAT p, 8, 8⟩
def TW_PORT_STAT_PecErr (p : Nat) : Fld := ⟨TW_PORT_STAT p, 7, 7⟩
def TW_PORT_STAT_ArbLost (p : Nat) : Fld := ⟨TW_PORT_STAT p, 6, 6⟩
def TW_PORT_STAT_Timeout (p : Nat) : Fld := ⟨TW_PORT_STAT p, 5, 5⟩
def TW_PORT_STAT_BusErr (p : Nat) : Fld := ⟨TW_PORT_STAT p, 4, 4⟩
def TW_PORT_STAT_SclStuck (p : Nat) : Fld := ⟨TW_PORT_STAT p, 3, 3⟩
def TW_PORT_STAT_SdaStuck (p : Nat) : Fld := ⟨TW_PORT_STAT p, 2, 2⟩
def TW_PORT_STAT_BusBusy (p : Nat) : Fld := ⟨TW_PORT_STAT p, 1, 1⟩
def TW_PORT_STAT_Ready (p : Nat) : Fld := ⟨TW_PORT_STAT p, 0, 0⟩
/-- TW_PORTp_TIMING (R373 of chapter 12). -/
def TW_PORT_TIMING (p : Nat) : Nat := 0x3000C + 0x100 * p
def TW_PORT_TIMING_SclLowMax (p : Nat) : Fld := ⟨TW_PORT_TIMING p, 31, 24⟩
def TW_PORT_TIMING_ClrDet (p : Nat) : Fld := ⟨TW_PORT_TIMING p, 23, 16⟩
def TW_PORT_TIMING_Stretch (p : Nat) : Fld := ⟨TW_PORT_TIMING p, 11, 0⟩
/-- TW_PORTp_ARA (R354 of chapter 12). -/
def TW_PORT_ARA (p : Nat) : Nat := 0x30010 + 0x100 * p
def TW_PORT_ARA_AraEn (p : Nat) : Fld := ⟨TW_PORT_ARA p, 8, 8⟩
def TW_PORT_ARA_AraPeriod (p : Nat) : Fld := ⟨TW_PORT_ARA p, 7, 0⟩
/-- TW_PORTp_ALERT_LOG (R354 of chapter 12). -/
def TW_PORT_ALERT_LOG (p : Nat) : Nat := 0x30014 + 0x100 * p
def TW_PORT_ALERT_LOG_Valid (p : Nat) : Fld := ⟨TW_PORT_ALERT_LOG p, 8, 8⟩
def TW_PORT_ALERT_LOG_Addr (p : Nat) : Fld := ⟨TW_PORT_ALERT_LOG p, 6, 0⟩
/-- TW_PORTp_XFER_CNT (R373 of chapter 12). -/
def TW_PORT_XFER_CNT (p : Nat) : Nat := 0x30018 + 0x100 * p
def TW_PORT_XFER_CNT_Cnt (p : Nat) : Fld := ⟨TW_PORT_XFER_CNT p, 31, 0⟩
/-- TW_PORTp_NACK_CNT (R373 of chapter 12). -/
def TW_PORT_NACK_CNT (p : Nat) : Nat := 0x3001C + 0x100 * p
def TW_PORT_NACK_CNT_Cnt (p : Nat) : Fld := ⟨TW_PORT_NACK_CNT p, 31, 0⟩
/-- TW_PORTp_ERR_CNT (R373 of chapter 12). -/
def TW_PORT_ERR_CNT (p : Nat) : Nat := 0x30020 + 0x100 * p
def TW_PORT_ERR_CNT_Cnt (p : Nat) : Fld := ⟨TW_PORT_ERR_CNT p, 31, 0⟩
/-- TW_PORTp_PEC_CNT (R350 of chapter 12). -/
def TW_PORT_PEC_CNT (p : Nat) : Nat := 0x30024 + 0x100 * p
def TW_PORT_PEC_CNT_Cnt (p : Nat) : Fld := ⟨TW_PORT_PEC_CNT p, 31, 0⟩
/-- TW_PORTp_CLR_CNT (R355 of chapter 12). -/
def TW_PORT_CLR_CNT (p : Nat) : Nat := 0x30028 + 0x100 * p
def TW_PORT_CLR_CNT_Cnt (p : Nat) : Fld := ⟨TW_PORT_CLR_CNT p, 31, 0⟩
/-- TW_TGT_CFG (R362 of chapter 12). -/
def TW_TGT_CFG : Nat := 0x30C00
def TW_TGT_CFG_PecReq : Fld := ⟨TW_TGT_CFG, 4, 4⟩
def TW_TGT_CFG_AlertDrv : Fld := ⟨TW_TGT_CFG, 3, 3⟩
def TW_TGT_CFG_WinWr : Fld := ⟨TW_TGT_CFG, 2, 2⟩
def TW_TGT_CFG_WinRd : Fld := ⟨TW_TGT_CFG, 1, 1⟩
def TW_TGT_CFG_En : Fld := ⟨TW_TGT_CFG, 0, 0⟩
/-- TW_TGT_STAT (R360 of chapter 12). -/
def TW_TGT_STAT : Nat := 0x30C04
def TW_TGT_STAT_Cml : Fld := ⟨TW_TGT_STAT, 15, 8⟩
def TW_TGT_STAT_Addr : Fld := ⟨TW_TGT_STAT, 6, 0⟩
/-- TW_TGT_CNT (R373 of chapter 12). -/
def TW_TGT_CNT : Nat := 0x30C08
def TW_TGT_CNT_Cnt : Fld := ⟨TW_TGT_CNT, 31, 0⟩
/-- TW_DIRk_MB (R359 of chapter 12). -/
def TW_DIR_MB (k : Nat) : Nat := 0x30E00 + 0x8 * k
def TW_DIR_MB_B (k : Nat) : Fld := ⟨TW_DIR_MB k, 31, 16⟩
def TW_DIR_MB_M (k : Nat) : Fld := ⟨TW_DIR_MB k, 15, 0⟩
/-- TW_DIRk_EXP (R359 of chapter 12). -/
def TW_DIR_EXP (k : Nat) : Nat := 0x30E04 + 0x8 * k
def TW_DIR_EXP_R (k : Nat) : Fld := ⟨TW_DIR_EXP k, 7, 0⟩
/-- CANc_CFG (R373 of chapter 12). -/
def CAN_CFG (c : Nat) : Nat := 0x32000 + 0x400 * c
def CAN_CFG_FdEn (c : Nat) : Fld := ⟨CAN_CFG c, 31, 31⟩
def CAN_CFG_BrsEn (c : Nat) : Fld := ⟨CAN_CFG c, 30, 30⟩
def CAN_CFG_ShelfBus (c : Nat) : Fld := ⟨CAN_CFG c, 29, 29⟩
def CAN_CFG_AutoRecover (c : Nat) : Fld := ⟨CAN_CFG c, 28, 28⟩
def CAN_CFG_Retry (c : Nat) : Fld := ⟨CAN_CFG c, 27, 26⟩
def CAN_CFG_XcvrEn (c : Nat) : Fld := ⟨CAN_CFG c, 25, 25⟩
/-- CANc_CTL (R366 of chapter 12). -/
def CAN_CTL (c : Nat) : Nat := 0x32004 + 0x400 * c
def CAN_CTL_Recover (c : Nat) : Fld := ⟨CAN_CTL c, 1, 1⟩
def CAN_CTL_En (c : Nat) : Fld := ⟨CAN_CTL c, 0, 0⟩
/-- CANc_STAT (R373 of chapter 12). -/
def CAN_STAT (c : Nat) : Nat := 0x32008 + 0x400 * c
def CAN_STAT_XcvrFault (c : Nat) : Fld := ⟨CAN_STAT c, 4, 4⟩
def CAN_STAT_Restricted (c : Nat) : Fld := ⟨CAN_STAT c, 3, 3⟩
def CAN_STAT_Idle (c : Nat) : Fld := ⟨CAN_STAT c, 2, 2⟩
def CAN_STAT_ErrState (c : Nat) : Fld := ⟨CAN_STAT c, 1, 0⟩
/-- CANc_NBT (R365 of chapter 12). -/
def CAN_NBT (c : Nat) : Nat := 0x3200C + 0x400 * c
def CAN_NBT_Sjw (c : Nat) : Fld := ⟨CAN_NBT c, 30, 24⟩
def CAN_NBT_Seg2 (c : Nat) : Fld := ⟨CAN_NBT c, 22, 16⟩
def CAN_NBT_Seg1 (c : Nat) : Fld := ⟨CAN_NBT c, 15, 8⟩
def CAN_NBT_Brp (c : Nat) : Fld := ⟨CAN_NBT c, 7, 0⟩
/-- CANc_DBT (R365 of chapter 12). -/
def CAN_DBT (c : Nat) : Nat := 0x32010 + 0x400 * c
def CAN_DBT_Sjw (c : Nat) : Fld := ⟨CAN_DBT c, 30, 24⟩
def CAN_DBT_Seg2 (c : Nat) : Fld := ⟨CAN_DBT c, 22, 16⟩
def CAN_DBT_Seg1 (c : Nat) : Fld := ⟨CAN_DBT c, 15, 8⟩
def CAN_DBT_Brp (c : Nat) : Fld := ⟨CAN_DBT c, 7, 0⟩
/-- CANc_TDC (R365 of chapter 12). -/
def CAN_TDC (c : Nat) : Nat := 0x32014 + 0x400 * c
def CAN_TDC_En (c : Nat) : Fld := ⟨CAN_TDC c, 7, 7⟩
def CAN_TDC_Ofs (c : Nat) : Fld := ⟨CAN_TDC c, 6, 0⟩
/-- CANc_ERR_CNT (R373 of chapter 12). -/
def CAN_ERR_CNT (c : Nat) : Nat := 0x32018 + 0x400 * c
def CAN_ERR_CNT_Rec (c : Nat) : Fld := ⟨CAN_ERR_CNT c, 15, 8⟩
def CAN_ERR_CNT_Tec (c : Nat) : Fld := ⟨CAN_ERR_CNT c, 7, 0⟩
/-- CANc_TX_CNT (R373 of chapter 12). -/
def CAN_TX_CNT (c : Nat) : Nat := 0x3201C + 0x400 * c
def CAN_TX_CNT_Cnt (c : Nat) : Fld := ⟨CAN_TX_CNT c, 31, 0⟩
/-- CANc_RX_CNT (R373 of chapter 12). -/
def CAN_RX_CNT (c : Nat) : Nat := 0x32020 + 0x400 * c
def CAN_RX_CNT_Cnt (c : Nat) : Fld := ⟨CAN_RX_CNT c, 31, 0⟩
/-- CANc_BUSOFF_CNT (R373 of chapter 12). -/
def CAN_BUSOFF_CNT (c : Nat) : Nat := 0x32024 + 0x400 * c
def CAN_BUSOFF_CNT_Cnt (c : Nat) : Fld := ⟨CAN_BUSOFF_CNT c, 31, 0⟩
/-- CANc_LOST_CNT (R368 of chapter 12). -/
def CAN_LOST_CNT (c : Nat) : Nat := 0x32028 + 0x400 * c
def CAN_LOST_CNT_Cnt (c : Nat) : Fld := ⟨CAN_LOST_CNT c, 31, 0⟩
/-- CANc_FLTk_ID (R368 of chapter 12). -/
def CAN_FLT_ID (c k : Nat) : Nat := 0x32100 + 0x400 * c + 0x8 * k
def CAN_FLT_ID_ToEq (c k : Nat) : Fld := ⟨CAN_FLT_ID c k, 31, 31⟩
def CAN_FLT_ID_En (c k : Nat) : Fld := ⟨CAN_FLT_ID c k, 30, 30⟩
def CAN_FLT_ID_Ide (c k : Nat) : Fld := ⟨CAN_FLT_ID c k, 29, 29⟩
def CAN_FLT_ID_Id (c k : Nat) : Fld := ⟨CAN_FLT_ID c k, 28, 0⟩
/-- CANc_FLTk_MASK (R368 of chapter 12). -/
def CAN_FLT_MASK (c k : Nat) : Nat := 0x32104 + 0x400 * c + 0x8 * k
def CAN_FLT_MASK_Mask (c k : Nat) : Fld := ⟨CAN_FLT_MASK c k, 28, 0⟩
/-- TL_CFG (R374 of chapter 13). -/
def TL_CFG : Nat := 0x34000
def TL_CFG_FwdMsgs : Fld := ⟨TL_CFG, 12, 8⟩
def TL_CFG_En : Fld := ⟨TL_CFG, 4, 4⟩
def TL_CFG_SetSize : Fld := ⟨TL_CFG, 3, 0⟩
/-- TL_STAT (R402 of chapter 13). -/
def TL_STAT : Nat := 0x34004
def TL_STAT_Broken : Fld := ⟨TL_STAT, 5, 5⟩
def TL_STAT_PosDup : Fld := ⟨TL_STAT, 4, 4⟩
def TL_STAT_SetMismatch : Fld := ⟨TL_STAT, 3, 3⟩
def TL_STAT_Wiring : Fld := ⟨TL_STAT, 2, 2⟩
def TL_STAT_TimingMaster : Fld := ⟨TL_STAT, 1, 1⟩
def TL_STAT_SetUp : Fld := ⟨TL_STAT, 0, 0⟩
/-- TL_GEN (R379 of chapter 13). -/
def TL_GEN : Nat := 0x34008
def TL_GEN_Gen : Fld := ⟨TL_GEN, 15, 0⟩
/-- TL_LIVE (R381 of chapter 13). -/
def TL_LIVE : Nat := 0x3400C
def TL_LIVE_Tm : Fld := ⟨TL_LIVE, 10, 8⟩
def TL_LIVE_Live : Fld := ⟨TL_LIVE, 7, 0⟩
/-- TL_PORTp_STAT (R375 of chapter 13). -/
def TL_PORT_STAT (p : Nat) : Nat := 0x34040 + 0x20 * p
def TL_PORT_STAT_NbrPos (p : Nat) : Fld := ⟨TL_PORT_STAT p, 10, 8⟩
def TL_PORT_STAT_NbrSetSize (p : Nat) : Fld := ⟨TL_PORT_STAT p, 7, 4⟩
def TL_PORT_STAT_Trained (p : Nat) : Fld := ⟨TL_PORT_STAT p, 3, 3⟩
def TL_PORT_STAT_Lane1Up (p : Nat) : Fld := ⟨TL_PORT_STAT p, 2, 2⟩
def TL_PORT_STAT_Lane0Up (p : Nat) : Fld := ⟨TL_PORT_STAT p, 1, 1⟩
def TL_PORT_STAT_Up (p : Nat) : Fld := ⟨TL_PORT_STAT p, 0, 0⟩
/-- TL_PORTp_HOPLAT (R377 of chapter 13). -/
def TL_PORT_HOPLAT (p : Nat) : Nat := 0x34044 + 0x20 * p
def TL_PORT_HOPLAT_Lat (p : Nat) : Fld := ⟨TL_PORT_HOPLAT p, 15, 0⟩
/-- TL_PORTp_TX_CNT (R402 of chapter 13). -/
def TL_PORT_TX_CNT (p : Nat) : Nat := 0x34048 + 0x20 * p
def TL_PORT_TX_CNT_Cnt (p : Nat) : Fld := ⟨TL_PORT_TX_CNT p, 31, 0⟩
/-- TL_PORTp_RX_CNT (R402 of chapter 13). -/
def TL_PORT_RX_CNT (p : Nat) : Nat := 0x3404C + 0x20 * p
def TL_PORT_RX_CNT_Cnt (p : Nat) : Fld := ⟨TL_PORT_RX_CNT p, 31, 0⟩
/-- TL_PORTp_CRC_CNT (R377 of chapter 13). -/
def TL_PORT_CRC_CNT (p : Nat) : Nat := 0x34050 + 0x20 * p
def TL_PORT_CRC_CNT_Cnt (p : Nat) : Fld := ⟨TL_PORT_CRC_CNT p, 31, 0⟩
/-- TL_PORTp_STALE_CNT (R379 of chapter 13). -/
def TL_PORT_STALE_CNT (p : Nat) : Nat := 0x34054 + 0x20 * p
def TL_PORT_STALE_CNT_Cnt (p : Nat) : Fld := ⟨TL_PORT_STALE_CNT p, 31, 0⟩
/-- TL_PORTp_DOWN_CNT (R375 of chapter 13). -/
def TL_PORT_DOWN_CNT (p : Nat) : Nat := 0x34058 + 0x20 * p
def TL_PORT_DOWN_CNT_Cnt (p : Nat) : Fld := ⟨TL_PORT_DOWN_CNT p, 31, 0⟩
/-- TL_GENq_SEEN (R379 of chapter 13). -/
def TL_GEN_SEEN (q : Nat) : Nat := 0x34100 + 0x4 * q
def TL_GEN_SEEN_Valid (q : Nat) : Fld := ⟨TL_GEN_SEEN q, 16, 16⟩
def TL_GEN_SEEN_Gen (q : Nat) : Fld := ⟨TL_GEN_SEEN q, 15, 0⟩
/-- RED_CFG (R384 of chapter 13). -/
def RED_CFG : Nat := 0x36000
def RED_CFG_ToggleEn : Fld := ⟨RED_CFG, 9, 9⟩
def RED_CFG_Revert : Fld := ⟨RED_CFG, 8, 8⟩
def RED_CFG_PeerPos : Fld := ⟨RED_CFG, 6, 4⟩
def RED_CFG_PairEn : Fld := ⟨RED_CFG, 0, 0⟩
/-- RED_CTL (R388 of chapter 13). -/
def RED_CTL : Nat := 0x36004
def RED_CTL_Resync : Fld := ⟨RED_CTL, 1, 1⟩
def RED_CTL_Surrender : Fld := ⟨RED_CTL, 0, 0⟩
/-- RED_STAT (R402 of chapter 13). -/
def RED_STAT : Nat := 0x36008
def RED_STAT_Silent : Fld := ⟨RED_STAT, 24, 20⟩
def RED_STAT_RevertPend : Fld := ⟨RED_STAT, 19, 19⟩
def RED_STAT_RoleConflict : Fld := ⟨RED_STAT, 18, 18⟩
def RED_STAT_MstDrive : Fld := ⟨RED_STAT, 17, 17⟩
def RED_STAT_MstIn : Fld := ⟨RED_STAT, 16, 16⟩
def RED_STAT_ToggleSilent : Fld := ⟨RED_STAT, 9, 9⟩
def RED_STAT_LinkSilent : Fld := ⟨RED_STAT, 8, 8⟩
def RED_STAT_Lag : Fld := ⟨RED_STAT, 7, 7⟩
def RED_STAT_Sync : Fld := ⟨RED_STAT, 6, 6⟩
def RED_STAT_State : Fld := ⟨RED_STAT, 2, 0⟩
/-- RED_TIMING (R389 of chapter 13). -/
def RED_TIMING : Nat := 0x3600C
def RED_TIMING_RevertHold : Fld := ⟨RED_TIMING, 31, 16⟩
def RED_TIMING_StartWait : Fld := ⟨RED_TIMING, 15, 8⟩
def RED_TIMING_Thb : Fld := ⟨RED_TIMING, 4, 0⟩
/-- RED_MIRROR_MASK (R393 of chapter 13). -/
def RED_MIRROR_MASK : Nat := 0x36010
def RED_MIRROR_MASK_Mask : Fld := ⟨RED_MIRROR_MASK, 5, 0⟩
/-- RED_MIRROR_CFG (R394 of chapter 13). -/
def RED_MIRROR_CFG : Nat := 0x36014
def RED_MIRROR_CFG_MaxMsgs : Fld := ⟨RED_MIRROR_CFG, 3, 0⟩
/-- RED_MIRROR_STAT (R394 of chapter 13). -/
def RED_MIRROR_STAT : Nat := 0x36018
def RED_MIRROR_STAT_PassFrames : Fld := ⟨RED_MIRROR_STAT, 31, 16⟩
def RED_MIRROR_STAT_InSync : Fld := ⟨RED_MIRROR_STAT, 5, 0⟩
/-- RED_CFG_DIGEST (R395 of chapter 13). -/
def RED_CFG_DIGEST : Nat := 0x3601C
def RED_CFG_DIGEST_Digest : Fld := ⟨RED_CFG_DIGEST, 31, 0⟩
/-- RED_HEALTHY (R398 of chapter 13). -/
def RED_HEALTHY : Nat := 0x36020
def RED_HEALTHY_Cnt : Fld := ⟨RED_HEALTHY, 31, 0⟩
/-- RED_LAST_GAP (R396 of chapter 13). -/
def RED_LAST_GAP : Nat := 0x36024
def RED_LAST_GAP_Frames : Fld := ⟨RED_LAST_GAP, 15, 0⟩
/-- RED_TAKEOVER_CNT (R402 of chapter 13). -/
def RED_TAKEOVER_CNT : Nat := 0x36028
def RED_TAKEOVER_CNT_Cnt : Fld := ⟨RED_TAKEOVER_CNT, 31, 0⟩
/-- RED_REVERT_CNT (R399 of chapter 13). -/
def RED_REVERT_CNT : Nat := 0x3602C
def RED_REVERT_CNT_Cnt : Fld := ⟨RED_REVERT_CNT, 31, 0⟩
/-- RED_MIRROR_GAP_CNT (R395 of chapter 13). -/
def RED_MIRROR_GAP_CNT : Nat := 0x36030
def RED_MIRROR_GAP_CNT_Cnt : Fld := ⟨RED_MIRROR_GAP_CNT, 31, 0⟩
/-- UPD_CFG (R467 of chapter 16). -/
def UPD_CFG : Nat := 0x38000
def UPD_CFG_ExpireAct : Fld := ⟨UPD_CFG, 26, 26⟩
def UPD_CFG_PrepFrames : Fld := ⟨UPD_CFG, 25, 16⟩
def UPD_CFG_Window : Fld := ⟨UPD_CFG, 15, 0⟩
/-- UPD_CTL (R462 of chapter 16). -/
def UPD_CTL : Nat := 0x38004
def UPD_CTL_Abandon : Fld := ⟨UPD_CTL, 3, 3⟩
def UPD_CTL_LockOp : Fld := ⟨UPD_CTL, 2, 2⟩
def UPD_CTL_CoSignReq : Fld := ⟨UPD_CTL, 1, 1⟩
def UPD_CTL_Provision : Fld := ⟨UPD_CTL, 0, 0⟩
/-- UPD_STAT (R467 of chapter 16). -/
def UPD_STAT : Nat := 0x38008
def UPD_STAT_Part : Fld := ⟨UPD_STAT, 23, 20⟩
def UPD_STAT_BufFree : Fld := ⟨UPD_STAT, 15, 8⟩
def UPD_STAT_Expired : Fld := ⟨UPD_STAT, 6, 6⟩
def UPD_STAT_LockErr : Fld := ⟨UPD_STAT, 5, 5⟩
def UPD_STAT_ProvErr : Fld := ⟨UPD_STAT, 4, 4⟩
def UPD_STAT_State : Fld := ⟨UPD_STAT, 2, 0⟩
/-- UPD_BUNDLE_ID (R449 of chapter 16). -/
def UPD_BUNDLE_ID : Nat := 0x3800C
def UPD_BUNDLE_ID_Id : Fld := ⟨UPD_BUNDLE_ID, 31, 0⟩
/-- UPD_SECVER (R460 of chapter 16). -/
def UPD_SECVER : Nat := 0x38010
def UPD_SECVER_Session : Fld := ⟨UPD_SECVER, 15, 8⟩
def UPD_SECVER_Counter : Fld := ⟨UPD_SECVER, 7, 0⟩
/-- UPD_DEADLINE_LO (R458 of chapter 16). -/
def UPD_DEADLINE_LO : Nat := 0x38014
def UPD_DEADLINE_LO_Lo : Fld := ⟨UPD_DEADLINE_LO, 31, 0⟩
/-- UPD_DEADLINE_HI (R458 of chapter 16). -/
def UPD_DEADLINE_HI : Nat := 0x38018
def UPD_DEADLINE_HI_Hi : Fld := ⟨UPD_DEADLINE_HI, 15, 0⟩
/-- UPD_TOKEN_LO (R463 of chapter 16). -/
def UPD_TOKEN_LO : Nat := 0x3801C
def UPD_TOKEN_LO_Lo : Fld := ⟨UPD_TOKEN_LO, 31, 0⟩
/-- UPD_TOKEN_HI (R463 of chapter 16). -/
def UPD_TOKEN_HI : Nat := 0x38020
def UPD_TOKEN_HI_Hi : Fld := ⟨UPD_TOKEN_HI, 31, 0⟩
/-- UPD_LOCK (R463 of chapter 16). -/
def UPD_LOCK : Nat := 0x38024
def UPD_LOCK_LockCnt : Fld := ⟨UPD_LOCK, 31, 16⟩
def UPD_LOCK_CoSignReq : Fld := ⟨UPD_LOCK, 2, 2⟩
def UPD_LOCK_KeyProvisioned : Fld := ⟨UPD_LOCK, 1, 1⟩
def UPD_LOCK_OwnerLock : Fld := ⟨UPD_LOCK, 0, 0⟩
/-- UPD_RUN_LIMIT (R455 of chapter 16). -/
def UPD_RUN_LIMIT : Nat := 0x38028
def UPD_RUN_LIMIT_Frames : Fld := ⟨UPD_RUN_LIMIT, 23, 0⟩
/-- UPD_PARTk_STAT (R451 of chapter 16). -/
def UPD_PART_STAT (k : Nat) : Nat := 0x38100 + 0x10 * k
def UPD_PART_STAT_Blocks (k : Nat) : Fld := ⟨UPD_PART_STAT k, 31, 16⟩
def UPD_PART_STAT_Kind (k : Nat) : Fld := ⟨UPD_PART_STAT k, 15, 8⟩
def UPD_PART_STAT_State (k : Nat) : Fld := ⟨UPD_PART_STAT k, 3, 0⟩
/-- UPD_PARTk_VER (R455 of chapter 16). -/
def UPD_PART_VER (k : Nat) : Nat := 0x38104 + 0x10 * k
def UPD_PART_VER_Version (k : Nat) : Fld := ⟨UPD_PART_VER k, 31, 0⟩
/-- DBG_CTL (R516 of chapter 19). -/
def DBG_CTL : Nat := 0x3C000
def DBG_CTL_LatTest : Fld := ⟨DBG_CTL, 0, 0⟩
/-- DBG_LOCK (R516 of chapter 19). -/
def DBG_LOCK : Nat := 0x3C004
def DBG_LOCK_PermLock : Fld := ⟨DBG_LOCK, 1, 1⟩
def DBG_LOCK_Lock : Fld := ⟨DBG_LOCK, 0, 0⟩

end Sys2Proof.Machine
end

