-- ==== Sys2Proof/Machine/State.lean ====
section
/-!
DEFINITION. The state of the block: every register (through one sparse register map keyed by BAR0 offset, whose unlisted
entries read their reset value), the state the chapters give the units beside their registers, the queue of waiting
commands, and the state after reset. Plain data throughout.
-/
namespace Sys2Proof.Machine

/-- Why a command stops the model with a fault: no command of the table does, so the type has one constructor, kept for the
form of the interface; nothing raises it (safe). -/
inductive Fault where
  | none
deriving DecidableEq, Repr

/-- Why a command has no meaning here. -/
inductive Refusal where
  /-- The command's arm is not written; raised by exec alone (safe: nothing follows from it). -/
  | notModelled (mnemonic : String)
deriving DecidableEq, Repr

/-- A register map: BAR0 offsets, strictly rising, with the words that differ from their reset values. -/
abbrev RegFile := List (Nat × Word)

/-! ### Points, commands, rings (chapters 02, 10, 11) -/

/-- A value of the point cache (R328-R330): the 32-bit value in the point's type, the quality byte and the frame stamp.
Before a point's first update it is BAD with Init (R330). -/
structure PVal where
  v     : Word := 0
  q     : Nat := 0x23
  stamp : Nat := 0
deriving DecidableEq, Repr, Inhabited

/-- What a reserved portion of a command's work is for (R51, R55). -/
inductive PortionKind where
  | start | bus | finish | dma | nvm | msg
deriving DecidableEq, Repr, Inhabited

/-- A reserved portion (R51): lane index of R42, absolute slot number (frame times 40 plus slot), length in slots (units on
the DMA lane), and whether the work has been done (R46). -/
structure Portion where
  lane : Nat := 0
  slot : Nat := 0
  len  : Nat := 0
  kind : PortionKind := .start
  ran  : Bool := false
deriving DecidableEq, Repr, Inhabited

/-- A command taken from a submission ring (R301, R305): the descriptor's fields, its frame of arrival, whether it was
admitted with a deadline (R51) or is best effort (R60), its reservations, and how far its work has come. -/
structure Cmd where
  pair     : Nat := 0
  sqSeq    : Nat := 0
  tag      : Nat := 0
  gen      : Nat := 0
  opcode   : Nat := 0
  deadline : Nat := 0
  arrival  : Nat := 0
  point    : Nat := 0
  payload  : List Byte := []
  noIrq    : Bool := false
  plan     : List Portion := []
  /-- The execution slot has run. -/
  begun    : Bool := false
  /-- The commit point has been passed (R55, R62). -/
  commit   : Bool := false
  /-- What the completion will carry, where the work formed it before its end. -/
  result   : Nat := 0
  /-- Head and binding words of the point, where a bus or link transaction serves the command (R327, R335). -/
  head     : Nat := 0
  d2       : Nat := 0
  d3       : Nat := 0
  /-- The pair was attached afresh (Resume = 0) since: the completion is dropped (R303). -/
  dropped  : Bool := false
deriving DecidableEq, Repr, Inhabited

/-- A completion made and not yet posted (R304, R309). -/
structure Comp where
  pair    : Nat := 0
  sqSeq   : Nat := 0
  tag     : Nat := 0
  gen     : Nat := 0
  status  : Nat := 0
  result  : Nat := 0
  frame   : Nat := 0
  noIrq   : Bool := false
  /-- The completion belongs to a command that held its tag (a descriptor that fails at take holds none, R308). -/
  hasTag  : Bool := true
  dropped : Bool := false
  /-- Check bits inverted by an armed injection (R427, target 0x7). -/
  inv     : Nat := 0
deriving DecidableEq, Repr, Inhabited

/-- An event waiting for the event ring (R314, R315). -/
structure Event where
  code     : Nat := 0
  tag      : Nat := 0
  tagValid : Bool := false
  gen      : Nat := 0
  unit     : Nat := 0
  frame    : Nat := 0
  p0       : Nat := 0
  p1       : Nat := 0
  p2       : Nat := 0
deriving DecidableEq, Repr, Inhabited

/-- A descriptor in the fetch buffer (R301). -/
structure Fetched where
  pair  : Nat := 0
  bytes : List Byte := []
deriving DecidableEq, Repr, Inhabited

/-- A pending moderated interrupt vector (R319): cause events since its last message, and the frame of the first. -/
structure VecPend where
  vec   : Nat := 0
  cnt   : Nat := 0
  first : Nat := 0
  due   : Bool := false
deriving DecidableEq, Repr, Inhabited

/-- A resolved directory entry in the resolution cache (R336). -/
structure Resolved where
  point   : Nat := 0
  head    : Nat := 0
  binding : Nat := 0
deriving DecidableEq, Repr, Inhabited

/-- A periodic job the compile booked (R47): lane, period, phase, first slot in the frame, length in slots. -/
structure Job where
  lane   : Nat := 0
  period : Nat := 1
  phase  : Nat := 0
  slot   : Nat := 0
  len    : Nat := 0
deriving DecidableEq, Repr, Inhabited

/-- The host interface's own state beside its registers (chapter 10). -/
structure HifState where
  fetch      : List Fetched := []
  /-- Per pair: the next sequence number to fetch. -/
  fetchSeq   : List Nat := [0, 0, 0, 0]
  /-- Per pair: descriptor reads failed in a row (R323). -/
  dmaFails   : List Nat := [0, 0, 0, 0]
  cmds       : List Cmd := []
  comps      : List Comp := []
  events     : List Event := []
  evLost     : Nat := 0
  evLostAt   : Nat := 0
  /-- Rings whose attachment waits for the next boundary (R303): 0-3 pairs, 8 EQ, 16-23 TS. -/
  attachReq  : List (Nat × Bool) := []
  detachReq  : List Nat := []
  vecs       : List VecPend := []
  /-- MSI-X table words (R297), by index, where they differ from their reset (vector control 1, PRESUMED). -/
  msixTable  : List (Nat × Word) := []
  /-- The PBA (R297). -/
  pba        : Nat := 0
  /-- Writes to HIF_MSIXc_MAP and HIF_MSIXv_MOD that take effect at the next boundary (R324). -/
  mapPend    : List (Nat × Nat) := []
  /-- Posted completions whose tag is not yet consumed: pair, CqSeq, tag (R310). -/
  posted     : List (Nat × Nat × Nat) := []
  /-- Attached rings: as in `attachReq`. -/
  attached   : List Nat := []
deriving DecidableEq, Repr, Inhabited

/-- A triggered capture unit's own state (R341): frames kept, the trigger, frames still to write, and the Gap flag. -/
structure CapUnit where
  kept   : Nat := 0
  tframe : Nat := 0
  next   : Nat := 0
  last   : Nat := 0
  gap    : Bool := false
  /-- Captured frames: frame number and its 200 words (R339). -/
  frames : List (Nat × List Nat) := []
  /-- Words of the frame being captured: cycle and word. -/
  cur    : List (Nat × Nat) := []
deriving DecidableEq, Repr, Inhabited

/-- The point functions' own state (chapter 11). -/
structure PntState where
  /-- The point cache: telemetry points and points of domains 1-4, by point ID; an unlisted point carries Init. -/
  cache    : List (Nat × PVal) := []
  /-- Results that enter the cache in the next slot 0 (R328); none for a failed refresh, which sets Held (R331). -/
  arrivals : List (Nat × Option PVal) := []
  resolved : List Resolved := []
  /-- Domain descriptors read since En or Flush: domain, table address, count (R336). -/
  descs    : List (Nat × Nat × Nat) := []
  flush    : Bool := false
  /-- Snapshot buffers: stream and its values in list order (R337). -/
  snaps    : List (Nat × List PVal) := []
  /-- Stream records built and waiting for their DMA units: ring, the record's bytes 4-59 (R316, R338, R340). -/
  recs     : List (Nat × List Byte) := []
  caps     : List CapUnit := List.replicate 4 {}
  /-- Resolutions in progress: the tags whose entry is being read (R336). -/
  pending  : List Nat := []
deriving DecidableEq, Repr, Inhabited

/-! ### Recorder and fault collector (chapter 14) -/

/-- A record request of the 256-entry FIFO (R407), before it has a sequence number. -/
structure RecReq where
  code   : Nat := 0
  source : Nat := 0
  p0     : Nat := 0
  p1     : Nat := 0
  p2     : Nat := 0
  shelf  : Bool := false
  inj    : Bool := false
  /-- The record of a chip reset, subject to no rate limit and no allowance (R426). -/
  force  : Bool := false
  /-- The frame of the request (R407). -/
  frame  : Nat := 0
  /-- The ONYX_CLEAR whose CLEARED record this is: tag and generation (R419). -/
  clear  : Option (Nat × Nat) := none
deriving DecidableEq, Repr, Inhabited

/-- An Onyx record (R403). `bad` says how its stored form fails its checks: 1 a corrected word, 2 an uncorrectable word, 4 its
CRC-16 (R411, R427). -/
structure Rec where
  code   : Nat := 0
  flags  : Nat := 0
  source : Nat := 0
  opms   : Nat := 0
  pwrcyc : Nat := 0
  seq    : Nat := 0
  p0     : Nat := 0
  p1     : Nat := 0
  p2     : Nat := 0
  bad    : Nat := 0
deriving DecidableEq, Repr, Inhabited

/-- Onyx's own state beside its registers. -/
structure OnyxState where
  fifo      : List RecReq := []
  /-- Requests of the hold-up manager made in slot 3, built after the others (R407). -/
  huReqs    : List RecReq := []
  /-- The staging queue, oldest first (R408). -/
  staging   : List Rec := []
  /-- The MRAM ring: slot and record (R409), slots rising. -/
  mram      : List (Nat × Rec) := []
  /-- The flash archive: slot and record (R412), slots rising. -/
  archive   : List (Nat × Rec) := []
  /-- Tokens of each limited class that is not full: class and tokens short of Burst (R413). -/
  short     : List (Nat × Nat) := []
  /-- Frame of the last token of a class. -/
  tokenAt   : List (Nat × Nat) := []
  /-- Opms bits [31:0] of the first suppressed record of a class (R404). -/
  suppAt    : List (Nat × Nat) := []
  /-- Accepted records, and OPMS, since the last MARK (R405). -/
  sinceMark : Nat := 0
  markOpms  : Nat := 0
  /-- Losses and refusals not yet reported by a LOST or REFUSED record (R408). -/
  lostPend  : Nat := 0
  refPend   : Nat := 0
  /-- A loss has been raised since the queues were last empty (R408). -/
  lossSeen  : Bool := false
  /-- Lost to the archive and not yet reported: count and first sequence (R412). -/
  archLost  : Nat := 0
  archFirst : Nat := 0
  /-- Records accepted in this frame, for RideThrough's allowance, and from the ResRecs reserve since last gasp (R226). -/
  rideCnt   : Nat := 0
  resCnt    : Nat := 0
  refused1  : Bool := false
  erasing   : Option Nat := none
  erased    : List Nat := []
  /-- The first committed record has been archived: ONX_ARCH_SEQ is valid. -/
  anyArch   : Bool := false
  anyCommit : Bool := false
  /-- Timer clocks of OPMS below one millisecond. -/
  opmsFrac  : Nat := 0
deriving DecidableEq, Repr, Inhabited

/-- A reset the collector is committed to, and what raised it (R426). -/
structure ResetReq where
  src   : Nat := 0
  cls   : Nat := 0
  syn   : Nat := 0
  frame : Nat := 0
deriving DecidableEq, Repr, Inhabited

/-- The fault collector's own state beside its registers. -/
structure FltState where
  /-- The class held by each unacknowledged source that holds one: source, class (R424). -/
  held      : List (Nat × Nat) := []
  /-- Sources raised in the current frame (R422, AutoAck). -/
  raisedNow : List Nat := []
  /-- Sources raised with the FaultN reaction and with the Alert reaction (R425). -/
  faultN    : List Nat := []
  alert     : List Nat := []
  /-- NMI service waiting: source, syndrome and frame of the raise (R425). -/
  nmi       : List (Nat × Nat × Nat) := []
  /-- A new cause for TW0_ALERT_N since the last command (R363). -/
  alertNew  : Bool := false
  /-- Block resets: kind and instance, waiting for the boundary, and to be re-enabled at the next (R425). -/
  blkOff    : List (Nat × Nat) := []
  blkOn     : List (Nat × Nat) := []
  chipReset : Option ResetReq := none
  /-- The armed check-bit injection: target, instance, mask (R427). -/
  armed     : Option (Nat × Nat × Nat) := none
  /-- The fault of the last chip reset, for BOOT (R404, R426). -/
  cause     : Option ResetReq := none
deriving DecidableEq, Repr, Inhabited

/-! ### Frame and table (chapter 02) -/

/-- A compiled table (R47, R48): the periodic jobs, the converter plan (R78), and the least sampling offset of each tile. -/
structure SlotTable where
  jobs : List Job := []
  plan : List (Nat × Nat × Nat) := []
  ofs  : List (Nat × Nat) := []
deriving DecidableEq, Repr, Inhabited

/-- The scheduler's own state. -/
structure FrmState where
  /-- The periodic jobs of the table in force. -/
  jobs      : List Job := []
  /-- The compiled table that waits for Apply or for its boundary (R48). -/
  compiled  : Option SlotTable := none
  /-- FRM_COMPILE_STAT before the running compile (log entry 74). -/
  prev      : Word := 0
  /-- The running compile, or the table that waits, is the device's own for the configuration set of an update (R456). -/
  own       : Bool := false
  /-- Settings of a configuration set that the device has still to compile and apply for an update (R456). -/
  load      : Option (List (Nat × Word)) := none
  /-- Stream units booked on the DMA lane of the table in force, heaviest frame (R317). -/
  dmaBooked : Nat := 0
  /-- The markers of the two ports are present (R69), and set frame number minus FRAME_CNT by the latest (R70). -/
  markers   : Nat := 0
  setDelta  : Nat := 0
  /-- Frames in a row with the phase error within ±2 ns (R66). -/
  lockRun   : Nat := 0
  /-- FRM_SET_OFF has been set (R70). -/
  everLock  : Bool := false
  /-- The position the latest marker came from (R381). -/
  tmPos     : Nat := 0
  /-- A core restart is running (R457). -/
  coreRst   : Bool := false
deriving DecidableEq, Repr, Inhabited

/-! ### Power, reset, boot (chapter 17) -/

/-- Where the logic die stands (R478): held in reset; out of reset with its boot not ended (up to step 7, or never where the loader
or both firmware banks fail, R461); booted and waiting for the first frame; running. -/
inductive Phase where
  | held | boot | booted | running
deriving DecidableEq, Repr, Inhabited

/-- What the start script of the configuration set does (R34, R241, R281): the e-fuse channels it turns on, and the mask of its on
request, if any. The spec gives the script no form (log entry 76). -/
structure Script where
  efOn : Nat := 0
  up   : Option Nat := none
deriving DecidableEq, Repr, Inhabited

/-- Supplies, reset and boot. -/
structure PwrSt where
  phase   : Phase := .held
  /-- VHV above its UVLO (R468); VIO0-VIO3 good, as bits. -/
  vhv     : Bool := true
  vio     : Nat := 15
  /-- The guardian's releases stand (R391); SEQ_FLT_N is held low by GuardLow (R286). -/
  guard   : Bool := false
  seqLow  : Bool := false
  /-- A reset by RESET_N or by software waits for the commit and the boundary (R476): its cause. -/
  pend    : Option Nat := none
  /-- The frame since which VHV has stayed at or above PWR_VHV_WARN, and whether the warning has been raised (R471). -/
  warnAt  : Nat := 0
  warned  : Bool := false
  /-- DBG_LOCK.Lock has been written since the reset (R10, R516). -/
  lockSet : Bool := false
  /-- From the loaded configuration set to the first apply (R478): its settings of registers that act at once, its stored table, and
  its start script. -/
  live    : List (Nat × Word) := []
  table   : SlotTable := {}
  script  : Script := {}
deriving DecidableEq, Repr, Inhabited

/-- What the block sends to the outside: the model's own record of it, newest first (log entry 3). -/
inductive Output where
  /-- A posted write to host memory (R309, R314, R316, R416). -/
  | dmaWrite (addr : Nat) (data : List Byte)
  /-- An MSI-X message of a vector (R319). -/
  | msix (vec : Nat)
  /-- The data a register read returned. -/
  | readData (offset : Nat) (word : Word)
  /-- The bytes TW0 returns as a target (R361). -/
  | targetData (bytes : List Byte)
  /-- A link message (R378): port, destination position (8 = every device), generation, sequence number, set frame number, its
  content, and whether an injection has spoilt its CRC (R427). -/
  | link (port dest gen seq setFrame : Nat) (body : LinkBody) (bad : Bool)
  /-- A message passed on unchanged out of a port (R377). -/
  | forward (port : Nat) (body : LinkBody)
  /-- The bytes of a two-wire transaction put on a port (R351). -/
  | busStart (port : Nat) (bytes : List Byte)
  /-- A CAN frame given to a controller (R366). -/
  | canStart (ctrl : Nat) (id : Nat) (data : List Byte)
  /-- The square wave on HB_TX in a frame (R387). -/
  | heartbeatEdge
deriving DecidableEq, Repr

/-! ### Sensing, comparators, pulse generators (chapters 03, 04) -/

/-- One frame's samples of a telemetry channel (R85): the sum of its valid codes (of products, for a power channel), their
number, the least and greatest sample value, and whether a sample saturated or was excluded. -/
structure TmWin where
  sum : Int := 0
  n   : Nat := 0
  mn  : Int := 0
  mx  : Int := 0
  sat : Bool := false
  prt : Bool := false
deriving DecidableEq, Repr, Inhabited

/-- A telemetry channel (R85-R88): the frame being sampled, the frames of the window (newest first), the latest valid
sample, the extremes kept since PeakClr, and the half of a power pair that waits for its partner. -/
structure TmCh where
  cur    : TmWin := {}
  win    : List TmWin := []
  latest : Int := 0
  pk     : Option (Int × Int) := none
  pkClr  : Bool := false
  half   : Option (Bool × Int × Bool) := none
deriving DecidableEq, Repr, Inhabited

/-- A comparator (R91, R99-R103): blanking running, a tie test due after a failed swap test, the frames of its last self-test
and of its last coverage, the frames in which its DACs last passed readback, whether a threshold write voids a readback, and
whether CMP_UNTESTED has been raised. -/
structure CmpSt where
  blank    : Bool := false
  tieNext  : Bool := false
  lastTest : Option Nat := none
  lastPass : Nat := 0
  rbLo     : Option Nat := none
  rbHi     : Option Nat := none
  voidLo   : Bool := false
  voidHi   : Bool := false
  raised   : Bool := false
deriving DecidableEq, Repr, Inhabited

/-- The level of a pulse output. -/
inductive Lvl where
  | low | high | hiz
deriving DecidableEq, Repr, Inhabited

/-- A pulse-generator channel (chapter 04). -/
structure PgCh where
  /-- En written: waits for the boundary, then for the first own period start (R122). -/
  startPend : Bool := false
  armed     : Bool := false
  /-- En cleared: waits for the boundary, then for the next own period start (R123). -/
  stopPend  : Bool := false
  stopping  : Bool := false
  /-- Length of the running period (R107), its first tick in the frame, and the frame in which its tile released Idle (R161). -/
  len       : Nat := 0
  start     : Nat := 0
  relAt     : Option Nat := none
  /-- Duty and edge words last loaded (R113), and in force for the running period. -/
  duty      : Nat := 0
  dutyNow   : Nat := 0
  rise      : Nat := 0
  fall      : Nat := 0
  pulse     : Bool := false
  riseDone  : Bool := false
  fallDone  : Bool := false
  /-- Words discarded in this frame (R115). -/
  discards  : Nat := 0
  /-- ParOff cleared: waits for the boundary (R115). -/
  parPend   : Bool := false
  /-- A transition period: the old edge positions apply (R116). -/
  trans     : Bool := false
  /-- A hold or latch action has put the channel safe until a period start (R119). -/
  held      : Bool := false
  /-- A cycle action ended this period's on-time (R119). -/
  cycEnd    : Bool := false
  outH      : Lvl := .hiz
  outL      : Lvl := .hiz
  misH      : Nat := 0
  misL      : Nat := 0
deriving DecidableEq, Repr, Inhabited

/-- Sensing and pulse-generator state beside the registers. -/
structure SenseState where
  tm     : List TmCh := List.replicate 256 {}
  cmp    : List CmpSt := List.replicate 64 {}
  /-- Trip lines asserted (R96). -/
  trips  : Nat := 0
  pg     : List PgCh := List.replicate 48 {}
  /-- The converter cycles booked by the table in force: converter, cycle, use (0-7 sequence entry, 8 + n tile n, R78). -/
  fcPlan : List (Nat × Nat × Nat) := []
  /-- An apply has taken effect since reset (R126). -/
  applied : Bool := false
  /-- The converter whose last code an armed injection corrupted on its way to a loop tile (R427). -/
  badCode : Option Nat := none
deriving DecidableEq, Repr, Inhabited

/-- A one-shot timer beside its registers (R431-R434): the configuration sampled at its start, the prescaler's clocks, the
timer clock of the frame up to which it has counted, and whether its count returns to 0 at the next advance. -/
structure Timer where
  pre  : Nat := 1
  mode : Bool := false
  evEn : Bool := false
  frac : Nat := 0
  clk  : Nat := 0
  wrap : Bool := false
deriving DecidableEq, Repr, Inhabited

/-- Work waiting and the wait counters W of the two arbiters (R440) are registers; this holds what requester 0 of RBT_NVM
does (R442). -/
structure RbtState where
  gasp     : Bool := false
  preReset : Bool := false
deriving DecidableEq, Repr, Inhabited

/-! ### Electronic fuses (chapter 08) -/

/-- An e-fuse channel beside its registers: the gate and its latch on the analogue die (R252, R257), frame counts of
insertion, inrush, undervoltage, gate monitor, retry and On, the run of codes above EFe_INST.Code, the thermal model in
binary32 (R246), and what it owes the sequencer (R254, R255, R241). -/
structure EfCh where
  gate      : Bool := false
  latch     : Bool := false
  /-- A latched fast trip the EF block has not yet learnt of (R252). -/
  fastPend  : Bool := false
  /-- Entry happened after this frame's slot 0: its first whole frame has not begun (R18). -/
  fresh     : Bool := false
  insCnt    : Nat := 0
  inrCnt    : Nat := 0
  uvCnt     : Nat := 0
  gateLow   : Nat := 0
  waitCnt   : Nat := 0
  onCnt     : Nat := 0
  run       : Nat := 0
  dT1       : Nat := 0
  dT2       : Nat := 0
  lastP     : Nat := 0
  warned    : Bool := false
  /-- The retry budget was set since the channel was enabled (R255). -/
  budgetSet : Bool := false
  disPend   : Bool := false
  /-- The thermal model starts at P × Rth of the first sealed frame (R257). -/
  seedT     : Bool := false
  restartReq : Bool := false
  /-- Reported to the sequencer: a trip (R254), or off by capping or hold-up (R241). -/
  tripRep   : Bool := false
  /-- A soft off was used last (R238). -/
  softOff   : Bool := false
deriving DecidableEq, Repr, Inhabited

/-! ### Loop tiles (chapter 05) -/

/-- A SETPOINT_SLEW that has executed and waits for its first reference step (R150): the command, the target in V (Q16.16)
and in codes (Q20.12), the step (none: unlimited, R149) and the value of the point before it. -/
structure Slew where
  tag  : Nat := 0
  gen  : Nat := 0
  tgtV : Int := 0
  tgt  : Int := 0
  step : Option Nat := none
  prev : Int := 0
deriving DecidableEq, Repr, Inhabited

/-- A loop tile beside its registers (chapter 05). -/
structure LtCh where
  /-- The terms precompute formed for the next update (R135): h1-h3, and pre per channel of the mask. -/
  h1 : Int := 0
  h2 : Int := 0
  h3 : Int := 0
  pre : List Int := []
  /-- How far maxeff stands below LTn_LIMIT.Max (R146). -/
  cut : Nat := 0
  /-- Frames for which maxeff has stood below Max, once a whole frame has begun (R146). -/
  ilFrames : Option Nat := none
  ilRaised : Bool := false
  /-- Consecutive failed samples (R140). -/
  misses : Nat := 0
  /-- The frame's sums of samples and references (LTn_AVG), and whether the frame just sealed held a sample. -/
  sumC : Nat := 0
  sumR : Int := 0
  cnt  : Nat := 0
  sealedOk : Bool := false
  lastDuty : Nat := 0
  /-- The owner's target in V (R147), and the step of its slew. -/
  tgtV : Int := 0
  step : Option Nat := none
  waiting : List Slew := []
  /-- The slew past its commit point that has not reached its target: tag and generation (R150). -/
  running : Option (Nat × Nat) := none
  /-- The capping claim on the target, in V (R153), and a release that waits for a precompute. -/
  claim : Option Int := none
  released : Bool := false
  /-- Rail granted, start at the next boundary (R158); rail withdrawn, Off at the next boundary, or after a soft stop (R165). -/
  startPend : Bool := false
  stopPend : Bool := false
  softStop : Bool := false
  /-- The first switching period of Start has begun; the progress check runs from the frame that has begun; failed frames in a
  row (R161). -/
  switched : Bool := false
  checking : Bool := false
  fails : Nat := 0
  /-- Whole frames in RetryWait, and in Auto (R163, R18). -/
  fresh : Bool := false
  waitCnt : Nat := 0
  autoCnt : Nat := 0
  budgetSet : Bool := false
  /-- To the sequencer: a restart request (R163, R155), a failure (R162, R275). -/
  restartReq : Bool := false
  failRep : Bool := false
  /-- LOOP_MODE commands that wait for the boundary: tag and mode (R154). -/
  modePend : List (Nat × Nat) := []
  disPend : Bool := false
deriving DecidableEq, Repr, Inhabited

/-! ### Shelf loops (chapter 06) -/

/-- A shelf loop beside its registers (chapter 06). -/
structure SlSt where
  /-- The loop's own mode (R190); SLm_STAT shows Standby without the shelf master role (R170). -/
  mode : Nat := 0
  /-- Input value and output of the last run (R196). -/
  y : Int := 0
  u : Int := 0
  /-- Hold states of the members' sharing law, and members whose latest write completed OK (R180, R178). -/
  memHold : Nat := 0
  memOk : Nat := 0
  /-- Consecutive skipped runs (R176). -/
  skips : Nat := 0
  /-- Member writes that wait for their booked transaction: member, value (R172). -/
  wr : List (Nat × Int) := []
  /-- Bins of the repetitive controller that are not 0 (R181), and a clear that waits for the boundary (R185). -/
  bins : List (Nat × Int) := []
  rcClr : Bool := false
  /-- The capping claim on the battery loop's member (R193), and whether the last run was claimed. -/
  claim : Option Int := none
  wasClaimed : Bool := false
  modePend : List (Nat × Nat) := []
  disPend : Bool := false
  /-- Battery (R187-R189): consecutive runs, the frame of stage entry, an over-temperature already raised in Discharge, and the
  state of charge with 48 fraction bits. -/
  tail : Nat := 0
  rebulk : Nat := 0
  dis : Nat := 0
  ret : Nat := 0
  stageAt : Nat := 0
  hot : Bool := false
  soc : Nat := 2 ^ 47
deriving DecidableEq, Repr, Inhabited

/-! ### Thober link (chapter 13) -/

/-- What a PWRITE was sent for (R383). -/
inductive PwUse where
  | cmd (tag : Nat)
  | member (loop mem : Nat)
  | rail (rail : Nat)
deriving DecidableEq, Repr, Inhabited

/-- The link's own state beside its registers. -/
structure TlState where
  /-- Next Seq per destination 0-7, and for broadcasts (R378). -/
  txSeq : List Nat := List.replicate 9 0
  /-- Per source: Seq of the newest broadcast taken (R377). -/
  rxBcast : List (Nat × Nat) := []
  /-- Per position: FRAME_CNT of the last accepted HELLO or HEARTBEAT (R381). -/
  heard : List (Nat × Nat) := []
  /-- Actuator tables of other positions (R217). -/
  actTables : List (Nat × List ActEntry) := []
  /-- Newest report of each foreign group: home, group; set frame and content (R219). -/
  reports : List (Nat × Nat × FeedRep) := []
  /-- Subscriptions served: peer, point, Refresh (R382). -/
  subs : List (Nat × Nat × Nat) := []
  /-- PWRITEs sent and not acknowledged: request number, destination and use (R383). -/
  pwrites : List (Nat × Nat × PwUse) := []
  pwNext : Nat := 0
  /-- PWRITEs received and executed, to be answered in the next frame: source, request, status. -/
  pwIn : List (Nat × Nat × Nat) := []
  /-- The frame of the last HELLO sent. -/
  helloAt : Nat := 0
  /-- Positions whose last HELLO showed PairEn = 1 (R384). -/
  pairs : Nat := 0
  /-- The generation has been set at this reset (R379). -/
  genSet : Bool := false
  /-- The position last heard to hold the shelf master role (R386); position 0 until then (R384). -/
  master : Nat := 0
  /-- Frames for which the timing master's marker has been absent on both ports (R381). -/
  noMarker : Nat := 0
deriving DecidableEq, Repr, Inhabited

/-! ### Feed, capping and hold-up (chapter 07) -/

/-- The estimator of a feed group beside its registers (R201-R206, R216); vs, r, the covariance and the current's mean and
variance are binary32 words. -/
structure FgSt where
  shares : List Nat := List.replicate 8 0
  vs : Nat := 0
  r : Nat := 0
  p00 : Nat := 0
  p01 : Nat := 0
  p11 : Nat := 0
  m : Nat := 0
  v : Nat := 0
  used : Nat := 0
  /-- The last valid estimate, scaled since where pairs were lost or returned (R205, R216). -/
  last : Option (Nat × Nat) := none
  /-- The loss latch sampled at the boundary (R203). -/
  latch : Bool := false
  /-- Consecutive good frames of each lost pair, and of the lost group (R201, R203). -/
  retFor : List Nat := List.replicate 8 0
  okFor : Nat := 0
  /-- FGg_CTL.EstRestart waits for the next estimator stage (R204). -/
  estReq : Bool := false
  /-- The frame averages of V_r and I, and I and P_draw of the frame before (R208). -/
  vr : Int := 0
  vrOk : Bool := false
  i : Int := 0
  prev : Option (Int × Int) := none
  seen : Bool := false
  wsClr : Nat := 0
  /-- The perturbation: frames of the present half-period, and its level (R206). -/
  pertFor : Nat := 0
  pertHigh : Bool := false
deriving DecidableEq, Repr, Inhabited

/-- What a group demands of the actuators (R209, R211, R212): D_g in watts (Q16.16), the entries it engages (key 128 × position
+ entry), the saving it takes from peak-shaving. -/
structure GrpDem where
  d : Int := 0
  want : List Nat := []
  shave : Int := 0
deriving DecidableEq, Repr, Inhabited

/-- The capping engine and the hold-up manager beside their registers. -/
structure CapSt where
  fg : List FgSt := List.replicate 8 {}
  /-- Per group of the set: key 8 × home + group. -/
  dem : List (Nat × GrpDem) := []
  /-- Engaged entries and the frame of their engagement (R212). -/
  eng : List (Nat × Nat) := []
  /-- On a device that is not the master: the last CAP_ALLOC, and entries engaged by the wrong side here or by WS_SHED
  (R219, R220). -/
  alloc : List Nat := []
  wsEng : List Nat := []
  /-- POL entries whose claim moves back to the owner's target (R212). -/
  polRel : List Nat := []
  /-- The frame of the last shed-group release (R212). -/
  lastRel : Option Nat := none
  /-- The peak-shaving claim and the perturbation claim on the battery loop, A, Q16.16. -/
  shaveA : Int := 0
  batClaim : Bool := false
  /-- Tiles that the perturbation claims (R206). -/
  pertTiles : List Nat := []
  disPend : Bool := false
  /-- Throttle lines held by the mirrored state of the active (R221, R392). -/
  mirThr : Nat := 0
  /-- Hold-up: E_avail and E_need exact, in units of 1 / (2^64 × 2 × 10^7) J; P_out of the last prediction (R224, R225). -/
  eAvail : Int := 0
  eNeed : Int := 0
  pOut : Int := 0
  inLost : Bool := false
  lostMask : Nat := 0
  wasValid : Bool := false
  /-- Stores whose next BAD seal raises HU_STORE_BAD (R224). -/
  armed : Nat := 3
  /-- Frames in Shutdown, and HU_SHUT_LONG raised in it (R234). -/
  shutFor : Nat := 0
  shutLong : Bool := false
  restartReq : Bool := false
  gaspIn : Bool := false
  /-- Shed groups and throttle lines of the hold-up manager, with the frame of their engagement; its release waits for MinHold
  (R223, R232). -/
  huShed : List (Nat × Nat) := []
  huThr : Nat := 0
  huRel : Bool := false
deriving DecidableEq, Repr, Inhabited

/-! ### Rail sequencing (chapter 09) -/

/-- A rail beside its registers (chapter 09). -/
structure RailSt where
  /-- The monitor value of the last step (R290). -/
  mon : Int := 0
  /-- Consecutive steps below DROP_THR; steps since the present state was entered (R270, R272). -/
  drops : Nat := 0
  age : Nat := 0
  /-- In Hold: steps since every dependant had released the rail (R273). In Failed: the rail has released its prerequisites. -/
  freeFor : Nat := 0
  released : Bool := false
  /-- The write that a Point rail owes its point (R266): on or off; consecutive writes that failed; for a point of domain 3 the
  steps since its message, and whether that was refused; the status of a third failed write, for the next step. -/
  write : Option Bool := none
  badWrites : Nat := 0
  sent : Option Nat := none
  nacked : Bool := false
  writeFail : Option Nat := none
deriving DecidableEq, Repr, Inhabited

/-- A request to the sequencer (R281). -/
inductive SeqReq where
  | on (mask : Nat)
  | off
  | railOn (mask : Nat)
  | railOff (mask : Nat)
  | clear (mask : Nat)
deriving DecidableEq, Repr, Inhabited

/-- The sequencer beside its registers. -/
structure SeqSt where
  rails : List RailSt := List.replicate 32 {}
  reqs : List SeqReq := []
  /-- The mask stored by an on request in PowerDown, Idle or RestartWait (R281). -/
  stored : Nat := 0
  /-- Whole frames since Idle or RestartWait began, and since the first apply (R281); the count starts with the next step. -/
  idleFor : Nat := 0
  fresh : Bool := true
  /-- Steps until the adoption of R285; 0 when none is due. -/
  adopt : Nat := 0
  /-- SEQ_FLT_N: steps of the present drive (R286), whether an external low is present or has begun since the last step, steps
  for which the line has been high, and whether an off request of the line waits for its release (R287). -/
  drive : Nat := 0
  extLow : Bool := false
  extNew : Bool := false
  highFor : Nat := 0
  lineDown : Bool := false
deriving DecidableEq, Repr, Inhabited

/-! ### The pair (chapter 13) -/

/-- The last accepted HEARTBEAT of the peer (R386). -/
structure PeerHb where
  state  : Nat := 0
  master : Bool := false
  sync   : Bool := false
  thr    : Nat := 0
  digest : Nat := 0
  mirSeq : Nat := 0
  frame  : Nat := 0
deriving DecidableEq, Repr, Inhabited

/-- The pair's own state beside its registers (R384-R399). -/
structure RedSt where
  /-- A surrender cause that acts at the next boundary, and a SURRENDER to send in slot 1: its reason (R388). -/
  surDue  : Option Nat := none
  surSend : Option Nat := none
  /-- The changed records of the final MIRROR are still to be sent (R388). -/
  finalMir : Bool := false
  /-- The heartbeat of this frame has been built; builds missing in a row (R386, R388). -/
  built   : Bool := true
  missed  : Nat := 0
  /-- The square wave on HB_TX runs (R387). -/
  hbTx    : Bool := false
  /-- Whole frames in a row throughout which MST_N was released (R385, R390). -/
  mstFree : Nat := 0
  /-- Frames in Starting since the first apply (R385). -/
  startFor : Nat := 0
  peer    : Option PeerHb := none
  /-- The position the peer names as its own peer, its PairEn and its ROLE, from HELLO (R384). -/
  hello   : Option (Nat × Bool × Bool) := none
  /-- An accepted HEARTBEAT of the peer in this frame; an edge on HB_RX in it, or toggle activity at its start (R386, R387). -/
  hbSeen  : Bool := false
  togSeen : Bool := false
  /-- Whole frames in a row in which the one path was silent (R389), and RED_HB_PATH raised for it. -/
  linkFor : Nat := 0
  togFor  : Nat := 0
  pathRaised : Bool := false
  /-- Frame D of a detection (R389), and RED_MST_HELD raised for it. -/
  detect  : Option Nat := none
  mstRaised : Bool := false
  /-- HANDBACK was last sent in this frame (R398), and the detection came by a SURRENDER of a handback (R399). -/
  handAt  : Option Nat := none
  byHand  : Bool := false
  /-- Sending side of the mirror: MirSeq of the last message, records as last sent (key 65536 × class + field: value), the
  messages built in this frame, the place in the refresh of the registers and of the tables, the frame the pass began, and whether
  its first message is due (R394). -/
  mirSeq  : Nat := 0
  sent    : List (Nat × Nat) := []
  mirror  : List (List Byte) := []
  mirPos  : Nat := 0
  tabPos  : Nat := 0
  passAt  : Nat := 0
  first   : Bool := true
  /-- Receiving side: records, the last MirSeq, whether a pass is being received without a gap, and the frame it began (R395). -/
  recs    : List (Nat × Nat) := []
  rxSeq   : Option Nat := none
  passOk  : Bool := false
  rxPassAt : Nat := 0
  /-- RED_SYNC_LOST has been raised for the present loss. -/
  lost    : Bool := true
  /-- Descriptors the active took: pair, SqSeq, tag (R397), oldest first, and the sequence number of the last message the peer sent
  to this device alone. -/
  taken   : List (Nat × Nat × Nat) := []
  takeSeq : Option Nat := none
  /-- Descriptors taken in this frame's slot 15, to be sent in TAKE (R397): pair, tag, generation. -/
  takes   : List (Nat × Nat × Nat) := []
deriving DecidableEq, Repr, Inhabited

/-! ### Updates (chapter 16) -/

/-- A part entry of a manifest (R445). -/
structure UpdPart where
  kind    : Nat := 0
  target  : Nat := 0
  addr    : Nat := 0
  version : Nat := 0
  first   : Nat := 0
  count   : Nat := 0
  length  : Nat := 0
  digest  : List Byte := []
deriving DecidableEq, Repr, Inhabited

/-- The next transaction of the rectifier profile on a part (R452): capability reads before a manifest is accepted (check) or
while the part restarts (run), the delivery, the two status reads of activation, and the commands without data. -/
inductive RectOp where
  | caps (run : Bool)
  | start
  | data (chunk tries : Nat)
  | verify
  | status (use : Fin 3)
  | arm
  | commit
  | revert
  | confirm
deriving DecidableEq, Repr, Inhabited

/-- The activation record in the flash boot area (R455), kept through resets: the session's identity, its window and deadline,
the own kinds (1-3) it switches, the parts with those already switched, and whether it has been confirmed. -/
structure ActRec where
  bundle   : Nat := 0
  secVer   : Nat := 0
  window   : Nat := 0
  deadline : Nat := 0
  kinds    : List Nat := []
  parts    : List UpdPart := []
  switched : List Nat := []
  /-- The session was accepted from a coordinator at this position (R453). -/
  coord    : Option Nat := none
deriving DecidableEq, Repr, Inhabited

/-- What flash and OTP keep for updates and security through every reset (R458, R460, R462, R463): the anti-rollback counter,
the lock bit of OTP, the owner key hash with its policy bit, the owner lock with its counter, the bank in use of each kind 1-3
(bit), the SecVer of each bank (index 2 × (kind - 1) + bank) and its version, and the activation record of a session not yet
confirmed or returned. -/
structure UpdNv where
  counter   : Nat := 0
  permLock  : Bool := false
  keyHash   : Option (BitVec 384) := none
  coSignReq : Bool := false
  ownerLock : Bool := false
  lockCnt   : Nat := 0
  banks     : List Nat := [0, 0, 0]
  secVers   : List Nat := [0, 0, 0, 0, 0, 0]
  versions  : List Nat := [0, 0, 0, 0, 0, 0]
  act       : Option ActRec := none
deriving DecidableEq, Repr, Inhabited

/-- The update engine's own state. -/
structure UpdSt where
  nv       : UpdNv := {}
  parts    : List UpdPart := []
  manifest : List Byte := []
  /-- The coordinator, on a device that is a peer of the session. -/
  coord    : Option Nat := none
  /-- A manifest command that waits for capability reads and acknowledgements: its tag, its manifest and the peers that have
  not answered. -/
  check    : Option (Nat × List Byte × List Nat) := none
  /-- Blocks in the staging buffer and blocks programmed: index and image data. -/
  buf      : List (Nat × List Byte) := []
  prog     : List (Nat × List Byte) := []
  /-- Rectifier parts: the next transaction of each, and the active bank last read. -/
  rect     : List (Nat × RectOp) := []
  rbank    : List (Nat × Nat) := []
  /-- Peer parts: blocks sent and acknowledged (part, block index). -/
  sent     : List (Nat × Nat) := []
  acked    : List (Nat × Nat) := []
  /-- Activation: the command's tag, the frame it began, parts armed or ready. -/
  tag      : Option Nat := none
  since    : Nat := 0
  armed    : List Nat := []
  /-- Switching: parts still to switch in order, and the frame the first of them was told. -/
  order    : List Nat := []
  toldAt   : Option Nat := none
  /-- Settings of the configuration set that has been verified in the inactive bank, by register offset (log entry 46). -/
  settings : List (Nat × Word) := []
  /-- The new configuration set of a switch without firmware is being compiled. -/
  cfgSwitch : Bool := false
  /-- A core restart is due (R456, R457, R458). -/
  restart  : Bool := false
  /-- Confirmations still to be delivered (R459). -/
  confirms : List Nat := []
  /-- Received chunks: manifest (index, bytes) with its length, blocks (block index, chunk, bytes). -/
  manLen   : Nat := 0
  manIn    : List (Nat × List Byte) := []
  blkIn    : List (Nat × Nat × List Byte) := []
deriving DecidableEq, Repr, Inhabited

/-! ### Buses (chapter 12) -/

/-- A two-wire transaction or CAN frame in progress: its use, the status it already carries where it sends nothing (R352), the
point it serves with head and binding words, and the value it writes. -/
structure BusRun where
  use    : BusUse := .refresh 0
  preset : Option Nat := none
  id     : Nat := 0
  head   : Nat := 0
  d2     : Nat := 0
  d3     : Nat := 0
  val    : Option Nat := none
  /-- Its command has been completed DEADLINE_MISSED: the work runs to its end without a second completion (R59). -/
  orphan : Bool := false
  /-- The PAGE write that precedes the access is on the bus (R358). -/
  page   : Bool := false
deriving DecidableEq, Repr, Inhabited

/-- A two-wire port: its transaction, the alert log, oldest first (R354), SCL held low by another (R356), and a disable that waits
for the boundary (R63). -/
structure TwPort where
  run     : Option BusRun := none
  log     : List Nat := []
  sclHeld : Bool := false
  disPend : Bool := false
deriving DecidableEq, Repr, Inhabited

/-- A CAN controller: its frame, the frames taken into the receive buffer in this frame (R368), recovery asked for (R366), and a
disable that waits for the boundary. -/
structure CanCtrl where
  run     : Option BusRun := none
  taken   : Nat := 0
  recover : Bool := false
  disPend : Bool := false
deriving DecidableEq, Repr, Inhabited

/-- The TW0 target (R360-R363): a transfer addressed to it is in progress, the window's word address, the staged low half, and
TW0_ALERT_N driven low. -/
structure TgtSt where
  addressed : Bool := false
  win       : Nat := 0
  staged    : Option Nat := none
  alertLow  : Bool := false
deriving DecidableEq, Repr, Inhabited

/-- The buses beside their registers. -/
structure BusSt where
  tw  : List TwPort := List.replicate 12 {}
  can : List CanCtrl := List.replicate 4 {}
  tgt : TgtSt := {}
deriving DecidableEq, Repr, Inhabited

/-- The whole state of the block. -/
structure State where
  /-- Commands waiting, first in, first out. -/
  pending : List Instr := []
  /-- Every register of BAR0: offsets whose word differs from its reset value (R505-R510). -/
  regs    : RegFile := []
  /-- The shadows of the shadowed registers, the pin table and the snapshot list (R509). -/
  shadow  : RegFile := []
  /-- The snapshot a compile works on (R509). -/
  snap    : Option RegFile := none
  hif     : HifState := {}
  pnt     : PntState := {}
  onx     : OnyxState := {}
  flt     : FltState := {}
  frm     : FrmState := {}
  sense   : SenseState := {}
  ef      : List EfCh := List.replicate 16 {}
  lt      : List LtCh := List.replicate 24 {}
  sl      : List SlSt := List.replicate 16 {}
  seq     : SeqSt := {}
  cap     : CapSt := {}
  bus     : BusSt := {}
  tl      : TlState := {}
  red     : RedSt := {}
  fwu     : UpdSt := {}
  timers  : List Timer := List.replicate 16 {}
  rbt     : RbtState := {}
  pwr     : PwrSt := {}
  /-- The model's own fields, not the spec's: what has been sent outside, newest first, and the count of free values drawn
  (assumption log entries 3 and 4). -/
  out     : List Output := []
  free    : Nat := 0
deriving DecidableEq, Repr, Inhabited

/-- The block right after VSYS power-on with its supplies good, held in reset before its boot (R470, R475): every register at its
reset value (R510), PWR_RST_CAUSE at POWER_ON, no command waiting. -/
def State.reset : State := { regs := [(PWR_RST_CAUSE, 1)] }

end Sys2Proof.Machine
end

