-- ==== Sys2Proof/Machine/Ops.lean ====
section
/-!
DEFINITION. The operations every command is made of: register reads and writes, the settling of derived status at the end
of a command, fault raises (R422-R426), record requests (R407), events (R315), completions (R301, R304) and interrupt
causes (R318, R319).
-/
namespace Sys2Proof.Machine

/-- The answer of a meaning. -/
abbrev Res := Host.Outcome State Fault Refusal

/-! ### Lists of unit records -/

/-- The element at an index, or the default one. -/
def nth {α : Type} [Inhabited α] (l : List α) (i : Nat) : α := l.getD i default

/-- Replace the element at an index by a function of it; past the end the elements between are default ones. -/
def upd {α : Type} [Inhabited α] (l : List α) (i : Nat) (f : α → α) : List α :=
  match l, i with
  | [], 0 => [f default]
  | [], i + 1 => default :: upd [] i f
  | a :: t, 0 => f a :: t
  | a :: t, i + 1 => a :: upd t i f

/-- Look a key up in an association list. -/
def assoc {β : Type} (l : List (Nat × β)) (k : Nat) : Option β :=
  match l with
  | [] => none
  | (i, b) :: t => if i = k then some b else assoc t k

/-- Insert or replace a key, keys kept strictly rising. -/
def assocPut {β : Type} (l : List (Nat × β)) (k : Nat) (b : β) : List (Nat × β) :=
  match l with
  | [] => [(k, b)]
  | (i, c) :: t => if k < i then (k, b) :: (i, c) :: t else if k = i then (k, b) :: t else (i, c) :: assocPut t k b

/-- Remove a key. -/
def assocDel {β : Type} (l : List (Nat × β)) (k : Nat) : List (Nat × β) := l.filter (fun e => e.1 != k)

/-! ### Registers -/

/-- The word a register map holds at an offset: its reset value where nothing is listed (R510). -/
def RegFile.get (l : RegFile) (o : Nat) : Word := (assoc l o).getD (resetWord o)

/-- Write a word, keeping the canonical form: offsets strictly rising, nothing listed at its reset value. -/
def RegFile.put (l : RegFile) (o : Nat) (v : Word) : RegFile :=
  if v = resetWord o then assocDel l o else assocPut l o v

/-- The canonical form of a register map. -/
def RegFile.canon (l : RegFile) : RegFile := l.foldr (fun e m => m.put e.1 e.2) []

/-- Whether a register map is canonical. -/
def RegFile.wf (l : RegFile) : Bool :=
  match l with
  | [] => true
  | (i, w) :: t => decide (w ≠ resetWord i) && (t.all (fun e => decide (i < e.1))) && RegFile.wf t

/-- The word of a register. -/
def State.word (s : State) (o : Nat) : Word := s.regs.get o

/-- Set the word of a register. -/
def State.setWord (s : State) (o : Nat) (v : Word) : State := { s with regs := s.regs.put o v }

/-- A field of a word. -/
def Fld.of (f : Fld) (w : Word) : Nat := bits w.toNat f.hi f.lo

/-- A word with a field replaced; the value is cut to the field's width. -/
def Fld.set (f : Fld) (w : Word) (v : Nat) : Word :=
  BitVec.ofNat 32 (w.toNat - f.of w * 2 ^ f.lo + v % 2 ^ (f.hi + 1 - f.lo) * 2 ^ f.lo)

/-- Read a field. -/
def State.rd (s : State) (f : Fld) : Nat := f.of (s.word f.off)

/-- Whether a field is not zero. -/
def State.on (s : State) (f : Fld) : Bool := s.rd f != 0

/-- Read a field as two's complement. -/
def State.rdS (s : State) (f : Fld) : Int := signed (f.hi + 1 - f.lo) (s.rd f)

/-- Write a field. -/
def State.wr (s : State) (f : Fld) (v : Nat) : State := s.setWord f.off (f.set (s.word f.off) v)

/-- Write a field from an integer, two's complement. -/
def State.wrS (s : State) (f : Fld) (v : Int) : State := s.wr f (unsigned (f.hi + 1 - f.lo) v)

/-- Write a one-bit field. -/
def State.wrB (s : State) (f : Fld) (b : Bool) : State := s.wr f (b2n b)

/-- Count in a field, wrapping. -/
def State.inc (s : State) (f : Fld) : State := s.wr f (s.rd f + 1)

/-- Count in a field, saturating. -/
def State.incSat (s : State) (f : Fld) : State := s.wr f (min (s.rd f + 1) (2 ^ (f.hi + 1 - f.lo) - 1))

/-- Apply a change when a condition holds. -/
def State.when (s : State) (b : Bool) (f : State → State) : State := if b then f s else s

/-- A stage of the management cores: it does not run while they restart (R457). -/
def State.stage (s : State) (f : State → State) : State := if s.frm.coreRst then s else f s

/-- Apply a change for each element of a list, in order. -/
def forEach {α : Type} (l : List α) (s : State) (f : State → α → State) : State := l.foldl f s

/-- Apply a change for each index below a bound. -/
def forN (n : Nat) (s : State) (f : State → Nat → State) : State := (List.range n).foldl f s

/-- FRAME_CNT (R16). -/
def State.frame (s : State) : Nat := s.rd FRM_FRAME_CNT_LO_Lo + 2 ^ 32 * s.rd FRM_FRAME_CNT_HI_Hi

/-- FRAME_CNT bits [31:0], the frame number completions, events and stamps carry. -/
def State.frame32 (s : State) : Nat := s.rd FRM_FRAME_CNT_LO_Lo

/-- Set FRAME_CNT. -/
def State.setFrame (s : State) (n : Nat) : State :=
  (s.wr FRM_FRAME_CNT_LO_Lo (n % 2 ^ 32)).wr FRM_FRAME_CNT_HI_Hi (n / 2 ^ 32)

/-- The set frame number: FRAME_CNT + FRM_SET_OFF (R70). -/
def State.setFrameNo (s : State) : Nat :=
  (s.frame + s.rd FRM_SET_OFF_LO_Lo + 2 ^ 32 * s.rd FRM_SET_OFF_HI_Hi) % 2 ^ 64

/-- OPMS (R405). -/
def State.opms (s : State) : Nat := s.rd TMR_OPMS_LO_Lo + 2 ^ 32 * s.rd TMR_OPMS_HI_Hi

/-- Set OPMS, 48 bits. -/
def State.setOpms (s : State) (n : Nat) : State :=
  (s.wr TMR_OPMS_LO_Lo (n % 2 ^ 32)).wr TMR_OPMS_HI_Hi (n / 2 ^ 32)

/-- Record something sent outside. -/
def State.emit (s : State) (o : Output) : State := { s with out := o :: s.out }

/-- Draw a free value (a value the spec leaves open), of `w` bits. -/
def State.draw (s : State) (w : Nat) : Nat × State :=
  ((Config.freeValue s.free).toNat % 2 ^ w, { s with free := s.free + 1 })

/-! ### Interrupts (R318, R319) -/

/-- DMA and MSI-X messages are possible (R296). -/
def State.dmaOk (s : State) : Bool :=
  s.on HIF_STAT_LinkUp && s.on HIF_STAT_BusMaster && !s.on HIF_STAT_D3

/-- An MSI-X vector is masked by its table entry (R297): vector control bit 0, set until the host clears it. -/
def State.masked (s : State) (v : Nat) : Bool :=
  match assoc s.hif.msixTable (4 * v + 3) with
  | some w => w.toNat.testBit 0
  | none => true

/-- Send the message of a vector, or set its PBA bit where it is masked or no message can go out (R296, R319). -/
def State.sendMsix (s : State) (v : Nat) : State :=
  if s.masked v || !s.dmaOk then { s with hif := { s.hif with pba := s.hif.pba ||| 2 ^ v } }
  else { s with hif := { s.hif with pba := setBit s.hif.pba v false } }.emit (.msix v)

/-- Count a cause event toward a moderated vector (R319). -/
def bumpVec (l : List VecPend) (v fr : Nat) : List VecPend :=
  match l with
  | [] => [{ vec := v, cnt := 1, first := fr }]
  | p :: t => if p.vec = v then { p with cnt := p.cnt + 1 } :: t else p :: bumpVec t v fr

/-- Interrupt cause c: causes 0-7 send at once; the others make their vector pending (R318, R319). -/
def State.cause (s : State) (c : Nat) : State :=
  if c < 8 then s.sendMsix c
  else { s with hif := { s.hif with vecs := bumpVec s.hif.vecs (s.rd (HIF_MSIX_MAP_Vec c)) s.frame } }

/-! ### Records and faults (R407, R408, R422-R426) -/

/-- Place a record request in the FIFO; one that finds it full is lost and counted (R407, R408). -/
def State.requestRaw (s : State) (r : RecReq) : State :=
  if s.onx.fifo.length < 256 then { s with onx := { s.onx with fifo := s.onx.fifo ++ [{ r with frame := s.frame }] } }
  else { s.inc ONX_LOST_CNT_Cnt with onx := { s.onx with lostPend := s.onx.lostPend + 1 } }

/-- Whether the source's status bit is set (R422). -/
def State.unacked (s : State) (src : Nat) : Bool := (s.rd (FLT_GRP_STAT_Bits (src / 32))).testBit (src % 32)

/-- The sources that never escalate and are counted only while unacknowledged (R424). -/
def neverEscalates (src : Nat) : Bool := src == 34 || src == 233 || src == 238

/-- The unit a source's block reset disables, as kind and instance (R425), from its syndrome; none for sources of blocks
without an enable. Kinds: 0 pulse-generator channel, 1 loop tile, 2 shelf loop, 3 e-fuse channel, 4 two-wire port,
5 CAN controller. -/
def blockOf (src syn : Nat) : Option (Nat × Nat) :=
  if 96 ≤ src ∧ src ≤ 98 then some (0, syn % 64)
  else if 104 ≤ src ∧ src ≤ 111 then some (1, syn % 32)
  else if 184 ≤ src ∧ src ≤ 191 then some (2, syn % 16)
  else if 128 ≤ src ∧ src ≤ 139 then some (3, syn % 16)
  else if 192 ≤ src ∧ src ≤ 197 then some (4, syn % 16)
  else if 198 ≤ src ∧ src ≤ 201 then some (5, syn % 4)
  else none

/-- The class a raise takes (R424): the table or forced class on an acknowledged source, one above the held class on an
unacknowledged one. -/
def raiseClass (unack : Bool) (held cls : Nat) : Nat := if unack then min 2 (held + 1) else cls

/-- The reactions a raise takes, as FLT_SRCs_CFG bits [7:0] (R424, R425): class F adds Nmi and FaultN where the source
accepts them, and F on F forces a chip reset. -/
def raiseReactions (src cfg cls : Nat) (fOnF : Bool) : Nat :=
  let a := if cls = 2 then (cfg ||| 4) ||| (if src = 34 then 0 else 32) else cfg
  if fOnF && src != 34 then a ||| 16 else a

/-- Step 2 of a raise: count it, and store the syndrome (R422). -/
def State.raiseCount (s : State) (src syn : Nat) : State := (s.incSat (FLT_SRC_CNT_Raises src)).wr (FLT_SRC_CNT_Syn src) syn

/-- Steps 1 and 3 of a raise: the status bit, the class the source now holds, and an escalation counted (R422, R424). -/
def State.raiseMark (s : State) (src cls : Nat) (unack : Bool) : State :=
  let s := s.wr (FLT_GRP_STAT_Bits (src / 32)) (s.rd (FLT_GRP_STAT_Bits (src / 32)) ||| 2 ^ (src % 32))
  let s := { s with flt := { s.flt with held := assocPut s.flt.held src cls,
                                        raisedNow := if s.flt.raisedNow.contains src then s.flt.raisedNow
                                                     else src :: s.flt.raisedNow } }
  s.when unack (fun s => s.inc FLT_ESC_CNT_Cnt)

/-- Step 4 of a raise: the first error is captured, a later one sets Ovf (R423). -/
def State.raiseFirst (s : State) (src syn cls : Nat) (inj : Bool) : State :=
  if s.on FLT_FIRST_SRC_Valid then s.wrB FLT_STAT_Ovf true
  else
    ((((((s.wr FLT_FIRST_SRC_Src src).wr FLT_FIRST_SRC_Class cls).wrB FLT_FIRST_SRC_Injected inj).wrB
      FLT_FIRST_SRC_Valid true).wr FLT_FIRST_FRAME_Frame s.frame32).wr FLT_FIRST_SYN_Syn syn)

/-- The block reset a raise asks for (R425). -/
def State.askBlock (s : State) (src syn : Nat) : State :=
  match blockOf src syn with
  | some b => { s with flt := { s.flt with blkOff := if s.flt.blkOff.contains b then s.flt.blkOff else s.flt.blkOff ++ [b] } }
  | none => s

/-- Step 5 of a raise: the reactions of the mask `r` (R425). -/
def State.raiseReact (s : State) (src syn cls r : Nat) (unack inj : Bool) : State :=
  let s := s.when (bit r 0) (fun s => s.cause (src / 32))
  let s := s.when (bit r 1) (fun s => { s with flt := { s.flt with alert := src :: s.flt.alert } })
  let s := s.when (bit r 1 || 1 ≤ cls) (fun s => { s with flt := { s.flt with alertNew := true } })
  let s := s.when (bit r 2) (fun s => { s with flt := { s.flt with nmi := s.flt.nmi ++ [(src, syn, s.frame)] } })
  let s := s.when (bit r 3) (fun s => s.askBlock src syn)
  let s := s.when (bit r 4) (fun s =>
    { s with flt := { s.flt with chipReset := some ((s.flt.chipReset).getD ⟨src, cls, syn, s.frame⟩) } })
  let s := s.when (bit r 5) (fun s => { s with flt := { s.flt with faultN := src :: s.flt.faultN } })
  s.when (bit r 7 || bit r 4) (fun s =>
    s.requestRaw { code := 0x1000 + 0x100 * (src / 32) + cls + (if unack then 4 else 0), source := src,
                   p0 := syn % 2 ^ 16 + 2 ^ 16 * s.rd (FLT_SRC_CNT_Raises src), p1 := s.frame32, p2 := r,
                   inj := inj, force := bit r 4 })

/-- The class a source holds: that of its unacknowledged raises, else its table class (R424). -/
def State.heldClass (s : State) (src : Nat) : Nat := (assoc s.flt.held src).getD (s.rd (FLT_SRC_CFG_Class src))

/-- A raise of one source with a class and an Injected flag (R422-R426). -/
def State.raiseCore (s : State) (src syn cls0 : Nat) (inj : Bool) : State :=
  if !s.on (FLT_SRC_CFG_Assigned src) then s
  else
    let unack := s.unacked src
    let held := s.heldClass src
    let s := s.raiseCount src syn
    if unack && neverEscalates src then s
    else
      let cls := raiseClass unack held cls0
      let s := (s.raiseMark src cls unack).raiseFirst src syn cls inj
      let r := raiseReactions src ((s.word (FLT_SRC_CFG src)).toNat % 256) cls (unack && held == 2)
      s.raiseReact src syn cls r unack inj

/-- Raise ONX_LOST for the first loss after an empty queue (R408). -/
def State.noteLoss (s : State) : State :=
  if s.onx.lostPend > 0 && !s.onx.lossSeen then
    { s with onx := { s.onx with lossSeen := true } }.raiseCore 233 0 0 false
  else s

/-- Raise source s with its table class and a syndrome (R422). -/
def State.raise (s : State) (src syn : Nat) : State :=
  (s.raiseCore src (syn % 2 ^ 16) (s.rd (FLT_SRC_CFG_Class src)) false).noteLoss

/-- A forced raise with a class of its own (R427). -/
def State.raiseForced (s : State) (src syn cls : Nat) : State := (s.raiseCore src (syn % 2 ^ 16) cls true).noteLoss

/-- Request a record (R407). -/
def State.request (s : State) (code source p0 p1 p2 : Nat) : State :=
  (s.requestRaw { code := code, source := source, p0 := p0, p1 := p1, p2 := p2 }).noteLoss

/-- Request a record of a function of the shelf master role: it carries the Shelf flag (R403, R404). -/
def State.requestShelf (s : State) (code source p0 p1 p2 : Nat) : State :=
  (s.requestRaw { code := code, source := source, p0 := p0, p1 := p1, p2 := p2,
                  shelf := s.on GLB_STAT_ShelfMaster }).noteLoss

/-- Acknowledge sources: clear their status bits, forget their held classes and release what they drove (R422, R425). -/
def State.ackSources (s : State) (g mask : Nat) : State :=
  let keep (src : Nat) : Bool := !(src / 32 == g && mask.testBit (src % 32))
  let s := s.wr (FLT_GRP_STAT_Bits g) (maskOff (s.rd (FLT_GRP_STAT_Bits g)) mask)
  { s with flt := { s.flt with held := s.flt.held.filter (fun e => keep e.1),
                               faultN := s.flt.faultN.filter keep,
                               alert := s.flt.alert.filter keep } }

/-! ### Events and completions (R304, R314, R315) -/

/-- An event: it waits for the event ring, or is lost when 256 wait (R315). -/
def State.postEvent (s : State) (e : Event) : State :=
  if s.hif.events.length < 256 then
    { s with hif := { s.hif with events := s.hif.events ++ [{ e with frame := s.frame32 }] } }
  else
    { s.inc HIF_EQ_LOST_CNT_Cnt with hif := { s.hif with evLost := s.hif.evLost + 1,
                                                         evLostAt := if s.hif.evLost = 0 then s.frame32
                                                                     else s.hif.evLostAt } }

/-- An event without a command (R314). -/
def State.event (s : State) (code unit p0 p1 : Nat) : State :=
  s.postEvent { code := code, unit := unit, p0 := p0, p1 := p1 }

/-- The check-bit injection armed at a target and an instance fires and is disarmed (R427): its mask, 0 where none is armed. -/
def State.takeArmed (s : State) (target inst : Nat) : Nat × State :=
  match s.flt.armed with
  | some (t, i, m) =>
    if t = target ∧ i = inst then (m, { s.wrB FLT_INJ_Armed false with flt := { s.flt with armed := none } }) else (0, s)
  | none => (0, s)

/-- Completion status codes (R309). -/
inductive Status where
  | ok | notAdmitted | aborted | superseded | disabled | alreadyDone | badCrc | badTag | refusedState | notAuthorised
  | busError | timeout | nack | arbLost | deadlineMissed | pointUnknown | faulted
deriving DecidableEq, Repr, Inhabited

/-- The code of a status (R309). -/
def Status.code : Status → Nat
  | .ok => 0 | .notAdmitted => 1 | .aborted => 2 | .superseded => 3 | .disabled => 4 | .alreadyDone => 5 | .badCrc => 6
  | .badTag => 7 | .refusedState => 8 | .notAuthorised => 9 | .busError => 10 | .timeout => 11 | .nack => 12
  | .arbLost => 13 | .deadlineMissed => 14 | .pointUnknown => 15 | .faulted => 16

/-- The command in flight under a tag. -/
def State.findCmd (s : State) (tag : Nat) : Option Cmd := s.hif.cmds.find? (fun c => c.tag == tag)

/-- Change the command in flight under a tag. -/
def State.modCmd (s : State) (tag : Nat) (f : Cmd → Cmd) : State :=
  { s with hif := { s.hif with cmds := s.hif.cmds.map (fun c => if c.tag == tag then f c else c) } }

/-- Make the completion of a command that holds its tag: the command leaves the table, its reservations with it, and its
tag becomes Held (R301, R304, R310). -/
def State.completeCmd (s : State) (c : Cmd) (st : Status) (result : Nat) : State :=
  let (inv, s) := s.takeArmed 7 c.pair
  let s := s.wr (HIF_TAG_State c.tag) 2
  let s := s.when (st == .notAdmitted) (fun s => s.incSat FRM_REFUSED_CNT_Cnt)
  { s with hif := { s.hif with
      cmds := s.hif.cmds.filter (fun d => d.tag != c.tag),
      comps := s.hif.comps ++ [{ pair := c.pair, sqSeq := c.sqSeq, tag := c.tag, gen := c.gen, status := st.code,
                                 result := result % 2 ^ 64, frame := s.frame32, noIrq := c.noIrq,
                                 dropped := c.dropped, inv := inv }] } }

/-- Complete the command in flight under a tag, if there is one. -/
def State.complete (s : State) (tag : Nat) (st : Status) (result : Nat) : State :=
  match s.findCmd tag with
  | some c => s.completeCmd c st result
  | none => s

/-- Pass the commit point of a command (R55, R62). -/
def State.commit (s : State) (tag : Nat) : State := s.modCmd tag (fun c => { c with commit := true })

/-- The reserved portions of a command of some kinds have run (R46). -/
def Cmd.ran (c : Cmd) (k : List PortionKind) : Cmd :=
  { c with begun := true, plan := c.plan.map (fun p => if k.contains p.kind then { p with ran := true } else p) }

/-- The command in flight under a tag if it has the opcode and has not run its execution slot. -/
def State.ready (s : State) (tag opcode : Nat) : Option Cmd :=
  match s.findCmd tag with
  | some c => if c.opcode = opcode && !c.begun then some c else none
  | none => none

/-! ### Changes to unit records -/

def State.modTm (s : State) (k : Nat) (f : TmCh → TmCh) : State := { s with sense := { s.sense with tm := upd s.sense.tm k f } }
def State.modCmp (s : State) (n : Nat) (f : CmpSt → CmpSt) : State := { s with sense := { s.sense with cmp := upd s.sense.cmp n f } }
def State.modPg (s : State) (n : Nat) (f : PgCh → PgCh) : State := { s with sense := { s.sense with pg := upd s.sense.pg n f } }
def State.modEf (s : State) (e : Nat) (f : EfCh → EfCh) : State := { s with ef := upd s.ef e f }
def State.modSl (s : State) (m : Nat) (f : SlSt → SlSt) : State := { s with sl := upd s.sl m f }
def State.slc (s : State) (m : Nat) : SlSt := nth s.sl m
def State.modRail (s : State) (r : Nat) (f : RailSt → RailSt) : State :=
  { s with seq := { s.seq with rails := upd s.seq.rails r f } }
def State.rail (s : State) (r : Nat) : RailSt := nth s.seq.rails r
def State.seqMon (s : State) (r : Nat) : Int := (s.rail r).mon
def State.modLt (s : State) (n : Nat) (f : LtCh → LtCh) : State := { s with lt := upd s.lt n f }
def State.ltc (s : State) (n : Nat) : LtCh := nth s.lt n
def State.efc (s : State) (e : Nat) : EfCh := nth s.ef e
def State.pg (s : State) (n : Nat) : PgCh := nth s.sense.pg n
def State.cmp (s : State) (n : Nat) : CmpSt := nth s.sense.cmp n
def State.tm (s : State) (k : Nat) : TmCh := nth s.sense.tm k

/-! ### The point cache (R328) -/

/-- The cached value of a point (R328); a point without one carries Init (R330). -/
def State.cached (s : State) (id : Nat) : PVal := (assoc s.pnt.cache id).getD {}

/-- Put a value into the point cache. -/
def State.setCache (s : State) (id : Nat) (v : PVal) : State :=
  { s with pnt := { s.pnt with cache := assocPut s.pnt.cache id v } }

/-- The quality code of a quality byte (R330). -/
def qCode (q : Nat) : Nat := q % 4

/-- A signed Q16.16 reading of a point value. -/
def PVal.int (p : PVal) : Int := p.v.toInt

/-- Good quality (R330). -/
def PVal.good (p : PVal) : Bool := qCode p.q == 0

/-- Quality BAD (R330). -/
def PVal.isBad (p : PVal) : Bool := qCode p.q == 3

/-- A value that has not been updated since reset or apply carries Init (R330). -/
def PVal.unsealed (p : PVal) : Bool := p.q.testBit 5

end Sys2Proof.Machine
end

