-- ==== Sys2Proof/Machine/Flags.lean ====
section
/-!
DEFINITION. The status fields that the spec defines as functions of other state (`State.status`), the settling at the end of every
command (`State.settle`), and the answer every meaning gives (`done`).
-/
namespace Sys2Proof.Machine

/-! ### What the status fields are computed from -/

/-- The register-map key of a word of a pin entry, and of an entry of the snapshot list (R327, R337). -/
def pinKey (i w : Nat) : Nat := 0x100000 + 16 * i + 4 * w
def listKey (i : Nat) : Nat := 0x180000 + 4 * i

/-- The pin entries of a register map whose Valid bit is set: entry and DATA0. -/
def pinsOf (l : RegFile) : List (Nat × Nat) :=
  l.filterMap (fun e =>
    if 0x100000 ≤ e.1 && e.1 < 0x180000 && (e.1 - 0x100000) % 16 == 0 && e.2.toNat.testBit 31
    then some ((e.1 - 0x100000) / 16, e.2.toNat) else none)

/-- This device's position in the ring. -/
def State.me (s : State) : Nat := s.rd GLB_STAT_Pos

/-- RED_STAT.State (R385): 0 Single, 1 Starting, 2 Active, 3 Standby, 4 Takeover. -/
def State.redState (s : State) : Nat := s.rd RED_STAT_State

/-- The position that the neighbour of a port has (R374): port 0 is TL_W, port 1 TL_E. -/
def State.nbrOf (s : State) (p : Nat) : Nat :=
  let n := max 1 (s.rd TL_CFG_SetSize)
  let me := s.rd GLB_STAT_Pos
  if p = 1 then (me + 1) % n else (me + n - 1) % n

/-- A port is up and carries messages: its neighbour's announcement passed the checks of R375. -/
def State.portUp (s : State) (p : Nat) : Bool :=
  s.on TL_CFG_En && s.on (TL_PORT_STAT_Up p) && s.rd (TL_PORT_STAT_NbrPos p) == s.nbrOf p &&
    s.rd (TL_PORT_STAT_NbrSetSize p) == s.rd TL_CFG_SetSize && s.rd (TL_PORT_STAT_NbrPos p) != s.rd GLB_STAT_Pos

/-- A position is live (R381). -/
def State.isLive (s : State) (q : Nat) : Bool :=
  q == s.me || (match assoc s.tl.heard q with | some f => decide (s.frame - f ≤ 4) | none => false)

/-- Every masked class is in sync and the digests are equal (R395). -/
def State.inSync (s : State) : Bool :=
  let mask := s.rd RED_MIRROR_MASK_Mask
  (s.redState == 3 || s.redState == 4) && (mask &&& s.rd RED_MIRROR_STAT_InSync) == mask &&
    (match s.red.peer with | some p => p.digest == s.rd RED_CFG_DIGEST_Digest | none => false)

/-- The mode a loop reads (R170, R190): Standby on a running device without the shelf master role. -/
def State.slMode (s : State) (m : Nat) : Nat :=
  if s.on GLB_STAT_Running && !s.on GLB_STAT_ShelfMaster then 4 else (s.slc m).mode

/-- A controller may act by itself: not on the shelf bus, or with the shelf master role (R364). -/
def State.canMaster (s : State) (c : Nat) : Bool := !s.on (CAN_CFG_ShelfBus c) || s.on GLB_STAT_ShelfMaster

/-- The controller is in restricted operation mode (R364). -/
def State.canRestricted (s : State) (c : Nat) : Bool := !s.canMaster c

/-- The main converter is available (R82); first at the first apply (R515). -/
def State.mcAvail (s : State) : Bool :=
  s.sense.applied && s.on AFE_CTL_McEn && !s.unacked 66 && !s.unacked 67

/-- Last gasp has been declared (R226, R410). -/
def State.afterGasp (s : State) : Bool := s.rd HU_STAT_State == 2 || s.rd HU_STAT_State == 3

/-- A sequence number lies after another (R299 and R377 count modulo 2^32). -/
def seqAfter (x y : Nat) : Bool := let d := (y + 2 ^ 32 - x) % 2 ^ 32; decide (1 ≤ d ∧ d < 2 ^ 31)

/-! ### Rings (R298-R300) -/

/-- A ring that the device writes: its attachment number, and its HEAD, POSTED_SEQ, INIT_SEQ, SizeLog2 and base fields. -/
structure RingRegs where
  id     : Nat
  head   : Fld
  posted : Fld
  init   : Fld
  size   : Fld
  baseLo : Nat
  baseHi : Nat

def cqRegs (n : Nat) : RingRegs :=
  ⟨n, HIF_CQ_HEAD_Seq n, HIF_CQ_POSTED_SEQ_Seq n, HIF_CQ_INIT_SEQ_Seq n, HIF_CQ_CFG_SizeLog2 n, HIF_CQ_BASE_LO n, HIF_CQ_BASE_HI n⟩
def eqRegs : RingRegs :=
  ⟨8, HIF_EQ_HEAD_Seq, HIF_EQ_POSTED_SEQ_Seq, HIF_EQ_INIT_SEQ_Seq, HIF_EQ_CFG_SizeLog2, HIF_EQ_BASE_LO, HIF_EQ_BASE_HI⟩
def tsRegs (k : Nat) : RingRegs :=
  ⟨16 + k, HIF_TS_HEAD_Seq k, HIF_TS_POSTED_SEQ_Seq k, HIF_TS_INIT_SEQ_Seq k, HIF_TS_CFG_SizeLog2 k, HIF_TS_BASE_LO k, HIF_TS_BASE_HI k⟩

/-- Add to a 32-bit sequence number (R299). -/
def seqAdd (x k : Nat) : Nat := (x + k) % 2 ^ 32

/-- How far sequence number `y` lies past `x`, modulo 2^32. -/
def seqDist (x y : Nat) : Nat := (y + 2 ^ 32 - x % 2 ^ 32) % 2 ^ 32

def State.ringSize (s : State) (r : RingRegs) : Nat := 2 ^ s.rd r.size
def State.ringBase (s : State) (r : RingRegs) : Nat := (s.word r.baseLo).toNat + 2 ^ 32 * (s.word r.baseHi).toNat

/-- Entries posted and not consumed. -/
def State.ringUsed (s : State) (r : RingRegs) : Nat := seqDist (s.rd r.head) (seqAdd (s.rd r.posted) 1)

/-- Completions made and not posted, of a pair. -/
def State.pairComps (s : State) (n : Nat) : List Comp := s.hif.comps.filter (fun c => c.pair == n)

/-- The pair has no room in its CQ for another completion (R302). -/
def State.noCredit (s : State) (n : Nat) : Bool :=
  decide (s.ringSize (cqRegs n) ≤ s.ringUsed (cqRegs n) + (s.pairComps n).length + (s.hif.cmds.filter (fun c => c.pair == n)).length)

/-! ### Status fields (R302, R304, R13) -/

/-- A mask of the indexes below a bound that pass a test. -/
def maskOf (n : Nat) (p : Nat → Bool) : Nat := (List.range n).foldl (fun a i => if p i then a ||| 2 ^ i else a) 0

/-- The oldest sequence a query can return (log entry 80): the oldest record of the ring or the archive from the low-water mark on; where
there is none, the next to be committed. -/
def State.oldestSeq (s : State) : Nat :=
  let low := s.rd ONX_LOW_WATER_Seq
  let none_ := ((s.onx.staging.head?).map (fun r => r.seq)).getD (s.rd ONX_NEXT_SEQ_Seq)
  (s.onx.mram ++ s.onx.archive).foldl (fun a e => if !seqAfter e.2.seq low && seqAfter e.2.seq a then e.2.seq else a) none_

/-- A port has trained with a neighbour that fails a check of R375. -/
def State.portBad (s : State) (bad : Nat → Bool) : Bool := [0, 1].any (fun p => s.on (TL_PORT_STAT_Trained p) && bad p)

/-- Volts to the code reference (R148): V × LTn_REF_SCALE + LTn_REF_OFS, rounded to Q20.12. -/
def State.ltCode (s : State) (n : Nat) (v : Int) : Int :=
  satS 32 (divRnd (v * (s.rd (LT_REF_SCALE_Scale n) : Int) + s.rdS (LT_REF_OFS_Ofs n) * 2 ^ 20) (2 ^ 20))

/-- The present reference. -/
def State.ltRef (s : State) (n : Nat) : Int := s.rdS (LT_REF_CUR_R n)

/-- The target the reference moves to: 0 in a soft stop (R165), the claimed target (R153), else the owner's. -/
def State.ltTarget (s : State) (n : Nat) : Int :=
  let c := s.ltc n
  if c.softStop then 0
  else match c.claim with
    | some v => s.ltCode n (clampI (s.rdS (LT_REF_MIN_V n)) (s.rdS (LT_REF_MAX_V n)) v)
    | none => s.rdS (LT_REF_TGT_R n)

/-- The status of the globals, the host interface and the timers (R13, R296, R302, R304). -/
def State.statusHost (s : State) : List (Fld × Nat) :=
  [(GLB_STAT_HostAttached, b2n ([0, 1, 2, 3].any (fun n => s.on (HIF_SQ_CTL_En n)))),
   (GLB_STAT_HostLink, s.rd HIF_STAT_LinkUp),
   (HIF_STAT_DmaOk, b2n s.dmaOk),
   (TMR_MATCH_SUM_Match, maskOf 16 (fun i => s.on (TMR_STAT_Match i)))] ++
  [0, 1, 2, 3].foldr (fun n l =>
    (HIF_SQ_STAT_NoCredit n, b2n (s.noCredit n)) :: (HIF_SQ_STAT_Held n, b2n (!(s.pairComps n).isEmpty)) ::
      (HIF_CQ_HELD_Cnt n, min 511 (s.pairComps n).length) :: l) []

/-- The status of the fault collector, Onyx, sensing and points (R82, R226, R408-R412, R422-R425). -/
def State.statusFault (s : State) : List (Fld × Nat) :=
  [(FLT_STAT_MaxClass, s.flt.held.foldl (fun a e => max a e.2) 0),
   (FLT_STAT_FaultN, b2n (!s.flt.faultN.isEmpty && !s.pwr.guard)),
   (ONX_STAT_Allow, b2n (s.rd HU_STAT_State == 1 || s.afterGasp)),
   (ONX_STAT_QueueFull, b2n (decide (2048 ≤ s.onx.staging.length))),
   (ONX_STAT_Erasing, b2n s.onx.erasing.isSome),
   (ONX_STAT_Gasp, b2n s.rbt.gasp),
   (ONX_PEND_N, s.onx.staging.length),
   (ONX_OLDEST_SEQ_Seq, if s.on ONX_STAT_Ready then s.oldestSeq else 0),
   (AFE_STAT_McAvail, b2n s.mcAvail),
   (PNT_STAT_Pins, (pinsOf s.regs).length),
   (PNT_STAT_Drv, (List.range 128).countP (fun i => s.on (PNT_DRV_CFG_En i)))]

/-- The status of e-fuses, sequencer, tiles, loops, buses (R150, R178, R190, R263, R270, R280, R364). -/
def State.statusPower (s : State) : List (Fld × Nat) :=
  [(EF_SUM_On, maskOf 16 (fun e => s.rd (EF_STAT_State e) == 5)),
   (EF_SUM_Trip, maskOf 16 (fun e => s.rd (EF_STAT_State e) == 6 || s.rd (EF_STAT_State e) == 7)),
   (SEQ_DEMAND_Mask, maskOf 32 (fun r => s.on (SEQ_RAIL_STAT_Demand r))),
   (SEQ_UP_Mask, maskOf 32 (fun r => s.rd (SEQ_RAIL_STAT_State r) == 4)),
   (SEQ_FAILED_Mask, maskOf 32 (fun r => s.rd (SEQ_RAIL_STAT_State r) == 7)),
   (SEQ_STAT_Degraded, b2n (s.rd SEQ_STAT_State == 2 &&
     (List.range 32).any (fun r => s.on (SEQ_RAIL_STAT_Demand r) && s.rd (SEQ_RAIL_STAT_State r) != 4)))] ++
  (List.range 24).foldr (fun n l => (LT_STAT_Slewing n, b2n (s.ltRef n != s.ltTarget n)) :: l) [] ++
  (List.range 16).foldr (fun m l => (SL_STAT_Mode m, s.slMode m) ::
    (SL_STAT_Present m, maskOf 8 (fun k => s.on (SL_MEM_STAT_Present m k))) :: l) [] ++
  (List.range 4).foldr (fun c l => (CAN_STAT_Restricted c, b2n (s.on (CAN_CTL_En c) && s.canRestricted c)) :: l) []

/-- The status of the set, the pair and capping (R217, R375, R381, R395). -/
def State.statusSet (s : State) : List (Fld × Nat) :=
  let n := s.rd TL_CFG_SetSize
  let run := s.on FRM_STAT_Running
  let tm := s.on FRM_STAT_TimingMaster
  [(CAP_STAT_Master, s.rd GLB_STAT_ShelfMaster),
   (RED_STAT_Sync, b2n s.inSync),
   (TL_STAT_TimingMaster, b2n tm),
   (TL_STAT_SetUp, b2n (run && (List.range n).all s.isLive)),
   (TL_STAT_Wiring, b2n (s.portBad (fun p => s.rd (TL_PORT_STAT_NbrPos p) != s.nbrOf p))),
   (TL_STAT_SetMismatch, b2n (s.portBad (fun p => s.rd (TL_PORT_STAT_NbrSetSize p) != n))),
   (TL_STAT_PosDup, b2n (s.portBad (fun p => s.rd (TL_PORT_STAT_NbrPos p) == s.me))),
   (TL_STAT_Broken, b2n (run && s.on TL_CFG_En && decide (1 < n) && !(s.on (TL_PORT_STAT_Up 0) && s.on (TL_PORT_STAT_Up 1)))),
   (TL_LIVE_Live, if run then maskOf n s.isLive else 0),
   (TL_LIVE_Tm, if tm then s.me else s.frm.tmPos)]

/-- Every status field that is a function of other state, with its value. -/
def State.status (s : State) : List (Fld × Nat) := s.statusHost ++ s.statusFault ++ s.statusPower ++ s.statusSet

/-! ### Settling -/

/-- Write a field of a register map. -/
def RegFile.putFld (l : RegFile) (f : Fld) (v : Nat) : RegFile := l.put f.off (f.set (l.get f.off) v)

/-- Keys strictly rising. -/
def rising {β : Type} (l : List (Nat × β)) : Bool :=
  match l with
  | [] => true
  | e :: t => t.all (fun x => decide (e.1 < x.1)) && rising t

/-- The canonical form of a keyed list: keys strictly rising, the first entry of a key kept. -/
def canonList {β : Type} (l : List (Nat × β)) : List (Nat × β) :=
  if rising l then l else l.foldr (fun e m => assocPut m e.1 e.2) []

/-- The canonical form of a register map, one already canonical kept as it stands. -/
def RegFile.norm (l : RegFile) : RegFile := if l.wf then l else l.canon

/-- TW0_ALERT_N (R363): driven low by a new cause while AlertDrv = 1, until the device wins the alert response. -/
def State.alertPin (s : State) : State :=
  { s with bus := { s.bus with tgt := { s.bus.tgt with
             alertLow := s.on TW_TGT_CFG_AlertDrv && (s.bus.tgt.alertLow || s.flt.alertNew) } },
           flt := { s.flt with alertNew := false } }

/-- The status fields show what they are functions of. -/
def State.show (s : State) : State := { s with regs := s.status.foldl (fun l e => l.putFld e.1 e.2) s.regs }

/-- Registers, shadows, record memory and archive in canonical form. -/
def State.tidy (s : State) : State :=
  { s with regs := s.regs.norm, shadow := s.shadow.norm,
           onx := { s.onx with mram := canonList s.onx.mram, archive := canonList s.onx.archive } }

/-- The end of every command: the alert line, the canonical forms, the status fields. -/
def State.settle (s : State) : State := s.alertPin.tidy.show

/-- The state with a queue of waiting commands. -/
def State.requeue (s : State) (q : List Instr) : State := { s with pending := q }

/-- The answer of a meaning that takes the state `s` to `t`: `t` settled. The queue of waiting commands is the sender's: no effect of a
command reaches it. -/
def done (s t : State) : Res := .next (t.settle.requeue s.pending)

end Sys2Proof.Machine
end

