-- ==== Sys2Proof/Machine/Pulse.lean ====
section
/-!
DEFINITION. Pulse generators (chapter 04), with the comparator latches, blanking and trip lines that act on them
(R91-R98, R118-R121).
-/
namespace Sys2Proof.Machine

/-! ### Comparator latches and trip lines -/

/-- The bit of a comparator in the low or high half of a four-word array (R95): words 0-1 high events, 2-3 low events. -/
def cmpWord (n : Nat) (high : Bool) : Nat := (if high then 0 else 2) + n / 32

/-- Whether a latch is set (R92). -/
def State.latched (s : State) (n : Nat) (high : Bool) : Bool :=
  (s.rd (CMP_LATCH_Latch (cmpWord n high))).testBit (n % 32)

/-- Whether an event is asserted (R95). -/
def State.rawEvent (s : State) (n : Nat) (high : Bool) : Bool :=
  (s.rd (CMP_RAW_Raw (cmpWord n high))).testBit (n % 32)

/-- Whether a comparator's events are blanked (R91). -/
def State.blanked (s : State) (n : Nat) : Bool := (s.cmp n).blank

/-- Set or clear a latch bit. -/
def State.setLatch (s : State) (n : Nat) (high b : Bool) : State :=
  let f := CMP_LATCH_Latch (cmpWord n high)
  s.wr f (setBit (s.rd f) (n % 32) b)

/-- The trip lines the latches and masks now assert (R96), as a 16-bit mask. -/
def State.tripsNow (s : State) : Nat :=
  (List.range 16).foldl (fun a t =>
    if (List.range 4).any (fun m => (s.rd (CMP_TRIP_MASK_Mask t m)) &&& (s.rd (CMP_LATCH_Latch m)) != 0)
    then a ||| 2 ^ t else a) 0

/-! ### Channel outputs -/

/-- The channel's output mode is tri-state (R106). -/
def State.triState (s : State) (n : Nat) : Bool := s.rd (PG_CH_CFG_OutMode n) == 2

/-- The level a safe-state field selects (R125). -/
def safeLvl (c : Nat) : Lvl := if c = 0 then .low else if c = 1 then .high else .hiz

/-- The safe state of a channel's outputs (R125), Hi-Z before the first apply (R126). -/
def State.safeOut (s : State) (n : Nat) : Lvl × Lvl :=
  if !s.sense.applied then (.hiz, .hiz)
  else if s.triState n then (.hiz, .low)
  else (safeLvl (s.rd (PG_CH_CFG_SafeH n)), safeLvl (s.rd (PG_CH_CFG_SafeL n)))

/-- The outputs of a running channel with H off (R106). -/
def State.offOut (s : State) (n : Nat) : Lvl × Lvl :=
  match s.rd (PG_CH_CFG_OutMode n) with
  | 0 => (.low, .high)
  | 1 => (.low, .low)
  | _ => (.low, .high)

/-- The outputs of a running channel with H on (R106). -/
def State.onOut (s : State) (n : Nat) : Lvl × Lvl :=
  match s.rd (PG_CH_CFG_OutMode n) with
  | 0 => (.high, .low)
  | 1 => (.high, .low)
  | _ => (.high, .high)

/-- The idle outputs (R124). -/
def State.idleOut (s : State) (n : Nat) : Lvl × Lvl := if s.triState n then (.hiz, .high) else (.low, .low)

/-- Drive the two outputs of a channel. -/
def State.drive (s : State) (n : Nat) (o : Lvl × Lvl) : State := s.modPg n (fun c => { c with outH := o.1, outL := o.2 })

/-- Put a channel into its safe state (R125); `Run` clears when it also stops. -/
def State.pgSafe (s : State) (n : Nat) : State := (s.drive n (s.safeOut n)).wrB (PG_CH_STAT_Safe n) true

/-- Stop a channel in its safe state: it waits for nothing any more (R123). -/
def State.pgStop (s : State) (n : Nat) : State :=
  let s := s.pgSafe n
  let s := ((s.wrB (PG_CH_STAT_Run n) false).wrB (PG_CH_STAT_IdleSt n) false)
  s.modPg n (fun c => { c with startPend := false, armed := false, stopPend := false, stopping := false,
                               pulse := false, held := false, cycEnd := false, trans := false })

/-! ### Trip actions (R119-R121) -/

/-- The action code a group has selected for a trip line (R119). -/
def State.tripAct (s : State) (g t : Nat) : Nat := (s.rd (PG_GRP_TRIP_ACT_Act g) / 4 ^ t) % 4

/-- The strongest action now applied to a group's selected channels: latch over hold over cycle (R120). A set TripLatch bit
counts as a latch condition (R119). -/
def State.groupAct (s : State) (g : Nat) : Nat :=
  let latch := s.rd (PG_GRP_STAT_TripLatch g)
  (List.range 16).foldl (fun a t =>
    let x := if latch.testBit t then 3 else if s.sense.trips.testBit t then s.tripAct g t else 0
    max a x) 0

/-- The action now applied to a channel (R119). -/
def State.chanAct (s : State) (n : Nat) : Nat :=
  if (s.rd (PG_GRP_TRIP_CH_Mask (n / 4))).testBit (n % 4) then s.groupAct (n / 4) else 0

/-- Apply the present trip conditions to a channel at the instant they change (R119, R120, R127): Cycle ends the on-time
(idle outputs stay idle), Hold and Latch put it into its safe state until a period start. -/
def State.pgTripped (s : State) (n : Nat) : State :=
  let a := s.chanAct n
  let s := s.wr (PG_CH_STAT_Trip n) a
  if !s.on (PG_CH_STAT_Run n) then s
  else if a ≥ 2 then (s.pgSafe n).modPg n (fun c => { c with held := true, pulse := false })
  else if a = 1 then
    let s := s.modPg n (fun c => { c with cycEnd := true, pulse := false })
    if s.on (PG_CH_STAT_IdleSt n) || (s.pg n).held then s else s.drive n (s.offOut n)
  else s

/-- Take over the trip lines as they now stand: count and act on each line that has just asserted (R96, R119), release the
others. -/
def State.updTrips (s : State) : State :=
  let now := s.tripsNow
  let was := s.sense.trips
  if now = was then s
  else
    let rose := maskOff now was
    let s := { s with sense := { s.sense with trips := now } }
    let s := forEach (bitsOf 16 rose) s (fun s t =>
      let s := s.inc (CMP_TRIP_CNT_Cnt t)
      forN 12 s (fun s g =>
        if s.tripAct g t = 3 then
          s.wr (PG_GRP_STAT_TripLatch g) (s.rd (PG_GRP_STAT_TripLatch g) ||| 2 ^ t)
        else s))
    forN 48 s (fun s n => s.pgTripped n)

/-! ### Latches, counts and the e-fuse gate latch -/

/-- Whether the event a comparator latch stands for feeds the fast trip of an e-fuse channel (R97). -/
def State.feedsFuse (s : State) (e n : Nat) (high : Bool) : Bool :=
  let sel := s.rd (CMP_EF_SRC_Sel e)
  s.rd (CMP_EF_SRC_Cmp e) == n && (sel == 3 || (sel == 1 && high) || (sel == 2 && !high))

/-- A comparator latch sets: it is counted, may raise the comparator interrupt (R95), sets the gate latch of the e-fuse
channels it feeds, whose hard pull-down acts at once (R252), and drives its trip lines (R96). -/
def State.latchSet (s : State) (n : Nat) (high : Bool) : State :=
  if s.latched n high then s
  else
    let s := (s.setLatch n high true).inc (CMP_CNT_Cnt n)
    let s := s.when (s.on (CMP_CFG_Irq n)) (fun s => s.cause 21)
    let s := forN 16 s (fun s e =>
      if s.feedsFuse e n high then
        (s.modEf e (fun c => { c with latch := true, gate := false, fastPend := true, softOff := false })).wrB
          (EF_STAT_GateGood e) false
      else s)
    s.updTrips

/-- Clear a latch; it stays set while its event is asserted and unblanked (R93, R94). -/
def State.latchClear (s : State) (n : Nat) (high : Bool) : State :=
  if s.rawEvent n high && !s.blanked n then s else s.setLatch n high false

/-- An event of an enabled comparator half asserts or releases (R89, R91, R92). -/
def State.cmpEvent (s : State) (n : Nat) (high asserted : Bool) : State :=
  let f := CMP_RAW_Raw (cmpWord n high)
  if asserted then
    if s.on (if high then CMP_CFG_HiEn n else CMP_CFG_LoEn n) then
      let s := s.wr f (setBit (s.rd f) (n % 32) true)
      if s.blanked n then s else s.latchSet n high
    else s
  else s.wr f (setBit (s.rd f) (n % 32) false)

/-- Blanking of a comparator begins or restarts (R91). -/
def State.beginBlank (s : State) (n : Nat) : State := s.modCmp n (fun c => { c with blank := true })

/-- The comparators whose reference channel is channel n (R91, R118). -/
def State.referred (s : State) (n : Nat) : List Nat :=
  (List.range 64).filter (fun c => s.rd (CMP_CFG_Group c) == n / 4 && s.rd (CMP_BLANK_Ch c) == n % 4)

/-- Whether a comparator blanks at a rising or falling edge of its reference channel (R91). -/
def State.blanksAt (s : State) (c : Nat) (rise : Bool) : Bool :=
  let e := s.rd (CMP_BLANK_Edge c)
  s.on (CMP_BLANK_BlankEn c) && (e == 2 || (if rise then e == 0 || e == 3 else e == 1))

/-! ### Periods and edges -/

/-- The start of period j of a group at n × 100 kHz (R107), in ticks after the frame boundary. -/
def periodStart (mul j : Nat) : Nat := if mul = 0 then 0 else j * 64000 / mul

/-- The length of period j (R107). -/
def periodLen (mul j : Nat) : Nat := periodStart mul (j + 1) - periodStart mul j

/-- The shortest period of a group (R108). -/
def shortest (mul : Nat) : Nat := if mul = 0 then 0 else 64000 / mul

/-- The duty limits of R111 in their order: the limited duty, whether MaxOn clamped it, whether MinOn removed it. -/
def limitDuty (d len minOn maxOn : Nat) : Nat × Bool × Bool :=
  let d1 := min d len
  let clamp := decide (d1 > maxOn)
  let d2 := if clamp then maxOn else d1
  let skip := decide (1 ≤ d2 ∧ d2 < minOn)
  (if skip then 0 else d2, clamp, skip)

/-- Rise and fall positions of a duty in a period (R110), for the alignments that use the duty. -/
def edgesOf (align d len : Nat) : Nat × Nat :=
  match align with
  | 0 => (0, d)
  | 1 => (len - d, len)
  | _ => ((len - d) / 2, (len - d) / 2 + d)

/-- Place the edges of a channel's running period from its newest duty or edge words (R110, R111): positions, whether there
is a pulse, and the clamp and skip counts. -/
def State.placeEdges (s : State) (n : Nat) : State :=
  let c := s.pg n
  if s.rd (PG_CH_CFG_Align n) = 3 then
    let r := c.duty % 65536
    let f := c.duty / 65536
    let none := decide (r ≥ f ∨ r ≥ c.len)
    let s := s.when none (fun s => (s.wrB (PG_CH_STAT_Skip n) true).inc (PG_CH_SKIP_CNT_Cnt n))
    s.modPg n (fun c => { c with dutyNow := c.duty, rise := r, fall := min f c.len, pulse := !none })
  else
    let (d, clamp, skip) := limitDuty c.duty c.len (s.rd (PG_CH_LIMIT_MinOn n)) (s.rd (PG_CH_LIMIT_MaxOn n))
    let s := s.when clamp (fun s => (s.wrB (PG_CH_STAT_Clamp n) true).inc (PG_CH_CLAMP_CNT_Cnt n))
    let s := s.when skip (fun s => (s.wrB (PG_CH_STAT_Skip n) true).inc (PG_CH_SKIP_CNT_Cnt n))
    let (r, f) := edgesOf (s.rd (PG_CH_CFG_Align n)) d c.len
    s.modPg n (fun c => { c with dutyNow := d, rise := r, fall := f, pulse := decide (d ≠ 0) })

/-- A duty word (or, in Explicit mode, an edge pair) is loaded into a channel at a tick of its period (R113, R114). In
Immediate mode an edge not yet occurred moves; one moved to or before the present tick occurs at the next clock and is
counted late; a rise moved to or beyond the fall gives no pulse. In Period mode the value waits for the next period. -/
def State.loadDuty (s : State) (n d now : Nat) : State :=
  let c := s.pg n
  let s := s.modPg n (fun c => { c with duty := d })
  if s.on (PG_CH_CFG_Upd n) || !s.on (PG_CH_STAT_Run n) || c.trans || c.cycEnd || c.held then s
  else
    let (r, f) :=
      if s.rd (PG_CH_CFG_Align n) = 3 then (d % 65536, min (d / 65536) c.len)
      else
        let (dl, _, _) := limitDuty d c.len (s.rd (PG_CH_LIMIT_MinOn n)) (s.rd (PG_CH_LIMIT_MaxOn n))
        edgesOf (s.rd (PG_CH_CFG_Align n)) dl c.len
    if c.riseDone then
      if c.fallDone then s
      else
        let late := decide (f ≤ now)
        let s := s.modPg n (fun c => { c with fall := if late then (now / 8 + 1) * 8 else f })
        s.when late (fun s => (s.wrB (PG_CH_STAT_Late n) true).inc (PG_CH_LATE_CNT_Cnt n))
    else if r ≥ f then s.modPg n (fun c => { c with rise := r, fall := f, pulse := false })
    else
      let late := decide (r ≤ now)
      let s := s.modPg n (fun c => { c with rise := if late then (now / 8 + 1) * 8 else r, fall := f, pulse := true })
      s.when late (fun s => (s.wrB (PG_CH_STAT_Late n) true).inc (PG_CH_LATE_CNT_Cnt n))

/-- The position in a channel's running period of a tick of the frame. -/
def State.inPeriod (s : State) (n tick : Nat) : Nat := (tick + 64000 - (s.pg n).start) % 64000

/-- A duty word from a tile reaches a channel with its parity (R115): a word that fails is discarded and raises
PG_DUTY_PARITY, and the fourth in a frame forces the channel safe with ParOff. -/
def State.tileDuty (s : State) (n d now : Nat) (parOk : Bool) : State :=
  if s.on (PG_CH_CFG_Src n) then s
  else if parOk then s.loadDuty n d now
  else
    let s := s.raise 96 n
    let s := s.modPg n (fun c => { c with discards := c.discards + 1 })
    if (s.pg n).discards = 4 then
      let run := s.on (PG_CH_CTL_En n)
      let s := ((s.pgStop n).wrB (PG_CH_STAT_ParOff n) true).raise 97 n
      s.when run (fun s => s.modPg n (fun c => { c with discards := 0 }))
    else s

/-- A channel may start or go on: enabled and ParOff clear (R115, R121). -/
def State.pgMayRun (s : State) (n : Nat) : Bool := s.on (PG_CH_CTL_En n) && !s.on (PG_CH_STAT_ParOff n)

/-- A channel period start and its strobe (R118): cycle-mode latches of comparators that refer to the channel clear first
(R92, R93), blanking begins where the period starts with an on edge, and the channel stops, starts, resumes, idles or goes
on with the edges of its newest duty (R119, R122-R124). -/
def State.periodBegin (s : State) (n j : Nat) : State :=
  let mul := s.rd (PG_GRP_CFG_Mul (n / 4))
  let len := periodLen mul j
  let refs := s.referred n
  -- what the channel does in the new period
  let c := s.pg n
  let stop := c.stopping || (s.on (PG_CH_STAT_Run n) && !s.pgMayRun n && !c.stopPend)
  let starts := c.armed && s.pgMayRun n
  let runs := (s.on (PG_CH_STAT_Run n) && !stop) || starts
  -- an Idle released at this very boundary still covers a period start at it (R161)
  let idle := s.on (PG_CH_CTL_Idle n) ||
    (c.relAt == some s.frame && j == 0 && s.rd (PG_CH_OFS_OfsCur n) == 0)
  let start := (periodStart mul j + s.rd (PG_CH_OFS_OfsCur n)) % 64000
  let s := s.modPg n (fun c => { c with len := len, start := start, riseDone := false, fallDone := false, trans := false,
                                        cycEnd := false, armed := if starts then false else c.armed })
  let s := s.when runs (fun s => s.placeEdges n)
  let p := s.pg n
  -- the strobe: cycle latches clear; blanking begins at an on edge that coincides with the period start
  let onEdge := runs && !idle && p.pulse && p.rise == 0
  let s := forEach refs s (fun s cn =>
    let blanks := onEdge && s.blanksAt cn true
    let s := s.when blanks (fun s => s.beginBlank cn)
    if s.on (CMP_CFG_Latch cn) then s
    else ((s.latchClear cn true).latchClear cn false))
  let s := s.updTrips
  if stop then s.pgStop n
  else if !runs then s
  else
    let a := s.chanAct n
    let s := (s.wr (PG_CH_STAT_Trip n) a).wrB (PG_CH_STAT_Run n) true
    if a ≥ 2 then (s.pgSafe n).modPg n (fun c => { c with held := true, pulse := false })
    else
      let s := (s.modPg n (fun c => { c with held := false })).wrB (PG_CH_STAT_Safe n) false
      if idle then (s.drive n (s.idleOut n)).wrB (PG_CH_STAT_IdleSt n) true
      else
        let s := (s.wrB (PG_CH_STAT_IdleSt n) false).drive n (s.offOut n)
        s.when (a == 1) (fun s => s.modPg n (fun c => { c with cycEnd := true, pulse := false }))

/-- One level read back against the level driven (R128): the streak of mismatches. -/
def readBack (l : Lvl) (read : Bool) (streak : Nat) : Nat :=
  match l with
  | .hiz => streak
  | .low => if read then streak + 1 else 0
  | .high => if read then 0 else streak + 1

/-- A rise or fall position is reached (R110): the outputs move (R112), blanking starts at a selected edge (R91), and the
driven outputs are read back 20 ns later (R128). -/
def State.edge (s : State) (n : Nat) (rise readH readL : Bool) : State :=
  let c := s.pg n
  let live := s.on (PG_CH_STAT_Run n) && !s.on (PG_CH_STAT_IdleSt n) && !c.held && c.pulse && !c.cycEnd
  let moves := live && (if rise then !c.riseDone else c.riseDone && !c.fallDone)
  -- a cycle-action line asserted at the instant of an on edge suppresses it (R120)
  let moves := moves && !(rise && s.chanAct n == 1)
  if !moves then s
  else
    let s := s.modPg n (fun c => if rise then { c with riseDone := true } else { c with fallDone := true })
    let was := (s.pg n).outH
    let wasL := (s.pg n).outL
    let s := s.drive n (if rise then s.onOut n else s.offOut n)
    let s := forEach (s.referred n) s (fun s cn => s.when (s.blanksAt cn rise) (fun s => s.beginBlank cn))
    if !s.on (PG_CH_CFG_RbEn n) then s
    else
      let c := s.pg n
      let mh := if c.outH = was then c.misH else readBack c.outH readH c.misH
      let ml := if c.outL = wasL then c.misL else readBack c.outL readL c.misL
      let s := s.modPg n (fun c => { c with misH := mh, misL := ml })
      let s := s.when (mh == 2) (fun s => (s.wrB (PG_CH_STAT_Mismatch n) true).raise 98 n)
      s.when (ml == 2) (fun s => (s.wrB (PG_CH_STAT_Mismatch n) true).raise 98 (n + 64))

/-! ### Control writes -/

/-- A write of PG_CHn_CTL.En (R122, R123): 1 starts the channel at its first period start after the next boundary; 0 lets it
run to its first own period start at or after that boundary. -/
def State.pgEnable (s : State) (n : Nat) (en : Bool) : State :=
  let was := s.on (PG_CH_CTL_En n)
  let s := s.wrB (PG_CH_CTL_En n) en
  if en then (if was then s else s.modPg n (fun c => { c with startPend := true, stopPend := false }))
  else s.modPg n (fun c => { c with startPend := false, armed := false, stopPend := true })

/-- Immediate disable (R123, R127): safe state now, En cleared. -/
def State.immDis (s : State) (n : Nat) : State := (s.pgStop n).wrB (PG_CH_CTL_En n) false

/-- Load the staged offsets of a group's channels, or the stagger's (R109, R116, R117); too large an offset saturates and
sets Clamp (R108). Channels whose offset changes run a transition period. -/
def State.loadOffsets (s : State) (g : Nat) : State :=
  let mul := s.rd (PG_GRP_CFG_Mul g)
  let mask := s.rd (PG_GRP_STAG_Mask g)
  let sel := if s.on (PG_GRP_STAG_En g) then bitsOf 4 mask else []
  let s := forN 4 s (fun s i =>
    let n := 4 * g + i
    let o :=
      if sel.contains i then
        (if mul * sel.length = 0 then 0 else sel.idxOf i * 64000 / (mul * sel.length))
      else s.rd (PG_CH_OFS_Ofs n)
    let lim := shortest mul - 1
    let s := s.when (o > lim) (fun s => s.wrB (PG_CH_STAT_Clamp n) true)
    let o := min o lim
    let s := s.when (o != s.rd (PG_CH_OFS_OfsCur n)) (fun s => s.modPg n (fun c => { c with trans := true }))
    s.wr (PG_CH_OFS_OfsCur n) o)
  s.wrB (PG_GRP_STAT_OfsPend g) false

/-- What the pulse generators do at a frame boundary: discard counts restart (R115), disables and enables take hold for the
channel's next own period start (R122, R123), pending offset loads apply (R117), and latches of cycle-mode comparators
without a group clear (R92). -/
def State.pgBoundary (s : State) : State :=
  let s := forN 12 s (fun s g => s.when (s.on (PG_GRP_STAT_OfsPend g)) (fun s => s.loadOffsets g))
  let s := forN 48 s (fun s n =>
    let s := s.modPg n (fun c => { c with
      discards := 0,
      armed := c.armed || c.startPend || c.parPend, startPend := false, parPend := false,
      stopping := c.stopping || c.stopPend, stopPend := false })
    s.when ((s.pg n).stopping && !s.on (PG_CH_STAT_Run n)) (fun s => s.pgStop n))
  let s := forN 64 s (fun s cn =>
    if s.on (CMP_CFG_Latch cn) || s.rd (CMP_CFG_Group cn) < 12 then s
    else (s.latchClear cn true).latchClear cn false)
  s.updTrips

/-! ### The commands -/

/-- PULSE_EDGE (R110). -/
def execPulseEdge (n : Fin 48) (rise readH readL : Bool) (s : State) : Res := done s (s.edge n rise readH readL)

/-- PG_ENABLE_WRITE (R122, R123). -/
def execPgEnableWrite (n : Fin 48) (en : Bool) (s : State) : Res := done s (s.pgEnable n en)

/-- PG_IDLE_WRITE (R124): Idle takes effect at the channel's next period start; while a tile owns the duty it owns Idle. -/
def execPgIdleWrite (n : Fin 48) (idle : Bool) (s : State) : Res :=
  done s (if s.on (PG_CH_CFG_Src n) then s.wrB (PG_CH_CTL_Idle n) idle else s)

/-- IMM_DIS (R123). -/
def execImmDis (n : Fin 48) (s : State) : Res := done s (s.immDis n)

/-- IMM_DIS_ALL (R123). -/
def execImmDisAll (g : Fin 12) (s : State) : Res := done s (forN 4 s (fun s i => s.immDis (4 * g + i)))

/-- OFS_LOAD (R117). -/
def execOfsLoad (g : Fin 12) (s : State) : Res := done s (s.wrB (PG_GRP_STAT_OfsPend g) true)

/-- PG_DUTY_WRITE (R113): a host write of PG_CHn_DUTY or PG_CHn_EDGE has an effect only while Src = 1; the word that the
channel's alignment uses is loaded at tick `at` of the frame. -/
def State.dutyWrite (s : State) (n : Nat) (edge : Bool) (v tick : Nat) : State :=
  if !s.on (PG_CH_CFG_Src n) then s
  else
    let expl := s.rd (PG_CH_CFG_Align n) == 3
    let s := if edge then s.setWord (PG_CH_EDGE n) (BitVec.ofNat 32 v) else s.wr (PG_CH_DUTY_Duty n) v
    if edge == expl then
      s.loadDuty n (if edge then v else v % 65536) (s.inPeriod n tick)
    else s

def execPgDutyWrite (n : Fin 48) (edge : Bool) (value : BitVec 32) (tick : BitVec 16) (s : State) : Res :=
  done s (s.dutyWrite n edge value.toNat tick.toNat)

/-- PAR_OFF_CLEAR (R115): the bit clears, and an enabled channel restarts at its first period start after the next
boundary. -/
def State.parOffClear (s : State) (n : Nat) : State :=
  if s.on (PG_CH_STAT_ParOff n) then
    (s.wrB (PG_CH_STAT_ParOff n) false).when (s.on (PG_CH_CTL_En n)) (fun s => s.modPg n (fun c => { c with parPend := true }))
  else s

def execParOffClear (n : Fin 48) (s : State) : Res := done s (s.parOffClear n)

/-- TRIP_LATCH_CLEAR (R121): a bit whose line is still asserted stays set. -/
def State.tripLatchClear (s : State) (g mask : Nat) : State :=
  let f := PG_GRP_STAT_TripLatch g
  let still := (List.range 16).foldl (fun a t => if s.sense.trips.testBit t && s.tripAct g t == 3 then a ||| 2 ^ t else a) 0
  let s := s.wr f (maskOff (s.rd f) (maskOff mask still))
  forN 4 s (fun s i => s.wr (PG_CH_STAT_Trip (4 * g + i)) (s.chanAct (4 * g + i)))

def execTripLatchClear (g : Fin 12) (mask : BitVec 16) (s : State) : Res := done s (s.tripLatchClear g mask.toNat)

end Sys2Proof.Machine
end

