-- ==== Sys2Proof/Machine/Fuse.lean ====
section
/-!
DEFINITION. Electronic fuses (chapter 08): demand, window, insertion, inrush, thermal model, breaker curve, trips, retry and
latch-off, and their commands.
-/
namespace Sys2Proof.Machine

/-- The state of a channel (R240). -/
def State.efState (s : State) (e : Nat) : Nat := s.rd (EF_STAT_State e)

/-- The owner's demand (R241): the grant of the rail of a rail-bound channel, EFe_CTL.On otherwise. -/
def State.efOwner (s : State) (e : Nat) : Bool :=
  if s.on (EF_CFG_RailEn e) then s.on (SEQ_RAIL_STAT_Grant (s.rd (EF_CFG_Rail e))) else s.on (EF_CTL_On e)

/-- On-demand (R241): the owner demands on and neither capping nor hold-up requests off. -/
def State.efDemand (s : State) (e : Nat) : Bool :=
  s.efOwner e && !s.on (EF_STAT_ShedOff e) && !s.on (EF_STAT_HuOff e)

/-- Turn the gate off, hard or soft (R238). -/
def State.efGateOff (s : State) (e : Nat) (soft : Bool) : State :=
  ((s.modEf e (fun c => { c with gate := false, softOff := soft })).wrB (EF_STAT_GateGood e) false).wrB
    (EF_STAT_Limiting e) false

/-- Pg changes and the change is posted as an event (R245). -/
def State.efPg (s : State) (e : Nat) (b : Bool) : State :=
  if s.on (EF_STAT_Pg e) = b then s
  else (s.wrB (EF_STAT_Pg e) b).event 0x0200 e (b2n b) (s.efState e)

/-- Enter a state; the frame counts restart (R18). -/
def State.efEnter (s : State) (e st : Nat) (fresh : Bool) : State :=
  let s := s.wr (EF_STAT_State e) st
  let s := s.modEf e (fun c => { c with fresh := fresh, insCnt := 0, inrCnt := 0, uvCnt := 0, gateLow := 0,
                                        waitCnt := 0, onCnt := 0, run := 0 })
  s.when (st != 5) (fun s => s.efPg e false)

/-- Write 1 to the comparator latch bits the channel's source selects, then release the gate latch if none stays set; where
one stays set the channel enters Latched and raises EF_LATCH_STUCK (R256). True when released. -/
def State.efRelease (s : State) (e : Nat) : Bool × State :=
  let n := s.rd (CMP_EF_SRC_Cmp e)
  let sel := s.rd (CMP_EF_SRC_Sel e)
  let s := s.when (sel == 1 || sel == 3) (fun s => s.latchClear n true)
  let s := s.when (sel == 2 || sel == 3) (fun s => s.latchClear n false)
  let s := s.updTrips
  let stuck := ((sel == 1 || sel == 3) && s.latched n true) || ((sel == 2 || sel == 3) && s.latched n false)
  if stuck then (false, (s.efEnter e 7 true).raise 138 e)
  else (true, s.modEf e (fun c => { c with latch := false, fastPend := false }))

/-- Enter Off by way of the latch check where the gate latch is set (R252, R256). -/
def State.efToOff (s : State) (e : Nat) : State :=
  if (s.efc e).latch then
    let (ok, s) := s.efRelease e
    if ok then s.efEnter e 1 false else s
  else s.efEnter e 1 false

/-- On-demand has ended in Wait, Insert, Inrush or On: the gate turns off and the channel enters Off (R241). -/
def State.efDemandEnd (s : State) (e : Nat) (soft : Bool) : State :=
  let st := s.efState e
  if 2 ≤ st ∧ st ≤ 5 ∧ s.efDemand e = false then
    (s.when (st != 2) (fun s => s.efGateOff e soft)).efEnter e 1 false
  else s

/-- Capping or hold-up requests a channel off, or withdraws the request (R241, R25); an off of theirs is hard. -/
def State.efShed (s : State) (e : Nat) (b : Bool) : State := (s.wrB (EF_STAT_ShedOff e) b).efDemandEnd e false

def State.efHuOff (s : State) (e : Nat) (b : Bool) : State := (s.wrB (EF_STAT_HuOff e) b).efDemandEnd e false

/-- The owner's demand of a channel that is not rail-bound (R241). -/
def State.efSetOn (s : State) (e : Nat) (on soft : Bool) : State := (s.wrB (EF_CTL_On e) on).efDemandEnd e soft

/-- Retries of the channel's budget: Count in Count mode (R255). -/
def State.efBudget (s : State) (e : Nat) : State :=
  (s.wr (EF_STAT_RetryLeft e) (if s.rd (EF_RETRY_Mode e) = 1 then s.rd (EF_RETRY_Count e) else 0)).modEf e
    (fun c => { c with budgetSet := true })

/-- A trip (R254): gate off hard, cause, count, fault source, EF_TRIP record, then the retry policy of R255. -/
def State.efTrip (s : State) (e cause synHi : Nat) : State :=
  let railOn := s.on (EF_CFG_RailEn e) && s.on (SEQ_RAIL_STAT_Grant (s.rd (EF_CFG_Rail e)))
  let s := (s.efGateOff e false).wr (EF_STAT_Cause e) cause
  let s := s.inc (EF_TRIP_CNT_Cnt e)
  let s := s.raise (127 + cause) (e + 16 * synHi)
  let i := (s.cached (0x1000 + 16 * s.rd (EF_MEAS_IinCh e))).v.toNat
  let s := s.request 0x0301 e cause i (s.rd (EF_TJ_V e))
  let s := s.modEf e (fun c => { c with tripRep := c.tripRep || railOn })
  match s.rd (EF_RETRY_Mode e) with
  | 1 =>
    if s.rd (EF_STAT_RetryLeft e) = 0 then (s.efEnter e 7 true).raise 137 e else s.efEnter e 6 true
  | 2 => s.efEnter e 6 true
  | _ => s.efEnter e 7 true

/-- The governing junction temperature (R248), in binary32, from the model's value; `none` with TMode 0. The flag says the
diode governs. -/
def State.efGovern (s : State) (e : Nat) (model : Nat) : Option (Nat × Bool) :=
  let diode := fofQ (s.rdS (EF_TJ_MEAS_V e)) 16
  let flt := s.on (EF_STAT_TdFault e)
  match s.rd (EF_CFG_TMode e) with
  | 0 => none
  | 1 => some (model, false)
  | 2 => some (if flt then fofQ (s.rdS (EF_TMAX_V e)) 16 else diode, true)
  | _ => if flt then some (model, false) else if fless model diode then some (diode, true) else some (model, false)

/-- The time to trip of the breaker curve at a current (R249), in frames, binary32: log-log between neighbouring points, the
point's own T at a point, the last T beyond the last point in use. -/
def State.efCurve (s : State) (e : Nat) (i : Int) : Nat :=
  let ks := (List.range 8).takeWhile (fun k => s.rd (EF_BRK_T_T e k) != 0)
  let below := ks.filter (fun k => s.rdS (EF_BRK_I_I e k) ≤ i)
  let k := below.length - 1
  let tk := fofQ (s.rd (EF_BRK_T_T e k)) 0
  if s.rdS (EF_BRK_I_I e k) = i ∨ k + 1 ≥ ks.length then tk
  else
    let ln (x : Nat) : Nat := (Config.ln32 (BitVec.ofNat 32 x)).toNat
    let lt0 := ln tk
    let lt1 := ln (fofQ (s.rd (EF_BRK_T_T e (k + 1))) 0)
    let li := ln (fofQ i 16)
    let li0 := ln (fofQ (s.rdS (EF_BRK_I_I e k)) 16)
    let li1 := ln (fofQ (s.rdS (EF_BRK_I_I e (k + 1))) 16)
    (Config.exp32 (BitVec.ofNat 32
      (fadd lt0 (fdiv (fmul (fsub lt1 lt0) (fsub li li0)) (fsub li1 li0))))).toNat

/-- The breaker accumulator after one frame (R250), UQ1.31. -/
def State.efAccum (s : State) (e : Nat) : Nat :=
  let a := s.rd (EF_BRK_ACC_A e)
  let p := s.cached (0x1000 + 16 * s.rd (EF_MEAS_IinCh e))
  let inv (t : Nat) : Int := ftoQ 33 31 (fdiv (fofQ 1 0) t)
  if p.isBad then satU 32 (a + inv (fofQ (s.rd (EF_BRK_T_T e 0)) 0))
  else if p.int ≥ s.rdS (EF_BRK_I_I e 0) then satU 32 (a + inv (s.efCurve e p.int))
  else a - (divRnd a (2 ^ s.rd (EF_BRK_CFG_CoolExp e))).toNat

/-- The thermal model of one frame (R246): power, both poles, the model temperature. -/
def State.efThermal (s : State) (e : Nat) : Nat × State :=
  let c := s.efc e
  let vin := s.cached (0x1000 + 16 * s.rd (EF_MEAS_VinCh e))
  let vout := s.cached (0x1000 + 16 * s.rd (EF_MEAS_VoutCh e))
  let iin := s.cached (0x1000 + 16 * s.rd (EF_MEAS_IinCh e))
  let amb := s.cached (0x1000 + 16 * s.rd (EF_MEAS_TambCh e))
  let dv := fsub (fofQ vin.int 16) (fofQ vout.int 16)
  let p :=
    if vin.isBad || vout.isBad || iin.isBad then c.lastP
    else fmul (if fless dv 0 then 0 else dv) (fofQ iin.int 16)
  let r1 := fmul p (fofQ (s.rdS (EF_RTH1_V e)) 16)
  let r2 := fmul p (fofQ (s.rdS (EF_RTH2_V e)) 16)
  let d1 := if c.seedT then r1 else fadd c.dT1 (fmul (fofQ (s.rd (EF_ALPHA1_V e)) 32) (fsub r1 c.dT1))
  let d2 := if c.seedT then r2 else fadd c.dT2 (fmul (fofQ (s.rd (EF_ALPHA2_V e)) 32) (fsub r2 c.dT2))
  let t0 := if s.rd (EF_MEAS_TambCh e) = 255 || amb.isBad then fofQ (s.rdS (EF_TAMB_V e)) 16 else fofQ amb.int 16
  let tj := fadd (fadd t0 d1) d2
  (tj, (s.modEf e (fun c => { c with lastP := p, dT1 := d1, dT2 := d2,
                                          seedT := c.seedT && (vin.unsealed || vout.unsealed || iin.unsealed) })).wrS (EF_PFET_V e) (ftoQ 32 16 p))

/-- The window judgement of one frame (R242): the new WinOk, and whether the window failed by over-voltage. -/
def State.efWindow (s : State) (e : Nat) : Bool × Bool × State :=
  let p := s.cached (0x1000 + 16 * s.rd (EF_MEAS_VinCh e) + 3)
  if p.unsealed then (s.on (EF_STAT_WinOk e), false, s) else
  let v := p.int
  let ov := decide (v > s.rdS (EF_OV_OFF_V e))
  let uv := decide (v < s.rdS (EF_UV_OFF_V e))
  let s := s.modEf e (fun c => { c with uvCnt := if uv then c.uvCnt + 1 else 0 })
  let uvFail := uv && (s.efState e != 5 || decide ((s.efc e).uvCnt ≥ s.rd (EF_DELAY_UvDelay e)))
  let ok :=
    if ov || uvFail then false
    else if s.rdS (EF_UV_ON_V e) ≤ v ∧ v ≤ s.rdS (EF_OV_ON_V e) then true
    else s.on (EF_STAT_WinOk e)
  (ok, ov, s.wrB (EF_STAT_WinOk e) ok)

/-- Start from Off, Wait or Tripped with on-demand: Insert, or Wait when the window has failed (R241, R255). -/
def State.efStart (s : State) (e : Nat) (fresh : Bool) : State :=
  (s.when (!(s.efc e).budgetSet) (fun s => s.efBudget e)).efEnter e (if s.on (EF_STAT_WinOk e) then 3 else 2) fresh

/-- The insertion delay is complete: Inrush, the gate charges (R243, R244). -/
def State.efInrush (s : State) (e : Nat) : State :=
  (s.efEnter e 4 true).modEf e (fun c => { c with gate := !c.latch })

/-- The insertion delay has run: window ok for InsDelay whole frames (R243). -/
def State.efInsDone (s : State) (e : Nat) : Bool :=
  s.efState e == 3 && s.on (EF_STAT_WinOk e) && decide ((s.efc e).insCnt ≥ s.rd (EF_DELAY_InsDelay e))

/-- The inrush limit of whole frames has passed without On (R245). -/
def State.efInrushLate (s : State) (e : Nat) : Bool :=
  s.efState e == 4 && decide ((s.efc e).inrCnt ≥ s.rd (EF_INRUSH_MAX_Frames e)) && !(s.efc e).fresh

/-- The output has come up (R245): V_out average at least V_in average less Drop (UQ8.8). -/
def State.efOutOk (s : State) (e : Nat) : Bool :=
  let vin := (s.cached (0x1000 + 16 * s.rd (EF_MEAS_VinCh e))).int
  let vout := (s.cached (0x1000 + 16 * s.rd (EF_MEAS_VoutCh e))).int
  decide (vout ≥ vin - 256 * (s.rd (EF_PG_Drop e) : Int))

/-- A retry may run (R255): the interval has passed, A is at or below Rearm, and the governing temperature has fallen. -/
def State.efRetryDue (s : State) (e : Nat) : Bool :=
  s.efState e == 6 && decide ((s.efc e).waitCnt ≥ max 1 (s.rd (EF_RETRY_Interval e))) && !(s.efc e).restartReq &&
  decide (s.rd (EF_BRK_ACC_A e) * 256 ≤ s.rd (EF_BRK_CFG_Rearm e) * 2 ^ 31) &&
  (s.rd (EF_CFG_TMode e) == 0 || decide (s.rdS (EF_TJ_V e) ≤ s.rdS (EF_TMAX_V e) - s.rdS (EF_TREARM_V e)))

/-- Count one retry: RETRY_CNT, and the budget in Count mode (R255). -/
def State.efCountRetry (s : State) (e : Nat) : State :=
  let s := s.inc (EF_RETRY_CNT_Cnt e)
  s.when (s.rd (EF_RETRY_Mode e) == 1) (fun s => s.wr (EF_STAT_RetryLeft e) (s.rd (EF_STAT_RetryLeft e) - 1))

/-- What follows the retry interval (R255): a rail-bound channel asks the sequencer; any other is released and starts, or
enters Off without on-demand, or enters Latched where its comparator latch stays set. -/
def State.efRetry (s : State) (e : Nat) : State :=
  if s.on (EF_CFG_RailEn e) then s.modEf e (fun c => { c with restartReq := true })
  else
    let (ok, s) := s.efRelease e
    if !ok then s
    else if s.efDemand e then (s.efCountRetry e).efStart e true
    else s.efEnter e 1 true

/-- The sequencer grants the restart request of a rail-bound channel (R255, R277). -/
def State.efRegrant (s : State) (e : Nat) : State :=
  let s := s.modEf e (fun c => { c with restartReq := false })
  if s.efState e = 6 then
    let (ok, s) := s.efRelease e
    if ok then (s.efCountRetry e).efStart e true else s
  else s

/-- The sequencer withdraws the grant of a rail-bound channel (R241, R255): a tripped one is released and enters Off with its
budget kept; a running one turns off. -/
def State.efWithdraw (s : State) (e : Nat) : State :=
  let s := s.modEf e (fun c => { c with restartReq := false })
  if s.efState e = 6 then
    let (ok, s) := s.efRelease e
    if ok then s.efEnter e 1 true else s
  else s.efDemandEnd e (s.on (EF_CFG_SoftOff e))

/-- A Clear (R256): Tripped or Latched goes to Off with its budget restored, unless the comparator latch stays set. A
rail-bound channel's Clear is a restart request to the sequencer (R241). -/
def State.efClear (s : State) (e : Nat) : State :=
  let st := s.efState e
  if st = 6 ∨ st = 7 then
    let (ok, s) := s.efRelease e
    if ok then
      ((s.efEnter e 1 false).efBudget e).modEf e (fun c => { c with restartReq := s.on (EF_CFG_RailEn e) })
    else s
  else s

/-- A write of EFe_CTL.En (R240, R63): 1 takes a disabled channel to Off; 0 takes effect at the boundary. -/
def State.efEnable (s : State) (e : Nat) (en : Bool) : State :=
  let s := s.wrB (EF_CTL_En e) en
  if en then
    let s := s.modEf e (fun c => { c with disPend := false })
    if s.efState e = 0 then ((s.efBudget e).modEf e (fun c => { c with budgetSet := false })).efToOff e else s
  else s.modEf e (fun c => { c with disPend := true })

/-- The disable of a channel takes effect: gate off, Disabled (R63, R240). -/
def State.efDisable (s : State) (e : Nat) : State :=
  ((s.efGateOff e false).efEnter e 0 false).modEf e (fun c => { c with disPend := false, restartReq := false })

/-- The state rules of one slot 0 after window, model and accumulator (R241-R245, R255): the first trip cause in code order,
else demand, window and progress. -/
def State.efRules (s : State) (e : Nat) (winOk ov : Bool) (hot : Option Bool) : State :=
  let st := s.efState e
  let live := st == 4 || st == 5
  let outOk := s.efOutOk e
  let good := s.on (EF_STAT_GateGood e)
  let lim := s.on (EF_STAT_Limiting e)
  let s := s.modEf e (fun c => { c with gateLow := if st == 5 && !lim && !good then c.gateLow + 1 else 0 })
  if live && decide (s.rd (EF_BRK_ACC_A e) ≥ 2 ^ 31) then s.efTrip e 3 0
  else if live && hot.isSome then s.efTrip e 4 (b2n (hot.getD false))
  else if s.efInrushLate e && !(good && !lim && outOk && s.efDemand e && winOk) then s.efTrip e 5 0
  else if st == 5 && decide ((s.efc e).gateLow ≥ 2) then s.efTrip e 6 0
  else if 2 ≤ st ∧ st ≤ 5 ∧ s.efDemand e = false then s.efDemandEnd e (s.on (EF_CFG_SoftOff e))
  else if 3 ≤ st ∧ st ≤ 5 ∧ winOk = false then
    ((s.efGateOff e false).efEnter e 2 true).raise 134 (e + 16 * b2n ov)
  else
    match st with
    | 1 => if s.efDemand e && !(s.efc e).restartReq then s.efStart e false else s
    | 2 => if winOk then s.efStart e true else s
    | 3 => if s.efInsDone e then s.efInrush e else s
    | 4 =>
      if good && !lim && outOk then
        let s := ((s.efEnter e 5 true).inc (EF_ON_CNT_Cnt e)).efPg e true
        s.when (!s.on (EF_CFG_OnLim e)) (fun s => s.wrB (EF_STAT_Limiting e) false)
      else s
    | 5 =>
      let s := s.efPg e outOk
      if (s.efc e).onCnt = 100000 then s.efBudget e else s
    | 6 => if s.efRetryDue e then s.efRetry e else s
    | _ => s

/-- Slot 0 of one channel (R242-R250): a pending disable, then for an enabled channel the gate monitor, the window, the
thermal model, the breaker accumulator, the frame counts and the state rules. -/
def State.efSlot0 (s : State) (e : Nat) (gateGood : Bool) : State :=
  if (s.efc e).disPend then s.efDisable e
  else if !s.on (EF_CTL_En e) then s
  else
    let s := s.wrB (EF_STAT_GateGood e) (gateGood && (s.efc e).gate)
    -- whole frames count from the boundary after entry (R18)
    let s := s.modEf e (fun c =>
      if c.fresh then { c with fresh := false }
      else { c with insCnt := c.insCnt + 1, inrCnt := c.inrCnt + 1, waitCnt := c.waitCnt + 1, onCnt := c.onCnt + 1 })
    let (ok, ov, s) := s.efWindow e
    let (model, s) := s.efThermal e
    let gov := s.efGovern e model
    let s := match gov with
      | some (t, _) => s.wrS (EF_TJ_V e) (ftoQ 32 16 t)
      | none => s
    let tmax := fofQ (s.rdS (EF_TMAX_V e)) 16
    let hot := match gov with
      | some (t, d) => if fless t tmax then none else some d
      | none => none
    let a := s.efAccum e
    let s := s.wr (EF_BRK_ACC_A e) a
    let warn := decide (a * 256 ≥ s.rd (EF_BRK_CFG_Warn e) * 2 ^ 31)
    let first := warn && !(s.efc e).warned
    let s := s.modEf e (fun c => { c with warned := warn })
    let s := s.when first (fun s => (s.wrB (EF_STAT_BrkWarn e) true).raise 135 e)
    s.efRules e ok ov hot

/-- Slot 0 of every channel. -/
def State.efBoundary (s : State) (gateGood : Nat) : State := forN 16 s (fun s e => s.efSlot0 e (gateGood.testBit e))

/-- The EF block learns of a latched fast trip (R252): in Off to On it is a trip with cause FAST; in Disabled, Tripped and
Latched only the gate latch has set. -/
def State.efFast (s : State) (e : Nat) : State :=
  if !(s.efc e).fastPend then s
  else
    let s := s.modEf e (fun c => { c with fastPend := false })
    let st := s.efState e
    if 1 ≤ st ∧ st ≤ 5 then s.efTrip e 1 (s.rd (CMP_EF_SRC_Cmp e)) else s

/-- One current code of a channel's sample stream (R251): the run of codes above the level, broken by a parity failure. -/
def State.efCode (s : State) (e code : Nat) (ok : Bool) : State :=
  let st := s.efState e
  if st != 4 && st != 5 then s.modEf e (fun c => { c with run := 0 })
  else if ok && decide (code > s.rd (EF_INST_Code e)) then
    let s := s.modEf e (fun c => { c with run := c.run + 1 })
    if (s.efc e).run ≥ s.rd (EF_INST_N e) + 1 then s.efTrip e 2 0 else s
  else s.modEf e (fun c => { c with run := 0 })

/-- The handling of a held channel (R257): with on-demand it is adopted into On without an insertion, its window ok until slot 0 judges
otherwise; without, it turns off. -/
def State.efAdopt (s : State) (e : Nat) : State :=
  if s.efDemand e && s.on (EF_CTL_En e) then
    let s := s.when (!(s.efc e).budgetSet) (fun s => s.efBudget e)
    let s := (((s.efEnter e 5 true).wrB (EF_STAT_Adopted e) true).wrB (EF_STAT_WinOk e) true).wr (EF_BRK_ACC_A e) 0
    (s.efPg e true).modEf e (fun c => { c with gate := true, seedT := true })
  else s.efGateOff e false

/-- The held channels at the first apply after the logic die restarts (R257); the rail-bound ones wait for the sequencer's step of R285
where it adopts. -/
def State.efFirstApply (s : State) : State :=
  forEach (bitsOf 16 (s.rd EF_HELD_Held)) s (fun s e =>
    if s.on (EF_CFG_RailEn e) && s.on SEQ_TIMING_AdoptHeld then s else s.efAdopt e)

/-! ### EFUSE_CMD (R259) -/

/-- The state word of the 16 channels after the command: state of channel e in bits [4e+3:4e] (R259). -/
def State.efStates (s : State) : Nat := (List.range 16).foldl (fun a e => a + s.efState e * 16 ^ e) 0

/-- The first refusal of the table of R259 that applies, before the action. -/
def State.efuseCheck (s : State) (p : List Byte) : Option Status :=
  let mask := numAt p 0 2
  let act := numAt p 2 1
  let flags := numAt p 3 1
  let es := bitsOf 16 mask
  if mask = 0 ∨ act > 3 ∨ flags > 1 ∨ (flags = 1 ∧ act ≠ 0) ∨ zeroAt p 4 36 = false then some .refusedState
  else if es.any (fun e => !s.on (EF_CTL_En e)) then some .disabled
  else if act ≤ 1 ∧ es.any (fun e => s.on (EF_CFG_RailEn e)) then some .refusedState
  else if act = 1 ∧ es.any (fun e => s.efState e == 6 || s.efState e == 7 || s.on (EF_STAT_ShedOff e) ||
      s.on (EF_STAT_HuOff e)) then some .refusedState
  else none

/-- Whether a Clear of a channel would find its comparator latch stay set (R256). -/
def State.efWouldStick (s : State) (e : Nat) : Bool :=
  let n := s.rd (CMP_EF_SRC_Cmp e)
  let sel := s.rd (CMP_EF_SRC_Sel e)
  let stays (h : Bool) : Bool := s.latched n h && s.rawEvent n h && !s.blanked n
  (s.efState e == 6 || s.efState e == 7) &&
    (((sel == 1 || sel == 3) && stays true) || ((sel == 2 || sel == 3) && stays false))

/-- Execute an EFUSE_CMD of one action (R259): the checks, the action on every named channel, the completion. -/
def State.efuseCmd (s : State) (tag act : Nat) : State :=
  match s.ready tag 0x14 with
  | none => s
  | some c =>
    let p := c.payload
    if min (numAt p 2 1) 3 != act then s
    else
      let s := s.modCmd tag (fun c => { c.ran [.start] with commit := true })
      match s.efuseCheck p with
      | some st => s.complete tag st s.efStates
      | none =>
        let es := bitsOf 16 (numAt p 0 2)
        let soft := numAt p 3 1 = 1
        match act with
        | 0 => let s := forEach es s (fun s e => s.efSetOn e false (soft || s.on (EF_CFG_SoftOff e)))
               s.complete tag .ok s.efStates
        | 1 => let s := forEach es s (fun s e => s.efSetOn e true false)
               s.complete tag .ok s.efStates
        | 2 =>
          let bad := es.filter (fun e => s.efWouldStick e)
          if bad.isEmpty then
            let s := forEach es s (fun s e => s.efClear e)
            s.complete tag .ok s.efStates
          else
            let s := forEach bad s (fun s e => s.efClear e)
            s.complete tag .faulted s.efStates
        | _ => s.complete tag .ok s.efStates

/-- EFUSE_OFF: action Off (R259). -/
def execEfuseOff (tag : Fin 256) (s : State) : Res := done s (s.efuseCmd tag 0)
/-- EFUSE_ON: action On (R259). -/
def execEfuseOn (tag : Fin 256) (s : State) : Res := done s (s.efuseCmd tag 1)
/-- EFUSE_CLEAR: action Clear (R256, R259). -/
def execEfuseClear (tag : Fin 256) (s : State) : Res := done s (s.efuseCmd tag 2)
/-- EFUSE_READ: action Read (R259). -/
def execEfuseRead (tag : Fin 256) (s : State) : Res := done s (s.efuseCmd tag 3)

/-! ### Events and writes -/

/-- EF_FAST_TRIP (R252). -/
def execEfFastTrip (e : Fin 16) (s : State) : Res := done s (s.efFast e)
/-- EF_INSERT_COMPLETE (R243). -/
def execEfInsertComplete (e : Fin 16) (s : State) : Res := done s (if s.efInsDone e then s.efInrush e else s)
/-- EF_INRUSH_TIMEOUT (R245). -/
def execEfInrushTimeout (e : Fin 16) (s : State) : Res := done s (if s.efInrushLate e then s.efTrip e 5 0 else s)
/-- EF_RETRY_EXPIRY (R255). -/
def execEfRetryExpiry (e : Fin 16) (s : State) : Res := done s (if s.efRetryDue e then s.efRetry e else s)
/-- EF_RETRY_BUDGET_RESTORE (R255): 100,000 consecutive frames in On. -/
def execEfRetryBudgetRestore (e : Fin 16) (s : State) : Res :=
  done s (if s.efState e = 5 ∧ (s.efc e).onCnt ≥ 100000 then s.efBudget e else s)
/-- EF_TD_MEASURE (R247): the sealed result; outside −55 to +200 °C the diode is open or shorted. -/
def execEfTdMeasure (e : Fin 16) (tj : BitVec 32) (s : State) : Res :=
  done s (if s.rd (EF_CFG_TMode e) < 2 then s
    else
      let s := s.wr (EF_TJ_MEAS_V e) tj.toNat
      if tj.toInt < -55 * 65536 ∨ tj.toInt > 200 * 65536 then (s.wrB (EF_STAT_TdFault e) true).raise 136 e else s)
/-- EF_LIMITER_CHANGE (R244): the limiter regulates in Inrush with LimEn, and in On with OnLim. -/
def execEfLimiterChange (e : Fin 16) (limiting : Bool) (s : State) : Res :=
  done s (s.wrB (EF_STAT_Limiting e) (limiting &&
    ((s.efState e == 4 && s.on (EF_INRUSH_LimEn e)) || (s.efState e == 5 && s.on (EF_CFG_OnLim e)))))
/-- EF_EN_WRITE (R240, R63). -/
def execEfEnWrite (e : Fin 16) (en : Bool) (s : State) : Res := done s (s.efEnable e en)
/-- EF_ON_WRITE (R241): the owner demand of a channel that is not rail-bound; the bit is stored for any channel. -/
def execEfOnWrite (e : Fin 16) (on : Bool) (s : State) : Res := done s (s.efSetOn e on (s.on (EF_CFG_SoftOff e)))
/-- EF_CLR_WRITE (R256). -/
def execEfClrWrite (e : Fin 16) (s : State) : Res := done s (s.efClear e)

end Sys2Proof.Machine
end

