-- ==== Sys2Proof/Machine/Sense.lean ====
section
/-!
DEFINITION. Analogue sensing (chapter 03): telemetry channels, main-converter results, comparator events and their
self-test; waveform capture of the code stream (R339).
-/
namespace Sys2Proof.Machine

/-! ### Telemetry channels (R83-R88) -/

/-- The channel reads a die temperature, whose gain and offset are fixed (R84). -/
def State.tmDieTemp (s : State) (k : Nat) : Bool :=
  let src := s.rd (AFE_MC_JOB_Src (s.rd (AFE_TM_CFG_Src k) % 32))
  s.rd (AFE_TM_CFG_Kind k) == 3 && s.rd (AFE_TM_CFG_SrcType k) == 1 && decide (0xE0 ≤ src ∧ src ≤ 0xE2)

/-- The value of a code with `frac` fraction bits (R84): Gain × c + Offset, rounded once to Q16.16, before saturation. -/
def State.tmValue (s : State) (k : Nat) (c : Int) (frac : Nat) : Int :=
  if s.tmDieTemp k then divRnd (c * 5120 - 179011584 * ((2 ^ frac : Nat) : Int)) (10 * 2 ^ frac)
  else divRnd (s.rdS (AFE_TM_GAIN_Gain k) * c + s.rdS (AFE_TM_OFS_Ofs k) * ((2 ^ (8 + frac) : Nat) : Int)) (2 ^ (8 + frac))

/-- Take a valid sample value into the frame of a channel: `add` enters the sum, `v` is the value (R85). -/
def State.tmTake (s : State) (k : Nat) (add v : Int) (sat : Bool) : State :=
  let s := s.when sat (fun s => s.wrB (AFE_TM_STAT_Sat k) true)
  s.modTm k (fun c =>
    { c with latest := v,
             cur := { c.cur with sum := c.cur.sum + add, n := c.cur.n + 1,
                                 mn := if c.cur.n = 0 then v else min c.cur.mn v,
                                 mx := if c.cur.n = 0 then v else max c.cur.mx v,
                                 sat := c.cur.sat || sat } })

/-- A sample that does not count (R88): the flag is the caller's; the window carries Partial (R331). -/
def State.tmDrop (s : State) (k : Nat) : State := s.modTm k (fun c => { c with cur := { c.cur with prt := true } })

/-- One half of a power pair (R87): with its partner it forms one product sample; a half that did not count excludes the
pair. -/
def State.tmHalf (s : State) (k : Nat) (volt : Bool) (v : Int) (ok : Bool) : State :=
  match (s.tm k).half with
  | some (volt2, v2, ok2) =>
    if volt = volt2 then s.modTm k (fun c => { c with half := some (volt, v, ok) })
    else
      let s := s.modTm k (fun c => { c with half := none })
      if ok && ok2 then
        let p := divRnd (v * v2) 65536
        s.tmTake k (satS 32 p) (satS 32 p) (satS 32 p != p)
      else s.tmDrop k
  | none => s.modTm k (fun c => { c with half := some (volt, v, ok) })

/-- Hand a sample of channel k, counted or not, to the power channels that name it (R87). -/
def State.tmPairs (s : State) (k : Nat) (v : Int) (ok par miss : Bool) : State :=
  forN 256 s (fun s p =>
    if s.on (AFE_TM_CFG_En p) && s.rd (AFE_TM_CFG_SrcType p) == 2 then
      let src := s.rd (AFE_TM_CFG_Src p)
      let flag (s : State) : State :=
        (s.when par (fun s => s.wrB (AFE_TM_STAT_Par p) true)).when miss (fun s => s.wrB (AFE_TM_STAT_Miss p) true)
      let s := if src % 256 = k then (flag s).tmHalf p true v ok else s
      if src / 256 % 256 = k then (flag s).tmHalf p false v ok else s
    else s)

/-- A checked sample code for channel k (R84, R88): the least and greatest code mark saturation. -/
def State.tmSample (s : State) (k code top : Nat) : State :=
  let v := s.tmValue k code 0
  let vs := satS 32 v
  let s := s.tmTake k code vs (vs != v || code == 0 || code == top)
  s.tmPairs k vs true false false

/-- The quality of what a window seals (R331). -/
def windowQ (sat prt : Bool) : Nat := (if sat then 5 else 0) + (if prt then 8 else 0)

/-- Seal a channel at a boundary (R85, R86, R88): its five points with the quality of the window; `stamp` is the frame that
ended. -/
def State.tmSeal (s : State) (k stamp : Nat) : State :=
  let c := s.tm k
  let id := 0x1000 + 16 * k
  let w := 2 ^ s.rd (AFE_TM_CFG_Win k)
  let win := (c.cur :: c.win).take w
  let n := win.foldl (fun a f => a + f.n) 0
  let sum := win.foldl (fun a f => a + f.sum) 0
  let sat := win.any (fun f => f.sat)
  let prt := win.any (fun f => f.prt)
  let full := win.filter (fun f => f.n != 0)
  let mn := full.foldl (fun a f => min a f.mn) ((full.head?.map (fun f => f.mn)).getD 0)
  let mx := full.foldl (fun a f => max a f.mx) ((full.head?.map (fun f => f.mx)).getD 0)
  let pk := if c.cur.n = 0 then c.pk
    else match c.pk with
      | some (a, b) => some (min a c.cur.mn, max b c.cur.mx)
      | none => some (c.cur.mn, c.cur.mx)
  let s := s.modTm k (fun c => { c with win := win, cur := {}, pk := if c.pkClr then none else pk, pkClr := false })
  let put (s : State) (f : Nat) (v : Int) (q : Nat) : State :=
    s.setCache (id + f) { v := BitVec.ofInt 32 v, q := q, stamp := stamp }
  let keep (s : State) (f : Nat) : State :=
    s.setCache (id + f) { (s.cached (id + f)) with q := 0x13, stamp := stamp }
  if n = 0 then
    let s := (((keep s 0 |> (keep · 1)) |> (keep · 2)) |> (keep · 3))
    let s := put s 4 0 0x13
    (s.wrB (AFE_TM_STAT_Empty k) true).raise 71 k
  else
    let avg :=
      if s.rd (AFE_TM_CFG_SrcType k) = 2 then divRnd sum n
      else s.tmValue k (sum * 256 / (n : Int)) 8
    let avs := satS 32 avg
    let q := windowQ (sat || avs != avg) prt
    let s := s.when (avs != avg) (fun s => s.wrB (AFE_TM_STAT_Sat k) true)
    let s := (put s 0 avs q).wrS (AFE_TM_AVG_Avg k) avs
    let (lo, hi) := if s.on (AFE_TM_CFG_Peak k) then pk.getD (mn, mx) else (mn, mx)
    let s := put (put s 1 lo q) 2 hi q
    let s :=
      if c.cur.n = 0 then
        s.setCache (id + 3) { (s.cached (id + 3)) with q := (q / 4 * 4) ||| 0x11, stamp := stamp }
      else put s 3 c.latest q
    put s 4 (n : Int) q

/-- Seal every enabled channel (R45 step 1). -/
def State.sealTelemetry (s : State) (stamp : Nat) : State :=
  forN 256 s (fun s k => s.when (s.on (AFE_TM_CFG_En k)) (fun s => s.tmSeal k stamp))

/-! ### Fast-converter codes (R76, R77, R339) -/

/-- Even parity of a 12-bit code per byte (R76): bit 0 for [7:0], bit 1 for [11:8]. -/
def parity12 (code : Nat) : Nat := parity8 (code % 256) + 2 * parity8 (code / 256)

/-- The input of the sequence entry, or of a tile's sample, that a converter cycle serves (R78, R137). -/
def State.cycleMux (s : State) (k use : Nat) : Nat :=
  if use < 8 then s.rd (AFE_FC_SEQ_Mux k use)
  else
    let t := if use ≥ 100 then use - 100 else use - 8
    if use ≥ 100 then s.rd (LT_SAMPLE_SRC_IlMux t) else s.rd (LT_SAMPLE_SRC_Mux t)

/-- The telemetry channels fed by a sequence entry (R83). -/
def State.tmOfSeq (s : State) (k entry : Nat) : List Nat :=
  (List.range 256).filter (fun t => s.on (AFE_TM_CFG_En t) && s.rd (AFE_TM_CFG_SrcType t) == 0 &&
    s.rd (AFE_TM_CFG_Src t) % 32 == k && s.rd (AFE_TM_CFG_Src t) / 32 % 8 == entry)

/-- Append a converter word to the capture units that tap the converter (R339). -/
def State.capWord (s : State) (k cycle code mux : Nat) (loop ok : Bool) : State :=
  forN 4 s (fun s j =>
    if s.on (CAPU_CFG_En j) && s.rd (CAPU_CFG_Conv j) == k then
      let w := if ok then code + 4096 * mux + (if loop then 16384 else 0)
               else 4096 * mux + (if loop then 16384 else 0) + 32768
      let s := { s with pnt := { s.pnt with caps := upd s.pnt.caps j (fun u => { u with cur := u.cur ++ [(cycle, w)] }) } }
      s.when (!ok) (fun s => s.raise 64 (k + 32 * mux + 128 * 0xFF))
    else s)

/-- The parity bits of a code as they leave the converter, after an armed injection at target 0x3 for this converter (R427):
its next code's bit 0 is inverted. -/
def State.fcInject (s : State) (k par : Nat) : Nat × State :=
  let (inv, s) := s.takeArmed 3 k
  (if inv = 0 then par else par ^^^ 1, s)

/-- A fast-converter code reaches its consumers (R77): the telemetry channels of its sequence entry, the instantaneous trips
of the e-fuse channels whose current it is (R251), and the capture units. A parity failure is found at each consumer (R88,
R104). -/
def State.fcCode (s : State) (k cycle code par : Nat) : State :=
  let (p1, s) := s.fcInject k par
  let plan := s.sense.fcPlan.find? (fun e => e.1 == k && e.2.1 == cycle)
  -- the same code's way to its tile (R427)
  let s := if p1 != par && (plan.map (fun e => decide (8 ≤ e.2.2))).getD false then
      { s with sense := { s.sense with badCode := some k } } else s
  let par := p1
  let ok := par == parity12 code
  match plan with
  | none => s.capWord k cycle code 0 false ok
  | some (_, _, use) =>
    let mux := s.cycleMux k use
    let s := s.capWord k cycle code mux (decide (use ≥ 8)) ok
    if use ≥ 8 then s
    else
      let chans := s.tmOfSeq k use
      let s := forEach chans s (fun s t =>
        if ok then s.tmSample t code 0xFFF
        else
          let s := ((s.wrB (AFE_TM_STAT_Par t) true).tmDrop t).raise 64 (k + 32 * mux + 128 * (0x100 + t))
          s.tmPairs t 0 false true false)
      forN 16 s (fun s e =>
        if s.on (EF_CTL_En e) && chans.contains (s.rd (EF_MEAS_IinCh e)) then
          let live := s.efState e == 4 || s.efState e == 5
          let s := s.when (!ok && live) (fun s => s.raise 64 (k + 32 * mux + 128 * (0x20 + e)))
          s.efCode e code ok
        else s)

/-- FC_CODE_READY (R77). -/
def execFcCodeReady (k : Fin 24) (cycle : Fin 200) (code : BitVec 12) (par : BitVec 2) (s : State) : Res :=
  done s (if s.on (AFE_FC_CFG_En k) then s.fcCode k cycle code.toNat par.toNat else s)

/-! ### The main converter (R79-R82, R99, R515) -/

/-- The telemetry channels fed by a main-converter job (R83). -/
def State.tmOfJob (s : State) (j : Nat) : List Nat :=
  (List.range 256).filter (fun t => s.on (AFE_TM_CFG_En t) && s.rd (AFE_TM_CFG_SrcType t) == 1 &&
    s.rd (AFE_TM_CFG_Src t) % 32 == j)

/-- A conversion that returns no result: the channels of its job count no sample (R82, R88). -/
def State.mcMiss (s : State) (use : McUse) : State :=
  match use with
  | .job j => forEach (s.tmOfJob j) s (fun s t => (s.wrB (AFE_TM_STAT_Miss t) true).tmDrop t)
  | _ => s

/-- MaxAge in frames (R103); none without a limit. -/
def State.maxAge (s : State) : Option Nat :=
  match s.rd AFE_ST_CFG_MaxAge with
  | 0 => some 10000
  | 1 => some 100000
  | 2 => some 1000000
  | _ => none

/-- A comparator has passed a test: it is covered again (R103). -/
def State.cmpPass (s : State) (n : Nat) : State :=
  let s := s.modCmp n (fun c => { c with lastPass := s.frame, raised := false })
  let f := if n < 32 then AFE_ST_COV0_Cov else AFE_ST_COV1_Cov
  s.wr f (setBit (s.rd f) (n % 32) true)

/-- A threshold readback (R99): the expected code is 64 × t; a threshold written since voids the reading; both DACs passed
within MaxAge cover the comparator (R103). -/
def State.mcReadback (s : State) (src code : Nat) : State :=
  let n := (src - 0x60) / 2
  let high := src % 2 == 1
  if !(s.on AFE_ST_CFG_RbEn && s.on (CMP_CFG_StEn n)) then s
  else
    let c := s.cmp n
    if (if high then c.voidHi else c.voidLo) then
      s.modCmp n (fun c => if high then { c with voidHi := false } else { c with voidLo := false })
    else
      let t := s.rd (if high then CMP_THR_Hi n else CMP_THR_Lo n)
      let diff := if code ≥ 64 * t then code - 64 * t else 64 * t - code
      if diff > 64 * s.rd AFE_ST_CFG_DacTol then s.raise 68 (n + 64 * b2n high)
      else
        let s := s.modCmp n (fun c => if high then { c with rbHi := some s.frame } else { c with rbLo := some s.frame })
        let c := s.cmp n
        let young (o : Option Nat) : Bool :=
          match o, s.maxAge with
          | some f, some m => decide (s.frame - f ≤ m)
          | some _, none => true
          | none, _ => false
        if young c.rbLo && young c.rbHi then s.cmpPass n else s

/-- A die temperature against TempAlarm (R515, R503): the code is Kelvin in UQ9.7. -/
def State.mcTemp (s : State) (src code : Nat) : State :=
  let high := decide (((code : Int) * 100 - 27315 * 128) > s.rdS AFE_CTL_TempAlarm * 12800)
  let f := if src = 0xE0 then AFE_STAT_TempHighLogic else if src = 0xE1 then AFE_STAT_TempHighHv else AFE_STAT_TempHighFlash
  let s := s.wrB f high
  s.when high (fun s => s.raise 72 (src - 0xE0))

/-- Even parity of a 16-bit code per byte (R79). -/
def parity16 (code : Nat) : Nat := parity8 (code % 256) + 2 * parity8 (code / 256)

/-- A main-converter conversion ends (R79, R81, R82): it times out, fails its parity, or gives its result to its job. -/
def State.mcDone (s : State) (idx : Nat) (use : McUse) (src code par : Nat) (timedOut : Bool) : State :=
  if !s.mcAvail then s.mcMiss use
  else if timedOut then (s.raise 66 idx).mcMiss use
  else
    let (inv, s) := s.takeArmed 4 0
    let par := if inv = 0 then par else par ^^^ 1
    if par != parity16 code then
      let s := s.raise 65 src
      match use with
      | .job j => forEach (s.tmOfJob j) s (fun s t => (s.wrB (AFE_TM_STAT_Par t) true).tmDrop t)
      | _ => s
    else
      match use with
      | .job j =>
        let s := (s.wr (AFE_MC_RES_Res j) code).wrB (AFE_MC_RES_Valid j) true
        forEach (s.tmOfJob j) s (fun s t => s.tmSample t code 0xFFFF)
      | .reference =>
        if src = 0xEA then
          (if code > 0x8000 + 164 ∨ code < 0x8000 - 164 then s.raise 67 0 else s)
        else if src = 0xEB then (if code > 164 then s.raise 67 1 else s)
        else s
      | .readback => if 0x60 ≤ src ∧ src < 0xE0 then s.mcReadback src code else s
      | .tempScan => if 0xE0 ≤ src ∧ src ≤ 0xE2 then s.mcTemp src code else s
      | .core => s

/-- MC_CONVERSION_DONE (R79). -/
def execMcConversionDone (idx : Fin 10) (use : McUse) (src : BitVec 8) (code : BitVec 16) (par : BitVec 2)
    (timedOut : Bool) (s : State) : Res :=
  let srcN := match use with
    | .job j => s.rd (AFE_MC_JOB_Src j)
    | _ => src.toNat
  done s (s.mcDone idx use srcN code.toNat par.toNat timedOut)

/-! ### Comparators -/

/-- COMPARATOR_EVENT (R89). -/
def execComparatorEvent (n : Fin 64) (high asserted : Bool) (s : State) : Res := done s (s.cmpEvent n high asserted)

/-- BLANKING_END (R91): an event still asserted when the interval ends sets its latch at that instant. -/
def State.blankEnd (s : State) (n : Nat) : State :=
  if !s.blanked n then s
  else
    let s := s.modCmp n (fun c => { c with blank := false })
    let s := s.when (s.rawEvent n true) (fun s => s.latchSet n true)
    s.when (s.rawEvent n false) (fun s => s.latchSet n false)

def execBlankingEnd (n : Fin 64) (s : State) : Res := done s (s.blankEnd n)

/-- The swap/tie test is enabled (R102): SwEn, or Fallback while the main converter is unavailable. -/
def State.swapOn (s : State) : Bool := s.on AFE_ST_CFG_SwEn || (s.on AFE_ST_CFG_Fallback && !s.mcAvail)

/-- A comparator is eligible for a test in its blanking interval (R100-R103): in self-test, blanked for at least 120 ns, not
tested within SwPeriod frames. -/
def State.testable (s : State) (n : Nat) : Bool :=
  s.swapOn && s.on (CMP_CFG_StEn n) && s.blanked n && s.on (CMP_BLANK_BlankEn n) && decide (s.rd (CMP_BLANK_Len n) ≥ 96) &&
  (match (s.cmp n).lastTest with
   | some f => decide (s.frame ≥ f + max 1 (s.rd AFE_ST_CFG_SwPeriod))
   | none => true)

/-- SWAP_TEST (R100): it runs while both raw events are released; both must assert, else a tie test follows. -/
def State.swapTest (s : State) (n : Nat) (highRaw lowRaw : Bool) : State :=
  if !s.testable n || s.rawEvent n true || s.rawEvent n false || (s.cmp n).tieNext then s
  else
    let s := s.modCmp n (fun c => { c with lastTest := some s.frame, tieNext := !(highRaw && lowRaw) })
    s.when (highRaw && lowRaw) (fun s => s.cmpPass n)

def execSwapTest (n : Fin 64) (highRaw lowRaw : Bool) (s : State) : Res := done s (s.swapTest n highRaw lowRaw)

/-- TIE_TEST (R101, R102): each half whose DAC code is in range must assert; a failure raises CMP_SELFTEST. -/
def State.tieTest (s : State) (n : Nat) (lowOk highOk : Bool) : State :=
  if !((s.cmp n).tieNext || s.testable n) || !s.blanked n then s
  else
    let badLo := decide (s.rd (CMP_THR_Lo n) ≥ 8) && !lowOk
    let badHi := decide (s.rd (CMP_THR_Hi n) ≤ 1015) && !highOk
    let s := s.modCmp n (fun c => { c with lastTest := some s.frame, tieNext := false })
    if badLo || badHi then s.raise 69 (n + 64 * b2n badLo + 128 * b2n badHi) else s.cmpPass n

def execTieTest (n : Fin 64) (lowOk highOk : Bool) (s : State) : Res := done s (s.tieTest n lowOk highOk)

/-- CMP_UNTESTED (R103): uncovered for MaxAge frames, raised once, coverage bit cleared. -/
def State.cmpUntested (s : State) (n : Nat) : State :=
  match s.maxAge with
  | none => s
  | some m =>
    if s.on (CMP_CFG_StEn n) && !(s.cmp n).raised && decide (s.frame ≥ (s.cmp n).lastPass + m) then
      let s := s.modCmp n (fun c => { c with raised := true })
      let f := if n < 32 then AFE_ST_COV0_Cov else AFE_ST_COV1_Cov
      (s.wr f (setBit (s.rd f) (n % 32) false)).raise 70 n
    else s

def execCmpUntested (n : Fin 64) (s : State) : Res := done s (s.cmpUntested n)

/-- CMP_THR_WRITE (R90): the codes take effect at once, the comparator stays armed; a readback taken across the write is void
(R99). -/
def State.thrWrite (s : State) (n hi lo : Nat) : State :=
  let s := s.modCmp n (fun c => { c with voidHi := c.voidHi || hi != s.rd (CMP_THR_Hi n),
                                         voidLo := c.voidLo || lo != s.rd (CMP_THR_Lo n) })
  (s.wr (CMP_THR_Hi n) hi).wr (CMP_THR_Lo n) lo

def execCmpThrWrite (n : Fin 64) (hi lo : BitVec 10) (s : State) : Res := done s (s.thrWrite n hi.toNat lo.toNat)

/-- CMP_LATCH_CLEAR (R94): the written bits of a latch word clear, except those whose event is asserted and unblanked. -/
def State.latchWordClear (s : State) (i mask : Nat) : State :=
  let s := forEach (bitsOf 32 mask) s (fun s b => s.latchClear (32 * (i % 2) + b) (i < 2))
  s.updTrips

def execCmpLatchClear (i : Fin 4) (mask : BitVec 32) (s : State) : Res := done s (s.latchWordClear i mask.toNat)

/-- PEAK_CLR (R86): minimum and maximum restart from the next boundary. -/
def execPeakClr (k : Fin 256) (s : State) : Res := done s (s.modTm k (fun c => { c with pkClr := true }))

end Sys2Proof.Machine
end

