-- ==== Sys2Proof/Machine/Tile.lean ====
section
/-!
DEFINITION. Loop tiles (chapter 05): the compensator, output limits, phase balancing, current limiting, reference and slew,
modes, start, retry, and their commands.
-/
namespace Sys2Proof.Machine

/-! ### Numbers and reads -/

/-- The mode of a tile (R154). -/
def State.ltMode (s : State) (n : Nat) : Nat := s.rd (LT_STAT_Mode n)

/-- The channels a tile drives, in ascending order (R139). -/
def State.ltChans (s : State) (n : Nat) : List Nat :=
  (bitsOf 4 (s.rd (LT_CFG_ChMask n))).map (fun i => 4 * s.rd (LT_CFG_Group n) + i)

/-- G · x in ticks with 15 fraction bits, for x in Q20.12 (R132, R134): numerator and power of two of the divisor. -/
def State.ltG (s : State) (n : Nat) (x : Int) : Int × Nat :=
  (s.rdS (LT_COEF_B0_B0 n) * x, (19 - s.rdS (LT_COEF_B0_Exp n)).toNat)

/-- A Q2.22 coefficient times a Q20.12 value, summed exactly with another such product, rounded once to Q20.12 (R134). -/
def mac (a x b y : Int) : Int := divRnd (a * x + b * y) (2 ^ 22)

/-- Saturate a section value to Q20.12; the flag says it saturated (R134). -/
def secSat (x : Int) : Int × Bool := (satS 32 x, satS 32 x != x)

/-- The code reference in volts (R148). -/
def State.ltVolts (s : State) (n : Nat) (r : Int) : Int :=
  satS 32 (divRnd ((r - s.rdS (LT_REF_OFS_Ofs n)) * 2 ^ 20) (s.rd (LT_REF_SCALE_Scale n)))

/-- Clamp a target in V to its limits; a clamp sets RefClamp (R148). -/
def State.ltClampTgt (s : State) (n : Nat) (v : Int) : Int × State :=
  let c := clampI (s.rdS (LT_REF_MIN_V n)) (s.rdS (LT_REF_MAX_V n)) v
  (c, s.when (c != v) (fun s => s.wrB (LT_STAT_RefClamp n) true))

/-- Updates per frame: Mul, times N where Multi = 1 (R139). -/
def State.ltRate (s : State) (n : Nat) : Nat :=
  s.rd (PG_GRP_CFG_Mul (s.rd (LT_CFG_Group n))) *
    (if s.on (LT_CFG_Multi n) then (s.ltChans n).length else 1)

/-- A rate in V/ms as a step per update in Q20.12 (R149): rounded, a nonzero rate never to 0. -/
def State.ltStep (s : State) (n rate : Nat) : Nat :=
  let st := (divRnd ((rate : Int) * s.rd (LT_REF_SCALE_Scale n)) (2 ^ 20 * 100 * s.ltRate n)).toNat
  if rate ≠ 0 ∧ st = 0 then 1 else st

/-- maxeff (R143, R146). -/
def State.ltMaxeff (s : State) (n : Nat) : Nat :=
  max (s.rd (LT_LIMIT_Min n)) (s.rd (LT_LIMIT_Max n) - (s.ltc n).cut)

/-- The duty clamp of R143. -/
def State.ltClampDuty (s : State) (n : Nat) (d : Int) : Nat :=
  (min (max d (s.rd (LT_LIMIT_Min n) : Int)) (s.ltMaxeff n : Int)).toNat % 65536

/-- Section states x1, w1, x2, w2, x3 (x2b), w3 (w2b), Pre, u (LTn_STATEi). -/
def State.ltX (s : State) (n i : Nat) : Int := s.rdS (LT_STATE_V n i)
def State.ltSetX (s : State) (n i : Nat) (v : Int) : State := s.wrS (LT_STATE_V n i) v

/-- Set a section value, saturated, with StateSat. -/
def State.ltSetSec (s : State) (n i : Nat) (v : Int) : State :=
  let (w, sat) := secSat v
  (s.ltSetX n i w).when sat (fun s => s.wrB (LT_STAT_StateSat n) true)

/-! ### Commands of the tile that are decided -/

/-- Complete every waiting slew: the last with a status, the earlier ones SUPERSEDED (R152). -/
def State.ltFlushSlews (s : State) (n : Nat) (st : Status) : State :=
  let ws := (s.ltc n).waiting
  let s := s.modLt n (fun c => { c with waiting := [] })
  forEach ws.dropLast s (fun s w => s.complete w.tag .superseded (unsigned 32 w.prev)) |>
    fun s => match ws.getLast? with
      | some w => s.complete w.tag st (unsigned 32 w.prev)
      | none => s

/-- The tile stops running precompute: a slew without its first step stores its target and completes OK, as R151 has it for a
tile that runs none; a slew in motion posts nothing (R166). -/
def State.ltNoPre (s : State) (n : Nat) : State :=
  let s := match (s.ltc n).waiting.getLast? with
    | some w => (s.modLt n (fun c => { c with tgtV := w.tgtV, step := w.step })).wrS (LT_REF_TGT_R n) w.tgt
    | none => s
  let s := s.ltFlushSlews n .ok
  (s.modLt n (fun c => { c with running := none })).wrB (LT_STAT_AwActive n) false

/-- Enter a mode; power good holds in Auto and Manual alone (R164). -/
def State.ltEnter (s : State) (n m : Nat) : State :=
  let s := s.wr (LT_STAT_Mode n) m
  let s := s.modLt n (fun c => { c with fresh := true, waitCnt := 0, autoCnt := 0, fails := 0, switched := false,
                                        checking := false })
  let s := s.when (m != 3 && m != 4) (fun s => s.wrB (LT_STAT_Pg n) false)
  let s := s.when (m != 1) (fun s => s.wrB (LT_STAT_PbHigh n) false)
  s.when (m == 0 || m == 1 || m == 5 || m == 6) (fun s => s.ltNoPre n)

/-- The channels of a tile reach their safe state as by ImmDis (R123). -/
def State.ltImmDis (s : State) (n : Nat) : State := forEach (s.ltChans n) s (fun s c => s.immDis c)

/-- Fault (R140, R141): channels safe, the sequencer told (R275). -/
def State.ltFault (s : State) (n : Nat) : State :=
  (s.ltImmDis n).ltEnter n 6 |>.modLt n (fun c => { c with failRep := true, startPend := false, softStop := false })

/-- The retry budget returns to Count (R163). -/
def State.ltBudget (s : State) (n : Nat) : State :=
  (s.wr (LT_STAT_RetryLeft n) (if s.rd (LT_RETRY_Mode n) = 1 then s.rd (LT_RETRY_Count n) else 0)).modLt n
    (fun c => { c with budgetSet := true })

/-! ### Precompute, sample, postcompute (R135) -/

/-- The step in force (R149, R153, R160, R165); none without limit. -/
def State.ltStepNow (s : State) (n : Nat) : Option Nat :=
  let c := s.ltc n
  if c.softStop || s.ltMode n == 2 then some (s.ltStep n (s.rd (LT_SLEW_START_Rate n)))
  else match c.claim with
    | some _ => some (s.ltStep n (s.rd (LT_SLEW_CAP_Rate n)))
    | none => c.step

/-- The step of a rate, 0 selecting LTn_SLEW_DEF and a rate of 0 there none (R149). -/
def State.ltOwnStep (s : State) (n rate : Nat) : Option Nat :=
  let r := if rate = 0 then s.rd (LT_SLEW_DEF_Rate n) else rate
  if r = 0 then none else some (s.ltStep n r)

/-- Move a reference by at most one step toward a target, landing on it exactly (R149). -/
def slewTo (r t : Int) (step : Option Nat) : Int :=
  match step with
  | none => t
  | some k => if t ≥ r then min (r + k) t else max (r - k) t

/-- The reference of precompute: a released claim, the first step of waiting slews, one step of the slew, its end
(R149-R153). -/
def State.ltSlew (s : State) (n : Nat) : State :=
  -- a release makes the owner's target the present reference (R153)
  let s := if (s.ltc n).released then
      let v := s.ltVolts n (s.ltRef n)
      ((s.modLt n (fun c => { c with released := false, tgtV := v, running := none })).wrS (LT_REF_TGT_R n)
        (s.ltRef n)).event 0x0102 n (unsigned 32 v) 0
    else s
  -- a new command takes its first step (R150, R152)
  let s := match (s.ltc n).waiting.getLast? with
    | none => s
    | some w =>
      let s := match (s.ltc n).running with
        | some (tag, gen) => s.postEvent { code := 0x0101, tag := tag, tagValid := true, gen := gen, unit := n,
                                           p0 := unsigned 32 (s.ltVolts n (s.ltRef n)) }
        | none => s
      let s := (s.modLt n (fun c => { c with tgtV := w.tgtV, step := w.step, running := some (w.tag, w.gen) })).wrS
        (LT_REF_TGT_R n) w.tgt
      s.ltFlushSlews n .ok
  let r := slewTo (s.ltRef n) (s.ltTarget n) (s.ltStepNow n)
  let s := s.wrS (LT_REF_CUR_R n) r
  match (s.ltc n).running with
  | some (tag, gen) =>
    if r = s.rdS (LT_REF_TGT_R n) then
      (s.modLt n (fun c => { c with running := none })).postEvent
        { code := 0x0100, tag := tag, tagValid := true, gen := gen, unit := n, p0 := unsigned 32 (s.ltVolts n r) }
    else s
  | none => s

/-- The current limit of precompute (R146); a sample that fails parity counts as above the threshold. -/
def State.ltIlim (s : State) (n code par : Nat) : State :=
  if !s.on (LT_CFG_IlimEn n) then
    (s.modLt n (fun c => { c with cut := 0, ilFrames := none, ilRaised := false })).wrB (LT_STAT_ILim n) false
  else
    let ok := par == parity12 code
    let s := s.when (!ok) (fun s => s.raise 64 (s.rd (LT_SAMPLE_SRC_IlConv n) + 32 * s.rd (LT_SAMPLE_SRC_IlMux n) + 128 * n))
    let mx := s.rd (LT_LIMIT_Max n)
    let m := s.ltMaxeff n
    let m2 := if !ok || decide (code > s.rd (LT_ILIM_Thr n)) then max (s.rd (LT_LIMIT_Min n)) (m - s.rd (LT_ILIM_StepDn n))
              else min mx (m + s.rd (LT_ILIM_StepUp n))
    let low := decide (m2 < mx)
    let s := s.modLt n (fun c => { c with cut := mx - m2, ilFrames := if low then c.ilFrames else none,
                                          ilRaised := c.ilRaised && low })
    (s.wrB (LT_STAT_ILim n) low).when low (fun s => s.inc (LT_ILIM_CNT_Cnt n))

/-- The terms h1-h3 and pre of the next update (R135). -/
def State.ltTerms (s : State) (n : Nat) : State :=
  let q1 := s.rdS (LT_COEF_Q1_Q n)
  let p1 := s.rdS (LT_COEF_P1_P n)
  let q2 := s.rdS (LT_COEF_Q2_Q n)
  let p2 := s.rdS (LT_COEF_P2_P n)
  let q3 := s.rdS (LT_COEF_Q3_Q n)
  let p3 := s.rdS (LT_COEF_P3_P n)
  let x (i : Nat) : Int := s.ltX n i
  let a1 := secSat (mac (-q1) (x 0) p1 (x 1))
  let (a2, a3) :=
    if s.rd (LT_CFG_Form n) = 0 then (secSat (mac (-q2) (x 2) p2 (x 3)), secSat (mac (-q3) (x 4) p3 (x 5)))
    else (secSat (divRnd (-q2 * x 2 + q3 * x 4 + p2 * x 3 - p3 * x 5) (2 ^ 22)), (0, false))
  let s := s.when (a1.2 || a2.2 || a3.2) (fun s => s.wrB (LT_STAT_StateSat n) true)
  let (g, k) := s.ltG n (s.ltRef n + (a1.1 + a2.1 + a3.1))
  let pre (t : Int) : Int := satS 32 (divRnd (g + t * ((2 ^ k : Nat) : Int)) (2 ^ k))
  let pres := (List.range (s.ltChans n).length).map (fun j => pre (s.rdS (LT_CH_TRIM_Trim n j)))
  (s.modLt n (fun c => { c with h1 := a1.1, h2 := a2.1, h3 := a3.1, pre := pres })).ltSetX n 6 (pre 0)

/-- Precompute of the next update: SECDED-checked reads (R141), reference, current limit, terms. -/
def State.ltPrecompute (s : State) (n : Nat) (x : TileSample) : State :=
  let s := s.ltSlew n
  let s := s.ltIlim n x.il.toNat x.ilPar.toNat
  match x.ecc with
  | some (w, true) => (s.raise 105 (n + 256 * w)).ltFault n
  | some (w, false) => if s.ltMode n = 4 then s.raise 104 (n + 256 * w) else (s.raise 104 (n + 256 * w)).ltTerms n
  | none => if s.ltMode n = 4 then s else s.ltTerms n

/-- pre − G·c exactly, for pre in Q17.15: numerator and power of two of the divisor, in ticks. -/
def State.ltDuty (s : State) (n : Nat) (pre : Int) (c : Nat) : Int × Nat :=
  let e := s.rdS (LT_COEF_B0_Exp n)
  let m := max 15 (22 - e).toNat
  (pre * ((2 ^ (m - 15) : Nat) : Int) - s.rdS (LT_COEF_B0_B0 n) * (c : Int) * ((2 ^ ((m : Int) - 22 + e).toNat : Nat) : Int), m)

/-- Load a duty word into one channel, with an armed duty-parity injection (R427, target 0x5) on the tile's next word. -/
def State.ltLoad (s : State) (n ch d tick : Nat) : State :=
  let (inv, s) := s.takeArmed 5 n
  s.tileDuty ch d (s.inPeriod ch tick) (inv == 0)

/-- The channels and pre terms an update loads: all of the mask, or with Multi the one of the update (R139). -/
def State.ltLoads (s : State) (n upd : Nat) : List (Nat × Int) :=
  let all := (s.ltChans n).zip ((s.ltc n).pre)
  if s.on (LT_CFG_Multi n) then (all.drop (upd % max 1 all.length)).take 1 else all

/-- Postcompute (R135, R144). -/
def State.ltPost (s : State) (n : Nat) (code : Nat) (u0 : Int) : State :=
  let c := s.ltc n
  let (e, t0) := secSat (s.ltRef n - (code : Int) * 4096)
  let (w1n, t1) := secSat (e + c.h1)
  let ge := s.rdS (LT_COEF_B0_B0 n) * e
  let hold := s.on (LT_CFG_AwEn n) && s.rdS (LT_COEF_P1_P n) == 0x400000 &&
    ((decide (u0 > (s.ltMaxeff n : Int) * 32768) && decide (ge > 0)) ||
     (decide (u0 < (s.rd (LT_LIMIT_Min n) : Int) * 32768) && decide (ge < 0)))
  let w1n := if hold then s.ltX n 1 else w1n
  let (w2n, t2) := secSat (w1n + c.h2)
  let (w3n, t3) := secSat (w2n + c.h3)
  let s := (s.when (t0 || t1 || t2 || t3) (fun s => s.wrB (LT_STAT_StateSat n) true)).wrB (LT_STAT_AwActive n) hold
  if s.rd (LT_CFG_Form n) = 0 then
    (((((s.ltSetX n 0 e).ltSetX n 1 w1n).ltSetX n 2 w1n).ltSetX n 3 w2n).ltSetX n 4 w2n).ltSetX n 5 w3n
  else
    let x2 := s.ltX n 2
    let w2 := s.ltX n 3
    (((((s.ltSetX n 0 e).ltSetX n 1 w1n).ltSetX n 4 x2).ltSetX n 5 w2).ltSetX n 2 w1n).ltSetX n 3 w2n

/-- The sample phase of the compensator (R135, R143), then postcompute. -/
def State.ltCompensate (s : State) (n upd code tick : Nat) : State :=
  let lo : Int := s.rd (LT_LIMIT_Min n)
  let s := forEach (s.ltLoads n upd) s (fun s cp =>
    let (num, m) := s.ltDuty n cp.2 code
    s.ltLoad n cp.1 (s.ltClampDuty n (divRnd num (2 ^ m))) tick)
  let (num, m) := s.ltDuty n (s.ltX n 6) code
  let u0 := satS 32 (divRnd num (2 ^ (m - 15)))
  let first := match s.ltLoads n upd with
    | cp :: _ => let (a, k) := s.ltDuty n cp.2 code
                 s.ltClampDuty n (divRnd a (2 ^ k))
    | [] => (s.ltc n).lastDuty
  let s := (s.ltSetX n 7 u0).modLt n (fun c => { c with lastDuty := first })
  let s := s.when (u0 < lo * 32768 || u0 > (s.ltMaxeff n : Int) * 32768) (fun s => s.wrB (LT_STAT_Sat n) true)
  s.ltPost n code u0

/-- Manual: the manual duty, clamped, without trim; no postcompute (R156). -/
def State.ltManual (s : State) (n upd tick : Nat) : State :=
  let d := s.ltClampDuty n (s.rd (LT_MAN_DUTY_Duty n))
  let chs := s.ltChans n
  let chs := if s.on (LT_CFG_Multi n) then (chs.drop (upd % max 1 chs.length)).take 1 else chs
  (forEach chs s (fun s c => s.ltLoad n c d tick)).modLt n (fun c => { c with lastDuty := d })

/-- The latency record of an update (R74, R142). -/
def State.ltLatency (s : State) (n lat : Nat) : State :=
  let s := (s.wr (LT_LAT_MAX_LatLast n) lat).wr (LT_LAT_MAX_LatMax n) (max (s.rd (LT_LAT_MAX_LatMax n)) lat)
  s.when (decide (lat > 320)) (fun s => s.raise 107 (n + 256 * min 255 (lat - 320)))

/-- The sample's parity as it reaches the tile, after an armed or already met injection (R427, target 0x3). -/
def State.ltParity (s : State) (n par : Nat) : Nat × State :=
  let k := s.rd (LT_SAMPLE_SRC_Conv n)
  if s.sense.badCode = some k then (par ^^^ 1, { s with sense := { s.sense with badCode := none } })
  else s.fcInject k par

/-- A sample that fails its parity (R140). -/
def State.ltMiss (s : State) (n : Nat) : State :=
  let s := (s.raise 64 (s.rd (LT_SAMPLE_SRC_Conv n) + 32 * s.rd (LT_SAMPLE_SRC_Mux n) + 128 * n)).inc (LT_MISS_CNT_Cnt n)
  let s := (s.wrB (LT_STAT_Miss n) true).modLt n (fun c => { c with misses := c.misses + 1 })
  if (s.ltc n).misses ≥ max 1 (s.rd (LT_CFG_MissMax n)) then (s.ltFault n).raise 106 n else s

/-- One update of a tile (R135, R140): sample, postcompute, and precompute of the next update. Off, RetryWait and Fault use no
sample; Measure averages it alone (R158). -/
def State.ltSample (s : State) (n upd : Nat) (x : TileSample) : State :=
  let m := s.ltMode n
  if !s.on (LT_CTL_En n) || m == 0 || m ≥ 5 then s
  else
    let code := x.code.toNat
    let (par, s) := s.ltParity n x.par.toNat
    if par != parity12 code then
      let s := s.ltMiss n
      if s.ltMode n = 6 ∨ m = 1 then s else s.ltPrecompute n x
    else
      let s := s.modLt n (fun c => { c with misses := 0, sumC := c.sumC + code, sumR := c.sumR + s.ltRef n, cnt := c.cnt + 1 })
      if m = 1 then s
      else
        let s := if m = 4 then s.ltManual n upd x.tick.toNat else s.ltCompensate n upd code x.tick.toNat
        let s := (s.inc (LT_UPD_CNT_Cnt n)).ltLatency n x.lat.toNat
        s.ltPrecompute n x

/-! ### Transfer into compensator control (R157) -/

/-- Preset the states so that the first automatic duty continues D (Q17.15 ticks), with error e_p (Q20.12). -/
def State.ltPreset (s : State) (n : Nat) (d ep : Int) : State :=
  let one : Int := 2 ^ 22
  let q2 := s.rdS (LT_COEF_Q2_Q n)
  let p2 := s.rdS (LT_COEF_P2_P n)
  let q3 := s.rdS (LT_COEF_Q3_Q n)
  let p3 := s.rdS (LT_COEF_P3_P n)
  let f0 := s.rd (LT_CFG_Form n) == 0
  let (n2, d2, n3, d3) := if f0 then (one - q2, one - p2, one - q3, one - p3) else (one - q2 + q3, one - p2 + p3, 1, 1)
  let b0 := s.rdS (LT_COEF_B0_B0 n)
  let den := b0 * n2 * n3
  let s :=
    if den = 0 then forN 6 s (fun s i => s.ltSetX n i 0)
    else
      let w := divRndI (d * d2 * d3 * ((2 ^ (19 - s.rdS (LT_COEF_B0_Exp n)).toNat : Nat) : Int)) den
      let s := (s.ltSetSec n 0 ep).ltSetSec n 1 w
      let w := satS 32 w
      let w2 := divRndI (w * n2) d2
      let w3 := divRndI (w * n2 * n3) (d2 * d3)
      let s := (s.ltSetSec n 2 w).ltSetSec n 3 w2
      if f0 then (s.ltSetSec n 4 w2).ltSetSec n 5 w3 else (s.ltSetSec n 4 w).ltSetSec n 5 w2
  s.ltTerms n

/-- The sealed difference of the frame averages of r and c, in Q20.12 (R157). -/
def State.ltAvgErr (s : State) (n : Nat) : Int := ((s.rd (LT_AVG_R n) : Int) - s.rd (LT_AVG_C n)) * 256

/-- Preset for a transfer while running: the last duty word continues (R157). -/
def State.ltTransfer (s : State) (n : Nat) : State := s.ltPreset n ((s.ltc n).lastDuty * 32768) (s.ltAvgErr n)

/-- An apply has put new coefficients, Form or gain in force (R168): preset in Auto and Start. -/
def State.ltApplied (s : State) (n : Nat) (changed : Bool) : State :=
  if changed && (s.ltMode n == 2 || s.ltMode n == 3) then s.ltTransfer n else s

/-! ### Start, stop, grant (R158-R165) -/

/-- Release Idle on the tile's channels at once; switching begins at their next period start (R158, R161). -/
def State.ltRelease (s : State) (n : Nat) : State :=
  forEach (s.ltChans n) s (fun s c => (s.wrB (PG_CH_CTL_Idle c) false).modPg c (fun p => { p with relAt := some s.frame }))

/-- Enter Start from a reference and a duty (R158, R159). -/
def State.ltStart (s : State) (n : Nat) (r d : Int) : State :=
  let s := (s.ltEnter n 2).wrS (LT_REF_CUR_R n) r
  let s := s.modLt n (fun c => { c with cut := 0, lastDuty := (divRnd d 32768).toNat })
  (s.ltPreset n d 0).ltRelease n

/-- The sequencer grants the tile's rail (R158, R264): channels enabled and idle, start at the next boundary. A grant out of
RetryWait is a restart (R163). -/
def State.ltGrant (s : State) (n : Nat) : State :=
  let s := if s.ltMode n = 5 then
      (s.inc (LT_RETRY_CNT_Cnt n)).when (s.rd (LT_RETRY_Mode n) == 1)
        (fun s => s.wr (LT_STAT_RetryLeft n) (s.rd (LT_STAT_RetryLeft n) - 1))
    else s.when (!(s.ltc n).budgetSet) (fun s => s.ltBudget n)
  let s := forEach (s.ltChans n) s (fun s c => (s.pgEnable c true).wrB (PG_CH_CTL_Idle c) true)
  s.modLt n (fun c => { c with startPend := true, stopPend := false, softStop := false, restartReq := false, failRep := false })

/-- The channels of a tile stop at their first own period start at or after the next boundary (R123). -/
def State.ltStopChans (s : State) (n : Nat) : State := forEach (s.ltChans n) s (fun s c => s.pgEnable c false)

/-- The sequencer withdraws the rail (R165): RetryWait ends in Off, a running tile stops hard or softly. -/
def State.ltWithdraw (s : State) (n : Nat) : State :=
  let m := s.ltMode n
  let s := s.modLt n (fun c => { c with startPend := false, restartReq := false })
  if m = 5 then s.ltEnter n 0
  else if m = 6 then s
  else if s.on (LT_START_SoftStop n) && decide (2 ≤ m ∧ m ≤ 4) then s.modLt n (fun c => { c with softStop := true })
  else (s.ltStopChans n).modLt n (fun c => { c with stopPend := true })

/-- START_SHORT (R161-R163). -/
def State.ltStartShort (s : State) (n : Nat) : State :=
  let left := s.rd (LT_STAT_RetryLeft n)
  let s := (s.raise 108 (n + 256 * left)).ltImmDis n
  let stopping := (s.ltc n).stopPend || (s.ltc n).softStop
  let s := s.modLt n (fun c => { c with failRep := true, softStop := false, stopPend := false })
  if stopping then s.ltEnter n 0
  else match s.rd (LT_RETRY_Mode n) with
    | 1 => if left = 0 then (s.ltEnter n 6).raise 111 n else s.ltEnter n 5
    | 2 => s.ltEnter n 5
    | _ => s.ltEnter n 6

/-- The retry interval has passed: Interval whole frames, 0 acting as 1 (R163). -/
def State.ltRetryDue (s : State) (n : Nat) : Bool :=
  s.ltMode n == 5 && !(s.ltc n).restartReq && decide ((s.ltc n).waitCnt ≥ max 1 (s.rd (LT_RETRY_Interval n)))

def State.ltRetry (s : State) (n : Nat) : State :=
  if s.ltRetryDue n then s.modLt n (fun c => { c with restartReq := true }) else s

/-- The limit has lasted MaxFrames whole frames (R146). -/
def State.ltIlimLong (s : State) (n : Nat) : State :=
  match (s.ltc n).ilFrames with
  | some k =>
    if s.rd (LT_ILIM_CFG_MaxFrames n) ≠ 0 ∧ k ≥ s.rd (LT_ILIM_CFG_MaxFrames n) ∧ (s.ltc n).ilRaised = false then
      (s.modLt n (fun c => { c with ilRaised := true })).raise 109 n
    else s
  | none => s

/-- 100,000 consecutive frames in Auto restore the budget (R163). -/
def State.ltRestoreBudget (s : State) (n : Nat) : State :=
  if s.ltMode n = 3 ∧ (s.ltc n).autoCnt ≥ 100000 then s.ltBudget n else s

/-- A disable takes effect (R63, R166): Off, channels stopped by R123, waiting commands DISABLED. -/
def State.ltDisable (s : State) (n : Nat) : State :=
  let s := s.ltFlushSlews n .disabled
  let s := forEach (s.ltc n).modePend s (fun s p => s.complete p.1 .disabled (s.ltMode n))
  let s := s.modLt n (fun c => { c with disPend := false, modePend := [], startPend := false, stopPend := false,
                                        softStop := false, restartReq := false, budgetSet := false })
  forEach (s.ltChans n) (s.ltEnter n 0) (fun s c =>
    (s.wrB (PG_CH_CTL_En c) false).modPg c (fun p => { p with startPend := false, armed := false, stopping := true }))

/-! ### The frame boundary -/

/-- Seal LTn_AVG (R161) and update the trims (R145). -/
def State.ltSeal (s : State) (n : Nat) : State :=
  let c := s.ltc n
  let s := if c.cnt = 0 then s
    else (s.wr (LT_AVG_C n) (satU 16 (divRnd (16 * (c.sumC : Int)) c.cnt))).wr (LT_AVG_R n)
      (satU 16 (divRnd c.sumR (256 * c.cnt)))
  let s := s.modLt n (fun c => { c with sumC := 0, sumR := 0, cnt := 0, sealedOk := decide (c.cnt ≠ 0) })
  if !s.on (LT_CFG_BalEn n) then forN 4 s (fun s j => s.wr (LT_CH_TRIM_Trim n j) 0)
  else
    let chs := (List.range (s.ltChans n).length).map (fun j => bits (s.word (LT_BAL_CH n)).toNat (8 * j + 7) (8 * j))
    let vals := chs.map (fun k => s.cached (0x1000 + 16 * k))
    if vals.isEmpty || vals.any (fun p => p.isBad) then s
    else
      let sum := vals.foldl (fun a p => a + p.int) 0
      let lim : Int := s.rd (LT_BAL_BalMax n) * 32768
      (List.range vals.length).foldl (fun s j =>
        let i := ((vals.map PVal.int).getD j 0)
        let d := divRnd ((s.rd (LT_BAL_Kbal n) : Int) * (sum - (vals.length : Int) * i)) (vals.length * 512)
        s.wrS (LT_CH_TRIM_Trim n j) (clampI (-lim) lim (s.rdS (LT_CH_TRIM_Trim n j) + d))) s

/-- End of Measure (R159). -/
def State.ltMeasureEnd (s : State) (n : Nat) : State :=
  if !(s.ltc n).sealedOk then s
  else
    let c : Int := s.rd (LT_AVG_C n) * 256
    if c < s.ltTarget n then
      let vin := s.cached (0x1000 + 16 * s.rd (LT_START_VinCh n))
      let vpre := s.ltVolts n c
      let mul := s.rd (PG_GRP_CFG_Mul (s.rd (LT_CFG_Group n)))
      let d := if vin.isBad || vin.int == 0 then 0 else divRndI ((shortest mul : Int) * vpre * 32768) vin.int
      s.ltStart n c d
    else
      let was := s.on (LT_STAT_PbHigh n)
      (s.wrB (LT_STAT_PbHigh n) true).when (!was) (fun s => s.raise 110 n)

/-- Whether the frame just sealed fails the progress check (R161). -/
def State.ltBehind (s : State) (n : Nat) : Bool :=
  decide ((s.rd (LT_AVG_R n) : Int) - s.rd (LT_AVG_C n) > 16 * s.rd (LT_START_MARGIN_ProgMargin n))

/-- One boundary of Start (R160, R161). -/
def State.ltStartBoundary (s : State) (n : Nat) : State :=
  let c := s.ltc n
  let s := s.modLt n (fun c => { c with fails := if c.checking && s.ltBehind n then c.fails + 1 else 0,
                                        checking := c.checking || c.switched })
  if c.checking && decide ((s.ltc n).fails ≥ 4) then s.ltStartShort n
  else if s.ltRef n = s.ltTarget n ∧ c.softStop = false then s.ltEnter n 3
  else s

/-- Power good (R164). -/
def State.ltPg (s : State) (n : Nat) : State :=
  let d := (s.rd (LT_AVG_R n) : Int) - s.rd (LT_AVG_C n)
  s.wrB (LT_STAT_Pg n) (s.ltRef n == s.ltTarget n && decide (d.natAbs ≤ 16 * s.rd (LT_START_MARGIN_PgWin n)))

/-- A LOOP_MODE applies (R154-R157). -/
def State.ltMode1 (s : State) (n : Nat) (p : Nat × Nat) : State :=
  let m := s.ltMode n
  let old := m
  if p.2 = 0 then
    ((((s.ltStopChans n).commit p.1).ltEnter n 0).modLt n (fun c => { c with softStop := false, startPend := false })).complete
      p.1 .ok old
  else if m ≠ 3 ∧ m ≠ 4 then s.complete p.1 .refusedState old
  else
    let s := s.commit p.1
    let s := if p.2 = m then s
      else if p.2 = 4 then (s.ltEnter n 4).wr (LT_MAN_DUTY_Duty n) (s.ltc n).lastDuty
      else (s.ltEnter n 3).ltTransfer n
    s.complete p.1 .ok old

/-- What a tile does at a boundary, after the apply (R45): disable, stop, mode changes, the preset of an apply, start, Measure,
Start, power good and retry. -/
def State.ltBoundary (s : State) (n : Nat) (changed : Bool) : State :=
  if (s.ltc n).disPend then s.ltDisable n
  else if !s.on (LT_CTL_En n) then s
  else
    let m0 := s.ltMode n
    let s := s.modLt n (fun c =>
      let c := { c with ilFrames := if s.on (LT_STAT_ILim n) then some ((c.ilFrames.map (· + 1)).getD 0) else none }
      if c.fresh then { c with fresh := false } else { c with waitCnt := c.waitCnt + 1, autoCnt := c.autoCnt + 1 })
    let s := s.ltIlimLong n
    let s := if m0 = 2 then s.ltStartBoundary n else s
    let modes := (s.ltc n).modePend
    let s := s.modLt n (fun c => { c with modePend := [] })
    let s := forEach modes s (fun s p => s.ltMode1 n p)
    let s := s.ltApplied n changed
    if (s.ltc n).stopPend then (s.ltEnter n 0).modLt n (fun c => { c with stopPend := false })
    else if (s.ltc n).softStop && s.ltRef n == 0 then
      ((s.ltStopChans n).ltEnter n 0).modLt n (fun c => { c with softStop := false })
    else if (s.ltc n).startPend then
      let s := s.modLt n (fun c => { c with startPend := false })
      if s.on (LT_START_PbEn n) then s.ltEnter n 1 else s.ltStart n 0 0
    else match s.ltMode n with
      | 1 => if m0 = 1 then s.ltMeasureEnd n else s
      | 3 => (if m0 = 3 then s.ltPg n else s).ltRestoreBudget n
      | 4 => s.ltPg n
      | 5 => s.ltRetry n
      | _ => s

/-- A switching period of the first channel of the mask has begun in Start (R161). -/
def State.ltSwitched (s : State) (ch : Nat) : State :=
  forN 24 s (fun s n =>
    if s.ltMode n == 2 && (s.ltChans n).head? == some ch && s.on (PG_CH_STAT_Run ch) && !s.on (PG_CH_STAT_IdleSt ch) then
      s.modLt n (fun c => { c with switched := true })
    else s)

/-- PERIOD_START (R118): the period begins, and a tile in Start learns of its first switching period (R161). -/
def execPeriodStart (n : Fin 48) (j : Fin 20) (s : State) : Res := done s ((s.periodBegin n j).ltSwitched n)

/-! ### Claims and owners -/

/-- The owner sets the target (R147): the owning shelf loop. -/
def State.ltSetTarget (s : State) (n : Nat) (v : Int) : State :=
  let (c, s) := s.ltClampTgt n v
  (s.modLt n (fun t => { t with tgtV := c, step := s.ltOwnStep n 0 })).wrS (LT_REF_TGT_R n) (s.ltCode n c)

/-- Capping claims the target, or releases its claim (R153). -/
def State.ltClaim (s : State) (n : Nat) (v : Option Int) : State :=
  let was := (s.ltc n).claim
  let live := decide (2 ≤ s.ltMode n ∧ s.ltMode n ≤ 4)
  let s := match v with
    | some x => (s.ltClampTgt n x).2
    | none => s
  s.modLt n (fun c => { c with claim := v, released := if v.isSome then false else c.released || (was.isSome && live) })

/-- An enabled shelf loop in a mode that owns its outputs names the point as a member's output (R24, R190). -/
def State.slOwns (s : State) (point : Nat) : Bool :=
  (List.range 16).any (fun m =>
    (s.rd (SL_STAT_Mode m) == 2 || s.rd (SL_STAT_Mode m) == 3 || s.rd (SL_STAT_Mode m) == 5) &&
    (List.range 8).any (fun k => s.on (SL_MEM_CFG_En m k) && s.rd (SL_MEM_OUT_Id m k) == point))

/-- A rail in use names the tile (R155). -/
def State.ltRailed (s : State) (n : Nat) : Bool :=
  (List.range 32).any (fun r => s.on (SEQ_RAIL_CFG_En r) && s.rd (SEQ_RAIL_CFG_Kind r) == 1 && s.rd (SEQ_RAIL_CFG_Unit r) == n)

/-! ### The commands -/

/-- SETPOINT_SLEW in its execution slot (R149-R151, R307). -/
def State.setpointSlew (s : State) (tag : Nat) : State :=
  match s.ready tag 0x12 with
  | none => s
  | some c =>
    let n := (c.point - 0x4000) / 32
    let prev := (s.ltc n).tgtV
    let s := s.modCmd tag (fun c => c.ran [.start])
    if !zeroAt c.payload 8 32 || s.slOwns c.point then s.complete tag .refusedState (unsigned 32 prev)
    else
      let (v, s) := s.ltClampTgt n (signed 32 (numAt c.payload 0 4))
      let w : Slew := { tag := tag, gen := c.gen, tgtV := v, tgt := s.ltCode n v, prev := prev,
                        step := s.ltOwnStep n (numAt c.payload 4 4) }
      let m := s.ltMode n
      if m = 0 ∨ m = 1 ∨ m ≥ 5 then
        (((s.modLt n (fun t => { t with tgtV := v, step := w.step })).wrS (LT_REF_TGT_R n) w.tgt).commit tag).complete
          tag .ok (unsigned 32 prev)
      else s.modLt n (fun t => { t with waiting := t.waiting ++ [w] })

/-- SETPOINT_SLEW (R149). -/
def execSetpointSlew (tag : Fin 256) (s : State) : Res := done s (s.setpointSlew tag)

/-- LOOP_MODE of a tile in its execution slot (R154, R155). -/
def State.ltLoopMode (s : State) (tag n mode : Nat) : State :=
  let m := s.ltMode n
  let s := s.modCmd tag (fun c => c.ran [.start])
  if mode ≠ 0 ∧ mode ≠ 3 ∧ mode ≠ 4 then s.complete tag .refusedState m
  else if mode = 0 ∧ s.ltRailed n then s.complete tag .refusedState m
  else if mode ≠ 0 ∧ m ≠ 3 ∧ m ≠ 4 then s.complete tag .refusedState m
  else s.modLt n (fun c => { c with modePend := c.modePend ++ [(tag, mode)] })

/-- LT_SAMPLE (R135). -/
def execLtSample (n : Fin 24) (upd : Fin 4) (x : TileSample) (s : State) : Res := done s (s.ltSample n upd x)

/-- LT_RETRY_EXPIRY (R163). -/
def execLtRetryExpiry (n : Fin 24) (s : State) : Res := done s (s.ltRetry n)

/-- LT_ILIM_LONG (R146). -/
def execLtIlimLong (n : Fin 24) (s : State) : Res := done s (s.ltIlimLong n)

/-- LT_RETRY_BUDGET_RESTORE (R163). -/
def execLtRetryBudgetRestore (n : Fin 24) (s : State) : Res := done s (s.ltRestoreBudget n)

/-- A write of LTn_CTL.En (R63). -/
def State.ltEnable (s : State) (n : Nat) (en : Bool) : State :=
  let was := s.on (LT_CTL_En n)
  let s := s.wrB (LT_CTL_En n) en
  if en then s.modLt n (fun c => { c with disPend := false, budgetSet := c.budgetSet && was })
  else s.modLt n (fun c => { c with disPend := true })

/-- LT_EN_WRITE (R63). -/
def execLtEnWrite (n : Fin 24) (en : Bool) (s : State) : Res := done s (s.ltEnable n en)

/-- A write of 1 to LTn_CTL.Clr (R155): Fault to Off with the budget restored; a granted rail is asked to restart. -/
def State.ltClear (s : State) (n : Nat) : State :=
  let s := s.ltBudget n
  if s.ltMode n = 6 then
    let granted := (List.range 32).any (fun r => s.on (SEQ_RAIL_CFG_En r) && s.rd (SEQ_RAIL_CFG_Kind r) == 1 &&
      s.rd (SEQ_RAIL_CFG_Unit r) == n && s.on (SEQ_RAIL_STAT_Grant r))
    (s.ltEnter n 0).modLt n (fun c => { c with restartReq := granted })
  else s

/-- LT_CLR (R155). -/
def execLtClr (n : Fin 24) (s : State) : Res := done s (s.ltClear n)

/-- LAT_MAX_READ (R74): the read returns the record and clears its maximum. -/
def execLatMaxRead (n : Fin 24) (s : State) : Res :=
  done s ((s.emit (.readData (LT_LAT_MAX n) (s.word (LT_LAT_MAX n)))).wr (LT_LAT_MAX_LatMax n) 0)

end Sys2Proof.Machine
end

