-- ==== Sys2Proof/Machine/Operands.lean ====
section
/-!
DEFINITION. Operands: point IDs and their domains (R325, R326), the pin table (R327), point values (R328-R330), the bus
formats (R359, R369), and the sending of link messages (R377, R378).
-/
namespace Sys2Proof.Machine

/-! ### Pin table and snapshot list -/

/-- A word of a pin entry. -/
def State.pin (s : State) (i w : Nat) : Nat := (s.word (pinKey i w)).toNat

/-- The point ID of an entry of the snapshot list. -/
def State.listed (s : State) (i : Nat) : Nat := (s.word (listKey i)).toNat % 2 ^ 20

/-- The valid pin entries in force. -/
def State.pins (s : State) : List (Nat × Nat) := pinsOf s.regs

/-- The pin entry of a point (R326). -/
def State.pinOf (s : State) (id : Nat) : Option Nat :=
  (s.pins.find? (fun e => e.2 % 2 ^ 20 == id)).map (fun e => e.1)

/-- The type of a pin head: 0 Q16.16, 1 unsigned, 2 signed (R327). -/
def headType (h : Nat) : Nat := bits h 23 20
def headWritable (h : Nat) : Bool := h.testBit 30

/-! ### Points -/

/-- The domain of a point ID (R325). -/
def domainOf (id : Nat) : Nat := id / 65536

/-- A telemetry point (R83). -/
def isTelemetry (id : Nat) : Bool := decide (0x1000 ≤ id ∧ id < 0x2000)

/-- Whether a domain-0 ID is published, and so names a point (R325, R83, R147, R196, R233, R261, R290). -/
def published (id : Nat) : Bool :=
  if 0x1000 ≤ id ∧ id < 0x2000 then id % 16 < 5
  else if 0x4000 ≤ id ∧ id < 0x4000 + 0x20 * 24 then id % 32 < 6
  else if 0x5000 ≤ id ∧ id < 0x5200 then id % 32 < 11
  else if 0x5200 ≤ id ∧ id < 0x5300 then true
  else if 0x6000 ≤ id ∧ id < 0x6100 then id % 32 < 8
  else if 0x6100 ≤ id ∧ id < 0x6120 then id % 32 < 4
  else if 0x7000 ≤ id ∧ id < 0x7200 then id % 32 < 7
  else if 0x7400 ≤ id ∧ id < 0x7600 then id % 16 < 4
  else if 0x7600 ≤ id ∧ id < 0x7620 then id % 32 < 4
  else false

/-- Whether an ID names a point as far as the device knows (R325): a published point of domain 0, an enabled derived point;
IDs of domains 1-3 name points of the pin table or of the directory. -/
def State.pointKnown (s : State) (id : Nat) : Bool :=
  match domainOf id with
  | 0 => published id
  | 1 => true
  | 2 => true
  | 3 => true
  | 4 => decide (id - 0x40000 < 128) && s.on (PNT_DRV_CFG_En (id - 0x40000))
  | _ => false

/-- A pinned point (R326). -/
def State.pinned (s : State) (id : Nat) : Bool :=
  match domainOf id with
  | 0 => published id
  | 4 => s.pointKnown id
  | _ => (s.pinOf id).isSome

/-- The value of a published domain-0 point that is not telemetry, read from its owner (R328). -/
def State.ownValue (s : State) (id : Nat) : Nat :=
  if id < 0x5000 then
    let n := (id - 0x4000) / 32
    match id % 32 with
    | 0 => unsigned 32 (s.ltc n).tgtV
    | 1 => unsigned 32 (s.ltVolts n (s.ltRef n))
    | 2 => s.rd (LT_MAN_DUTY_Duty n)
    | 3 => (s.ltc n).lastDuty
    | 4 => s.ltMode n
    | _ => s.rd (LT_STAT_Pg n)
  else if id < 0x5200 then
    let m := (id - 0x5000) / 32
    match id % 32 with
    | 0 => s.rd (SL_TARGET_V m)
    | 1 => unsigned 32 (nth s.sl m).y
    | 2 => s.rd (SL_MAN_OUT_V m)
    | 3 => s.rd (SL_U_INT_V m)
    | 4 => unsigned 32 (nth s.sl m).u
    | 5 => s.rd (SL_STAT_Mode m)
    | 6 => s.rd (SL_STAT_Stage m)
    | 7 => s.rd (SL_STAT_Present m)
    | 8 => s.rd (SL_FF_V m)
    | 9 => s.rd (SL_BAT_SOC_V m)
    | _ => s.rd (SL_STAT_Claimed m)
  else if id < 0x5300 then
    let m := (id - 0x5200) / 16
    let j := id % 16
    if j < 8 then s.rd (SL_MEM_CMD_V m j) else s.rd (SL_MEM_TRIM_V m (j - 8))
  else if id < 0x6100 then
    let g := (id - 0x6000) / 32
    match id % 32 with
    | 0 => s.rd (FG_VS_EST_V g)
    | 1 => s.rd (FG_R_EST_V g)
    | 2 => s.rd (FG_PMAX_V g)
    | 3 => s.rd (FG_BUDGET_V g)
    | 4 => s.rd (FG_PDRAW_V g)
    | 5 => s.rd (FG_DEMAND_V g)
    | 6 => s.rd (FG_STAT_Severity g)
    | _ => (s.word (FG_STAT g)).toNat
  else if id < 0x7000 then
    match id % 32 with
    | 0 => s.rd HU_STAT_State
    | 1 => s.rd HU_EAVAIL_V
    | 2 => s.rd HU_ENEED_V
    | _ => s.rd HU_ALLOW_V
  else if id < 0x7400 then
    let e := (id - 0x7000) / 32
    match id % 32 with
    | 0 => s.rd (EF_STAT_State e)
    | 1 => s.rd (EF_STAT_Cause e)
    | 2 => s.rd (EF_STAT_Pg e)
    | 3 => s.rd (EF_PFET_V e)
    | 4 => s.rd (EF_TJ_V e)
    | 5 => (divRnd (s.rd (EF_BRK_ACC_A e) : Int) 32768).toNat
    | _ => s.rd (EF_TRIP_CNT_Cnt e)
  else if id < 0x7600 then
    let r := (id - 0x7400) / 16
    match id % 16 with
    | 0 => s.rd (SEQ_RAIL_STAT_State r)
    | 1 => s.rd (SEQ_RAIL_STAT_Cause r)
    | 2 => unsigned 32 (s.seqMon r)
    | _ => s.rd (SEQ_RAIL_FAIL_CNT_Cnt r)
  else
    match id % 32 with
    | 0 => s.rd SEQ_STAT_State
    | 1 => s.rd SEQ_DEMAND_Mask
    | 2 => s.rd SEQ_UP_Mask
    | _ => s.rd SEQ_FAILED_Mask

/-- The value of a pinned point (R328-R330): telemetry and domains 1-4 from the cache, another domain-0 point from its owner
with the current frame as its stamp. -/
def State.pointVal (s : State) (id : Nat) : PVal :=
  if domainOf id = 0 ∧ isTelemetry id = false then
    { v := BitVec.ofNat 32 (s.ownValue id), q := 0, stamp := s.frame32 }
  else s.cached id

/-- The age of a point in frames (R329). -/
def State.pointAge (s : State) (p : PVal) : Nat := (s.frame32 + 2 ^ 32 - p.stamp % 2 ^ 32) % 2 ^ 32

/-- The result word of a read (R332): value, quality and age saturated to 24 bits. -/
def State.readResult (s : State) (p : PVal) : Nat :=
  p.v.toNat + 2 ^ 32 * (p.q % 256) + 2 ^ 40 * min (s.pointAge p) 0xFFFFFF

/-- The result word of a write: the value in force before it and its quality (R333). -/
def writeResult (p : PVal) : Nat := p.v.toNat + 2 ^ 32 * (p.q % 256)

/-- A result enters the cache in the next slot 0 (R328). -/
def State.arrive (s : State) (id : Nat) (p : Option PVal) : State :=
  { s with pnt := { s.pnt with arrivals := s.pnt.arrivals ++ [(id, p)] } }

/-- Whether a domain-0 point may be written by software (R147, R196). -/
def writableOwn (id : Nat) : Bool :=
  (0x4000 ≤ id && id < 0x4300 && id % 32 == 2) ||
  (0x5000 ≤ id && id < 0x5200 && (id % 32 == 0 || id % 32 == 2 || id % 32 == 9))

/-- A write to a writable domain-0 point acts on its owner (R328): the manual duty, saturated to its register; a loop's target,
manual output or state of charge. A loop-tile target is set by its owning shelf loop. -/
def State.writeOwn (s : State) (id v : Nat) : State :=
  if id < 0x5000 then
    let n := (id - 0x4000) / 32
    if id % 32 = 2 then s.wr (LT_MAN_DUTY_Duty n) (min v 65535) else s.ltSetTarget n (signed 32 v)
  else
    let m := (id - 0x5000) / 32
    match id % 32 with
    | 0 => s.wr (SL_TARGET_V m) v
    | 2 => s.wr (SL_MAN_OUT_V m) v
    | _ =>
      { ((s.wr (SL_BAT_SOC_V m) v).wrB (SL_STAT_SocValid m) true) with
        sl := upd s.sl m (fun c => { c with soc := (max 0 (signed 32 v)).toNat * 2 ^ 32 }) }

/-! ### Formats (R359, R369) -/

/-- num / den × 2^e rounded once (R134). -/
def scaleRnd (num : Int) (den : Nat) (e : Int) : Int :=
  if 0 ≤ e then divRnd (num * ((2 ^ e.toNat : Nat) : Int)) den else divRnd num (den * 2 ^ (-e).toNat)

/-- A value in units as an integer in the point's type: Q16.16 carries 16 fraction bits. -/
def typeFrac (typ : Nat) : Nat := if typ = 0 then 16 else 0

/-- Saturate to the point's type; the flag says it saturated (R330). -/
def typeSat (typ : Nat) (x : Int) : Nat × Bool :=
  if typ = 1 then (satU 32 x, (satU 32 x : Int) != x) else (unsigned 32 (satS 32 x), satS 32 x != x)

/-- A 32-bit value of a type as an integer. -/
def typeInt (typ v : Nat) : Int := if typ = 1 then (v % 2 ^ 32 : Nat) else signed 32 v

/-- The two-wire binding's size in bytes, from DATA2 (R358). -/
def twSize (d2 : Nat) : Nat := match bits d2 13 12 with | 0 => 1 | 1 => 2 | _ => 4

/-- Read a bus word as a point value (R359). -/
def State.twDecode (s : State) (d2 d3 typ y : Nat) : Nat × Bool :=
  let w := 8 * twSize d2
  let fr : Int := typeFrac typ
  let e := signed 5 (bits d3 8 4)
  typeSat typ (match bits d3 3 0 with
    | 0 => scaleRnd (y : Int) 1 (e + fr)
    | 1 => scaleRnd (signed w y) 1 (e + fr)
    | 2 => scaleRnd (signed 11 (y % 2048)) 1 (signed 5 (y / 2048) + fr)
    | 3 => scaleRnd (y : Int) 1 (e + fr)
    | _ =>
      let k := bits d3 15 12
      let r := s.rdS (TW_DIR_EXP_R k)
      let m := s.rdS (TW_DIR_MB_M k)
      let b := s.rdS (TW_DIR_MB_B k)
      let p : Int := ((10 ^ r.natAbs : Nat) : Int)
      let num := if 0 ≤ r then signed 16 y - b * p else signed 16 y * p - b
      divRndI (num * ((2 ^ typeFrac typ : Nat) : Int)) (if 0 ≤ r then m * p else m))

/-- The least LINEAR11 exponent whose mantissa fits, and the word; the largest exponent with a saturated mantissa where none
does (R359). -/
def linear11 (num : Int) (den : Nat) : Nat :=
  let ns := (List.range 32).map (fun (i : Nat) => (i : Int) - 16)
  match ns.find? (fun n => let m := scaleRnd num den (-n); decide (-1024 ≤ m ∧ m ≤ 1023)) with
  | some n => unsigned 5 n * 2048 + unsigned 11 (scaleRnd num den (-n))
  | none => 15 * 2048 + unsigned 11 (clampI (-1024) 1023 (scaleRnd num den (-15)))

/-- Encode a point value as the bus word of a binding, saturating to the nearest word (R359). -/
def State.twEncode (s : State) (d2 d3 typ v : Nat) : Nat :=
  let w := 8 * twSize d2
  let x := typeInt typ v
  let den : Nat := 2 ^ typeFrac typ
  let e := signed 5 (bits d3 8 4)
  match bits d3 3 0 with
  | 0 => satU w (scaleRnd x den (-e))
  | 1 => unsigned w (satS w (scaleRnd x den (-e)))
  | 2 => linear11 x den
  | 3 => satU w (scaleRnd x den (-e))
  | _ =>
    let k := bits d3 15 12
    let r := s.rdS (TW_DIR_EXP_R k)
    let num := s.rdS (TW_DIR_MB_M k) * x + s.rdS (TW_DIR_MB_B k) * (den : Int)
    let p : Nat := 10 ^ r.natAbs
    unsigned 16 (satS 16 (if 0 ≤ r then divRnd (num * (p : Int)) den else divRnd num (den * p)))

/-- The number of data bytes of a CAN DLC (classical and FD). -/
def dlcLen (dlc : Nat) : Nat :=
  if dlc ≤ 8 then dlc
  else match dlc with
    | 9 => 12 | 10 => 16 | 11 => 20 | 12 => 24 | 13 => 32 | 14 => 48 | _ => 64

/-- The CAN signal size in bytes (R369). -/
def canSize (d3 : Nat) : Nat := match bits d3 7 6 with | 0 => 1 | 1 => 2 | _ => 4

/-- Read a CAN signal (R369); none where the frame is too short to hold it. -/
def canDecode (d3 typ : Nat) (data : List Byte) : Option (Nat × Bool) :=
  let n := canSize d3
  let at_ := d3 % 64
  if at_ + n > data.length then none
  else
    let raw := slice data at_ n
    let y := leNat (if d3.testBit 9 then raw.reverse else raw)
    let x : Int := if d3.testBit 8 then signed (8 * n) y else y
    some (typeSat typ (scaleRnd x 1 (signed 5 (bits d3 20 16) + typeFrac typ)))

/-- The data of a CAN frame that writes a signal: the signal in place, every other byte 0 (R369). -/
def canEncode (d3 typ v : Nat) : List Byte :=
  let n := canSize d3
  let y := scaleRnd (typeInt typ v) (2 ^ typeFrac typ) (-(signed 5 (bits d3 20 16)))
  let w := if d3.testBit 8 then unsigned (8 * n) (satS (8 * n) y) else satU (8 * n) y
  let raw := leBytes n w
  padTo (dlcLen (bits d3 15 12)) (List.replicate (d3 % 64) 0 ++ (if d3.testBit 9 then raw.reverse else raw))

/-! ### Sending on the link (R376-R378) -/

/-- Hops to a position through port TL_E in a ring of n (R374). -/
def hopsE (me dest n : Nat) : Nat := if n = 0 then 0 else (dest + n - me % n) % n

/-- The port a unicast message takes (R377): the one with fewer hops, TL_E on a tie; the other where that path is down. -/
def State.routeOf (s : State) (dest : Nat) : Option Nat :=
  let n := s.rd TL_CFG_SetSize
  let e := hopsE (s.rd GLB_STAT_Pos) dest n
  let first := if 2 * e ≤ n then 1 else 0
  if s.portUp first then some first else if s.portUp (1 - first) then some (1 - first) else none

/-- The type code of a message body (R380). -/
def LinkBody.type : LinkBody → Nat
  | .bytes t _ => t
  | .feedReport _ => 0x10
  | .capAlloc _ _ _ => 0x11
  | .wsShed _ _ => 0x12
  | .actTable _ => 0x14
  | .take _ => 0x06

/-- Put one message on a port: counted, spoilt by an armed injection at target 0x8 (R427). -/
def State.linkPort (s : State) (p dest seq : Nat) (body : LinkBody) : State :=
  let (inv, s) := s.takeArmed 8 p
  (s.inc (TL_PORT_TX_CNT_Cnt p)).emit (.link p dest (s.rd TL_GEN_Gen) seq (s.setFrameNo % 2 ^ 32) body (inv != 0))

/-- Send a message to a position, or to every device with destination 8 (R377): each takes the next sequence number of its
destination; a message with no usable port is lost. With a set of one the ports carry nothing (R374). -/
def State.linkSend (s : State) (dest : Nat) (body : LinkBody) : State :=
  if s.rd TL_CFG_SetSize ≤ 1 then s
  else
    let seq := s.tl.txSeq.getD dest 0
    let s := { s with tl := { s.tl with txSeq := upd s.tl.txSeq dest (fun n => (n + 1) % 2 ^ 32) } }
    if dest = 8 then
      (s.when (s.portUp 0) (fun s => s.linkPort 0 8 seq body)).when (s.portUp 1) (fun s => s.linkPort 1 8 seq body)
    else match s.routeOf dest with
      | some p => s.linkPort p dest seq body
      | none => s

/-- Send a PWRITE for a domain-3 point (R383): the peer and the point there are its binding's (R327). -/
def State.sendPwrite (s : State) (d2 v : Nat) (use : PwUse) : State :=
  let req := s.tl.pwNext
  let dest := d2 % 8
  let s := { s with tl := { s.tl with pwNext := (req + 1) % 2 ^ 32, pwrites := s.tl.pwrites ++ [(req, dest, use)] } }
  s.linkSend dest (.bytes 0x23 (leBytes 4 (bits d2 22 3) ++ leBytes 4 v ++ leBytes 4 req))

end Sys2Proof.Machine
end

