-- ==== Sys2Proof/Machine/Shelf.lean ====
section
/-!
DEFINITION. Shelf loops (chapter 06): the hysteretic-integral law, members and sharing, the repetitive controller, batteries,
modes, claims, and their commands.
-/
namespace Sys2Proof.Machine

/-- A telemetry channel's sealed average (point f = 0 of R83). -/
def State.tmAvg (s : State) (k : Nat) : PVal := s.cached (0x1000 + 16 * k)

def State.slBattery (s : State) (m : Nat) : Bool := s.rd (SL_CFG_Kind m) == 2

/-- Members in use, in order. -/
def State.slMembers (s : State) (m : Nat) : List Nat := (List.range 8).filter (fun k => s.on (SL_MEM_CFG_En m k))

/-! ### The law (R173) -/

/-- The parameters of the law (R173); no fast band or no rate limit where disabled. -/
structure LawPar where
  hold : Int
  rel  : Int
  fast : Option Int
  gain : Int
  stepMax : Int
  stepFast : Int
  lim : Option Int

/-- One step of the hysteretic-integral law (R173): the step, the hold state, and whether the fixed step was taken. -/
def hiLaw (e : Int) (p : LawPar) (hold : Bool) : Int × Bool × Bool :=
  let a : Int := e.natAbs
  if hold && decide (a ≤ p.rel) then (0, true, false)
  else if a ≤ p.hold then (0, true, false)
  else
    let fast := match p.fast with
      | some f => f != 0x7FFFFFFF && decide (a > f)
      | none => false
    let d := if fast then (if e < 0 then -p.stepFast else p.stepFast)
             else clampI (-p.stepMax) p.stepMax (divRnd (p.gain * e) 65536)
    (match p.lim with
      | some l => clampI (-l) l d
      | none => d, false, fast)

/-- The loop law's parameters (R173). -/
def State.slLaw (s : State) (m : Nat) : LawPar where
  hold := s.rdS (SL_BAND_HOLD_V m)
  rel := s.rdS (SL_BAND_REL_V m)
  fast := some (s.rdS (SL_BAND_FAST_V m))
  gain := s.rdS (SL_GAIN_V m)
  stepMax := s.rdS (SL_STEP_MAX_V m)
  stepFast := s.rdS (SL_STEP_FAST_V m)
  lim := some (s.rdS (SL_RATE_V m) * s.rd (SL_CFG_Period m))

/-- The sharing law's parameters (R180). -/
def State.slShareLaw (s : State) (m : Nat) : LawPar where
  hold := s.rdS (SL_SHARE_HOLD_V m)
  rel := s.rdS (SL_SHARE_REL_V m)
  fast := none
  gain := s.rdS (SL_SHARE_GAIN_V m)
  stepMax := s.rdS (SL_SHARE_STEP_V m)
  stepFast := 0
  lim := none

/-! ### Members (R177, R178) -/

/-- A change of Present is recorded (R178). -/
def State.slPresent (s : State) (m k : Nat) (b : Bool) : State :=
  if s.on (SL_MEM_STAT_Present m k) = b then s
  else (s.wrB (SL_MEM_STAT_Present m k) b).requestShelf (if b then 0x0501 else 0x0502) m k 0 0

/-- A member's run of misses reaches MissMax (R178). -/
def State.slLoseMember (s : State) (m k : Nat) : State :=
  if s.rd (SL_MEM_STAT_Miss m k) = max 1 (s.rd (SL_MEMS_CFG_MissMax m)) ∧ s.on (SL_MEM_STAT_Lost m k) = false then
    ((((s.slPresent m k false).wrB (SL_MEM_STAT_Lost m k) true).wr (SL_MEM_TRIM_V m k) 0)).raise 185 (m + 16 * k)
  else s

/-- One miss (R178). -/
def State.slMiss (s : State) (m k : Nat) : State :=
  let s := s.incSat (SL_MEM_STAT_Miss m k)
  if s.rd (SL_MEM_STAT_Miss m k) = max 1 (s.rd (SL_MEMS_CFG_MissMax m)) then
    ((((s.slPresent m k false).wrB (SL_MEM_STAT_Lost m k) true).wr (SL_MEM_TRIM_V m k) 0)).raise 185 (m + 16 * k)
  else s

/-- A member's write has ended (R178). -/
def State.slWritten (s : State) (m k : Nat) (ok : Bool) : State :=
  let s := s.modSl m (fun c => { c with memOk := setBit c.memOk k ok })
  if ok then s else s.slMiss m k

/-- Whether the readback of a member is stale at a run (R178). -/
def State.slStale (s : State) (m k : Nat) : Bool :=
  let rb := s.rd (SL_MEM_RB_Id m k)
  if rb = 0xFFFFF then false
  else
    let p := s.pointVal rb
    bit p.q 5 || decide (s.pointAge p > max 1 (s.rd (SL_MEMS_CFG_StaleRuns m)) * s.rd (SL_CFG_Period m))

/-- Judge the members at a run (R178): staleness, misses, presence. -/
def State.slHealth (s : State) (m : Nat) : State :=
  forEach (s.slMembers m) s (fun s k =>
    let stale := s.slStale m k
    let s := s.wrB (SL_MEM_STAT_Stale m k) stale
    if stale then s.slMiss m k
    else if (s.slc m).memOk.testBit k then
      let s := s.wr (SL_MEM_STAT_Miss m k) 0
      if s.on (SL_MEM_STAT_Present m k) then s else (s.wr (SL_MEM_TRIM_V m k) 0).slPresent m k true
    else s)

/-- A Q16.16 command in the type of a pinned point. -/
def toType (typ : Nat) (v : Int) : Int := if typ = 0 then v else divRnd v 65536

/-- Command one member (R177, R172): the point cache directly, a booked transaction, or a link message. -/
def State.slWrite (s : State) (m k : Nat) (v : Int) : State :=
  let id := s.rd (SL_MEM_OUT_Id m k)
  let s := s.wrS (SL_MEM_CMD_V m k) v
  match domainOf id with
  | 0 => (s.writeOwn id (unsigned 32 v)).slWritten m k true
  | 1 => s.modSl m (fun c => { c with wr := assocPut c.wr k v })
  | 2 => s.modSl m (fun c => { c with wr := assocPut c.wr k v })
  | 3 =>
    match s.pinOf id with
    | some i => s.sendPwrite (s.pin i 2) (unsigned 32 (toType (headType (s.pin i 0)) v)) (.member m k)
    | none => s
  | _ => (s.arrive id (some { v := BitVec.ofInt 32 v, q := 0, stamp := s.frame32 })).slWritten m k true

/-- The value in force of a member's output point; none with Init (R192). -/
def State.slForce (s : State) (m k : Nat) : Option Int :=
  let p := s.pointVal (s.rd (SL_MEM_OUT_Id m k))
  if bit p.q 5 then none else some p.int

/-! ### The repetitive controller (R181-R185) -/

/-- Runs of a table period, and bins in use (R181). -/
def State.rcNr (s : State) (m : Nat) : Nat := s.rd (SL_RC_CFG_Period m) / max 1 (s.rd (SL_CFG_Period m))
def State.rcNb (s : State) (m : Nat) : Nat := min (s.rcNr m) 1024

/-- The run index of this frame (R181). -/
def State.rcRun (s : State) (m : Nat) : Nat :=
  let pt := s.rd (SL_RC_CFG_Period m)
  if pt = 0 then 0
  else ((s.setFrameNo + pt - s.rd (SL_CFG_PhaseOfs m) % pt) % pt) / max 1 (s.rd (SL_CFG_Period m))

/-- The bin of a run index (R181). -/
def State.rcBin (s : State) (m r : Nat) : Nat := if s.rcNr m = 0 then 0 else r * s.rcNb m / s.rcNr m

def State.rcAt (s : State) (m b : Nat) : Int := (assoc (s.slc m).bins b).getD 0

/-- Write a bin; a bin of 0 is not listed. -/
def State.rcSet (s : State) (m b : Nat) (v : Int) : State :=
  s.modSl m (fun c => { c with bins := if v = 0 then assocDel c.bins b else assocPut c.bins b v })

/-- The feed-forward of this run (R182). -/
def State.rcFf (s : State) (m : Nat) : Int :=
  if s.on (SL_RC_CFG_En m) then
    let nb := s.rcNb m
    let sum := ((s.slc m).bins.filter (fun e => decide (e.1 < nb))).foldl (fun a e => a + e.2) 0
    let mean := if nb = 0 then 0 else divRnd sum nb
    satS 32 (s.rcAt m (s.rcBin m (s.rcRun m)) - mean)
  else 0

/-- Learn one bin from the error of this run (R183). -/
def State.rcLearn (s : State) (m : Nat) (e : Int) : State :=
  let nr := s.rcNr m
  if nr = 0 then s
  else
    let r := (s.rcRun m + nr * 256 - s.rd (SL_RC_CFG_Lead m)) % nr
    let b := s.rcBin m r
    let lim := s.rdS (SL_RC_LIMIT_V m)
    let v := divRnd ((65536 - (s.rd (SL_RC_FORGET_F m) : Int)) * s.rcAt m b + s.rdS (SL_RC_GAIN_V m) * e) 65536
    let w := clampI (-lim) lim v
    let s := s.rcSet m b w
    if w != v && !s.on (SL_STAT_RcSat m) then (s.wrB (SL_STAT_RcSat m) true).raise 187 (m + 64 * b) else s

/-- Clear the table, folding the last feed-forward into u_int (R185). -/
def State.rcClear (s : State) (m : Nat) : State :=
  let s := s.wrS (SL_U_INT_V m) (satS 32 (s.rdS (SL_U_INT_V m) + s.rdS (SL_FF_V m)))
  (s.wr (SL_FF_V m) 0).modSl m (fun c => { c with bins := [], rcClr := false })

/-! ### Preset, sharing, commands (R177, R180, R192) -/

/-- Sharing is on for the loop (R179). -/
def State.slShares (s : State) (m : Nat) : Bool := s.rd (SL_CFG_Kind m) == 1 && s.on (SL_CFG_ShareEn m)

def meanOf (l : List Int) : Int := if l.isEmpty then 0 else divRnd (l.foldl (· + ·) 0) l.length

/-- The output the members' values in force stand for (R192 item 1). -/
def State.slUbar (s : State) (m : Nat) : Int :=
  let ms := s.slMembers m
  let first :=
    if s.slShares m then
      let l := (ms.filter (fun k => s.on (SL_MEM_STAT_Present m k))).filterMap (fun k => s.slForce m k)
      if l.isEmpty then none else some (meanOf l)
    else if ms.contains 0 then s.slForce m 0 else none
  match first with
  | some u => u
  | none =>
    let l := ms.filterMap (fun k => s.slForce m k)
    if l.isEmpty then s.rdS (SL_OUT_MIN_V m) else meanOf l

/-- The preset of R192: u_int, trims. -/
def State.slPreset (s : State) (m : Nat) (ff : Int) : State :=
  let u := s.slUbar m
  let tm := s.rdS (SL_TRIM_MAX_V m)
  let s1 := (s.wrS (SL_U_INT_V m) (satS 32 (u - ff))).modSl m (fun c => { c with u := u })
  forEach (s.slMembers m) s1 (fun t k =>
    if s.slShares m && s.on (SL_MEM_CFG_ShareEn m k) then
      match s.slForce m k with
      | some v => t.wrS (SL_MEM_TRIM_V m k) (clampI (-tm) tm (v - u))
      | none => t.wr (SL_MEM_TRIM_V m k) 0
    else t)

/-- The sharing step of a run (R180). -/
def State.slShare (s : State) (m : Nat) : State :=
  let p := (s.slMembers m).filter (fun k => s.on (SL_MEM_STAT_Present m k) && !s.on (SL_MEM_STAT_Stale m k) &&
    s.on (SL_MEM_CFG_ShareEn m k))
  if !s.slShares m || p.length < 2 then s
  else
    let cur (k : Nat) : Int := (s.pointVal (s.rd (SL_MEM_RB_Id m k))).int
    let total := p.foldl (fun a k => a + cur k) 0
    let wsum := p.foldl (fun a k => a + s.rd (SL_MEM_CFG_Weight m k)) 0
    let step (k : Nat) : Int × Bool :=
      let eps := divRnd ((s.rd (SL_MEM_CFG_Weight m k) : Int) * total - (wsum : Int) * cur k) wsum
      let (d, h, _) := hiLaw eps (s.slShareLaw m) ((s.slc m).memHold.testBit k)
      (s.rdS (SL_MEM_TRIM_V m k) + d, h)
    let mean := meanOf (p.map (fun k => (step k).1))
    let tm := s.rdS (SL_TRIM_MAX_V m)
    forEach p s (fun t k =>
      let x := (step k).1 - mean
      let w := clampI (-tm) tm x
      let t := (t.modSl m (fun c => { c with memHold := setBit c.memHold k (step k).2 })).wrS (SL_MEM_TRIM_V m k) w
      if w != x && !t.on (SL_MEM_STAT_TrimLim m k) then
        (t.wrB (SL_MEM_STAT_TrimLim m k) true).raise 186 (m + 16 * k)
      else t)

/-- A member of the loop is a loop-tile target that a claim holds (R193). -/
def State.slTileClaimed (s : State) (m k : Nat) : Bool :=
  let id := s.rd (SL_MEM_OUT_Id m k)
  0x4000 ≤ id && id < 0x4300 && id % 32 == 0 && (s.ltc ((id - 0x4000) / 32)).claim.isSome

/-- Some output of the loop is claimed (R193). -/
def State.slClaimed (s : State) (m : Nat) : Bool :=
  (s.slc m).claim.isSome || (s.slMembers m).any (fun k => s.slTileClaimed m k)

/-- Write every member: a claimed battery member its claim, a claimed tile nothing, any other its command. In a claimed loop or
with its input lost the loop's output and trims are frozen, and so are the commands (R176, R193). -/
def State.slWriteAll (s : State) (m : Nat) (cmd : Nat → Int) : State :=
  forEach (s.slMembers m) s (fun t k =>
    if s.slTileClaimed m k then t
    else match (s.slc m).claim with
      | some v => t.slWrite m k (if k = 0 then v else cmd k)
      | none => t.slWrite m k (cmd k))

/-! ### Battery (R186-R189) -/

/-- T_c clamped to 0-50 °C and T itself, 25 °C standing for a BAD temperature (R186). -/
def State.batT (s : State) (m : Nat) : Int × Bool :=
  let p := s.tmAvg (s.rd (SL_BAT_CH_T m))
  if p.isBad then (25 * 65536, true) else (p.int, false)

/-- A temperature-compensated voltage target (R186). -/
def State.batV (s : State) (m : Nat) (v : Int) : Int :=
  let tc := clampI 0 (50 * 65536) (s.batT m).1
  satS 32 (v + divRnd (s.rdS (SL_BAT_TCO_V m) * (tc - 25 * 65536)) 65536)

/-- The output range of a stage (R187). -/
def State.batRange (s : State) (m st : Nat) : Int × Int :=
  match st with
  | 1 => (0, s.rdS (SL_BAT_IBULK_V m))
  | 2 => (0, s.rdS (SL_BAT_IBULK_V m))
  | 3 => (0, s.rdS (SL_BAT_IBULK_V m))
  | 4 => (-(s.rdS (SL_BAT_IDISMAX_V m)), 0)
  | _ => (0, 0)

/-- The range of the loop's commands (R177): OutMin to OutMax, or a battery stage's own (R187). -/
def State.slRange (s : State) (m : Nat) : Int × Int :=
  if s.slBattery m then s.batRange m (s.rd (SL_STAT_Stage m)) else (s.rdS (SL_OUT_MIN_V m), s.rdS (SL_OUT_MAX_V m))

/-- The command of a member (R177). -/
def State.slCmd (s : State) (m k : Nat) : Int :=
  let (lo, hi) := s.slRange m
  clampI lo hi ((s.slc m).u + s.rdS (SL_MEM_TRIM_V m k))

/-- The held command of a skipped run (R176): of Manual its output, else that of R177. -/
def State.slHeld (s : State) (m k : Nat) : Int := if s.slMode m = 3 then (s.slc m).u else s.slCmd m k

/-- Enter a stage (R188): counts restart, u_int from the output in force, SoC 1 on Float by the tail, the stage's source. -/
def State.batEnter (s : State) (m st : Nat) : State :=
  let u := (s.slc m).u
  let (lo, hi) := s.batRange m st
  let s := (s.wr (SL_STAT_Stage m) st).modSl m (fun c => { c with tail := 0, rebulk := 0, dis := 0, ret := 0,
                                                                  stageAt := s.frame, hot := false })
  if st = 4 then (s.wrS (SL_U_INT_V m) (min (s.rdS (SL_U_INT_V m)) 0)).raise 191 m
  else s.wrS (SL_U_INT_V m) (clampI lo hi u)

/-- Set the state of charge's accumulator and its register (R189). -/
def State.setSoc (s : State) (m x : Nat) : State :=
  (s.modSl m (fun c => { c with soc := x })).wr (SL_BAT_SOC_V m) (divRnd (x : Int) (2 ^ 32)).toNat

/-- Count a consecutive run. -/
def runOf (b : Bool) (n : Nat) : Nat := if b then n + 1 else 0

/-- The stage change of a run (R187): Fault, Discharge, Rest, then the stage's own exit. -/
def State.batStage (s : State) (m : Nat) : State :=
  let st := s.rd (SL_STAT_Stage m)
  let vbat := (s.tmAvg (s.rd (SL_BAT_CH_VBat m))).int
  let ibat := (s.tmAvg (s.rd (SL_BAT_CH_IBat m))).int
  let vbus := (s.tmAvg (s.rd (SL_BAT_CH_VBus m))).int
  let (t, def_) := s.batT m
  let s := s.wrB (SL_STAT_TempDef m) def_
  let c8 (f : Fld) : Int := s.rdS f * 65536
  let inWin := decide (c8 (SL_BAT_TWIN_TchMin m) ≤ t ∧ t ≤ c8 (SL_BAT_TWIN_TchMax m))
  let hot := decide (t > c8 (SL_BAT_TWIN_TAlarm m))
  let need (f : Fld) : Nat := max 1 (s.rd f)
  let s := s.modSl m (fun c => { c with
    tail := runOf (st == 2 && decide (ibat ≤ s.rdS (SL_BAT_ITAIL_V m))) c.tail,
    rebulk := runOf (st == 3 && decide (vbat < s.rdS (SL_BAT_VREBULK_V m))) c.rebulk,
    dis := runOf (st ≤ 3 && decide (vbus < s.rdS (SL_BAT_VDIS_V m))) c.dis,
    ret := runOf (st == 4 && c.u == 0) c.ret })
  let c := s.slc m
  let age := s.frame - c.stageAt
  let bulkMax := s.rd (SL_BAT_TMAX_BulkMax m) * 100000
  let absMax := s.rd (SL_BAT_TMAX_AbsMax m) * 100000
  let late := st == 1 && bulkMax != 0 && decide (age > bulkMax)
  if st = 5 then s
  else if late || (decide (st ≤ 3) && hot) then
    let s := (s.batEnter m 5).modSl m (fun c => { c with mode := 5 })
    (s.when late (fun s => s.raise 188 m)).when hot (fun s => s.raise 190 m)
  else if st ≤ 3 ∧ c.dis ≥ need (SL_BAT_RUNS_Dis m) then s.batEnter m 4
  else if 1 ≤ st ∧ st ≤ 3 ∧ (s.on (SL_BAT_CFG_ChargeEn m) = false ∨ inWin = false) then s.batEnter m 0
  else match st with
    | 0 => if s.on (SL_BAT_CFG_ChargeEn m) && inWin then s.batEnter m 1 else s
    | 1 => if vbat ≥ s.batV m (s.rdS (SL_BAT_VABS_V m)) then s.batEnter m 2 else s
    | 2 =>
      if c.tail ≥ need (SL_BAT_RUNS_Tail m) then
        ((s.batEnter m 3).setSoc m (2 ^ 48)).wrB (SL_STAT_SocValid m) true
      else if absMax ≠ 0 ∧ age ≥ absMax then (s.batEnter m 3).raise 189 m
      else s
    | 3 => if c.rebulk ≥ need (SL_BAT_RUNS_Rebulk m) then s.batEnter m 1 else s
    | 4 =>
      if c.ret ≥ need (SL_BAT_RUNS_Ret m) then s.batEnter m 1
      else if hot && !c.hot then (s.modSl m (fun c => { c with hot := true })).raise 190 (m + 16)
      else s.modSl m (fun c => { c with hot := hot })
    | _ => s

/-- The error of the law in a battery stage, if the stage runs it (R187). -/
def State.batErr (s : State) (m : Nat) : Option Int :=
  let vbat := (s.tmAvg (s.rd (SL_BAT_CH_VBat m))).int
  let vbus := (s.tmAvg (s.rd (SL_BAT_CH_VBus m))).int
  match s.rd (SL_STAT_Stage m) with
  | 2 => some (s.batV m (s.rdS (SL_BAT_VABS_V m)) - vbat)
  | 3 => some (s.batV m (s.rdS (SL_BAT_VFLOAT_V m)) - vbat)
  | 4 => some (vbus - s.rdS (SL_BAT_VDISREG_V m))
  | _ => none

/-- The boundary update of the state of charge (R189). -/
def State.socUpdate (s : State) (m : Nat) : State :=
  let p := s.tmAvg (s.rd (SL_BAT_CH_IBat m))
  if !s.slBattery m || !s.on (SL_CTL_En m) || p.isBad then s
  else
    let inc := divRnd (p.int * 2 ^ 48) (360000000 * s.rd (SL_BAT_CAP_V m))
    s.setSoc m (clampI 0 (2 ^ 48) ((s.slc m).soc + inc)).toNat

/-! ### A run -/

/-- The input of a run and whether it is BAD: the input point, or a battery loop's three channels (R171, R187). -/
def State.slInput (s : State) (m : Nat) : Int × Bool :=
  if s.slBattery m then
    let v := s.tmAvg (s.rd (SL_BAT_CH_VBat m))
    let i := s.tmAvg (s.rd (SL_BAT_CH_IBat m))
    let b := s.tmAvg (s.rd (SL_BAT_CH_VBus m))
    ((if s.rd (SL_STAT_Stage m) = 4 then b else v).int, v.isBad || i.isBad || b.isBad)
  else
    let p := s.pointVal (s.rd (SL_IN_Id m))
    (p.int, p.isBad)

/-- MissMax consecutive runs have been skipped (R176). -/
def State.slInLost (s : State) (m : Nat) : State :=
  if (s.slc m).skips ≥ max 1 (s.rd (SL_MEMS_CFG_MissMax m)) ∧ s.on (SL_STAT_InLost m) = false then
    (s.wrB (SL_STAT_InLost m) true).raise 184 m
  else s

/-- One law step with the clamp of R174 in a range: u_int, u and the flags. -/
def State.slStep (s : State) (m : Nat) (e ff lo hi : Int) : State :=
  let (d, hold, fast) := hiLaw e (s.slLaw m) (s.on (SL_STAT_Hold m))
  let x := s.rdS (SL_U_INT_V m) + d
  let ui := clampI (lo - ff) (hi - ff) x
  let s := (((s.wrB (SL_STAT_Hold m) hold).wrB (SL_STAT_Fast m) fast).wrB (SL_STAT_OutSat m) (ui != x)).wrS
    (SL_U_INT_V m) (satS 32 ui)
  s.modSl m (fun c => { c with u := satS 32 (ui + ff) })

/-- The output of a battery loop in its stage (R187, R188). -/
def State.batOut (s : State) (m : Nat) (ff : Int) : State :=
  let (lo, hi) := s.batRange m (s.rd (SL_STAT_Stage m))
  match s.batErr m with
  | some e => s.slStep m e ff lo hi
  | none =>
    let x := if s.rd (SL_STAT_Stage m) = 1 then s.rdS (SL_U_INT_V m) + s.rdS (SL_STEP_MAX_V m) else 0
    let u := clampI lo hi x
    let s := (s.wrB (SL_STAT_Fast m) false).wrB (SL_STAT_OutSat m) (u != x)
    (s.wrS (SL_U_INT_V m) u).modSl m (fun c => { c with u := u })

/-- A run in Auto with good input (R174, R180, R183, R187, R193). -/
def State.slAuto (s : State) (m : Nat) (y : Int) : State :=
  let bat := s.slBattery m
  let s := if bat then s.batStage m else s
  let ff := s.rcFf m
  let claimed := s.slClaimed m
  let was := (s.slc m).wasClaimed
  let s := (s.wrB (SL_STAT_Claimed m) claimed).modSl m (fun c => { c with wasClaimed := claimed, y := y })
  let s := s.slHealth m
  if (s.slc m).mode = 5 then (s.batOut m ff).slWriteAll m (fun _ => 0)
  else if claimed then (s.wrB (SL_STAT_RcActive m) false).slWriteAll m (s.slCmd m)
  else
    let s := if was then s.slPreset m ff else s
    let s := s.wrS (SL_FF_V m) ff
    let e := if bat then (s.batErr m).getD 0 else s.rdS (SL_TARGET_V m) - y
    let s := if bat then s.batOut m ff else s.slStep m e ff (s.rdS (SL_OUT_MIN_V m)) (s.rdS (SL_OUT_MAX_V m))
    let s := s.slShare m
    let learn := s.on (SL_RC_CFG_En m) && !s.on (SL_STAT_OutSat m) && !s.on (SL_CTL_RcFreeze m)
    let s := s.slWriteAll m (s.slCmd m)
    (s.wrB (SL_STAT_RcActive m) learn).when learn (fun s => s.rcLearn m e)

/-- Loop m is due in this frame (R169). -/
def State.slDue (s : State) (m : Nat) : Bool :=
  let p := s.rd (SL_CFG_Period m)
  p != 0 && (s.setFrameNo + p - s.rd (SL_CFG_PhaseOfs m) % p) % p == 0

/-- A due run of a loop (R169-R177, R190, R192). -/
def State.slRun (s : State) (m : Nat) : State :=
  let mode := s.slMode m
  if !s.on (SL_CTL_En m) || !s.slDue m || mode == 0 || mode == 4 then s
  else
    let s := s.inc (SL_RUN_CNT_Cnt m)
    if mode = 5 then (s.slHealth m).slWriteAll m (fun _ => 0)
    else
      let (y, bad) := s.slInput m
      if bad then
        let s := (s.inc (SL_SKIP_CNT_Cnt m)).modSl m (fun c => { c with skips := c.skips + 1 })
        let s := (s.wrB (SL_STAT_RcActive m) false).slInLost m
        s.when (s.on (SL_STAT_InLost m) && mode != 1) (fun s =>
          let s := s.slHealth m
          s.slWriteAll m (s.slHeld m))
      else
        let s := (s.wrB (SL_STAT_InLost m) false).modSl m (fun c => { c with skips := 0, y := y })
        match mode with
        | 1 => s.slPreset m (s.rcFf m)
        | 2 => s.slAuto m y
        | _ =>
          let claimed := s.slClaimed m
          let v := s.rdS (SL_MAN_OUT_V m)
          let s := (s.wrB (SL_STAT_Claimed m) claimed).modSl m (fun c => { c with wasClaimed := claimed, u := v })
          (s.slHealth m).slWriteAll m (fun _ => v)

/-! ### Modes (R190-R194) -/

/-- Set the mode of a loop, with the preset on entry to Auto or Manual (R192). -/
def State.slEnter (s : State) (m mode : Nat) : State :=
  let s := s.modSl m (fun c => { c with mode := mode, wasClaimed := false })
  match mode with
  | 2 => s.slPreset m (s.rcFf m)
  | 3 =>
    let u := s.slUbar m
    let s := (s.slPreset m (s.rcFf m)).wrS (SL_MAN_OUT_V m) u
    forN 8 s (fun s k => s.wr (SL_MEM_TRIM_V m k) 0)
  | _ => s

/-- LOOP_MODE of a shelf loop in its execution slot (R191). -/
def State.slLoopMode (s : State) (tag m mode : Nat) : State :=
  let old := s.slMode m
  let s := s.modCmd tag (fun c => c.ran [.start])
  if mode ≥ 4 ∨ old = 4 ∨ (mode = 2 ∧ s.on (SL_STAT_InLost m) = true) ∨ (old = 5 ∧ mode ≠ 0) then
    s.complete tag .refusedState old
  else s.modSl m (fun c => { c with modePend := c.modePend ++ [(tag, mode)] })

/-- A waiting LOOP_MODE applies at the boundary (R190); what R191 refuses there is refused. -/
def State.slMode1 (s : State) (m : Nat) (p : Nat × Nat) : State :=
  let old := s.slMode m
  if old = 4 ∨ (p.2 = 2 ∧ s.on (SL_STAT_InLost m) = true) ∨ (old = 5 ∧ p.2 ≠ 0) then s.complete p.1 .refusedState old
  else
    let s := s.commit p.1
    (if old = p.2 then s else s.slEnter m p.2).complete p.1 .ok old

/-- What a loop does at a boundary: a disable (R194), a table clear (R185), mode changes, the state of charge. -/
def State.slBoundary (s : State) (m : Nat) : State :=
  let s := s.socUpdate m
  let s := s.when (s.slc m).rcClr (fun s => s.rcClear m)
  if (s.slc m).disPend then
    let s := forEach (s.slc m).modePend s (fun s p => s.complete p.1 .disabled (s.slMode m))
    s.modSl m (fun c => { c with mode := 0, disPend := false, modePend := [], wr := [] })
  else
    let modes := (s.slc m).modePend
    forEach modes (s.modSl m (fun c => { c with modePend := [] })) (fun s p => s.slMode1 m p)

/-- A write of SLm_CTL.En (R194): 1 leaves the loop in Off. -/
def State.slEnable (s : State) (m : Nat) (en : Bool) : State :=
  (s.wrB (SL_CTL_En m) en).modSl m (fun c => { c with disPend := !en })

/-- A write of 1 to SLm_CTL.Clr (R191): a battery loop in Fault goes to Rest, its mode to InitMode. -/
def State.slClear (s : State) (m : Nat) : State :=
  if s.slBattery m && (s.slc m).mode == 5 then (s.batEnter m 0).slEnter m (s.rd (SL_CFG_InitMode m)) else s

/-- A write of SLm_RC_DATA (R185). -/
def State.rcDataWrite (s : State) (m v : Nat) : State :=
  (s.wr (SL_RC_DATA_V m) v).rcSet m (s.rd (SL_RC_ADDR_Bin m)) (signed 32 v)

/-- A write of SLm_BAT_SOC (R189): the accumulator takes the value, lower bits 0. -/
def State.socWrite (s : State) (m v : Nat) : State := s.writeOwn (0x5000 + 32 * m + 9) v

/-- SHELF_LOOP_RUN (R174). -/
def execShelfLoopRun (m : Fin 16) (s : State) : Res := done s (s.stage (fun s => s.slRun m))
/-- SL_INPUT_LOST (R176). -/
def execSlInputLost (m : Fin 16) (s : State) : Res := done s (s.slInLost m)
/-- SL_MEMBER_LOST (R178). -/
def execSlMemberLost (m : Fin 16) (k : Fin 8) (s : State) : Res := done s (s.slLoseMember m k)
/-- SL_EN_WRITE (R194). -/
def execSlEnWrite (m : Fin 16) (en : Bool) (s : State) : Res := done s (s.slEnable m en)
/-- SL_CLR (R191). -/
def execSlClr (m : Fin 16) (s : State) : Res := done s (s.slClear m)
/-- RC_CLR (R185): every bin clears at the next boundary. -/
def execRcClr (m : Fin 16) (s : State) : Res := done s (s.modSl m (fun c => { c with rcClr := true }))
/-- RC_DATA_WRITE (R185). -/
def execRcDataWrite (m : Fin 16) (value : BitVec 32) (s : State) : Res := done s (s.rcDataWrite m value.toNat)
/-- SL_TARGET_WRITE (R175): the target takes effect at the next run and never touches u_int. -/
def execSlTargetWrite (m : Fin 16) (value : BitVec 32) (s : State) : Res := done s (s.wr (SL_TARGET_V m) value.toNat)
/-- SOC_WRITE (R189). -/
def execSocWrite (m : Fin 16) (value : BitVec 32) (s : State) : Res := done s (s.socWrite m value.toNat)

end Sys2Proof.Machine
end

