-- ==== Sys2Proof/Machine/Sequencer.lean ====
section
/-!
DEFINITION. Rail sequencing and supervision (chapter 09): the prerequisite graph, requests and the global state, the rail
transitions of one step, grants and withdrawals, failure, shed and adoption, SEQ_FLT_N, and the sequencer's commands.
-/
namespace Sys2Proof.Machine

/-! ### Rails and their graph (R264, R268, R269) -/

def State.railState (s : State) (r : Nat) : Nat := s.rd (SEQ_RAIL_STAT_State r)
def State.railKind (s : State) (r : Nat) : Nat := s.rd (SEQ_RAIL_CFG_Kind r)
def State.railUnit (s : State) (r : Nat) : Nat := s.rd (SEQ_RAIL_CFG_Unit r)
def State.railUse (s : State) (r : Nat) : Bool := s.on (SEQ_RAIL_CFG_En r)
def State.railGrant (s : State) (r : Nat) : Bool := s.on (SEQ_RAIL_STAT_Grant r)
def State.railDemand (s : State) (r : Nat) : Bool := s.on (SEQ_RAIL_STAT_Demand r)

/-- The rails in use. -/
def State.rails (s : State) : List Nat := (List.range 32).filter (fun r => s.railUse r)

/-- The prerequisites of a rail (R268). -/
def State.railPre (s : State) (r : Nat) : List Nat :=
  (List.range 4).filterMap (fun j =>
    let b := bits (s.word (SEQ_RAIL_PRE r)).toNat (8 * j + 7) (8 * j)
    if b.testBit 7 then some (b % 32) else none)

/-- One closure round: add the prerequisites, or the dependants, of the rails of a mask. -/
def State.addPre (s : State) (m : Nat) : Nat :=
  (bitsOf 32 m).foldl (fun a r => (s.railPre r).foldl (fun a p => a ||| 2 ^ p) a) m

def State.addDep (s : State) (m : Nat) : Nat :=
  (List.range 32).foldl (fun a r => if s.railUse r && (s.railPre r).any (fun p => m.testBit p) then a ||| 2 ^ r else a) m

/-- A mask with every prerequisite, or every dependant, of its rails (R268, R269). -/
def State.closePre (s : State) (m : Nat) : Nat := (List.range 32).foldl (fun a _ => s.addPre a) m
def State.closeDep (s : State) (m : Nat) : Nat := (List.range 32).foldl (fun a _ => s.addDep a) m

/-- The direct dependants of a rail, and all of them (R268). -/
def State.railNext (s : State) (r : Nat) : List Nat := s.rails.filter (fun d => (s.railPre d).contains r)
def State.dependants (s : State) (r : Nat) : List Nat := (bitsOf 32 (s.closeDep (2 ^ r))).filter (fun d => d != r)

/-- The demand mask (R269). -/
def State.demandMask (s : State) : Nat :=
  (List.range 32).foldl (fun a r => if s.railDemand r then a ||| 2 ^ r else a) 0

/-- Set, add to or clear demand, closed along the graph (R269). -/
def State.setDemand (s : State) (m : Nat) : State := forN 32 s (fun s r => s.wrB (SEQ_RAIL_STAT_Demand r) (m.testBit r))
def State.demandOn (s : State) (m : Nat) : State := s.setDemand (s.demandMask ||| s.closePre m)
def State.demandOff (s : State) (m : Nat) : State := s.setDemand (maskOff s.demandMask (s.closeDep m))

/-- The rails in a state. -/
def State.railMask (s : State) (st : Nat) : Nat :=
  s.rails.foldl (fun a r => if s.railState r = st then a ||| 2 ^ r else a) 0

/-- The monitor of a rail (R267): its value, none where it is BAD. -/
def State.railMon (s : State) (r : Nat) : Option Int :=
  let p := s.tmAvg (s.rd (SEQ_RAIL_CFG_MonCh r))
  if p.isBad then none else some p.int

def State.monAbove (s : State) (r : Nat) : Bool :=
  match s.railMon r with | some v => decide (v ≥ s.rdS (SEQ_RAIL_UP_THR_V r)) | none => false
def State.monBelow (s : State) (r : Nat) (thr : Int) : Bool :=
  match s.railMon r with | some v => decide (v < thr) | none => false

/-- A rail enters a state; the change is posted (R271). -/
def State.railEnter (s : State) (r st : Nat) : State :=
  let s := ((s.wr (SEQ_RAIL_STAT_State r) st).wr (SEQ_RAIL_STAT_Frames r) 0).modRail r (fun c =>
    { c with age := 0, freeFor := 0, released := false, drops := 0 })
  s.event 0x0300 r st (if st = 7 then s.rd (SEQ_RAIL_STAT_Cause r) else 0)

/-! ### Grant and withdrawal (R264, R266) -/

/-- A domain-0 point refuses a write of the sequencer: it is read only or a shelf loop owns it (R24, R266). -/
def State.ownRefuses (s : State) (id : Nat) : Bool := !writableOwn id || s.slOwns id

/-- The write of a Point rail (R266): a domain-0 point at once, or the rail's failure; another domain at its next occurrence. -/
def State.railWrite (s : State) (r : Nat) (on : Bool) : State :=
  let id := s.rd (SEQ_RAIL_PNT_Point r)
  let v := if on then s.rd (SEQ_RAIL_ONVAL_V r) else s.rd (SEQ_RAIL_OFFVAL_V r)
  if domainOf id = 0 then
    if s.ownRefuses id then s.modRail r (fun c => { c with writeFail := some 8 }) else s.writeOwn id v
  else s.modRail r (fun c => { c with write := some on, badWrites := 0, sent := none, nacked := false, writeFail := none })

/-- Grant a rail: switch its actuator on; a tripped or waiting actuator restarts (R264, R277). -/
def State.railOn (s : State) (r : Nat) : State :=
  let s := s.wrB (SEQ_RAIL_STAT_Grant r) true
  match s.railKind r with
  | 1 => s.ltGrant (s.railUnit r)
  | 2 => (s.efRegrant (s.railUnit r)).modEf (s.railUnit r) (fun c => { c with tripRep := false })
  | 3 => s.railWrite r true
  | _ => s

/-- Withdraw a rail: switch its actuator off (R264). -/
def State.railOff (s : State) (r : Nat) : State :=
  if !s.railGrant r then s
  else
    let s := s.wrB (SEQ_RAIL_STAT_Grant r) false
    match s.railKind r with
    | 1 => s.ltWithdraw (s.railUnit r)
    | 2 => s.efWithdraw (s.railUnit r)
    | 3 => s.railWrite r false
    | _ => s

/-- The actuator is ready (R264). -/
def State.railReady (s : State) (r : Nat) : Bool :=
  match s.railKind r with
  | 1 => s.ltMode (s.railUnit r) == 3
  | 2 => s.efState (s.railUnit r) == 5
  | _ => true

/-- The actuator reports failure (R275): a report since the last step, or a tile in Fault or a channel in Latched. -/
def State.railActFail (s : State) (r : Nat) : Bool :=
  match s.railKind r with
  | 1 => (s.ltc (s.railUnit r)).failRep || s.ltMode (s.railUnit r) == 6
  | 2 => (s.efc (s.railUnit r)).tripRep || s.efState (s.railUnit r) == 7
  | _ => false

/-- A failure reported since the last step. -/
def State.railNewFail (s : State) (r : Nat) : Bool :=
  match s.railKind r with
  | 1 => (s.ltc (s.railUnit r)).failRep
  | 2 => (s.efc (s.railUnit r)).tripRep
  | _ => false

/-- The actuator asks for a restart (R277). -/
def State.railRestart (s : State) (r : Nat) : Bool :=
  match s.railKind r with
  | 1 => (s.ltc (s.railUnit r)).restartReq
  | 2 => (s.efc (s.railUnit r)).restartReq
  | _ => false

/-- Capping or hold-up holds the rail's channel off (R278). -/
def State.railShed (s : State) (r : Nat) : Bool :=
  s.railKind r == 2 && (s.on (EF_STAT_ShedOff (s.railUnit r)) || s.on (EF_STAT_HuOff (s.railUnit r)))

/-- Failure reports of an actuator have been taken. -/
def State.railTaken (s : State) (r : Nat) : State :=
  match s.railKind r with
  | 1 => s.modLt (s.railUnit r) (fun c => { c with failRep := false })
  | 2 => s.modEf (s.railUnit r) (fun c => { c with tripRep := false })
  | _ => s

/-! ### SEQ_FLT_N (R286, R287) -/

/-- An external low on the line while this device does not drive it (R287). -/
def State.seqFltIn (s : State) : State :=
  let s := s.wrB SEQ_STAT_FltLevel true
  if s.seq.drive ≠ 0 then s
  else
    let s := { s with seq := { s.seq with extLow := true, extNew := true } }
    ((s.wrB SEQ_STAT_FltIn true).inc SEQ_FLT_LOW_CNT_Cnt).raise 149 0

/-- Drive the line low for a failure of a rail of OutMask (R286). -/
def State.seqDrive (s : State) (r : Nat) : State :=
  if (s.rd SEQ_FLT_OUT_MASK_Mask).testBit r then
    ({ s with seq := { s.seq with drive := 1 } }.wrB SEQ_STAT_FltDrive true).wrB SEQ_STAT_FltLevel true
  else s

/-- The drive ends (R286): MinLow whole frames have passed, and in Level mode no rail of OutMask is Failed. -/
def State.seqDriveDone (s : State) : Bool :=
  decide (s.seq.drive > max 1 (s.rd SEQ_FLT_CFG_MinLow) + 1) &&
  (!s.on SEQ_FLT_CFG_OutMode || s.railMask 7 &&& s.rd SEQ_FLT_OUT_MASK_Mask == 0)

def State.seqRelease (s : State) : State :=
  if s.seqDriveDone then
    ({ s with seq := { s.seq with drive := 0 } }.wrB SEQ_STAT_FltDrive false).wrB SEQ_STAT_FltLevel s.seq.extLow
  else s

/-- The gate on leaving Wait (R287). -/
def State.seqGate (s : State) (r : Nat) : Bool :=
  match s.rd SEQ_FLT_CFG_InAct with
  | 1 => !(s.on SEQ_STAT_FltLevel && (s.rd SEQ_FLT_IN_MASK_Mask).testBit r)
  | 2 => !s.on SEQ_STAT_FltLevel
  | _ => true

/-! ### Failure (R275, R276) -/

/-- The fault source of a cause. -/
def seqSource (cause : Nat) : Nat := match cause with | 1 => 144 | 2 => 145 | 3 => 146 | 4 => 147 | _ => 149

/-- A rail fails (R275, R276): cause, source, record, counter, the line; withdrawn except where the grant stands for ACT. -/
def State.railFail (s : State) (r cause : Nat) (withdraw : Bool) : State :=
  let st := s.railState r
  let last := ((s.rail r).writeFail).getD 0
  let s := s.wr (SEQ_RAIL_STAT_Cause r) cause
  let s := s.when withdraw (fun s => s.railOff r)
  let s := s.raise (seqSource cause)
    (r + (if cause = 3 then 32 * b2n (s.railKind r == 2) else if cause = 4 then 64 * (last % 16) else 0))
  let s := s.request 0x0201 r cause st (unsigned 32 (s.seqMon r))
  let s := (s.inc (SEQ_RAIL_FAIL_CNT_Cnt r)).modRail r (fun c => { c with writeFail := none })
  (s.railEnter r 7).seqDrive r

/-! ### Requests and the global state (R280-R284) -/

/-- Take a request in the slot in which it arrives (R281); after an off request no enable is issued (R282). -/
def State.seqTake (s : State) (q : SeqReq) : State :=
  let s := { s with seq := { s.seq with reqs := s.seq.reqs ++ [q] } }
  match q with
  | .off =>
    if s.rd SEQ_STAT_State = 1 ∨ s.rd SEQ_STAT_State = 2 then
      forN 32 s (fun s r => s.modRail r (fun c => { c with write := if c.write = some true then none else c.write }))
    else s
  | _ => s

/-- Enter a global state; Idle and Up are recorded (R280). -/
def State.seqEnter (s : State) (st : Nat) : State :=
  let s := s.wr SEQ_STAT_State st
  match st with
  | 0 => ({ s with seq := { s.seq with idleFor := 0, fresh := true } }).request 0x0203 0 0 0 0
  | 2 => s.request 0x0202 0 (s.railMask 4) s.demandMask 0
  | _ => s

/-- PowerUp with the demand set to a mask alone, closed (R281). -/
def State.seqPowerUp (s : State) (m : Nat) : State :=
  ({ (s.setDemand (s.closePre m)).wrB SEQ_STAT_OnPending false with seq := { s.seq with stored := 0 } }).seqEnter 1

/-- One request by the global state (R281, R282, R277). -/
def State.seqRequest (s : State) (q : SeqReq) : State :=
  let g := s.rd SEQ_STAT_State
  match q with
  | .on m0 =>
    let m := if m0 = 0 then s.rd SEQ_UP_MASK_Mask else m0
    let keep (s : State) : State := { s.wrB SEQ_STAT_OnPending true with seq := { s.seq with stored := m } }
    match g with
    | 0 => if s.seq.idleFor ≥ s.rd SEQ_TIMING_RestartDelay then s.seqPowerUp m else (keep s).wr SEQ_STAT_State 4
    | 1 => s.demandOn m
    | 2 => s.demandOn m
    | _ => keep s
  | .off =>
    match g with
    | 1 | 2 =>
      let s := s.setDemand 0
      let s := forEach s.rails s (fun s r =>
        s.when (s.railState r == 7 && s.railGrant r && !s.railRestart r) (fun s => s.railOff r))
      s.wr SEQ_STAT_State 3
    | 3 => s.wrB SEQ_STAT_OnPending false
    | 4 => (s.wrB SEQ_STAT_OnPending false).seqEnter 0
    | _ => s
  | .railOn m => if g = 1 ∨ g = 2 then s.demandOn m else s
  | .railOff m => s.demandOff m
  | .clear m =>
    -- a new failure at the same step prevails (R289)
    forEach (bitsOf 32 m) s (fun s r =>
      if s.railUse r && s.railState r == 7 && !s.railNewFail r then
        let s := match s.railKind r with
          | 1 => s.ltClear (s.railUnit r)
          | 2 => s.efClear (s.railUnit r)
          | _ => s
        let s := s.railOff r
        let s := match s.railKind r with
          | 2 => s.modEf (s.railUnit r) (fun c => { c with restartReq := false })
          | 1 => s.modLt (s.railUnit r) (fun c => { c with restartReq := false })
          | _ => s
        s.railEnter r 0
      else s)

/-- Every rail is Off, or Failed with its prerequisites released (R280). -/
def State.railsOff (s : State) : Bool :=
  s.rails.all (fun r => s.railState r == 0 || (s.railState r == 7 && (s.rail r).released))

/-- RestartWait ends, at the first step after RestartDelay whole frames (R18, R281). -/
def State.seqRestart (s : State) : State :=
  if s.rd SEQ_STAT_State = 4 ∧ s.seq.fresh = false ∧ s.seq.idleFor ≥ s.rd SEQ_TIMING_RestartDelay then s.seqPowerUp s.seq.stored else s

/-- The line has been high for RelFrames steps (R287): LINE-failed rails enter Off; an off request of the line is followed by
an on request with ReUp. -/
def State.seqLineHigh (s : State) : State :=
  if s.seq.highFor < max 1 (s.rd SEQ_FLT_CFG_RelFrames) then s
  else
    let s := forEach s.rails s (fun s r =>
      s.when (s.railState r == 7 && s.rd (SEQ_RAIL_STAT_Cause r) == 5) (fun s => s.railEnter r 0))
    if s.seq.lineDown then
      let s := { s with seq := { s.seq with lineDown := false } }
      s.when (s.on SEQ_FLT_CFG_ReUp && s.rd SEQ_FLT_CFG_InAct == 2) (fun s => s.seqTake (.on 0))
    else s

/-- Pass 1 of a step (R271): the requests in order of arrival, then the state's own transitions on the rail states at the
start of the step. -/
def State.seqPass1 (s : State) : State :=
  let was := s.rd SEQ_STAT_State
  let qs := s.seq.reqs
  let s := { s with seq := { s.seq with reqs := [] } }
  let busy := s.rails.any (fun r => decide (1 ≤ s.railState r ∧ s.railState r ≤ 3) && s.railDemand r)
  let off := s.railsOff
  let s := qs.foldl (fun s q => s.seqRequest q) s
  let s := s.when (was == 1 && s.rd SEQ_STAT_State == 1 && !busy) (fun s => s.seqEnter 2)
  let s := s.when (s.rd SEQ_STAT_State == 3 && off) (fun s =>
    if s.on SEQ_STAT_OnPending then
      { s.wr SEQ_STAT_State 4 with seq := { s.seq with idleFor := 0, fresh := true } }
    else s.seqEnter 0)
  s.seqRestart

/-! ### The rail transitions (R270-R279) -/

/-- Every prerequisite of a rail was Up (R270). -/
def State.preUp (s : State) (r : Nat) : Bool := (s.railPre r).all (fun p => s.railState p == 4)

/-- A rail has released its prerequisites (R273). -/
def State.railReleased (s : State) (r : Nat) : Bool :=
  decide (s.railState r ≤ 2) || (s.railState r == 7 && (s.rail r).released)

/-- Whole frames passed since a state was entered at a step (R18). -/
def State.railWhole (s : State) (r : Nat) : Nat := (s.rail r).age - 1

/-- OnDelay has passed in Delay (R272). -/
def State.railOnDue (s : State) (r : Nat) : Bool :=
  s.railUse r && s.railState r == 2 && s.railDemand r && s.preUp r &&
    decide ((s.rail r).age > s.rd (SEQ_RAIL_DELAY_OnDelay r))

/-- OffDelay has passed in Hold since the last dependant released (R273). -/
def State.railOffDue (s : State) (r : Nat) : Bool :=
  s.railUse r && s.railState r == 5 && decide ((s.rail r).freeFor > s.rd (SEQ_RAIL_DELAY_OffDelay r))

/-- RampMax has passed in Ramp without Up (R270). -/
def State.railRampLate (s : State) (r : Nat) : Bool :=
  s.railUse r && s.railState r == 3 && s.railDemand r && !(s.monAbove r && s.railReady r) &&
    decide ((s.rail r).age > s.rd (SEQ_RAIL_LIMIT_RampMax r))

/-- FallMax has passed in Fall (R274); 0 is no limit. -/
def State.railFallLate (s : State) (r : Nat) : Bool :=
  s.railUse r && s.railState r == 6 && s.rd (SEQ_RAIL_LIMIT_FallMax r) != 0 &&
    decide ((s.rail r).age > s.rd (SEQ_RAIL_LIMIT_FallMax r))

/-- DropFrames consecutive steps below DROP_THR in Up (R270). -/
def State.railDropped (s : State) (r : Nat) : Bool :=
  s.railUse r && s.railState r == 4 && s.railDemand r &&
    decide ((s.rail r).drops ≥ max 1 (s.rd (SEQ_RAIL_CFG_DropFrames r)))

/-- Grant and enter Ramp (R272). -/
def State.railRamp (s : State) (r : Nat) : State := (s.railOn r).railEnter r 3

/-- Withdraw and enter Fall (R273). -/
def State.railFall (s : State) (r : Nat) : State := (s.railOff r).railEnter r 6

/-- Fall has lasted too long: Off with Stuck (R274). -/
def State.railStuck (s : State) (r : Nat) : State := ((s.wrB (SEQ_RAIL_STAT_Stuck r) true).raise 148 r).railEnter r 0

/-- What takes a rail out of its state ahead of its own rule: a cause of failure (R275), or a shed (R278, coded 8). -/
def State.railBreak (s : State) (line : Bool) (r : Nat) : Option Nat :=
  let st := s.railState r
  let live := decide (3 ≤ st ∧ st ≤ 5)
  if live && s.railActFail r then some 3
  else if (s.rail r).writeFail.isSome && decide (3 ≤ st ∧ st ≤ 6) then some 4
  else if s.railShed r && (st == 3 || st == 4) then some 8
  else if line && live && (s.rd SEQ_FLT_IN_MASK_Mask).testBit r then some 5
  else if s.railRampLate r then some 1
  else if s.railDropped r then some 2
  else none

/-- The rule of one rail's state (R270-R279), on the states `s0` at the start of the step. -/
def State.railRule (s0 s : State) (r : Nat) : State :=
  let up := s.rd SEQ_STAT_State == 1 || s.rd SEQ_STAT_State == 2
  match s0.railState r with
  | 0 => if s.railDemand r && up then s.railEnter r 1 else s
  | 1 =>
    if !s.railDemand r then s.railEnter r 0
    else if s0.preUp r && s.seqGate r then
      if s.rd (SEQ_RAIL_DELAY_OnDelay r) = 0 then s.railRamp r else s.railEnter r 2
    else s
  | 2 =>
    if !s.railDemand r then s.railEnter r 0
    else if !s0.preUp r then s.railEnter r 1
    else if (s0.rail r).age > s.rd (SEQ_RAIL_DELAY_OnDelay r) then s.railRamp r
    else s
  | 3 =>
    if !s.railDemand r then s.railEnter r 5
    else if s.monAbove r && s.railReady r then
      (s.wr (SEQ_RAIL_RAMP_LAST_Frames r) (min 65535 (s0.rail r).age)).railEnter r 4
    else s
  | 4 => if !s.railDemand r then s.railEnter r 5 else s
  | 5 => if s0.railOffDue r then s.railFall r else s
  | 6 => if s.monBelow r (s.rdS (SEQ_RAIL_OFF_THR_V r)) then s.railEnter r 0
         else if s0.railFallLate r then s.railStuck r else s
  | 7 =>
    if s0.railRestart r && s.railGrant r then
      if s.railDemand r && s0.preUp r && up then s.railRamp r else (s.railOff r).railEnter r 0
    else s
  | 8 => if !s.railDemand r then s.railFall r
         else if !s.railShed r then (s.railEnter r 3) else s
  | _ => s

/-- Apply what breaks a rail (R275-R278): the failure or shed itself, then its dependants. -/
def State.railBroken (s0 s : State) (r cause : Nat) : State :=
  if cause = 8 then s.railEnter r 8
  else s.railFail r cause (cause != 3 || s0.railState r == 5)

/-- A dependant of a failed rail that is granted enters Hold (R276); of a shed rail it is withdrawn (R278). -/
def State.railFollow (s0 s : State) (shed : Bool) (d : Nat) : State :=
  let st := s0.railState d
  if st = 3 ∨ st = 4 ∨ st = 8 then (if shed then s.railFall d else s.railEnter d 5)
  else if st = 5 ∧ shed then s.railFall d
  else s

/-- What every step notes of a rail first (R267, R272, R273): the monitor, the frame counts, the dropout run, the release of
its dependants, its own release in Failed. -/
def State.railNote (s : State) (r : Nat) : State :=
  let st := s.railState r
  let p := s.tmAvg (s.rd (SEQ_RAIL_CFG_MonCh r))
  let reads := st == 3 || st == 4 || st == 6 || (st == 7 && !(s.rail r).released)
  let s := s.when (reads && p.isBad) (fun s => s.raise 150 r)
  let s := s.incSat (SEQ_RAIL_STAT_Frames r)
  let free := (s.railNext r).all (fun d => s.railReleased d)
  let low := s.monBelow r (s.rdS (SEQ_RAIL_DROP_THR_V r))
  s.modRail r (fun c => { c with mon := p.int, age := c.age + 1,
                                 freeFor := if st = 5 ∧ free then c.freeFor + 1 else 0,
                                 drops := if st = 4 ∧ low then c.drops + 1 else 0 })

/-- The release test of a Failed rail (R273). -/
def State.railRelease (s : State) (r : Nat) : State :=
  let late := s.rd (SEQ_RAIL_LIMIT_FallMax r) != 0 && decide ((s.rail r).age > s.rd (SEQ_RAIL_LIMIT_FallMax r))
  if s.railState r = 7 ∧ (s.monBelow r (s.rdS (SEQ_RAIL_OFF_THR_V r)) || late) then
    s.modRail r (fun c => { c with released := true })
  else s

/-- The message of a domain-3 Point rail at an occurrence (R266). -/
def State.railSend (s : State) (r : Nat) : State :=
  let id := s.rd (SEQ_RAIL_PNT_Point r)
  match (s.rail r).write, s.pinOf id with
  | some on, some i =>
    if s.railKind r = 3 ∧ domainOf id = 3 then
      let due := match (s.rail r).sent with
        | none => true
        | some k => decide (k + 1 ≥ max 1 (s.rd (SEQ_RAIL_PNT_Every r)))
      if due then
        -- no acknowledgement by the next occurrence counts as a failed write
        let miss := (s.rail r).sent.isSome && !(s.rail r).nacked
        let s := s.when miss (fun s => s.modRail r (fun c =>
          { c with badWrites := c.badWrites + 1, writeFail := if c.badWrites + 1 ≥ 3 then some 11 else c.writeFail }))
        let s := { s with tl := { s.tl with pwrites := s.tl.pwrites.filter (fun p => p.2.2 != PwUse.rail r) } }
        let s := s.modRail r (fun c => { c with sent := some 0, nacked := false })
        s.sendPwrite (s.pin i 2) (if on then s.rd (SEQ_RAIL_ONVAL_V r) else s.rd (SEQ_RAIL_OFFVAL_V r)) (.rail r)
      else s.modRail r (fun c => { c with sent := c.sent.map (· + 1) })
    else s
  | _, _ => s

/-- The end of a rail's write (R266): OK discharges it, three failures in a row fail the rail at the next step. -/
def State.railWritten (s : State) (r : Nat) (on : Bool) (st : Nat) : State :=
  if st = 0 then s.modRail r (fun c => if c.write = some on then { c with write := none, badWrites := 0, sent := none } else c)
  else s.modRail r (fun c =>
    if c.write = some on then
      { c with badWrites := c.badWrites + 1, nacked := true,
               writeFail := if c.badWrites + 1 ≥ 3 then some st else c.writeFail }
    else c)

/-! ### Adoption (R285) -/

/-- The rails that qualify, by rounds over the graph: an e-fuse rail demanded and held whose every prerequisite is of kind
None at or above UP_THR or itself adopted. -/
def State.adoptRound (s : State) (a : Nat) : Nat :=
  s.rails.foldl (fun m r =>
    if s.railKind r == 2 && s.railDemand r && (s.rd EF_HELD_Held).testBit (s.railUnit r) &&
       (s.railPre r).all (fun p => (s.railKind p == 0 && s.monAbove p) || a.testBit p)
    then m ||| 2 ^ r else m) a

def State.adoptMask (s : State) : Nat := (List.range 32).foldl (fun a _ => s.adoptRound a) 0

/-- The step of frame 1: adopt, and turn every other held rail-bound channel off. -/
def State.seqAdopt (s : State) : State :=
  let m := s.adoptMask
  let none0 := s.rails.filter (fun p => s.railKind p == 0 && (s.railMon p).isNone &&
    s.rails.any (fun r => s.railKind r == 2 && s.railDemand r && (s.rd EF_HELD_Held).testBit (s.railUnit r) &&
      (s.railPre r).contains p))
  let s := forEach none0 s (fun s p => s.raise 150 p)
  let s := forEach (bitsOf 32 m) s (fun s r =>
    let s := (s.wrB (SEQ_RAIL_STAT_Grant r) true).wrB (SEQ_RAIL_STAT_Adopted r) true
    (s.railEnter r 4).efAdopt (s.railUnit r))
  forN 16 s (fun s e =>
    if (s.rd EF_HELD_Held).testBit e && s.on (EF_CFG_RailEn e) && !m.testBit (s.rd (EF_CFG_Rail e)) then s.efGateOff e false
    else s)

/-- The first apply with AdoptHeld and held channels: PowerUp at once (R285). -/
def State.seqFirstApply (s : State) : State :=
  let s := { s with seq := { s.seq with idleFor := 0, fresh := true } }
  if s.on SEQ_TIMING_AdoptHeld && s.rd EF_HELD_Held != 0 && s.on SEQ_CTL_En then
    { s.seqPowerUp (s.rd SEQ_UP_MASK_Mask) with seq := { s.seq with adopt := 2 } }
  else s

/-! ### The step (R271) -/

/-- One step of the sequencer. -/
def State.seqStep (s : State) (lineLow : Bool) : State :=
  if !s.sense.applied then s
  else
    -- counts of whole frames, and the line
    let s := { s with seq := { s.seq with
      fresh := false, idleFor := if s.seq.fresh then s.seq.idleFor else s.seq.idleFor + 1,
      drive := if s.seq.drive = 0 then 0 else s.seq.drive + 1 } }
    let s := if lineLow && s.seq.drive == 0 && !s.seq.extLow then s.seqFltIn else s
    let s := { s with seq := { s.seq with extLow := lineLow && s.seq.drive == 0 } }
    let s := s.seqRelease
    let low := s.seq.drive != 0 || s.seq.extLow
    let s := s.wrB SEQ_STAT_FltLevel low
    let ext := s.seq.extNew || s.seq.extLow
    let begun := s.seq.extNew
    let s := { s with seq := { s.seq with extNew := false, highFor := if low then 0 else s.seq.highFor + 1 } }
    if !s.on SEQ_CTL_En then { s with seq := { s.seq with reqs := [] } }
    else
      let s := forEach s.rails s (fun s r => s.railNote r)
      let start := s
      let s := s.seqLineHigh
      let s := s.when (begun && s.rd SEQ_FLT_CFG_InAct == 2) (fun s =>
        { s with seq := { s.seq with lineDown := true } }.seqTake .off)
      let s := s.seqPass1
      let skip := s.seq.adopt == 1
      let s := s.when skip (fun s => s.seqAdopt)
      let s := { s with seq := { s.seq with adopt := s.seq.adopt - 1 } }
      let s0 := s
      -- a rail that a request, the line or adoption has moved in this step moves no further
      let moved (r : Nat) : Bool := start.railState r != s0.railState r
      let line := ext && s.rd SEQ_FLT_CFG_InAct == 1
      let broken := (s0.rails.filter (fun r => !moved r)).filterMap (fun r => (s0.railBreak line r).map (fun c => (r, c)))
      let hit (r : Nat) : Bool := broken.any (fun b => b.1 == r)
      let s := forEach broken s (fun s b => s0.railBroken s b.1 b.2)
      let s := forEach s0.rails s (fun s r => s.railTaken r)
      let shedDeps := (broken.filter (fun b => b.2 == 8)).foldl (fun a b => a ++ s0.dependants b.1) []
      let failDeps := (broken.filter (fun b => b.2 != 8)).foldl (fun a b => a ++ s0.dependants b.1) []
      let s := forEach s0.rails s (fun s r =>
        if hit r || moved r then s
        else if shedDeps.contains r then s0.railFollow s true r
        else if failDeps.contains r then
          -- a grant due in this step is not given under a failed prerequisite
          if s0.railState r = 5 ∨ s0.railState r = 6 ∨ s0.railState r = 0 ∨ s0.railState r = 7 then start.railRule s r
          else s0.railFollow s false r
        else start.railRule s r)
      let s := forEach s.rails s (fun s r => s.railRelease r)
      -- a domain-0 write that its owner refused fails the rail in this step (R266)
      let s := forEach s.rails s (fun s r =>
        s.when ((s.rail r).writeFail.isSome && domainOf (s.rd (SEQ_RAIL_PNT_Point r)) == 0 &&
                s.railState r != 7) (fun s => s.railFail r 4 true))
      forEach s.rails s (fun s r => s.railSend r)

/-- SEQUENCER_STEP (R271): the level of SEQ_FLT_N as another part drives it is the command's operand. -/
def execSequencerStep (lineLow : Bool) (s : State) : Res := done s (s.stage (fun s => s.seqStep lineLow))

/-- RAIL_ONDELAY_EXPIRY (R272). -/
def execRailOndelayExpiry (r : Fin 32) (s : State) : Res := done s (if s.railOnDue r then s.railRamp r else s)

/-- RAIL_OFFDELAY_EXPIRY (R273). -/
def execRailOffdelayExpiry (r : Fin 32) (s : State) : Res := done s (if s.railOffDue r then s.railFall r else s)

/-- RAIL_RAMP_TIMEOUT (R270). -/
def execRailRampTimeout (r : Fin 32) (s : State) : Res :=
  done s (if s.railRampLate r then forEach (s.dependants r) (s.railFail r 1 true) (fun t d => s.railFollow t false d) else s)

/-- RAIL_FALL_TIMEOUT (R274). -/
def execRailFallTimeout (r : Fin 32) (s : State) : Res := done s (if s.railFallLate r then s.railStuck r else s)

/-- RAIL_DROPOUT (R270). -/
def execRailDropout (r : Fin 32) (s : State) : Res :=
  done s (if s.railDropped r then forEach (s.dependants r) (s.railFail r 2 true) (fun t d => s.railFollow t false d) else s)

/-- RESTART_DELAY_EXPIRY (R281). -/
def execRestartDelayExpiry (s : State) : Res := done s s.seqRestart

/-- SEQ_FLT_IN (R287). -/
def execSeqFltIn (s : State) : Res := done s s.seqFltIn

/-- SEQ_FLT_RELEASE (R286). -/
def execSeqFltRelease (s : State) : Res := done s s.seqRelease

/-- SEQ_FLT_LINE_HIGH (R287). -/
def execSeqFltLineHigh (s : State) : Res := done s s.seqLineHigh

/-! ### SEQ_CMD and register writes (R284, R288) -/

/-- The first status of R288 that applies before the action. -/
def State.seqCheck (s : State) (p : List Byte) : Status :=
  let act := numAt p 0 1
  let m := numAt p 4 4
  if !s.on SEQ_CTL_En then .disabled
  else if act > 5 ∨ zeroAt p 1 3 = false ∨ zeroAt p 8 32 = false ∨ (bitsOf 32 m).any (fun r => !s.railUse r) ∨
      (m ≠ 0 ∧ (act = 1 ∨ act = 5)) ∨ (m = 0 ∧ (act = 2 ∨ act = 3 ∨ act = 4)) then .refusedState
  else if (act = 0 ∨ act = 2) ∧ (s.rd HU_STAT_State = 2 ∨ s.rd HU_STAT_State = 3) then .refusedState
  else if act = 2 ∧ (s.rd SEQ_STAT_State = 0 ∨ s.rd SEQ_STAT_State = 3 ∨ s.rd SEQ_STAT_State = 4) then .refusedState
  else .ok

/-- The result word of SEQ_CMD (R288). -/
def State.seqResult (s : State) : Nat := s.railMask 4 + 2 ^ 32 * s.railMask 7

/-- Execute a SEQ_CMD of one action (R288): the request is taken in this slot and the command completes. -/
def State.seqCmd (s : State) (tag act : Nat) : State :=
  match s.ready tag 0x15 with
  | none => s
  | some c =>
    if min (numAt c.payload 0 1) 5 != act then s
    else
      let s := s.modCmd tag (fun c => { c.ran [.start] with commit := true })
      match s.seqCheck c.payload with
      | .ok =>
        let m := numAt c.payload 4 4
        let s := match act with
          | 0 => s.seqTake (.on m)
          | 1 => s.seqTake .off
          | 2 => s.seqTake (.railOn m)
          | 3 => s.seqTake (.railOff m)
          | 4 => s.seqTake (.clear m)
          | _ => s
        s.complete tag .ok s.seqResult
      | st => s.complete tag st s.seqResult

/-- SEQ_POWER_UP (R281). -/
def execSeqPowerUp (tag : Fin 256) (s : State) : Res := done s (s.seqCmd tag 0)
/-- SEQ_POWER_DOWN (R282). -/
def execSeqPowerDown (tag : Fin 256) (s : State) : Res := done s (s.seqCmd tag 1)
/-- SEQ_RAIL_ON (R269). -/
def execSeqRailOn (tag : Fin 256) (s : State) : Res := done s (s.seqCmd tag 2)
/-- SEQ_RAIL_OFF (R269). -/
def execSeqRailOff (tag : Fin 256) (s : State) : Res := done s (s.seqCmd tag 3)
/-- SEQ_CLEAR (R277). -/
def execSeqClear (tag : Fin 256) (s : State) : Res := done s (s.seqCmd tag 4)
/-- SEQ_READ (R288). -/
def execSeqRead (tag : Fin 256) (s : State) : Res := done s (s.seqCmd tag 5)

/-- A write of SEQ_CTL.En (R284): 0 is ignored outside Idle; in Idle nothing runs that could wait for the boundary (R63). -/
def State.seqEnable (s : State) (en : Bool) : State :=
  if en || s.rd SEQ_STAT_State == 0 then s.wrB SEQ_CTL_En en else s

/-- SEQ_EN_WRITE (R284). -/
def execSeqEnWrite (en : Bool) (s : State) : Res := done s (s.seqEnable en)

/-- SEQ_RAIL_CLR (R277). -/
def execSeqRailClr (r : Fin 32) (s : State) : Res := done s (s.seqTake (.clear (2 ^ r.val)))

end Sys2Proof.Machine
end

