-- ==== Sys2Proof/Machine/Feed.lean ====
section
/-!
DEFINITION. Remote feed, power capping and hold-up (chapter 07): pair and group loss, the estimator of the copper, the
perturbation, the wrong side, the demand law and the actuator walk, allocation across a shelf set, the energy predictor and
the hold-up manager, and CAP_SET.
-/
namespace Sys2Proof.Machine

def State.fgc (s : State) (g : Nat) : FgSt := nth s.cap.fg g
def State.modFg (s : State) (g : Nat) (f : FgSt → FgSt) : State := { s with cap := { s.cap with fg := upd s.cap.fg g f } }
def State.modCap (s : State) (f : CapSt → CapSt) : State := { s with cap := f s.cap }

/-- The enabled groups of this home (R200). -/
def State.groups (s : State) : List Nat := (List.range 8).filter (fun g => s.on (FG_CFG_En g))

/-! ### Inputs (R200, R201) -/

/-- The current channel of a pair. -/
def State.fgPairCh (s : State) (g p : Nat) : Nat := bits (s.word (FG_PAIR_CH g (p / 4))).toNat (8 * (p % 4) + 7) (8 * (p % 4))

def State.fgPairs (s : State) (g : Nat) : List Nat := bitsOf 8 (s.rd (FG_PAIRS_PairEn g))
def State.fgPresent (s : State) (g : Nat) : List Nat := bitsOf 8 (s.rd (FG_STAT_PairPresent g))

/-- The latest sample of a telemetry channel (point f = 3), none where it is BAD. -/
def State.tmLatest (s : State) (k : Nat) : Option Int :=
  let p := s.cached (0x1000 + 16 * k + 3)
  if p.isBad then none else some p.int

/-- A pair's latest sample lies below PairLossI. -/
def State.pairLow (s : State) (g p : Nat) : Bool :=
  match s.tmLatest (s.fgPairCh g p) with
  | some v => decide (v < s.rdS (FG_PAIR_LOSS_I_V g))
  | none => false

/-- The pairs lost in this stage (R201). -/
def State.pairsGone (s : State) (g : Nat) : List Nat :=
  let pres := s.fgPresent g
  pres.filter (fun p => s.pairLow g p && pres.any (fun o => o != p && !s.pairLow g o))

/-- A lost pair's average is good for its return (R201). -/
def State.pairGood (s : State) (g p : Nat) : Bool :=
  let v := s.tmAvg (s.fgPairCh g p)
  !v.isBad && decide (v.int ≥ 2 * s.rdS (FG_PAIR_LOSS_I_V g))

/-! ### The estimator (R204, R205, R216) -/

def q16f (v : Int) : Nat := fofQ v 16

/-- λ = 1 − 2^−LamExp in binary32. -/
def State.fgLam (s : State) (g : Nat) : Nat :=
  f32Round (((2 ^ s.rd (FG_EST_LamExp g) : Nat) : Int) - 1) (2 ^ s.rd (FG_EST_LamExp g)) 0

/-- A restart of the covariance and the frame count (R204). -/
def State.fgRestart (s : State) (g : Nat) : State :=
  let a := s.rdS (FG_VS_NOM_V g)
  let b := s.rdS (FG_R_NOM_V g)
  (s.modFg g (fun c => { c with p00 := f32Round (a * a) 100 (-32), p01 := 0, p11 := f32Round (b * b) 4 (-32), used := 0 })).inc
    (FG_RESTART_CNT_Cnt g)

/-- A restart from V_s,nom and R_nom (R204, R205). -/
def State.fgRestartNom (s : State) (g : Nat) : State :=
  (s.modFg g (fun c => { c with vs := q16f (s.rdS (FG_VS_NOM_V g)), r := q16f (s.rdS (FG_R_NOM_V g)) })).fgRestart g

/-- One update of the recursive least squares (R204), each operation rounded to binary32 in the order written. -/
def State.fgUpdate (s : State) (g y i : Nat) : State :=
  let c := s.fgc g
  let lam := s.fgLam g
  let res := fsub y (fsub c.vs (fmul i c.r))
  if fless (q16f (s.rdS (FG_RES_MAX_V g))) (fabs res) then
    (s.modFg g (fun c => { c with vs := fadd y (fmul c.r i) })).fgRestart g
  else
    let a0 := fsub c.p00 (fmul i c.p01)
    let a1 := fsub c.p01 (fmul i c.p11)
    let den := fadd lam (fsub a0 (fmul i a1))
    let k0 := fdiv a0 den
    let k1 := fdiv a1 den
    let one := fsub (fofQ 1 0) lam
    let m := fadd (fmul lam c.m) (fmul one i)
    let d := fsub i m
    s.modFg g (fun c => { c with
      vs := fadd c.vs (fmul k0 res), r := fadd c.r (fmul k1 res),
      p00 := fdiv (fsub c.p00 (fmul k0 a0)) lam, p01 := fdiv (fsub c.p01 (fmul k0 a1)) lam,
      p11 := fdiv (fsub c.p11 (fmul k1 a1)) lam,
      m := m, v := fadd (fmul lam c.v) (fmul one (fmul d d)), used := c.used + 1 })

/-- A binary32 value lies between two Q16.16 registers. -/
def fWithin (x : Nat) (lo hi : Int) : Bool := ffin x && !fless x (q16f lo) && !fless (q16f hi) x

/-- Exc (R205): v at least EXC_MIN squared. -/
def State.fgExc (s : State) (g mul : Nat) : Bool :=
  let e := s.rdS (FG_EXC_MIN_V g)
  ffin (s.fgc g).v && !fless (s.fgc g).v (f32Round (e * e * (mul : Int)) 1 (-32))

/-- The estimate in force (R205, R216): the valid one, the last valid one, or the fallback. -/
def State.fgForce (s : State) (g : Nat) : Nat × Nat :=
  let c := s.fgc g
  if s.on (FG_STAT_EstValid g) then (c.vs, c.r)
  else c.last.getD (q16f (s.rdS (FG_VS_MIN_V g)), q16f (s.rdS (FG_R_MAX_V g)))

/-- Judge the estimate (R205): bounds, excitation, frames; what is in force is shown. -/
def State.fgJudge (s : State) (g : Nat) (updated : Bool) : State :=
  let inV (s : State) := fWithin (s.fgc g).vs (s.rdS (FG_VS_MIN_V g)) (s.rdS (FG_VS_MAX_V g))
  let inR (s : State) := fWithin (s.fgc g).r (s.rdS (FG_R_MIN_V g)) (s.rdS (FG_R_MAX_V g))
  let s := if updated && !(inV s && inR s) then
      ((s.raise 160 (g + (if inV s then 8 else 0))).wrB (FG_STAT_RangeErr g) true).fgRestartNom g
    else s
  let exc := s.fgExc g 1
  let ok := decide ((s.fgc g).used ≥ s.rd (FG_EST_EstMinFrames g)) && exc && inV s && inR s
  let s := (s.wrB (FG_STAT_Exc g) exc).wrB (FG_STAT_EstValid g) ok
  let s := s.when ok (fun s => (s.modFg g (fun c => { c with last := some (c.vs, c.r) })).wrB (FG_STAT_Scaled g) false)
  let s := s.wrB (FG_STAT_Held g) (!ok && (s.fgc g).last.isSome)
  let (v, r) := s.fgForce g
  (s.wrS (FG_VS_EST_V g) (ftoQ 32 16 v)).wrS (FG_R_EST_V g) (ftoQ 32 16 r)

/-- Scale the estimate for lost or returned pairs (R216), `num`/`den` in 24 fractional bits: the estimator's R and the estimate
held in force; then restart, keeping V_s. -/
def State.fgScale (s : State) (g : Nat) (f : Nat → Nat) : State :=
  let s := s.modFg g (fun c => { c with r := f c.r, last := c.last.map (fun l => (l.1, f l.2)) })
  (s.wrB (FG_STAT_Scaled g) true).fgRestart g

/-- R / (1 − Σg), saturating at R_MAX; R_MAX when Σg reaches 1 (R216). -/
def State.fgScaleLoss (s : State) (g sum : Nat) : State :=
  let rmax := q16f (s.rdS (FG_R_MAX_V g))
  s.fgScale g (fun r =>
    if sum ≥ 2 ^ 24 then rmax
    else
      let x := fdiv r (f32Round (((2 ^ 24 : Nat) : Int) - sum) 1 (-24))
      if fless rmax x then rmax else x)

/-- R × (1 − g_p) for a returning pair (R216). -/
def State.fgScaleBack (s : State) (g share : Nat) : State :=
  s.fgScale g (fun r => fmul r (f32Round (((2 ^ 24 : Nat) : Int) - share) 1 (-24)))

/-! ### Pair and group loss (R201-R203) -/

/-- A pair is lost (R201). -/
def State.pairLose (s : State) (g p : Nat) : State :=
  let s := s.wr (FG_STAT_PairPresent g) (setBit (s.rd (FG_STAT_PairPresent g)) p false)
  ((s.modFg g (fun c => { c with retFor := upd c.retFor p (fun _ => 0) })).inc (FG_PAIR_LOSS_CNT_Cnt g)).raise 161 (g + 256 * p)

/-- A lost pair has been good for 64 frames and returns (R201, R216). -/
def State.pairBackDue (s : State) (g p : Nat) : Bool :=
  s.on (FG_CFG_En g) && (s.fgPairs g).contains p && !(s.fgPresent g).contains p && decide ((s.fgc g).retFor.getD p 0 ≥ 64)

def State.pairBack (s : State) (g p : Nat) : State :=
  let s := s.wr (FG_STAT_PairPresent g) (setBit (s.rd (FG_STAT_PairPresent g)) p true)
  (s.modFg g (fun c => { c with retFor := upd c.retFor p (fun _ => 0) })).fgScaleBack g ((s.fgc g).shares.getD p 0)

/-- The lost group has been good for 16 frames and returns with a restart (R203). -/
def State.groupBackDue (s : State) (g : Nat) : Bool :=
  s.on (FG_CFG_En g) && s.on (FG_STAT_Lost g) && decide ((s.fgc g).okFor ≥ 16)

def State.groupBack (s : State) (g : Nat) : State :=
  ((s.wrB (FG_STAT_Lost g) false).modFg g (fun c => { c with okFor := 0 })).fgRestart g

/-- The shares (R202), shown in UQ0.8. -/
def State.fgShow (s : State) (g : Nat) : State :=
  forN 2 s (fun s w => s.wr (FG_SHARE_S g w) ((List.range 4).foldl (fun a j =>
    a + min 255 (divRnd ((s.fgc g).shares.getD (4 * w + j) 0 * 256 : Nat) (2 ^ 24)).toNat * 256 ^ j) 0))

/-- Update the shares of the present pairs (R202). -/
def State.fgShares (s : State) (g : Nat) (i : Int) : State :=
  forEach (s.fgPresent g) s (fun s p =>
    let ip := (s.tmAvg (s.fgPairCh g p)).int
    s.modFg g (fun c => { c with shares := upd c.shares p (fun x =>
      satU 32 (divRndI ((x : Int) * 255 * i + ip * ((2 ^ 24 : Nat) : Int)) (256 * i))) }))

/-- Every enabled pair's share is 1/N (R202). -/
def State.fgEven (s : State) (g : Nat) : State :=
  let n := (s.fgPairs g).length
  s.modFg g (fun c => { c with
    shares := (List.range 8).map (fun p => if (s.fgPairs g).contains p then (divRnd (2 ^ 24 : Nat) (max 1 n)).toNat else 0),
    retFor := List.replicate 8 0 })

/-- The estimator stage of one group (R201-R205, R216). -/
def State.fgStage (s : State) (g : Nat) : State :=
  let s := if (s.fgc g).estReq then (s.modFg g (fun c => { c with estReq := false })).fgRestartNom g else s
  let vr := s.tmAvg (s.rd (FG_CFG_VrCh g))
  let good := vr.good && (s.fgPairs g).all (fun p => (s.tmAvg (s.fgPairCh g p)).good)
  -- pairs
  let gone := s.pairsGone g
  let sum := gone.foldl (fun a p => a + (s.fgc g).shares.getD p 0) 0
  let s := forEach ((s.fgPairs g).filter (fun p => !(s.fgPresent g).contains p)) s (fun s p =>
    s.modFg g (fun c => { c with retFor := upd c.retFor p (fun n => if s.pairGood g p then n + 1 else 0) }))
  let back := (s.fgPairs g).filter (fun p => s.pairBackDue g p)
  let s := forEach gone s (fun s p => s.pairLose g p)
  let s := s.when (!gone.isEmpty) (fun s => s.fgScaleLoss g sum)
  let s := forEach back s (fun s p => s.pairBack g p)
  -- the group
  let latch := (s.fgc g).latch
  let s := s.modFg g (fun c => { c with latch := false })
  let i := (s.fgPresent g).foldl (fun a p => a + (s.tmAvg (s.fgPairCh g p)).int) (0 : Int)
  let low := match s.tmLatest (s.rd (FG_CFG_VrCh g)) with
    | some v => decide (v < s.rdS (FG_VIN_LOSS_V g)) | none => false
  let s :=
    if s.on (FG_STAT_Lost g) then
      let ok := !latch && !vr.isBad && decide (vr.int ≥ s.rdS (FG_VIN_OK_V g))
      let s := s.modFg g (fun c => { c with okFor := if ok then c.okFor + 1 else 0 })
      if s.groupBackDue g then s.groupBack g else s
    else if latch || low || (s.fgPresent g).isEmpty then
      ((s.wrB (FG_STAT_Lost g) true).modFg g (fun c => { c with okFor := 0 })).raise 162 g
    else s
  let lost := s.on (FG_STAT_Lost g)
  let p := if lost then 0 else satS 32 (divRnd (vr.int * i) 65536)
  let s := s.modFg g (fun c => { c with prev := if c.seen then some (c.i, s.rdS (FG_PDRAW_V g)) else none, i := i,
                                        vr := vr.int, vrOk := !vr.isBad, seen := true })
  let s := s.wrS (FG_PDRAW_V g) p
  if lost then s.fgShow g
  else
    let s := s.when (good && decide (i ≥ 4 * s.rdS (FG_PAIR_LOSS_I_V g)) && decide (0 < i)) (fun s => s.fgShares g i)
    let used := good && gone.isEmpty && back.isEmpty
    let s := s.when used (fun s => s.fgUpdate g (q16f vr.int) (q16f i))
    (s.fgJudge g used).fgShow g

/-- The estimator stage, and in slot 2 the report of a home that is not the shelf master (R219). -/
def State.feedStage (s : State) : State :=
  let s := forEach s.groups s (fun s g => s.fgStage g)
  if s.on GLB_STAT_ShelfMaster || s.rd TL_CFG_SetSize ≤ 1 || s.groups.isEmpty then s
  else
    let budget (g : Nat) : Nat := s.rd (FG_BUDGET_V g)
    s.linkSend s.tl.master (.feedReport (s.groups.map (fun g =>
      { group := Fin.ofNat 8 g, vs := s.word (FG_VS_EST g), r := s.word (FG_R_EST g), pdraw := s.word (FG_PDRAW g),
        budget := BitVec.ofNat 32 (budget g), flags := s.word (FG_STAT g) })))

/-- The boundary: sample the loss latch of each group, then clear it (R203). -/
def State.feedBoundary (s : State) : State :=
  forEach s.groups s (fun s g =>
    if s.on (FG_PAIRS_LossCmpEn g) then
      let n := s.rd (FG_PAIRS_LossCmp g)
      let s := s.modFg g (fun c => { c with latch := c.latch || s.latched n false })
      (s.latchClear n false).updTrips
    else s)

/-! ### Actuators of the set (R212, R217) -/

/-- An actuator of a device of the set: kind 0 throttle line, 1 POL entry, 2 shed group. -/
structure Act where
  pos : Nat
  kind : Nat
  idx : Nat
  fg : Nat
  home : Nat
  sav : Nat
  prio : Nat
deriving DecidableEq, Repr

/-- An entry's number as CAP_ACT_FAIL names it (R234), and its key in the set. -/
def actEntry (kind idx : Nat) : Nat := match kind with | 0 => idx | 1 => 8 + idx | _ => 64 + idx
def Act.key (a : Act) : Nat := 128 * a.pos + actEntry a.kind a.idx

/-- Shedding order (R212). -/
def Act.order (a : Act) : Nat :=
  match a.kind with
  | 0 => a.idx
  | 1 => 1000 + 8 * a.idx + a.pos
  | _ => 3000 + 1000 * a.prio + 8 * a.idx + a.pos

/-- This device's own actuators (R212, R217). -/
def State.ownActs (s : State) : List Act :=
  let me := s.me
  ((List.range 8).filter (fun t => s.on (CAP_THR_CFG_En t))).map (fun t =>
    ⟨me, 0, t, (List.range 8).foldl (fun a g => if bit (s.rd (FG_ACT_ThrMask g)) t then a ||| 2 ^ g else a) 0, me,
     s.rd (CAP_THR_CFG_Saving t), 0⟩) ++
  ((List.range 24).filter (fun i => s.on (CAP_POL_CFG_En i))).map (fun i =>
    ⟨me, 1, i, s.rd (CAP_POL_CFG_FgMask i), s.rd (CAP_POL_CFG_HomePos i), s.rd (CAP_POL_SAV_Saving i), 0⟩) ++
  ((List.range 32).filter (fun g => s.on (CAP_SG_CFG_EfMask g))).map (fun g =>
    ⟨me, 2, g, s.rd (CAP_SG_CFG_FgMask g), s.rd (CAP_SG_CFG_HomePos g), s.rd (CAP_SG_SAV_Saving g), s.rd (CAP_SG_CFG_Prio g)⟩)

/-- The actuators of every table this device holds. -/
def State.setActs (s : State) : List Act :=
  s.ownActs ++ (s.tl.actTables.map (fun t => t.2.map (fun e =>
    (⟨t.1, e.kind.val, e.index.val, e.fgMask.toNat, e.home.val, e.saving.toNat, e.prio.toNat⟩ : Act)))).foldl (· ++ ·) []

/-- The table as a message (R217). -/
def State.actTable (s : State) : List ActEntry :=
  s.ownActs.map (fun a => { kind := Fin.ofNat 3 a.kind, index := Fin.ofNat 32 a.idx, fgMask := BitVec.ofNat 8 a.fg,
                            home := Fin.ofNat 8 a.home, saving := BitVec.ofNat 16 a.sav, prio := BitVec.ofNat 4 a.prio })

def insertAct (a : Act) (l : List Act) : List Act :=
  match l with
  | [] => [a]
  | b :: t => if a.order < b.order then a :: b :: t else b :: insertAct a t

/-- The binary actuators of a group in shedding order. -/
def State.actsOf (s : State) (home g : Nat) : List Act :=
  (s.setActs.filter (fun a => a.home == home && bit a.fg g)).foldl (fun l a => insertAct a l) []

/-- The capacity of peak-shaving in watts and V_bus (R213); 0 where it is not available. -/
def State.shaveCap (s : State) : Int × Int :=
  let m := s.rd CAP_SHAVE_CFG_Loop
  let v := s.tmAvg (s.rd (SL_BAT_CH_VBus m))
  if s.on CAP_SHAVE_CFG_En && s.slBattery m && s.slMode m == 2 && s.rd (SL_STAT_Stage m) != 5 && s.on (SL_STAT_SocValid m) &&
     decide (s.rdS (SL_BAT_SOC_V m) ≥ s.rdS CAP_SHAVE_SOCMIN_V) && !v.isBad && decide (0 < v.int) then
    (divRnd (v.int * s.rdS CAP_SHAVE_IMAX_V) 65536, v.int)
  else (0, 0)

/-- Shaving serves a group of this home with ShaveEn. -/
def State.shaves (s : State) (home g : Nat) (cap : Int) : Bool := home == s.me && s.on (FG_ACT_ShaveEn g) && decide (0 < cap)

/-- The actuators of a group in order, none standing for peak-shaving (R212). -/
def State.walkList (s : State) (home g : Nat) (cap : Int) : List (Option Act) :=
  let l := s.actsOf home g
  (l.filter (fun a => a.kind < 2)).map some ++ (if s.shaves home g cap then [none] else []) ++
    (l.filter (fun a => a.kind = 2)).map some

def savOf (cap : Int) (a : Option Act) : Int := match a with | some x => 65536 * (x.sav : Int) | none => cap

/-- The walk of R212: the entries engaged, and the saving taken from shaving. -/
def actWalk (l : List (Option Act)) (d cap : Int) : List Nat × Int :=
  let r := l.foldl (fun (st : Int × List Nat × Int) a =>
    let (c, w, sh) := st
    match a with
    | none => let t := clampI 0 cap (d - c); (c + t, w, t)
    | some x => (c + 65536 * (x.sav : Int), if c < d then w ++ [x.key] else w, sh)) (0, [], 0)
  (r.2.1, r.2.2)

def State.demOf (s : State) (home g : Nat) : GrpDem := (assoc s.cap.dem (8 * home + g)).getD {}
def State.setDem (s : State) (home g : Nat) (d : GrpDem) : State :=
  let s := s.modCap (fun c => { c with dem := assocPut c.dem (8 * home + g) d })
  if home = s.me then s.wrS (FG_DEMAND_V g) (satS 32 d.d) else s

/-! ### The effect of engaged entries (R212, R213, R223) -/

/-- Throttle lines driven by this device. -/
def State.thrDrive (s : State) : Nat :=
  (s.cap.eng.foldl (fun a e => if e.1 / 128 = s.me ∧ e.1 % 128 < 8 then a ||| 2 ^ (e.1 % 128) else a) 0) |||
    s.cap.huThr ||| s.cap.mirThr

/-- Bring the throttle lines into their state; a change on the active is told to the peer by THROTTLE in the same slot (R392). -/
def State.updThr (s : State) : State :=
  let d := s.thrDrive
  if s.rd CAP_STAT_ThrDrive = d then s
  else
    let s := s.wr CAP_STAT_ThrDrive d
    if s.on RED_CFG_PairEn && s.on GLB_STAT_Active then s.linkSend (s.rd RED_CFG_PeerPos) (.bytes 0x04 (leBytes 1 d)) else s

/-- Own shed groups engaged by capping. -/
def State.sgEng (s : State) : Nat :=
  s.cap.eng.foldl (fun a e => if e.1 / 128 = s.me ∧ 64 ≤ e.1 % 128 then a ||| 2 ^ (e.1 % 128 - 64) else a) 0

/-- The channels of a set of shed groups. -/
def State.sgChans (s : State) (m : Nat) : Nat := (bitsOf 32 m).foldl (fun a g => a ||| s.rd (CAP_SG_CFG_EfMask g)) 0

/-- A restore request is refused (R26, R234): a higher layer or the channel's protection holds it off. -/
def State.restoreRefused (s : State) (e : Nat) : Bool :=
  s.on (EF_STAT_HuOff e) || s.efState e == 6 || s.efState e == 7

/-- Bring the channels' capping and hold-up requests into their state; a restore that is refused raises CAP_ACT_FAIL. -/
def State.updSheds (s : State) : State :=
  let cap := s.sgChans s.sgEng
  let hu := s.sgChans (s.cap.huShed.foldl (fun a e => a ||| 2 ^ e.1) 0)
  let was := s.rd CAP_SHED_STATE_Sg
  let freed := maskOff was s.sgEng
  let s := s.wr CAP_SHED_STATE_Sg s.sgEng
  let s := forN 16 s (fun s e => if s.on (EF_STAT_HuOff e) = hu.testBit e then s else s.efHuOff e (hu.testBit e))
  let s := forEach (bitsOf 32 freed) s (fun s g =>
    s.when ((bitsOf 16 (s.rd (CAP_SG_CFG_EfMask g))).any (fun e => !cap.testBit e && s.restoreRefused e))
      (fun s => s.raise 166 (64 + g)))
  forN 16 s (fun s e => if s.on (EF_STAT_ShedOff e) = cap.testBit e then s else s.efShed e (cap.testBit e))

/-- The claim of engaged POL entries on a tile (R212): the least reduced target. -/
def State.polTarget (s : State) (n : Nat) : Option Int :=
  let l := s.cap.eng.filterMap (fun e =>
    let i := e.1 % 128 - 8
    if e.1 / 128 = s.me ∧ 8 ≤ e.1 % 128 ∧ e.1 % 128 < 32 ∧ s.rd (CAP_POL_CFG_Tile i) = n then some (s.rdS (CAP_POL_VRED_V i))
    else none)
  l.foldl (fun a v => match a with | none => some v | some x => some (min x v)) none

/-- A claim on a tile is refused by its owner (R234): the tile is disabled or in Fault. -/
def State.claimRefused (s : State) (n : Nat) : Bool := !s.on (LT_CTL_En n) || s.ltMode n == 6

/-- The claims of the POL entries (R212): an engaged entry's reduced target; after release the owner's stored target, until the
frame after the reference reaches it. -/
def State.updPol (s : State) (fresh gone : List Nat) : State :=
  let tile (s : State) (i : Nat) : Nat := s.rd (CAP_POL_CFG_Tile i)
  let s := forEach fresh s (fun s i => s.when (s.claimRefused (tile s i)) (fun s => s.raise 166 (8 + i)))
  -- entries already moving back: release the claim once the reference has arrived
  let s := forEach s.cap.polRel s (fun s i =>
    let n := tile s i
    if (s.polTarget n).isSome then s.modCap (fun c => { c with polRel := c.polRel.filter (· != i) })
    else if s.ltRef n = s.ltCode n (s.ltc n).tgtV then
      (s.modCap (fun c => { c with polRel := c.polRel.filter (· != i) })).ltClaim n none
    else s.ltClaim n (some (s.ltc n).tgtV))
  let s := forEach gone s (fun s i =>
    let n := tile s i
    match s.polTarget n with
    | some v => s.ltClaim n (some v)
    | none => (s.modCap (fun c => { c with polRel := c.polRel ++ [i] })).ltClaim n (some (s.ltc n).tgtV))
  forN 24 s (fun s n => match s.polTarget n with
    | some v => if (s.ltc n).claim = some v then s else s.ltClaim n (some v)
    | none => s)

/-- Replace the engaged entries of the set, keeping the frame of those that stay; own ones take effect (R212). -/
def State.engage (s : State) (want : List Nat) : State :=
  let old := s.cap.eng
  let new := want.foldl (fun l k => assocPut l k ((assoc old k).getD s.frame)) []
  let pol (l : List (Nat × Nat)) : List Nat := l.filterMap (fun e =>
    if e.1 / 128 = s.me ∧ 8 ≤ e.1 % 128 ∧ e.1 % 128 < 32 then some (e.1 % 128 - 8) else none)
  let p0 := pol old
  let p1 := pol new
  let s := s.modCap (fun c => { c with eng := new })
  ((s.updThr).updSheds).updPol (p1.filter (fun i => !p0.contains i)) (p0.filter (fun i => !p1.contains i))

/-! ### Perturbation (R206) -/

/-- The actuator of a group's perturbation is engaged for capping: the wave pauses. -/
def State.pertPaused (s : State) (g : Nat) : Bool :=
  if s.on (FG_CFG_PertSrc g) then
    (s.polTarget (s.rd (FG_CFG_PertUnit g))).isSome ||
      s.cap.polRel.any (fun i => s.rd (CAP_POL_CFG_Tile i) == s.rd (FG_CFG_PertUnit g))
  else decide (0 < s.cap.shaveA)

/-- The half-period has passed (R206). -/
def State.pertDue (s : State) (g : Nat) : Bool :=
  s.on (FG_STAT_PertOn g) && !s.pertPaused g && decide ((s.fgc g).pertFor ≥ max 1 (s.rd (FG_PERT_Half g)))

def State.pertToggle (s : State) (g : Nat) : State :=
  if s.pertDue g then s.modFg g (fun c => { c with pertFor := 0, pertHigh := !c.pertHigh }) else s

/-- Start, run and stop the wave of a group (R206). -/
def State.pertRun (s : State) (g : Nat) : State :=
  let on := s.on (FG_CFG_PertEn g) && !s.on (FG_STAT_Lost g)
  let s :=
    if s.on (FG_STAT_PertOn g) then
      if !on || s.fgExc g 4 then (s.wrB (FG_STAT_PertOn g) false).modFg g (fun c => { c with pertHigh := false, pertFor := 0 })
      else s.pertToggle g
    else if on && !s.on (FG_STAT_Exc g) then
      (s.wrB (FG_STAT_PertOn g) true).modFg g (fun c => { c with pertHigh := true, pertFor := 0 })
    else s
  if s.on (FG_STAT_PertOn g) && !s.pertPaused g then s.modFg g (fun c => { c with pertFor := c.pertFor + 1 }) else s

/-- The groups whose wave acts now. -/
def State.pertActive (s : State) : List Nat := s.groups.filter (fun g => s.on (FG_STAT_PertOn g) && !s.pertPaused g)

def State.pertAmp (s : State) (g : Nat) : Int := if (s.fgc g).pertHigh then s.rdS (FG_PERT_AMP_V g) else 0

/-- Apply the tile waves: a reduction of the tile's target (R206). -/
def State.pertTiles (s : State) : State :=
  let gs := s.pertActive.filter (fun g => s.on (FG_CFG_PertSrc g))
  let tiles := gs.map (fun g => s.rd (FG_CFG_PertUnit g))
  let s := forEach (s.cap.pertTiles.filter (fun n => !tiles.contains n)) s (fun s n =>
    s.when ((s.polTarget n).isNone && !s.cap.polRel.any (fun i => s.rd (CAP_POL_CFG_Tile i) == n)) (fun s => s.ltClaim n none))
  let s := forEach gs s (fun s g =>
    let n := s.rd (FG_CFG_PertUnit g)
    s.ltClaim n (some ((s.ltc n).tgtV - s.pertAmp g)))
  s.modCap (fun c => { c with pertTiles := tiles })

/-- The claim on the battery loop (R206, R213): peak-shaving, else the wave, else none. -/
def State.batClaims (s : State) : State :=
  let m := s.rd CAP_SHAVE_CFG_Loop
  let waves := s.pertActive.filter (fun g => !s.on (FG_CFG_PertSrc g))
  let v : Option Int :=
    if 0 < s.cap.shaveA then some (-s.cap.shaveA)
    else if waves.isEmpty then none
    else some (-(waves.foldl (fun a g => max a (s.pertAmp g)) 0))
  if v.isSome then (s.modCap (fun c => { c with batClaim := true })).modSl m (fun c => { c with claim := v })
  else if s.cap.batClaim then (s.modCap (fun c => { c with batClaim := false })).modSl m (fun c => { c with claim := none })
  else s

/-! ### The capping stage (R207-R214, R218-R220) -/

/-- P̂_max and the local budget b_g (R207, R218). -/
def State.fgPmax (s : State) (g : Nat) : Int :=
  let (v, r) := s.fgForce g
  if ftoQ 32 16 r = 0 then divRnd (ftoQ 32 16 v * ftoQ 32 16 v) 0
  else
    let p := fdiv (fmul v v) (fmul (fofQ 4 0) r)
    if ffin p then ftoQ 32 16 p else 2 ^ 31 - 1

def State.fgLocal (s : State) (g : Nat) : Int :=
  let k := divRnd (s.rd (FG_CFG_K g) * s.rdS (FG_PMAX_V g)) 65536
  if s.rd (FG_PLIM_V g) = 0 then k else min k (s.rdS (FG_PLIM_V g))

/-- The wrong-side conditions (a)-(c) as bits 0-2 (R208). -/
def State.wsConds (s : State) (g : Nat) : Nat :=
  let c := s.fgc g
  let a := (s.on (FG_STAT_EstValid g) || s.on (FG_STAT_Held g)) &&
    decide (c.vr * 65536 ≤ s.rdS (FG_VS_EST_V g) * (32768 + (s.rd (FG_WS_WsMargin g) : Int)))
  let b := decide (s.rdS (FG_PDRAW_V g) ≥ s.rdS (FG_PMAX_V g))
  let d := match c.prev with
    | some (i0, p0) => decide (c.i > i0 ∧ c.i - i0 ≥ s.rdS (FG_DI_MIN_V g) ∧ s.rdS (FG_PDRAW_V g) ≤ p0)
    | none => false
  b2n a + 2 * b2n b + 4 * b2n d

/-- Choose shed groups in order until their savings reach a need (R209). -/
def pickSheds (l : List Act) (need : Int) : List Act :=
  (l.foldl (fun (st : Int × List Act) a => if st.1 < need then (st.1 + 65536 * (a.sav : Int), st.2 ++ [a]) else st) (0, [])).2

/-- Declare or keep the wrong side of an own group (R209); the shed groups chosen are returned as keys. -/
def State.wsSize (s : State) (g : Nat) (cap : Int) (conds : Nat) : State × List Act :=
  let me := s.me
  let fresh := !s.on (FG_STAT_WrongSide g)
  let acts := s.actsOf me g
  let d := s.demOf me g
  let need := s.rdS (FG_PDRAW_V g) - s.fgLocal g
  let held (a : Act) : Bool := (assoc s.cap.eng a.key).isSome || d.want.contains a.key
  let sgs := acts.filter (fun a => a.kind = 2)
  let pick := if fresh then pickSheds sgs need else pickSheds (sgs.filter (fun a => !held a)) need
  let add := (if fresh then acts.filter (fun a => a.kind < 2) else []) ++ pick
  let want := d.want ++ (add.filter (fun a => !d.want.contains a.key)).map Act.key
  let want := want ++ (acts.filter (fun a => (assoc s.cap.eng a.key).isSome && !want.contains a.key)).map Act.key
  let shave := if s.shaves me g cap then cap else 0
  let total := (acts.filter (fun a => want.contains a.key)).foldl (fun t a => t + 65536 * (a.sav : Int)) shave
  let dNew := if fresh then total else d.d + (pick.foldl (fun t a => t + 65536 * (a.sav : Int)) 0)
  let s := s.setDem me g { d := dNew, want := want, shave := shave }
  let s := s.modFg g (fun c => { c with wsClr := 0 })
  let s := if fresh then ((s.wrB (FG_STAT_WrongSide g) true).inc (FG_WS_CNT_Cnt g)).raise 163 (g + 16 * conds) else s
  (s, pick)

/-- WrongSide has been clear for WsClear frames (R209). -/
def State.wsClearDue (s : State) (g : Nat) : Bool :=
  s.on (FG_STAT_WrongSide g) && decide ((s.fgc g).wsClr ≥ s.rd (FG_WS_WsClear g))

def State.wsClear (s : State) (g : Nat) : State :=
  if s.wsClearDue g then
    let s := (s.wrB (FG_STAT_WrongSide g) false).modFg g (fun c => { c with wsClr := 0 })
    if s.groups.any (fun h => s.on (FG_STAT_WrongSide h)) then s else s.modCap (fun c => { c with wsEng := [] })
  else s

/-- The demand law and the walk of one group (R211, R212). -/
def State.demand (s : State) (home g : Nat) (draw budget cap : Int) : State :=
  let l := s.walkList home g cap
  let d0 := (s.demOf home g).d
  let x := draw - budget
  let dcap := l.foldl (fun t a => t + savOf cap a) 0
  let rel : Int := if home = s.me then s.rdS (FG_REL_BAND_V g) else 0
  let isOver := decide (0 < x) && decide (d0 + x > dcap)
  let d :=
    if 0 < x then min (d0 + x) dcap
    else if x < -rel then max 0 (d0 - min (-x - rel) (s.rdS CAP_REL_Step))
    else d0
  let s := s.when (isOver && home == s.me && !s.on (FG_STAT_Exhausted g)) (fun s =>
    (s.wrB (FG_STAT_Exhausted g) true).raise 164 g)
  let (w, sh) := actWalk l d cap
  s.setDem home g { d := d, want := w, shave := sh }

/-- The newest report of a foreign group is too old (R219). -/
def State.reportStale (s : State) (stamp : Nat) : Bool :=
  decide ((s.setFrameNo + 2 ^ 32 - stamp % 2 ^ 32) % 2 ^ 32 > max 1 (s.rd CAP_ALLOC_AGE_Stale))

/-- Judge the reports (R219): Stale per group of this master. -/
def State.judgeReports (s : State) : State :=
  let stale := s.tl.reports.filter (fun r => s.reportStale r.2.1)
  let s := forEach stale s (fun s r =>
    s.when (!s.on (FG_STAT_Stale r.2.2.group)) (fun s => s.raise 165 (r.2.2.group.val + 256 * r.1)))
  forN 8 s (fun s g => s.wrB (FG_STAT_Stale g) (stale.any (fun r => r.2.2.group.val == g)))

/-- The share of the set-wide limit (R218): none where it is unlimited. -/
def setShare (lim b total : Int) (n : Nat) : Int := if total = 0 then divRnd lim n else divRndI (lim * b) total

/-- The foreign groups in step with the set: home and report, neither lost nor stale. -/
def State.foreign (s : State) : List (Nat × FeedRep) :=
  s.tl.reports.filterMap (fun r => if s.reportStale r.2.1 then none else some (r.1, r.2.2))

/-- A stage of the master over every group of the set (R211, R218, R219). -/
def State.allocate (s : State) (cap : Int) : State :=
  let s := s.judgeReports
  let me := s.me
  let own := s.groups.filter (fun g => !s.on (FG_STAT_Lost g))
  let far := s.foreign.filter (fun r => !bit r.2.flags.toNat 14)
  let lim := s.rdS CAP_SET_PLIM_V
  let total := own.foldl (fun t g => t + s.fgLocal g) (far.foldl (fun t r => t + r.2.budget.toInt) 0)
  let n := own.length + far.length
  let budget (b : Int) : Int := if lim = 0 then b else min b (setShare lim b total n)
  let s := forEach s.groups s (fun s g =>
    s.wrS (FG_BUDGET_V g) (if s.on (FG_STAT_Lost g) then (if lim = 0 then s.fgLocal g else 0) else budget (s.fgLocal g)))
  let s := forEach own s (fun s g =>
    if s.on (FG_STAT_WrongSide g) then s else s.demand me g (s.rdS (FG_PDRAW_V g)) (s.rdS (FG_BUDGET_V g)) cap)
  forEach far s (fun s r =>
    if bit r.2.flags.toNat 13 then s else s.demand r.1 r.2.group r.2.pdraw.toInt (budget r.2.budget.toInt) cap)

/-- The entries that stay or become engaged (R212): wanted, within MinHold, and of the shed groups to release all but the
latest in order once per RestoreGap. -/
def State.desired (s : State) : List Nat × Bool :=
  let want := s.cap.dem.foldl (fun l d => l ++ d.2.want) []
  let hold := (s.cap.eng.filter (fun e => !want.contains e.1 && decide (s.frame - e.2 < s.rd CAP_TIMING_MinHold))).map (·.1)
  let rel := s.setActs.filter (fun a => a.kind = 2 ∧ (assoc s.cap.eng a.key).isSome = true ∧ ¬ want.contains a.key ∧
    ¬ hold.contains a.key)
  let rel := rel.foldl (fun l a => insertAct a l) []
  let gap := match s.cap.lastRel with | some f => decide (s.frame - f ≥ s.rd CAP_TIMING_RestoreGap) | none => true
  let free := gap && !rel.isEmpty
  let keep := (if free then rel.dropLast else rel).map Act.key
  (want ++ hold ++ keep, free)

/-- The severity of a group (R214). -/
def State.severity (s : State) (home g : Nat) : Nat :=
  let eng := (s.actsOf home g).filter (fun a => (assoc s.cap.eng a.key).isSome)
  if eng.any (fun a => a.kind == 2) then 4
  else if 0 < s.cap.shaveA ∧ home = s.me ∧ s.on (FG_ACT_ShaveEn g) = true ∧ 0 < (s.demOf home g).shave then 3
  else if eng.any (fun a => a.kind == 1) then 2
  else if eng.any (fun a => a.kind == 0) then 1
  else 0

/-- Show severity and wrong sides (R214). -/
def State.capShow (s : State) : State :=
  let s := forEach s.groups s (fun s g => s.wr (FG_STAT_Severity g) (s.severity s.me g))
  let far := s.tl.reports.foldl (fun m r => max m (s.severity r.1 r.2.2.group)) 0
  let sev := s.groups.foldl (fun m g => max m (s.rd (FG_STAT_Severity g))) far
  let ws := (List.range 8).foldl (fun a g => if s.on (FG_STAT_WrongSide g) then a ||| 2 ^ g else a) 0
  (s.wr CAP_STAT_Severity sev).wr CAP_STAT_WrongSide ws

/-- Tell each other device the engaged state of its actuators (R219). -/
def State.sendAllocs (s : State) : State :=
  forEach s.tl.actTables s (fun s t =>
    let m (lo hi : Nat) : Nat := s.cap.eng.foldl (fun a e =>
      if e.1 / 128 = t.1 ∧ lo ≤ e.1 % 128 ∧ e.1 % 128 < hi then a ||| 2 ^ (e.1 % 128 - lo) else a) 0
    if t.1 = s.me then s else s.linkSend t.1 (.capAlloc (m 0 8) (m 8 32) (m 64 96)))

/-- Slots 4-5 (R44): budgets, the wrong side, the demand law on the master, the engaged state, perturbation. -/
def State.capStage (s : State) : State :=
  if !s.on CAP_CTL_En then s.capShow
  else
    let (cap, vbus) := s.shaveCap
    let me := s.me
    let s := forEach s.groups s (fun s g => let s := s.wrS (FG_PMAX_V g) (s.fgPmax g)
                                            s.wrS (FG_BUDGET_V g) (s.fgLocal g))
    -- the wrong side at the home
    let (s, sheds) := s.groups.foldl (fun (st : State × List Act) g =>
      let s := st.1
      if s.on (FG_STAT_Lost g) then st
      else
        let c := s.wsConds g
        if c ≠ 0 ∧ s.on CAP_CTL_WsEn then
          let r := s.wsSize g cap c
          (r.1, st.2 ++ r.2)
        else if s.on (FG_STAT_WrongSide g) then
          let clear := c == 0 && decide (s.rdS (FG_PDRAW_V g) ≤ s.fgLocal g)
          ((s.modFg g (fun x => { x with wsClr := if clear then x.wsClr + 1 else 0 })).wsClear g, st.2)
        else st) (s, [])
    let master := s.on GLB_STAT_ShelfMaster
    let s := if master then s.allocate cap else s
    -- the engaged state
    let s :=
      if master then
        let (l, free) := s.desired
        (s.modCap (fun c => { c with lastRel := if free then some s.frame else c.lastRel })).engage l
      else
        let mine := (s.groups.filter (fun g => s.on (FG_STAT_WrongSide g))).foldl (fun l g => l ++ (s.demOf me g).want) []
        let ws := s.cap.wsEng ++ (mine.filter (fun k => k / 128 == me && !s.cap.wsEng.contains k))
        let s := s.modCap (fun c => { c with wsEng := ws })
        s.engage (s.cap.alloc ++ ws)
    -- peak-shaving
    let w := s.groups.foldl (fun m g => max m (s.demOf me g).shave) 0
    let amps := if 0 < vbus ∧ 0 < w then min (divRnd (w * 65536) vbus.natAbs) (s.rdS CAP_SHAVE_IMAX_V) else 0
    let s := s.modCap (fun c => { c with shaveA := amps })
    -- perturbation
    let s := forEach s.groups s (fun s g => s.pertRun g)
    let s := (s.pertTiles).batClaims
    let s := s.capShow
    -- messages of slot 5
    let s := s.when (!sheds.isEmpty && decide (s.rd TL_CFG_SetSize > 1)) (fun s =>
      s.linkSend 8 (.wsShed me (sheds.map (fun a => 32 * a.pos + a.idx))))
    if master then s.sendAllocs else s

/-- The disable of capping takes effect (R215): claims and throttle lines released, shed channels left off, demand cleared. -/
def State.capBoundary (s : State) : State :=
  if !s.cap.disPend then s
  else
    let keep := s.cap.eng.filter (fun e => 64 ≤ e.1 % 128)
    let tiles := (s.cap.eng.filterMap (fun e =>
        if e.1 / 128 = s.me ∧ 8 ≤ e.1 % 128 ∧ e.1 % 128 < 32 then some (s.rd (CAP_POL_CFG_Tile (e.1 % 128 - 8))) else none)) ++
      s.cap.polRel.map (fun i => s.rd (CAP_POL_CFG_Tile i)) ++ s.cap.pertTiles
    let s := s.modCap (fun c => { c with disPend := false, eng := keep, polRel := [], pertTiles := [], shaveA := 0, alloc := [],
                                          wsEng := [], dem := c.dem.map (fun d => (d.1, { d.2 with d := 0, shave := 0, want := [] })) })
    let s := forEach tiles s (fun s n => s.ltClaim n none)
    let s := forN 8 s (fun s g => ((s.wr (FG_DEMAND_V g) 0).wrB (FG_STAT_WrongSide g) false).wrB (FG_STAT_PertOn g) false)
    ((s.batClaims).updThr).capShow

/-! ### Energy predictor and hold-up (R222-R229) -/

/-- One joule, one record commit (0.5 µJ) and one watt for two frames, in the units of `eAvail`. -/
def joule : Nat := 2 ^ 64 * 20000000
def eRec : Int := 10 * ((2 ^ 64 : Nat) : Int)

/-- Energy as Q16.16 joules, and as millijoules. -/
def jQ16 (e : Int) : Int := satS 32 (divRnd (e * 65536) joule)
def jMilli (e : Int) : Nat := unsigned 32 (divRnd (e * 1000) joule)

/-- The capacitor's term (R224): energy, and whether its channel is sealed BAD, or BAD with Init. -/
def State.eCap (s : State) : Int × Bool × Bool :=
  let p := s.cached (0x1000 + 16 * s.rd HU_CH_StoreV + 3)
  let vm := s.rdS HU_CAP_VMIN_V
  if p.isBad then (0, !bit p.q 5, bit p.q 5)
  else if p.int ≤ vm then (0, false, false)
  else (s.rd HU_CAP_C_V * (p.int * p.int - vm * vm) * s.rd HU_ETA_EtaCap * 10000, false, false)

/-- The battery's term (R224, R189). -/
def State.eBat (s : State) : Int × Bool × Bool :=
  let m := s.rd HU_BAT_Loop
  let p := s.tmAvg (s.rd (SL_BAT_CH_VBat m))
  if !s.on (SL_STAT_SocValid m) then (0, false, true)
  else if p.isBad then (0, !bit p.q 5, bit p.q 5)
  else
    let x := s.rdS (SL_BAT_SOC_V m) - s.rdS HU_BAT_SOCMIN_V
    (if x ≤ 0 then 0 else x * s.rd (SL_BAT_CAP_V m) * p.int * s.rd HU_ETA_EtaBat * 72000000000, false, false)

/-- Records accepted and not yet in MRAM (R409). -/
def State.nPend (s : State) : Nat := s.onx.staging.length

/-- The margin of R225: E_avail less two frames of P_out less E_need. -/
def State.huMargin (s : State) : Int := s.cap.eAvail - 400 * ((2 ^ 48 : Nat) : Int) * s.cap.pOut - s.cap.eNeed

/-- Last gasp is due (R225). -/
def State.gaspDue (s : State) : Bool := decide (s.huMargin ≤ 0)

/-- Slots 1-2: the input judgement and the energy prediction (R222, R224-R226). -/
def State.predict (s : State) : State :=
  -- input
  let mask := s.rd HU_CFG_InMask
  let lostM := (bitsOf 8 mask).foldl (fun a g => if s.on (FG_STAT_Lost g) then a ||| 2 ^ g else a) 0
  let gLost := mask != 0 && lostM == mask
  let gOk := mask == 0 || (bitsOf 8 mask).any (fun g => s.on (FG_CFG_En g) && !s.on (FG_STAT_Lost g) && (s.fgc g).vrOk &&
    decide ((s.fgc g).vr ≥ s.rdS (FG_VIN_OK_V g)))
  let bus := s.tmAvg (s.rd HU_CH_BusV)
  let chk := s.on HU_CFG_BusCheck
  let lost := gLost || (chk && !bus.isBad && decide (bus.int < s.rdS HU_VBUS_LOSS_V))
  let ok := gOk && (!chk || (!bus.isBad && decide (bus.int ≥ s.rdS HU_VBUS_OK_V)))
  let s := s.modCap (fun c => { c with inLost := lost, lostMask := lostM })
  let s := (s.wrB HU_STAT_InValid ok).wr HU_STAT_ValidCnt (if ok then min 65535 (s.rd HU_STAT_ValidCnt + 1) else 0)
  -- stores
  let st := s.rd HU_CFG_Store
  let (ec, cBad, cInit) := if st = 0 ∨ st = 2 then s.eCap else (0, false, true)
  let (eb, bBad, bInit) := if st = 1 ∨ st = 2 then s.eBat else (0, false, true)
  let bad := b2n cBad + 2 * b2n bBad
  let good := b2n (!cBad && !cInit) + 2 * b2n (!bBad && !bInit)
  let s := s.when (bad != 0) (fun s => s.wrB HU_STAT_StoreBad true)
  let s := s.when (bad &&& s.cap.armed != 0) (fun s => s.raise 169 bad)
  let pw := s.tmAvg (s.rd HU_CH_PwrCh)
  let pOut := if s.rd HU_CH_PwrCh = 255 ∨ pw.isBad = true then s.rdS HU_PMAX_V else pw.int
  let need := ((s.nPend + s.rd HU_CFG_ResRecs : Nat) : Int) * eRec +
    (s.rdS HU_E_SHUT_V + s.rdS HU_E_MARGIN_V) * ((2 ^ 48 * 20000000 : Nat) : Int)
  let s := s.modCap (fun c => { c with armed := maskOff c.armed bad ||| good, eAvail := ec + eb, eNeed := need, pOut := pOut })
  ((s.wrS HU_EAVAIL_V (jQ16 s.cap.eAvail)).wrS HU_ENEED_V (jQ16 s.cap.eNeed)).wrS HU_ALLOW_V (satS 32 (s.huMargin / eRec))

/-- A record the hold-up manager requests in slot 3 is built after the others (R407). -/
def State.huRecord (s : State) (code p0 p1 p2 : Nat) : State :=
  { s with onx := { s.onx with huReqs := s.onx.huReqs ++ [{ code := code, p0 := p0, p1 := p1, p2 := p2 }] } }

/-- Shed groups and throttle lines of the hold-up manager. -/
def State.huEngage (s : State) (sgs : List Nat) (thr : Nat) : State :=
  let s := s.modCap (fun c => { c with
    huShed := sgs.foldl (fun l g => if (assoc l g).isSome then l else assocPut l g s.frame) c.huShed,
    huThr := c.huThr ||| thr, huRel := false })
  (s.updThr).updSheds

/-- Release what MinHold allows (R223, R232). -/
def State.huFree (s : State) : State :=
  if !s.cap.huRel then s
  else
    let l := s.cap.huShed.filter (fun e => decide (s.frame - e.2 < s.rd CAP_TIMING_MinHold))
    (s.modCap (fun c => { c with huShed := l, huRel := !l.isEmpty })).updSheds

/-- Return to Normal: sheds and throttles go back to capping's demand (R223); the last-gasp requester leaves the port (R410). -/
def State.huNormal (s : State) : State :=
  let s := (s.wr HU_STAT_State 0).modCap (fun c => { c with huThr := 0, huRel := true })
  let s := { s.wrB RBT_NVM_STAT_Gasp s.rbt.preReset with rbt := { s.rbt with gasp := false } }
  (s.updThr).huFree

/-- Last gasp (R227, R229). -/
def State.lastGasp (s : State) (byMsg : Bool) : State :=
  let s := s.huRecord 0x0103 (jMilli s.cap.eAvail) (jMilli s.cap.eNeed) s.nPend
  let s := (s.inc HU_GASP_CNT_Cnt).raise 168 (b2n byMsg)
  let s := { s with rbt := { s.rbt with gasp := true }, onx := { s.onx with resCnt := 0 } }
  let s := s.huEngage ((List.range 32).filter (fun g => s.on (CAP_SG_CFG_EfMask g))) 255
  let s := s.seqTake .off
  let s := (s.wr HU_STAT_State 2).modCap (fun c => { c with shutFor := 0, shutLong := false, gaspIn := false })
  s.when (s.on HU_CFG_SetGasp && !byMsg) (fun s => s.linkSend 8 (.bytes 0x13 []))

/-- The valid frames that restore Normal or allow a restart (R228). -/
def State.huBack (s : State) : Bool := decide (s.rd HU_STAT_ValidCnt ≥ 100 * max 1 (s.rd HU_DELAY_InValid))

/-- RideThrough ends in Normal (R228). -/
def State.huReturn (s : State) : State :=
  if s.on HU_CTL_En && s.rd HU_STAT_State == 1 && s.huBack && !s.gaspDue then s.huNormal else s

/-- The restart from Down (R228). -/
def State.huRestart (s : State) : State :=
  if s.rd HU_STAT_State = 3 ∧ s.huBack ∧ (s.on HU_CFG_AutoRestart || s.cap.restartReq) then
    let s := s.seqTake (.on 0)
    ((s.huRecord 0x0105 (s.rd SEQ_UP_MASK_Mask) 0 0).raise 170 0).huNormal
  else s

/-- Shutdown has lasted more than 10,000 frames (R234). -/
def State.huLong (s : State) : State :=
  if s.rd HU_STAT_State = 2 ∧ s.cap.shutFor > 10000 ∧ s.cap.shutLong = false then
    (s.modCap (fun c => { c with shutLong := true })).raise 171 0
  else s

/-- Entry to RideThrough (R223). -/
def State.rideThrough (s : State) : State :=
  let s := (s.wr HU_STAT_State 1).inc HU_INPUT_LOSS_CNT_Cnt
  let s := s.huEngage ((List.range 32).filter (fun g => s.on (CAP_SG_CFG_EfMask g) && s.on (CAP_SG_CFG_RtShed g)))
    (s.rd HU_RT_THR_Thr)
  let s := (s.raise 167 s.cap.lostMask).huRecord 0x0101 s.cap.lostMask (jMilli s.cap.eAvail) 0
  { s with onx := { s.onx with refused1 := false } }

/-- Slot 3: the hold-up manager (R223, R227, R228). -/
def State.huStage (s : State) : State :=
  let s := s.huFree
  if !s.on HU_CTL_En then s
  else
    let valid := s.on HU_STAT_InValid
    let ret := valid && !s.cap.wasValid && (s.rd HU_STAT_State == 1 || s.rd HU_STAT_State == 2)
    let byMsg := s.cap.gaspIn && s.on HU_CFG_SetGasp
    let s := s.modCap (fun c => { c with wasValid := valid, shutFor := c.shutFor + 1, gaspIn := false })
    let s := match s.rd HU_STAT_State with
      | 0 =>
        if s.cap.inLost then
          let s := s.rideThrough
          if byMsg || s.gaspDue then s.lastGasp byMsg else s
        else if byMsg then s.lastGasp true else s
      | 1 => if s.gaspDue then s.lastGasp false else if byMsg then s.lastGasp true else s.huReturn
      | 2 =>
        if s.rd SEQ_STAT_State = 0 then
          ((s.huRecord 0x0104 s.cap.shutFor 0 0).wr HU_STAT_State 3).huRestart
        else s.huLong
      | _ => s.huRestart
    let s := s.modCap (fun c => { c with restartReq := false })
    let s := s.when ret (fun s => s.huRecord 0x0102 (s.rd HU_STAT_State) 0 0)
    s.wrB HU_STAT_RestartPend (s.rd HU_STAT_State == 3 && s.on HU_CFG_AutoRestart)

/-! ### Apply (R202, R205, R217) -/

/-- An apply changes a register of a group between two offsets. -/
def fgChanged (old new : RegFile) (g lo hi : Nat) : Bool :=
  (List.range 25).any (fun k => lo ≤ 4 * k && 4 * k ≤ hi && old.get (0x24400 + 0x100 * g + 4 * k) != new.get (0x24400 + 0x100 * g + 4 * k))

/-- An apply: a changed group restarts from nominal with no valid estimate, changed pairs take even shares; the actuator table
goes to the shelf master (R202, R205, R217). -/
def State.capApply (s : State) (old : RegFile) (first : Bool) : State :=
  let s := forN 8 s (fun s g =>
    let changed := first || fgChanged old s.regs g 0 0x60
    let pairs := first || fgChanged old s.regs g 0x0C 0x14 || (!((old.get (FG_CFG g)).toNat.testBit 15) && s.on (FG_CFG_En g))
    if !s.on (FG_CFG_En g) then s
    else
      let s := if pairs then (s.wr (FG_STAT_PairPresent g) (s.rd (FG_PAIRS_PairEn g))).fgEven g else s
      if changed then
        let s := ((s.modFg g (fun c => { c with last := none })).wrB (FG_STAT_EstValid g) false).wrB (FG_STAT_Scaled g) false
        ((s.fgRestartNom g).fgJudge g false).fgShow g
      else s)
  if s.on GLB_STAT_ShelfMaster || s.rd TL_CFG_SetSize ≤ 1 then s
  else s.linkSend s.tl.master (.actTable s.actTable)

/-! ### Messages (R219, R220, R229) -/

/-- A FEED_REPORT arrives: the newest per group is kept. -/
def State.gotFeedReport (s : State) (home stamp : Nat) (l : List FeedRep) : State :=
  forEach l s (fun s r =>
    let rest := s.tl.reports.filter (fun x => !(x.1 == home && x.2.2.group == r.group))
    { s with tl := { s.tl with reports := rest ++ [(home, stamp, r)] } })

/-- A CAP_ALLOC arrives: the entries of this device it engages (R219); a wrong-side engagement stands beside it (R232). -/
def State.gotAlloc (s : State) (thr pol sg : Nat) : State :=
  if s.on GLB_STAT_ShelfMaster then s
  else
    let me := 128 * s.me
    let l := (bitsOf 8 thr).map (fun t => me + t) ++ (bitsOf 24 pol).map (fun i => me + 8 + i) ++ (bitsOf 32 sg).map (fun g => me + 64 + g)
    let ws := if s.groups.any (fun g => s.on (FG_STAT_WrongSide g)) then s.cap.wsEng else s.cap.wsEng.filter (fun k => !l.contains k)
    let s := s.modCap (fun c => { c with alloc := l, wsEng := ws })
    (s.engage (l ++ ws)).capShow

/-- A WS_SHED arrives (R220): this device's groups engage at once; the master adopts the choice. -/
def State.gotWsShed (s : State) (home : Nat) (gs : List Nat) : State :=
  let keys := gs.map (fun x => 128 * (x / 32) + 64 + x % 32)
  if s.on GLB_STAT_ShelfMaster then
    let acts := s.setActs
    let s := forN 8 s (fun s g =>
      let d := s.demOf home g
      let add := acts.filter (fun a => a.home == home && bit a.fg g && keys.contains a.key && !d.want.contains a.key)
      if add.isEmpty then s
      else s.setDem home g { d with want := d.want ++ add.map Act.key,
                                    d := d.d + add.foldl (fun t a => t + 65536 * (a.sav : Int)) 0 })
    (s.engage ((s.cap.eng.map (·.1)) ++ (keys.filter (fun k => (assoc s.cap.eng k).isNone)))).capShow
  else
    let mine := keys.filter (fun k => k / 128 == s.me && !s.cap.wsEng.contains k)
    let s := s.modCap (fun c => { c with wsEng := c.wsEng ++ mine })
    (s.engage ((s.cap.eng.map (·.1)) ++ (mine.filter (fun k => (assoc s.cap.eng k).isNone)))).capShow

/-! ### CAP_SET (R231) -/

/-- The payload of CAP_SET is refused. -/
def capSetBad (p : List Byte) : Bool :=
  let g := numAt p 0 1
  let sel := numAt p 1 1
  let k := numAt p 4 2
  (g > 7 && g != 255) || sel > 7 || !zeroAt p 2 2 || !zeroAt p 6 2 || !zeroAt p 16 24 ||
    (bit sel 0 && !(32768 ≤ k && k * 100 ≤ 95 * 65536))

/-- CAP_SET (R231): the store in the execution slot is the commit point. -/
def State.capSet (s : State) (tag : Nat) : State :=
  match s.ready tag 0x16 with
  | none => s
  | some c =>
    let p := c.payload
    let s := s.modCmd tag (fun c => c.ran [.start])
    if capSetBad p || !s.on GLB_STAT_ShelfMaster then s.complete tag .refusedState 0
    else
      let g := numAt p 0 1
      let sel := numAt p 1 1
      let g0 := if g = 255 then 0 else g
      let res := if sel = 4 then 2 ^ 32 * s.rd CAP_SET_PLIM_V else s.rd (FG_CFG_K g0) + 2 ^ 32 * s.rd (FG_PLIM_V g0)
      let s := s.commit tag
      let gs := if g = 255 then List.range 8 else [g]
      let s := s.when (bit sel 0) (fun s => forEach gs s (fun s g => s.wr (FG_CFG_K g) (numAt p 4 2)))
      let s := s.when (bit sel 1) (fun s => forEach gs s (fun s g => s.wr (FG_PLIM_V g) (numAt p 8 4)))
      let s := s.when (bit sel 2) (fun s => s.wr CAP_SET_PLIM_V (numAt p 12 4))
      s.complete tag .ok res

/-- CAP_SET (R231). -/
def execCapSet (tag : Fin 256) (s : State) : Res := done s (s.capSet tag)

/-! ### Commands and events -/

/-- FEED_ESTIMATOR_STAGE (R204). -/
def execFeedEstimatorStage (s : State) : Res := done s (s.stage State.feedStage)
/-- ENERGY_PREDICTOR (R224). -/
def execEnergyPredictor (s : State) : Res := done s (s.stage State.predict)
/-- FEED_PAIR_RETURN (R201). -/
def execFeedPairReturn (g p : Fin 8) (s : State) : Res := done s (if s.pairBackDue g p then s.pairBack g p else s)
/-- FEED_GROUP_RETURN (R203). -/
def execFeedGroupReturn (g : Fin 8) (s : State) : Res := done s (if s.groupBackDue g then s.groupBack g else s)
/-- PERT_TOGGLE (R206). -/
def execPertToggle (g : Fin 8) (s : State) : Res := done s (s.pertToggle g)
/-- HOLD_UP_STAGE (R223). -/
def execHoldUpStage (s : State) : Res := done s (s.stage State.huStage)
/-- HU_RETURN_NORMAL (R228). -/
def execHuReturnNormal (s : State) : Res := done s s.huReturn
/-- HU_SHUT_LONG (R234). -/
def execHuShutLong (s : State) : Res := done s s.huLong
/-- CAPPING_STAGE (R208-R214). -/
def execCappingStage (s : State) : Res := done s (s.stage State.capStage)
/-- WRONG_SIDE_CLEAR (R209). -/
def execWrongSideClear (g : Fin 8) (s : State) : Res := done s (s.wsClear g)
/-- EST_RESTART (R204). -/
def execEstRestart (g : Fin 8) (s : State) : Res := done s (s.modFg g (fun c => { c with estReq := true }))

/-- A write of CAP_CTL.En (R215, R63). -/
def State.capEnable (s : State) (en : Bool) : State :=
  let was := s.on CAP_CTL_En
  (s.wrB CAP_CTL_En en).modCap (fun c => { c with disPend := if en then false else c.disPend || was })

/-- CAP_EN_WRITE (R215). -/
def execCapEnWrite (en : Bool) (s : State) : Res := done s (s.capEnable en)

/-- A write of HU_CTL.En (R223): 0 is ignored outside Normal. -/
def State.huEnable (s : State) (en : Bool) : State :=
  if en || s.rd HU_STAT_State == 0 then s.wrB HU_CTL_En en else s

/-- HU_EN_WRITE (R223). -/
def execHuEnWrite (en : Bool) (s : State) : Res := done s (s.huEnable en)

/-- HU_RESTART_WRITE (R228): acts at the next slot 3, in Down. -/
def State.huRestartWrite (s : State) : State :=
  if s.rd HU_STAT_State = 3 then s.modCap (fun c => { c with restartReq := true }) else s
def execHuRestartWrite (s : State) : Res := done s s.huRestartWrite

end Sys2Proof.Machine
end

