-- ==== Sys2Proof/Machine/Update.lean ====
section
/-!
DEFINITION. Updates, keys and locks (chapter 16): the session with its parts, the rectifier profile as a machine over bus
transactions that Bus.lean carries, the peer messages (their reception is in Link.lean), activation, confirmation and
fall-back, the owner key, the owner lock and the debug lock.
-/
namespace Sys2Proof.Machine

/-- Change the update engine's own state. -/
def State.modUpd (s : State) (f : UpdSt → UpdSt) : State := { s with fwu := f s.fwu }

/-- Change what flash and OTP keep. -/
def State.modNv (s : State) (f : UpdNv → UpdNv) : State := s.modUpd (fun u => { u with nv := f u.nv })

/-! ### Bytes and the manifest (R445-R447) -/

/-- A big-endian byte string as a number (R14, R445). -/
def beNat (l : List Byte) : Nat := l.foldl (fun a b => 256 * a + b.toNat) 0

/-- A digest field of 48 bytes equals the SHA-384 of a byte string. -/
def digestIs (d : List Byte) (l : List Byte) : Bool := beNat d == (Config.sha384 l).toNat

/-- Where the manifest's parts end: 32 + 64 × PartCount. -/
def manB (m : List Byte) : Nat := 32 + 64 * numAt m 2 1

/-- The manifest is co-signed. -/
def manCo (m : List Byte) : Bool := bit (numAt m 3 1) 0

/-- The part entries of a manifest. -/
def manParts (m : List Byte) : List UpdPart :=
  (List.range (numAt m 2 1)).map (fun i =>
    let o := 32 + 64 * i
    { kind := numAt m o 1, target := numAt m (o + 1) 1, addr := numAt m (o + 2) 1, version := numAt m (o + 4) 4,
      first := numAt m (o + 8) 2, count := numAt m (o + 10) 2, length := numAt m (o + 12) 4, digest := slice m (o + 16) 48 })

def UpdPart.peer (p : UpdPart) : Bool := 0x11 ≤ p.kind && p.kind ≤ 0x13
def UpdPart.rectifier (p : UpdPart) : Bool := p.kind == 0x20
def UpdPart.onChip (p : UpdPart) : Bool := 1 ≤ p.kind && p.kind ≤ 3

/-- The largest image of a kind (R447). -/
def bankSize (kind : Nat) : Nat :=
  if kind = 0x20 then 1966080 else match kind % 16 with | 1 => 8388608 | 2 => 1048576 | _ => 2097152

/-- One part entry is well formed. -/
def partOk (m : List Byte) (i : Nat) (p : UpdPart) : Bool :=
  let o := 32 + 64 * i
  (p.onChip || p.peer || p.rectifier) &&
  (if p.onChip then p.target == 0 && p.addr == 0
   else if p.peer then p.target ≤ 7 && p.addr == 0 else p.target ≤ 11 && p.addr ≤ 127) &&
  numAt m (o + 3) 1 == 1 && 1 ≤ p.count && 4080 * (p.count - 1) < p.length && p.length ≤ 4080 * p.count &&
  p.length ≤ bankSize p.kind

/-- The blocks of the parts run from 0 without gap or overlap, in some order of the parts. -/
def partsCover (l : List UpdPart) : Bool :=
  let total := l.foldl (fun a p => a + p.count) 0
  total ≤ 65535 && (List.range l.length).foldl (fun (a : Nat) _ =>
    match l.find? (fun p => p.first == a) with
    | some p => a + p.count
    | none => a) 0 == total

/-- No element of a list equals a later one. -/
def allDiff (l : List Nat) : Bool :=
  match l with
  | [] => true
  | a :: t => !t.contains a && allDiff t

/-- A manifest is well formed (R445, R447); the two rectifiers of one port differ in their address (log entry 47). -/
def manOk (m : List Byte) : Bool :=
  let b := manB m
  let l := manParts m
  m.length == (if manCo m then b + 392 else b + 196) &&
  numAt m 0 2 == 1 && 1 ≤ l.length && l.length ≤ 16 && numAt m 3 1 ≤ 1 && numAt m 12 4 != 0 && zeroAt m 17 15 &&
  zeroAt m (b + 97) 3 && (!manCo m || zeroAt m (b + 293) 3) &&
  (List.range l.length).all (fun i => partOk m i (nth l i)) && partsCover l &&
  allDiff (l.map (fun p => 65536 * p.kind + 256 * p.target + p.addr)) &&
  (l.filter (fun p => !p.onChip)).foldl (fun a p => a + p.length) 0 ≤ 16777216 &&
  (!(l.any UpdPart.peer) || zeroAt m 4 8)

/-- The authorisation checks of a manifest (R449): 0, or the cause of NOT_AUTHORISED. -/
def State.manAuth (s : State) (m : List Byte) : Nat :=
  let b := manB m
  let nv := s.fwu.nv
  let key := slice m b 97
  if (Config.sha384 key != Config.rootKeyHash) || !Config.ecdsaP384 (Config.sha384 (m.take b)) (slice m (b + 100) 96) key then 1
  else if manCo m && (match nv.keyHash with
      | none => true
      | some h =>
        let k := slice m (b + 196) 97
        Config.sha384 k != h || !Config.ecdsaP384 (Config.sha384 (m.take (b + 196))) (slice m (b + 296) 96) k) then 2
  else if !manCo m && nv.coSignReq then 3
  else if numAt m 4 8 != 0 && numAt m 4 8 != Config.serialNumber.toNat then 4
  else if numAt m 16 1 < nv.counter then 5 else 0

/-! ### Session and part states (R451, R454) -/

/-- A change of session or part state: MSI-X cause 24 and UPD_STATE (R451). -/
def State.updEvent (s : State) (unit st cause : Nat) : State := (s.cause 24).event 0x0600 unit st cause

/-- The session's state; the event names no part, and the spec gives its Unit no value there (log entry 4). -/
def State.updSession (s : State) (st cause : Nat) : State :=
  if s.rd UPD_STAT_State = st then s
  else
    let (u, s) := s.draw 16
    (s.wr UPD_STAT_State st).updEvent u st cause

/-- The state of a part. -/
def State.updPart (s : State) (k st cause : Nat) : State :=
  if s.rd (UPD_PART_STAT_State k) = st then s else (s.wr (UPD_PART_STAT_State k) st).updEvent k st cause

/-- The on-chip kind (1-3) a part has on this device: its own parts as coordinator, the parts that name it as a peer. -/
def State.ownKind (s : State) (p : UpdPart) : Option Nat :=
  match s.fwu.coord with
  | none => if p.onChip then some p.kind else none
  | some _ => if p.peer && p.target == s.rd GLB_STAT_Pos then some (p.kind - 0x10) else none

/-- The parts this device handles: all of them as coordinator, its own as a peer. -/
def State.updMine (s : State) : List Nat :=
  (List.range s.fwu.parts.length).filter (fun k =>
    s.fwu.coord.isNone || (s.ownKind (nth s.fwu.parts k)).isSome)

/-- The refusal conditions (R454): 0, or the cause. -/
def State.updRefused (s : State) : Nat :=
  let m := s.rd HU_BAT_Loop
  let bad (st : Nat) : Bool := st == 1 || st == 4
  if s.rd HU_STAT_State ≠ 0 then 1
  else if s.rd (SL_STAT_Stage m) = 4 ∧ s.rd (SL_CFG_Kind m) = 2 ∧ s.rdS (SL_BAT_SOC_V m) < s.rdS HU_UPD_SOCMIN_V then 2
  else if s.rd CAP_STAT_Severity = 4 then 3
  else if s.fwu.nv.ownerLock then 4
  else if bad (s.rd RED_STAT_State) ∨ (s.on RED_CFG_PairEn = true ∧ (match s.red.peer with | some h => bad h.state | none => false) = true) then 5
  else if s.on RED_CFG_PairEn = true ∧ s.rd RED_STAT_State = 2 ∧ (match s.red.peer with | some h => h.sync | none => false) = false then 6
  else 0

/-- The version of the bank in use of an on-chip kind. -/
def UpdNv.version (nv : UpdNv) (kind : Nat) : Nat := nv.versions.getD (2 * (kind - 1) + nv.banks.getD (kind - 1) 0) 0

/-- Index of the inactive bank of a kind among the six banks. -/
def UpdNv.inactive (nv : UpdNv) (kind : Nat) : Nat := 2 * (kind - 1) + (1 - nv.banks.getD (kind - 1) 0)

/-- Open a session with an accepted manifest (R449): blocks staged before are abandoned, every part is Staging. -/
def State.updOpen (s : State) (m : List Byte) (coord : Option Nat) : State :=
  let l := manParts m
  let s := s.modUpd (fun u => { u with parts := l, manifest := m, coord := coord, check := none, buf := [], prog := [], rect := [],
                                        rbank := [], sent := [], acked := [], tag := none, armed := [], order := [], toldAt := none,
                                        settings := [], cfgSwitch := false })
  let s := (s.wr UPD_BUNDLE_ID_Id (numAt m 12 4)).wr UPD_SECVER_Session (numAt m 16 1)
  let s := forN 16 s (fun s k =>
    let p := nth l k
    let s := (s.wr (UPD_PART_STAT_Kind k) (if k < l.length then p.kind else 0)).wr (UPD_PART_STAT_Blocks k) 0
    let s := s.wr (UPD_PART_VER_Version k) (match (if k < l.length then s.ownKind p else none) with
      | some q => s.fwu.nv.version q
      | none => 0)
    s.wr (UPD_PART_STAT_State k) 0)
  let s := s.updSession 1 0
  forEach s.updMine s (fun s k => s.updPart k 1 0)

/-- Close the session. -/
def State.updClose (s : State) : State :=
  (s.modUpd (fun u => { u with buf := [], prog := [], sent := [], acked := [], tag := none, armed := [], order := [],
                               toldAt := none, check := none, coord := none, cfgSwitch := false })).updSession 0 0

/-- The peers a list of parts names, ascending. -/
def peersOf (l : List UpdPart) : List Nat := (List.range 8).filter (fun q => l.any (fun p => p.peer && p.target == q))

/-- Send the manifest to a peer in chunks of 40 bytes (R453). -/
def State.sendManifest (s : State) (q : Nat) (m : List Byte) : State :=
  forN ((m.length + 39) / 40) s (fun s i =>
    s.linkSend q (.bytes 0x30 (leBytes 2 i ++ leBytes 2 m.length ++ padTo 40 (slice m (40 * i) 40))))

/-- The manifest command in progress ends, if its command is still in flight. -/
def State.checkEnd (s : State) (st : Status) (res : Nat) : State :=
  match s.fwu.check with
  | none => s
  | some (tag, m, _) =>
    let s := s.modUpd (fun u => { u with check := none, rect := u.rect.filter (fun e => e.1 < 16) })
    if (s.findCmd tag).isNone then s
    else
      let s := s.when (st == .ok) (fun s => (s.updOpen m none).commit tag)
      s.complete tag st res

/-- The result of an accepted manifest: BundleId and the number of blocks (R449). -/
def manResult (m : List Byte) : Nat := numAt m 12 4 + 2 ^ 32 * (manParts m).foldl (fun a p => a + p.count) 0

/-- Move a manifest command on: when the capability reads (keys 16 + part) are done, the manifest goes to the peers; when they
have answered, the session opens (R449). -/
def State.checkNext (s : State) : State :=
  match s.fwu.check with
  | none => s
  | some (tag, m, peers) =>
    if s.fwu.rect.any (fun e => 16 ≤ e.1) then s
    else if peers = [] then s.checkEnd .ok (manResult m)
    else if peers.contains 8 then
      let ps := peers.filter (· < 8)
      let s := s.modUpd (fun u => { u with check := some (tag, m, ps) })
      forEach ps s (fun s q => s.sendManifest q m)
    else s

/-- The payload of UPDATE_STAGE is refused (R448). -/
def stageBad (p : List Byte) (what : Nat) : Bool :=
  numAt p 0 8 % 4096 != 0 || numAt p 8 1 != what || !zeroAt p 9 3 || !zeroAt p 18 22 ||
    (if what = 0 then numAt p 16 2 != 0 else numAt p 12 4 == 0 || 64 < numAt p 12 4)

/-- UPDATE_STAGE with a manifest (R449). -/
def State.stageManifest (s : State) (tag : Nat) (man : Option (List Byte)) : State :=
  match s.ready tag 0x40 with
  | none => s
  | some c =>
    if numAt c.payload 8 1 = 1 then s
    else
      let s := s.modCmd tag (fun c => c.ran [.start, .dma])
      let st := s.rd UPD_STAT_State
      if s.updRefused ≠ 0 then s.complete tag .refusedState s.updRefused
      else if st = 3 ∨ st = 4 ∨ st = 5 then s.complete tag .refusedState 7
      else if stageBad c.payload 0 then s.complete tag .refusedState 8
      else match man with
        | none => s.complete tag .timeout 0
        | some m =>
          if m.length ≠ numAt c.payload 12 4 ∨ manOk m = false then s.complete tag .refusedState 8
          else if s.manAuth m ≠ 0 then (s.raise 241 (s.manAuth m)).complete tag .notAuthorised (s.manAuth m)
          else
            let l := manParts m
            let rects := (List.range l.length).filter (fun k => (nth l k).rectifier)
            if (peersOf l).any (fun q => !bit (s.rd TL_LIVE_Live) q) || (!rects.isEmpty && !s.on GLB_STAT_ShelfMaster) then
              s.complete tag .refusedState 9
            else
              let ps := peersOf l
              (s.modUpd (fun u => { u with
                check := some (tag, m, if ps.isEmpty then [] else 8 :: ps),
                rect := u.rect.filter (fun e => e.1 < 16) ++ rects.map (fun k => (16 + k, RectOp.caps false)) })).checkNext

/-- UPDATE_STAGE_MANIFEST (R449). -/
def execUpdateStageManifest (tag : Fin 256) (manifest : Option (List Byte)) (s : State) : Res :=
  done s (s.stageManifest tag manifest)

/-! ### Blocks (R446, R450, R451) -/

/-- The part that a block index belongs to. -/
def State.partOf (s : State) (i : Nat) : Option Nat :=
  (List.range s.fwu.parts.length).find? (fun k =>
    let p := nth s.fwu.parts k
    decide (p.first ≤ i ∧ i < p.first + p.count))

/-- The image bytes block i of the manifest carries (R446, R447). -/
def State.blockLen (s : State) (i : Nat) : Nat :=
  match s.partOf i with
  | some k => let p := nth s.fwu.parts k; if i + 1 = p.first + p.count then p.length - 4080 * (p.count - 1) else 4080
  | none => 0

/-- A block is the i-th of the session's bundle (R450). -/
def State.blockFits (s : State) (i : Nat) (b : List Byte) : Bool :=
  numAt b 0 4 == s.rd UPD_BUNDLE_ID_Id && numAt b 4 2 == i && numAt b 6 2 == s.blockLen i && zeroAt b (8 + s.blockLen i) (4084 - s.blockLen i)

/-- Free entries of the staging buffer. -/
def State.bufFree (s : State) : Nat := 64 - s.fwu.buf.length

/-- Place a block in the staging buffer; a Failed part is staged again (R451). -/
def State.stageBlock (s : State) (i : Nat) (data : List Byte) : State :=
  let s := match s.partOf i with
    | some k =>
      if s.rd (UPD_PART_STAT_State k) = 5 then
        let p := nth s.fwu.parts k
        ((s.modUpd (fun u => { u with prog := u.prog.filter (fun e => !(p.first ≤ e.1 && e.1 < p.first + p.count)) })).wr
          (UPD_PART_STAT_Blocks k) 0).updPart k 1 0
      else s
    | none => s
  let s := s.modUpd (fun u => { u with buf := u.buf ++ [(i, data)] })
  s.wr UPD_STAT_BufFree s.bufFree

/-- The checks of R450 on a run of blocks, and their placing. -/
def State.placeBlocks (s : State) (tag i n : Nat) (data : List Byte) : State :=
  match n with
  | 0 => (s.commit tag).complete tag .ok 0
  | n + 1 =>
    let b := data.take 4096
    if !crcGood b then (s.raise 240 i).complete tag .badCrc i
    else if !s.blockFits i b then s.complete tag .refusedState i
    else (s.stageBlock i (slice b 8 (s.blockLen i))).placeBlocks tag (i + 1) n (data.drop 4096)

/-- UPDATE_STAGE with blocks (R450). A command whose blocks do not fit waits. -/
def State.stageBlocks (s : State) (tag : Nat) (blocks : Option (List Byte)) : State :=
  match s.ready tag 0x40 with
  | none => s
  | some c =>
    let n := numAt c.payload 12 4
    let i := numAt c.payload 16 2
    let total := s.fwu.parts.foldl (fun a p => a + p.count) 0
    if numAt c.payload 8 1 ≠ 1 then s
    else if stageBad c.payload 1 || s.rd UPD_STAT_State != 1 || s.fwu.coord.isSome || decide (total < i + n) then
      (s.modCmd tag (fun c => c.ran [.start])).complete tag .refusedState 0
    else if s.bufFree < n then s
    else
      let s := s.modCmd tag (fun c => c.ran [.start, .dma])
      match blocks with
      | none => s.complete tag .timeout 0
      | some d => s.placeBlocks tag i n (padTo (4096 * n) d)

/-- UPDATE_STAGE_BLOCKS (R450). -/
def execUpdateStageBlocks (tag : Fin 256) (blocks : Option (List Byte)) (s : State) : Res := done s (s.stageBlocks tag blocks)

/-- An acknowledgement of a block or of the manifest to the coordinator (R453). -/
def State.ackUpd (s : State) (idx st cause : Nat) : State :=
  match s.fwu.coord with
  | some q => s.linkSend q (.bytes 0x32 (leBytes 2 idx ++ leBytes 1 st ++ leBytes 1 cause))
  | none => s

/-- On a peer: a block all of whose 103 chunks have come is checked, staged where the buffer has room, and acknowledged. -/
def State.peerBlock (s : State) (i : Nat) : State :=
  let cs := s.fwu.blkIn.filter (fun e => e.1 == i)
  if cs.length < 103 || s.bufFree == 0 then s
  else
    let b := (List.range 103).foldl (fun a j => a ++ (match cs.find? (fun e => e.2.1 == j) with | some e => padTo 40 e.2.2 | none => [])) []
    let b := b.take 4096
    let s := s.modUpd (fun u => { u with blkIn := u.blkIn.filter (fun e => e.1 != i) })
    if !crcGood b then s.ackUpd i 1 0
    else if s.rd UPD_STAT_State != 1 || !s.blockFits i b then s.ackUpd i 2 8
    else (s.stageBlock i (slice b 8 (s.blockLen i))).ackUpd i 0 0

/-- The raw bytes of a programmed block (R446). -/
def State.rawBlock (s : State) (i : Nat) : List Byte :=
  let d := (assoc s.fwu.prog i).getD []
  sealCrc (leBytes 4 (s.rd UPD_BUNDLE_ID_Id) ++ leBytes 2 i ++ leBytes 2 d.length ++ padTo 4080 d ++ leBytes 4 0)

/-- Send a block to the peer of a part in 103 chunks (R453). -/
def State.sendBlock (s : State) (k i : Nat) : State :=
  let q := (nth s.fwu.parts k).target
  let b := s.rawBlock i
  let s := s.modUpd (fun u => { u with sent := u.sent ++ [(k, i)] })
  forN 103 s (fun s j =>
    s.linkSend q (.bytes 0x31 (leBytes 2 i ++ leBytes 1 j ++ leBytes 1 0 ++ padTo 40 (slice b (40 * j) 40))))

/-- The update engine programs the oldest buffered block (R451): the first into a bank erases it. A last gasp in progress
abandons the program, and it is repeated (R465). -/
def State.progBlock (s : State) : State :=
  match s.fwu.buf with
  | [] => s
  | (i, d) :: rest =>
    if s.rbt.gasp then s
    else match s.partOf i with
      | none => s.modUpd (fun u => { u with buf := rest })
      | some k =>
        let p := nth s.fwu.parts k
        let mine (e : Nat × List Byte) : Bool := p.first ≤ e.1 && e.1 < p.first + p.count
        let s := match s.ownKind p with
          | some kind =>
            if s.fwu.prog.any mine then s
            else s.modNv (fun nv => { nv with versions := upd nv.versions (nv.inactive kind) (fun _ => 0),
                                              secVers := upd nv.secVers (nv.inactive kind) (fun _ => 0) })
          | none => s
        let s := s.modUpd (fun u => { u with buf := rest, prog := assocPut u.prog i d })
        let s := (s.wr (UPD_PART_STAT_Blocks k) (s.fwu.prog.filter mine).length).wr UPD_STAT_BufFree s.bufFree
        forEach ((s.fwu.blkIn.map (·.1)).eraseDups) s State.peerBlock

/-- UPD_BLOCK_PROGRAM (R451). -/
def execUpdBlockProgram (s : State) : Res := done s s.progBlock

/-- Every part this device handles is Ready: the session becomes Ready (R451). -/
def State.updCheckReady (s : State) : State :=
  if s.rd UPD_STAT_State = 1 ∧ s.updMine.all (fun k => s.rd (UPD_PART_STAT_State k) == 4) = true then s.updSession 2 0 else s

/-- A delivered part's target reports the image verified, or not (R451). -/
def State.partReady (s : State) (k : Nat) (ok : Bool) : State :=
  if ok then (s.updPart k 4 0).updCheckReady else (s.updPart k 5 0).raise 242 k

/-- Queue a transaction of the rectifier profile on a part. -/
def State.setRect (s : State) (k : Nat) (op : RectOp) : State := s.modUpd (fun u => { u with rect := assocPut u.rect k op })

/-- A fully programmed part is read back (R451): Verified and delivered, or Failed. `settings` are the register settings that the
image of a configuration set holds; the spec gives that image no layout (log entry 46). -/
def State.partVerify (s : State) (k : Nat) (settings : List (Nat × Word)) : State :=
  let p := nth s.fwu.parts k
  let blocks := (List.range p.count).map (fun j => assoc s.fwu.prog (p.first + j))
  if s.fwu.parts.length ≤ k || s.rd (UPD_PART_STAT_State k) != 1 || blocks.any Option.isNone then s
  else if !digestIs p.digest (blocks.foldl (fun a b => a ++ b.getD []) []) then (s.updPart k 5 0).raise 242 k
  else
    let s := s.updPart k 2 0
    match s.ownKind p with
    | some kind =>
      let s := s.modNv (fun nv => { nv with versions := upd nv.versions (nv.inactive kind) (fun _ => p.version),
                                            secVers := upd nv.secVers (nv.inactive kind) (fun _ => s.rd UPD_SECVER_Session) })
      let s := s.when (kind == 3) (fun s => s.modUpd (fun u => { u with settings := settings }))
      s.partReady k true
    | none =>
      let s := s.updPart k 3 0
      if p.rectifier then s.setRect k .start else s.sendBlock k p.first

/-- UPD_PART_VERIFY (R451). -/
def execUpdPartVerify (k : Fin 16) (settings : List (BitVec 21 × BitVec 32)) (s : State) : Res :=
  done s (s.partVerify k (settings.map (fun e => (e.1.toNat, e.2))))

/-- A peer part's report: it counts once the part is Delivering and every block has been acknowledged. -/
def State.peerReady (s : State) (k : Nat) (ok : Bool) : State :=
  let p := nth s.fwu.parts k
  if s.rd (UPD_PART_STAT_State k) = 3 ∧ p.peer = true ∧ p.count ≤ (s.fwu.acked.filter (fun e => e.1 == k)).length then s.partReady k ok else s

/-- UPD_PART_READY (R451). -/
def execUpdPartReady (k : Fin 16) (ok : Bool) (s : State) : Res := done s (s.peerReady k ok)

/-! ### Activation (R455, R456) -/

/-- Request of a surrender by this device, for the next boundary (R388). -/
def State.surCause (s : State) (reason : Nat) : State :=
  if s.rd RED_STAT_State = 2 ∧ s.red.surDue = none then { s with red := { s.red with surDue := some reason } } else s

/-- The parts an entry of the switching order stands for: 0-15 a rectifier part, 16 + q the parts of peer q, 24 the own parts. -/
def State.orderParts (s : State) (e : Nat) : List Nat :=
  (List.range s.fwu.parts.length).filter (fun k =>
    let p := nth s.fwu.parts k
    if e < 16 then k == e
    else if e < 24 then p.peer && p.target == e - 16 && s.fwu.coord.isNone
    else (s.ownKind p).isSome)

/-- Tell a part to return to its previous bank (R452, R453). -/
def State.revertEntry (s : State) (e : Nat) : State :=
  let s := if e < 16 then s.setRect e .revert
    else if e < 24 then s.linkSend (e - 16) (.bytes 0x37 (leBytes 4 (s.rd UPD_BUNDLE_ID_Id))) else s
  forEach (s.orderParts e) s (fun s k => s.updPart k 7 0)

/-- The switching order of the session: rectifiers in manifest order, peers ascending, own parts (R455). -/
def State.switchOrder (s : State) : List Nat :=
  (if s.fwu.coord.isSome then [] else
    (List.range s.fwu.parts.length).filter (fun k => (nth s.fwu.parts k).rectifier) ++ (peersOf s.fwu.parts).map (· + 16)) ++
  (if (s.orderParts 24).isEmpty then [] else [24])

/-- Return every part and end the session: Reverting while a rectifier is still to be told, then Idle (R455). -/
def State.updRevertAll (s : State) (done_ : List Nat) : State :=
  let rest := s.switchOrder.filter (fun e => !done_.contains e)
  let s := s.modUpd (fun u => { u with rect := [] })
  let s := forEach (done_.reverse ++ rest) s State.revertEntry
  if s.fwu.rect.isEmpty then s.updClose
  else (s.modUpd (fun u => { u with tag := none, armed := [], order := [], toldAt := none, cfgSwitch := false, buf := [], prog := [] })).updSession 5 0

/-- Activation fails before its commit point (R455). -/
def State.prepFail (s : State) (part : Nat) : State :=
  match s.fwu.tag with
  | none => s
  | some tag => (s.updRevertAll []).complete tag .faulted part

/-- A switch fails (R455): the parts switched return in reverse order, then the rest; the record's cause is a code the spec does
not give (log entry 4). -/
def State.switchFail (s : State) (part : Nat) : State :=
  match s.fwu.nv.act with
  | none => s
  | some a =>
    let (c, s) := s.draw 32
    let s := (s.request 0x0702 0 a.bundle part c).raise 243 part
    let s := s.modNv (fun nv => { nv with act := none })
    s.updRevertAll a.switched

/-- The commit point of an activation (R455): every part is ready. -/
def State.updTryCommit (s : State) : State :=
  match s.fwu.tag with
  | none => s
  | some tag =>
    let need := (s.switchOrder.filter (· < 24))
    if !need.all (fun e => s.fwu.armed.contains e) then s
    else match s.findCmd tag with
      | none => s
      | some c =>
        let w := if numAt c.payload 4 2 = 0 then max 1 (s.rd UPD_CFG_Window) else numAt c.payload 4 2
        let dl := (s.opms + 1000 * w) % 2 ^ 48
        let kinds := s.fwu.parts.filterMap s.ownKind
        let a : ActRec := { bundle := s.rd UPD_BUNDLE_ID_Id, secVer := s.rd UPD_SECVER_Session, window := w, deadline := dl,
                            kinds := kinds, parts := s.fwu.parts, coord := none }
        let s := s.modNv (fun nv => { nv with act := some a })
        let s := (s.wr UPD_DEADLINE_LO_Lo (dl % 2 ^ 32)).wr UPD_DEADLINE_HI_Hi (dl / 2 ^ 32)
        let s := s.request 0x0701 0 a.bundle a.secVer w
        let s := (s.commit tag).complete tag .ok 0
        s.modUpd (fun u => { u with tag := none, order := s.switchOrder, toldAt := none })

/-- UPDATE_ACTIVATE (R455). -/
def State.activate (s : State) (tag : Nat) : State :=
  match s.ready tag 0x41 with
  | none => s
  | some c =>
    let s := s.modCmd tag (fun c => c.ran [.start])
    if !zeroAt c.payload 6 34 then s.complete tag .refusedState 0
    else if s.rd UPD_STAT_State ≠ 2 ∨ s.fwu.coord.isSome = true ∨ numAt c.payload 0 4 ≠ s.rd UPD_BUNDLE_ID_Id then s.complete tag .refusedState 7
    else if s.updRefused ≠ 0 then s.complete tag .refusedState s.updRefused
    else
      let s := s.updSession 3 0
      let s := s.modUpd (fun u => { u with tag := some tag, since := s.frame, armed := [] })
      let s := forEach (peersOf s.fwu.parts) s (fun s q => s.linkSend q (.bytes 0x33 (leBytes 4 (s.rd UPD_BUNDLE_ID_Id))))
      let s := forN s.fwu.parts.length s (fun s k => if (nth s.fwu.parts k).rectifier then s.setRect k (.status 1) else s)
      s.updTryCommit

/-- UPDATE_ACTIVATE (R455). -/
def execUpdateActivate (tag : Fin 256) (s : State) : Res := done s (s.activate tag)

/-- PrepFrames have passed without every answer (R455). -/
def State.prepTimeout (s : State) : State :=
  if s.fwu.tag.isSome ∧ s.frame - s.fwu.since > max 1 (s.rd UPD_CFG_PrepFrames) then
    let e := ((s.switchOrder.filter (fun e => decide (e < 24) && !s.fwu.armed.contains e)).head?).getD 0
    s.prepFail (((s.orderParts e).head?).getD 0)
  else s

/-- UPD_PREP_TIMEOUT (R455). -/
def execUpdPrepTimeout (s : State) : Res := done s s.prepTimeout

/-- The first entry of the switching order runs its new version (R455). -/
def State.switched (s : State) : State :=
  match s.fwu.order with
  | [] => s
  | e :: rest =>
    let s := forEach (s.orderParts e) s (fun s k => (s.updPart k 6 0).wr (UPD_PART_VER_Version k) (nth s.fwu.parts k).version)
    let s := s.modNv (fun nv => { nv with act := nv.act.map (fun a => { a with switched := a.switched ++ [e] }) })
    let s := s.modUpd (fun u => { u with order := rest, toldAt := none })
    if rest.isEmpty then s.updSession 4 0 else s

/-- A switch has lasted more than UPD_RUN_LIMIT frames (R455). -/
def State.switchTimeout (s : State) : State :=
  match s.fwu.toldAt, s.fwu.order with
  | some t, e :: _ =>
    if s.frame - t > s.rd UPD_RUN_LIMIT_Frames ∧ s.fwu.coord = none then s.switchFail (((s.orderParts e).head?).getD 0) else s
  | _, _ => s

/-- UPD_SWITCH_TIMEOUT (R455). -/
def execUpdSwitchTimeout (s : State) : Res := done s s.switchTimeout

/-- Flip the banks of kinds. -/
def UpdNv.flip (nv : UpdNv) (kinds : List Nat) : UpdNv :=
  { nv with banks := kinds.foldl (fun b k => upd b (k - 1) (fun x => 1 - x)) nv.banks }

/-- Show the banks in use (R34's GLB_STAT fields). -/
def State.showBanks (s : State) : State :=
  let b := s.fwu.nv.banks
  ((s.wr GLB_STAT_FwBank (b.getD 0 0)).wr GLB_STAT_LtBank (b.getD 1 0)).wr GLB_STAT_CfgBank (b.getD 2 0)

/-- On a peer: the own parts run, or have failed (R453). -/
def State.reportDone (s : State) (failed : Bool) : State :=
  match s.fwu.coord with
  | some q => s.linkSend q (.bytes 0x36 (leBytes 4 (s.rd UPD_BUNDLE_ID_Id) ++ leBytes 1 (b2n failed)))
  | none => s

/-- Switch the own parts (R456): with firmware, an active of a pair surrenders once the standby is in sync, then the core
restarts; without, the microprograms change banks with the preset of R157 and a configuration set is compiled and applied. -/
def State.ownSwitch (s : State) : State :=
  let kinds := match s.fwu.nv.act with | some a => a.kinds | none => []
  if kinds.contains 1 then
    if s.on RED_CFG_PairEn && s.rd RED_STAT_State == 2 then
      (match s.red.peer with
       | some h => if h.sync then s.surCause 0 else s
       | none => s)
    else s.modUpd (fun u => { u with restart := true })
  else if s.fwu.cfgSwitch then s
  else
    let s := s.when (kinds.contains 2) (fun s =>
      let s := (s.modNv (fun nv => nv.flip [2])).showBanks
      forN 24 s (fun s n => if s.ltMode n == 2 || s.ltMode n == 3 then s.ltTransfer n else s))
    if kinds.contains 3 then s.modUpd (fun u => { u with cfgSwitch := true }) else s.switched.reportDone false

/-- A new configuration set's compile has failed, or its apply has taken effect (R456). -/
def State.cfgSwitched (s : State) (ok : Bool) : State :=
  if !s.fwu.cfgSwitch then s
  else
    let s := s.modUpd (fun u => { u with cfgSwitch := false })
    if ok then ((s.modNv (fun nv => nv.flip [3])).showBanks.switched).reportDone false
    else if s.fwu.coord.isSome then s.reportDone true
    else s.switchFail (((s.orderParts 24).head?).getD 0)

/-- Whether hold-up has left Normal or a takeover runs (R465). -/
def State.updBlocked (s : State) : Bool := s.rd HU_STAT_State != 0 || s.rd RED_STAT_State == 4

/-- Tell the first entry of the switching order to switch (R455): the next switch waits while R465 blocks it. -/
def State.updAdvance (s : State) : State :=
  match s.fwu.order, s.fwu.toldAt with
  | e :: _, none =>
    if s.updBlocked then s
    else
      let s := (s.modUpd (fun u => { u with toldAt := some s.frame })).wr UPD_STAT_Part (((s.orderParts e).head?).getD 0)
      if e < 16 then s.setRect e .commit
      else if e < 24 then
        let dl := match s.fwu.nv.act with | some a => a.deadline | none => 0
        s.linkSend (e - 16) (.bytes 0x35 (leBytes 4 (s.rd UPD_BUNDLE_ID_Id) ++ leBytes 4 ((dl - s.opms) / 1000)))
      else s.ownSwitch
  | 24 :: _, some _ => s.ownSwitch
  | _, _ => s

/-! ### The rectifier profile (R452) -/

/-- The bytes of a transaction: command, whether it reads, and the data written. -/
def State.rectOp (s : State) (k : Nat) (op : RectOp) : Nat × Bool × List Byte :=
  let p := nth s.fwu.parts k
  let image := (List.range p.count).foldl (fun a j => a ++ (assoc s.fwu.prog (p.first + j)).getD []) []
  match op with
  | .caps _ => (0xE0, true, [])
  | .start => (0xE1, false, leBytes 4 p.length ++ leBytes 4 p.version)
  | .data i _ => (0xE2, false, leBytes 2 i ++ padTo 30 (slice image (30 * i) 30))
  | .verify => (0xE3, false, leBytes 4 (crc32c image))
  | .status _ => (0xE4, true, [])
  | .arm => (0xE5, false, [])
  | .commit => (0xE6, false, [])
  | .revert => (0xE7, false, [])
  | .confirm => (0xE8, false, [])

/-- Nothing more to send on a part. -/
def State.rectDone (s : State) (k : Nat) : State := s.modUpd (fun u => { u with rect := assocDel u.rect k })

/-- A transaction on a rectifier part ends (R451, R452, R455): its status and the data bytes it read, count byte excluded. -/
def State.rectEnd (s : State) (k : Nat) (ok : Bool) (rx : List Byte) : State :=
  match assoc s.fwu.rect k with
  | none => s
  | some op =>
    let p := nth s.fwu.parts k
    match op with
    | .caps false =>
      let s := s.rectDone k
      if ok && numAt rx 0 1 % 4 == 3 then s.checkNext else s.checkEnd .refusedState 9
    | .caps true =>
      if !ok then s
      else
        let s := s.wr (UPD_PART_VER_Version k) (numAt rx 2 4)
        if numAt rx 2 4 = p.version ∧ (match assoc s.fwu.rbank k with | some b => numAt rx 1 1 != b | none => true) = true then
          (s.rectDone k).switched
        else s
    | .start => if ok then s.setRect k (.data 0 0) else (s.rectDone k).partReady k false
    | .data i t =>
      if ok then s.setRect k (if 30 * (i + 1) < p.length then .data (i + 1) 0 else .verify)
      else if t < 3 then s.setRect k (.data i (t + 1)) else (s.rectDone k).partReady k false
    | .verify => if ok then s.setRect k (.status 0) else (s.rectDone k).partReady k false
    | .status u =>
      let v := numAt rx 0 1
      if u = 0 then (s.rectDone k).partReady k (ok && v == 2)
      else if u = 1 then (if ok && v == 2 then s.setRect k .arm else (s.rectDone k).prepFail k)
      else if ok && v == 4 then
        ((s.rectDone k).modUpd (fun u => { u with armed := u.armed ++ [k] })).updTryCommit
      else (s.rectDone k).prepFail k
    | .arm => if ok then s.setRect k (.status 2) else (s.rectDone k).prepFail k
    | .commit => s.setRect k (.caps true)
    | .revert =>
      let s := s.rectDone k
      if s.rd UPD_STAT_State = 5 ∧ s.fwu.rect.isEmpty = true then s.updClose else s
    | .confirm => if ok then (s.rectDone k).modUpd (fun u => { u with confirms := u.confirms.filter (· != k) }) else s

/-! ### Confirmation and fall-back (R458-R460) -/

/-- A confirmation takes effect (R459): the counter rises to the session's SecVer (R460). -/
def State.updConfirmed (s : State) (a : ActRec) : State :=
  let n := max s.fwu.nv.counter a.secVer
  let s := s.modNv (fun nv => { nv with counter := n, act := none })
  let s := (s.wr UPD_SECVER_Counter n).request 0x0703 0 a.bundle n 0
  s.updSession 0 0

/-- The deadline of a pending session has passed (R458). -/
def State.updExpired (s : State) : Bool :=
  match s.fwu.nv.act with
  | some a => s.rd UPD_STAT_State == 4 && decide (a.deadline ≤ s.opms)
  | none => false

/-- UPDATE_CONFIRM (R459). A confirmation after the deadline is refused (R465). -/
def State.confirmCmd (s : State) (tag : Nat) : State :=
  match s.ready tag 0x42 with
  | none => s
  | some c =>
    let s := s.modCmd tag (fun c => c.ran [.start, .nvm])
    match s.fwu.nv.act with
    | some a =>
      if !zeroAt c.payload 4 36 || s.rd UPD_STAT_State != 4 || numAt c.payload 0 4 != a.bundle || s.updExpired || s.fwu.coord.isSome then
        s.complete tag .refusedState 0
      else
        let l := (List.range a.parts.length).filter (fun k => (nth a.parts k).rectifier)
        let s := (s.commit tag).updConfirmed a
        let s := s.modUpd (fun u => { u with confirms := l ++ (peersOf a.parts).map (· + 16) })
        let s := forEach l s (fun s k => s.setRect k .confirm)
        s.complete tag .ok 0
    | none => s.complete tag .refusedState 0

/-- UPDATE_CONFIRM (R459). -/
def execUpdateConfirm (tag : Fin 256) (s : State) : Res := done s (s.confirmCmd tag)

/-- Confirmations to peers, repeated until a port takes them (R459). -/
def State.sendConfirms (s : State) : State :=
  forEach (s.fwu.confirms.filter (fun e => decide (16 ≤ e))) s (fun s e =>
    if (s.routeOf (e - 16)).isSome then
      (s.linkSend (e - 16) (.bytes 0x38 (leBytes 4 (s.rd UPD_BUNDLE_ID_Id)))).modUpd
        (fun u => { u with confirms := u.confirms.filter (· != e) })
    else s)

/-- The deadline passes (R458): raised once, shown in Expired; with ExpireAct a core restart follows. -/
def State.confirmExpired (s : State) : State :=
  if s.updExpired && !s.on UPD_STAT_Expired && !s.fwu.restart then
    let s := (s.wrB UPD_STAT_Expired true).raise 244 0
    if s.on UPD_CFG_ExpireAct then s.modUpd (fun u => { u with restart := true }) else s
  else s

/-- UPD_CONFIRM_EXPIRED (R458). -/
def execUpdConfirmExpired (s : State) : Res := done s s.confirmExpired

/-- The bank choice of a boot or a core restart (R458): new banks before the deadline, the previous ones after it. The own parts of a
session that is still Activating count as switched only where their switch had begun (R465). -/
def State.bankSelect (s : State) : State :=
  match s.fwu.nv.act with
  | none => s.showBanks
  | some a =>
    let own := a.switched.contains 24
    if a.deadline ≤ s.opms then
      let s := s.when own (fun s => s.modNv (fun nv => nv.flip a.kinds))
      let s := (s.wrB GLB_STAT_Fallback true).showBanks
      let s := s.request 0x0704 0 a.bundle (a.parts.length) 0
      let s := s.modUpd (fun u => { u with parts := a.parts, coord := a.coord, order := [], toldAt := none, restart := false })
      let s := s.modNv (fun nv => { nv with act := none })
      let back := (a.switched.filter (· < 24)).reverse
      let s := forEach back s State.revertEntry
      if s.fwu.rect.isEmpty then s.updSession 0 0 else s.updSession 5 0
    else s.showBanks

/-- After a reset or a core restart a session that is Activating or Pending resumes (R458, R465). A restart that the switch of the own
parts asked for has put the new banks in use. -/
def State.updResume (s : State) (asked : Bool) : State :=
  match s.fwu.nv.act with
  | none => s
  | some a =>
    if a.deadline ≤ s.opms then s
    else
      let s := s.modUpd (fun u => { u with parts := a.parts, coord := a.coord, restart := false, toldAt := none })
      let s := ((s.wr UPD_BUNDLE_ID_Id a.bundle).wr UPD_SECVER_Session a.secVer).wr UPD_DEADLINE_LO_Lo (a.deadline % 2 ^ 32)
      let s := s.wr UPD_DEADLINE_HI_Hi (a.deadline / 2 ^ 32)
      let s := forN a.parts.length s (fun s k => s.wr (UPD_PART_STAT_Kind k) (nth a.parts k).kind)
      let s := s.modUpd (fun u => { u with order := s.switchOrder.filter (fun e => !a.switched.contains e) })
      let s := forEach a.switched s (fun s e => forEach (s.orderParts e) s (fun s k => s.wr (UPD_PART_STAT_State k) 6))
      if asked && s.fwu.order.head? == some 24 then
        (((s.modNv (fun nv => nv.flip a.kinds)).showBanks.updSession 3 0).switched).reportDone false
      else if s.fwu.order.isEmpty then s.updSession 4 0 else s.updSession 3 0

/-- What the engine does at a frame boundary: the failures of R465 before the commit point, the time limits, the next switch, the
confirmations. A manifest command that is gone leaves its checks. -/
def State.updBoundary (s : State) : State :=
  let s := match s.fwu.check with
    | some (tag, _, _) => if (s.findCmd tag).isNone then s.checkEnd .timeout 0 else s
    | none => s
  let s := match s.fwu.tag with
    | some tag => if (s.findCmd tag).isNone then s.updRevertAll [] else if s.updBlocked then s.prepFail 0 else s
    | none => s
  ((s.prepTimeout).switchTimeout).confirmExpired.updAdvance.sendConfirms

/-! ### Peer messages (R453), after the receiver's checks of R379 -/

/-- UPD_MAN: a peer reassembles the manifest and checks it by R449. -/
def State.gotUpdMan (s : State) (src : Nat) (p : List Byte) : State :=
  let i := numAt p 0 2
  let len := numAt p 2 2
  let keep := if i = 0 ∨ s.fwu.manLen ≠ len then [] else s.fwu.manIn
  let s := s.modUpd (fun u => { u with manLen := len, manIn := assocPut keep i (padTo 40 (p.drop 4)) })
  if s.fwu.manIn.length < (len + 39) / 40 then s
  else
    let m := (s.fwu.manIn.foldl (fun a e => a ++ e.2) []).take len
    let s := s.modUpd (fun u => { u with manIn := [] })
    let ack (s : State) (st c : Nat) := s.linkSend src (.bytes 0x32 (leBytes 2 0xFFFF ++ leBytes 1 st ++ leBytes 1 c))
    let st := s.rd UPD_STAT_State
    if s.updRefused ≠ 0 then ack s 2 s.updRefused
    else if st = 3 ∨ st = 4 ∨ st = 5 then ack s 2 7
    else if manOk m = false then ack s 2 8
    else if s.manAuth m ≠ 0 then ack (s.raise 241 (s.manAuth m)) 2 (s.manAuth m)
    else ack (s.updOpen m (some src)) 0 0

/-- UPD_DATA: a peer collects the chunks of a block. -/
def State.gotUpdData (s : State) (src : Nat) (p : List Byte) : State :=
  let i := numAt p 0 2
  let j := numAt p 2 1
  if s.fwu.coord ≠ some src ∨ 102 < j then s
  else
    let rest := s.fwu.blkIn.filter (fun e => !(e.1 == i && e.2.1 == j))
    (s.modUpd (fun u => { u with blkIn := rest ++ [(i, j, padTo 40 (p.drop 4))] })).peerBlock i

/-- UPD_ACK: the coordinator takes an acknowledgement; a block whose CRC failed is sent again, the next one follows an accepted
one. -/
def State.gotUpdAck (s : State) (src : Nat) (p : List Byte) : State :=
  let i := numAt p 0 2
  let st := numAt p 2 1
  if i = 0xFFFF then
    match s.fwu.check with
    | some (tag, m, ps) =>
      if !ps.contains src || ps.contains 8 then s
      else if st = 0 then (s.modUpd (fun u => { u with check := some (tag, m, ps.filter (· != src)) })).checkNext
      else s.checkEnd .timeout 0
    | none => s
  else
    match s.partOf i with
    | none => s
    | some k =>
      let q := nth s.fwu.parts k
      if q.peer = false ∨ q.target ≠ src ∨ s.fwu.coord.isSome = true ∨ s.fwu.sent.contains (k, i) = false ∨ s.rd (UPD_PART_STAT_State k) ≠ 3 then s
      else match st with
        | 0 =>
          let s := s.modUpd (fun u => { u with acked := if u.acked.contains (k, i) then u.acked else u.acked ++ [(k, i)] })
          if i + 1 < q.first + q.count ∧ s.fwu.sent.contains (k, i + 1) = false then s.sendBlock k (i + 1) else s
        | 1 => s.sendBlock k i
        | _ => s.partReady k false

/-- UPD_PREPARE: a peer applies R454 itself and answers UPD_READY. -/
def State.gotUpdPrepare (s : State) (src : Nat) (p : List Byte) : State :=
  let cause := if s.fwu.coord ≠ some src ∨ s.rd UPD_STAT_State ≠ 2 ∨ numAt p 0 4 ≠ s.rd UPD_BUNDLE_ID_Id then 7 else s.updRefused
  let s := s.linkSend src (.bytes 0x34 (slice (padTo 48 p) 0 4 ++ leBytes 1 cause))
  if cause = 0 then s.updSession 3 0 else s

/-- UPD_READY: the coordinator records a peer ready, or its refusal fails the activation. -/
def State.gotUpdReady (s : State) (src : Nat) (p : List Byte) : State :=
  if s.fwu.tag = none ∨ numAt p 0 4 ≠ s.rd UPD_BUNDLE_ID_Id ∨ (peersOf s.fwu.parts).contains src = false then s
  else if numAt p 4 1 = 0 then
    (s.modUpd (fun u => { u with armed := if u.armed.contains (16 + src) then u.armed else u.armed ++ [16 + src] })).updTryCommit
  else s.prepFail (((s.orderParts (16 + src)).head?).getD 0)

/-- UPD_COMMIT: a peer switches to its new banks, with the confirmation window that remains. -/
def State.gotUpdCommit (s : State) (src : Nat) (p : List Byte) : State :=
  if s.fwu.coord ≠ some src ∨ s.rd UPD_STAT_State ≠ 3 ∨ numAt p 0 4 ≠ s.rd UPD_BUNDLE_ID_Id ∨ s.fwu.nv.act.isSome = true then s
  else
    let dl := (s.opms + 1000 * numAt p 4 4) % 2 ^ 48
    let a : ActRec := { bundle := s.rd UPD_BUNDLE_ID_Id, secVer := s.rd UPD_SECVER_Session, window := numAt p 4 4, deadline := dl,
                        kinds := s.fwu.parts.filterMap s.ownKind, parts := s.fwu.parts, coord := some src }
    let s := s.modNv (fun nv => { nv with act := some a })
    let s := (s.wr UPD_DEADLINE_LO_Lo (dl % 2 ^ 32)).wr UPD_DEADLINE_HI_Hi (dl / 2 ^ 32)
    (s.modUpd (fun u => { u with order := s.switchOrder, toldAt := none })).updAdvance

/-- UPD_DONE: the coordinator records that a peer runs its version, or has failed. -/
def State.gotUpdDone (s : State) (src : Nat) (p : List Byte) : State :=
  if s.fwu.order.head? ≠ some (16 + src) ∨ s.fwu.toldAt = none ∨ numAt p 0 4 ≠ s.rd UPD_BUNDLE_ID_Id then s
  else if numAt p 4 1 = 0 then s.switched else s.switchFail (((s.orderParts (16 + src)).head?).getD 0)

/-- UPD_REVERT: a peer returns to its previous banks, by a core restart where its firmware was switched. -/
def State.gotUpdRevert (s : State) (src : Nat) (p : List Byte) : State :=
  if s.fwu.coord ≠ some src ∨ numAt p 0 4 ≠ s.rd UPD_BUNDLE_ID_Id then s
  else
    let s := forEach s.updMine s (fun s k => s.updPart k 7 0)
    let s := match s.fwu.nv.act with
      | some a =>
        let s := s.when (a.switched.contains 24) (fun s => (s.modNv (fun nv => nv.flip a.kinds)).showBanks)
        s.modUpd (fun u => { u with restart := a.switched.contains 24 && a.kinds.contains 1 })
      | none => s
    (s.modNv (fun nv => { nv with act := none })).updClose

/-- UPD_CONFIRM: a peer makes its new banks permanent. -/
def State.gotUpdConfirm (s : State) (src : Nat) (p : List Byte) : State :=
  match s.fwu.nv.act with
  | some a => if a.coord = some src ∧ numAt p 0 4 = a.bundle ∧ s.rd UPD_STAT_State = 4 then s.updConfirmed a else s
  | none => s

/-! ### Keys, locks, closing a session (R462-R464, R467) -/

/-- PROVISION (R462): the owner key hash and its policy bit are written once. A key that could not be read is treated as one that is
not on the curve (log entry 48). -/
def execProvision (coSign : Bool) (key : Option (List Byte)) (s : State) : Res :=
  let k := padTo 97 (key.getD [])
  if s.on DBG_LOCK_Lock then done s ((s.wrB UPD_STAT_ProvErr true).raise 247 0)
  else if s.fwu.nv.keyHash.isSome || key.isNone || !Config.onP384 k then done s (s.wrB UPD_STAT_ProvErr true)
  else
    let h := Config.sha384 k
    let t := s.modNv (fun nv => { nv with keyHash := some h, coSignReq := coSign })
    let t := (t.wrB UPD_LOCK_KeyProvisioned true).wrB UPD_LOCK_CoSignReq coSign
    -- digest bits [31:0]: the first four digest bytes as a little-endian number, as in R418
    done s (t.request 0x0705 0 (leNat (leBytes 48 h.toNat).reverse % 2 ^ 32) (b2n coSign) 0)

/-- A signed token of the owner (R417, R463): signature, serial and reserved bytes good. -/
def State.tokenAuth (s : State) (t : List Byte) : Bool :=
  match s.fwu.nv.keyHash with
  | none => false
  | some h =>
    let key := slice t 128 97
    Config.sha384 key == h && Config.ecdsaP384 (Config.sha384 (t.take 32)) (slice t 32 96) key &&
      numAt t 4 8 == Config.serialNumber.toNat

/-- LOCK_OP (R463): the cause in the syndrome of a refusal is a code the spec does not give. -/
def execLockOp (token : Option (List Byte)) (s : State) : Res :=
  let t := padTo 232 (token.getD [])
  let ok := token.isSome && numAt t 0 2 == 2 && zeroAt t 2 2 && zeroAt t 20 12 && zeroAt t 225 7 && numAt t 12 4 ≤ 1 &&
    s.tokenAuth t && numAt t 16 4 == s.fwu.nv.lockCnt + 1
  if ok then
    let u := s.modNv (fun nv => { nv with ownerLock := numAt t 12 4 == 1, lockCnt := numAt t 16 4 })
    let u := (u.wr UPD_LOCK_OwnerLock (numAt t 12 4)).wr UPD_LOCK_LockCnt (numAt t 16 4)
    done s (u.request 0x0706 0 (numAt t 12 4) (numAt t 16 4) 0)
  else
    let (c, u) := s.draw 8
    done s ((u.wrB UPD_STAT_LockErr true).raise 241 c)

/-- UPD_ABANDON (R467): an Open or Ready session closes. -/
def execUpdAbandon (s : State) : Res :=
  if s.rd UPD_STAT_State = 1 ∨ s.rd UPD_STAT_State = 2 then
    done s ((forEach s.updMine s (fun s k => s.updPart k 0 0)).modUpd (fun u => { u with rect := [] })).updClose
  else done s s

end Sys2Proof.Machine
end

