-- ==== Sys2Proof/Machine/Bus.lean ====
section
/-!
DEFINITION. The two-wire ports and CAN controllers (chapter 12): what a transaction serves, its start, its end and its
failures, the port state of R352-R357, the alert response, and CAN frames in both directions.
-/
namespace Sys2Proof.Machine

def State.modTw (s : State) (p : Nat) (f : TwPort → TwPort) : State := { s with bus := { s.bus with tw := upd s.bus.tw p f } }
def State.modCan (s : State) (c : Nat) (f : CanCtrl → CanCtrl) : State := { s with bus := { s.bus with can := upd s.bus.can c f } }
def State.modTgt (s : State) (f : TgtSt → TgtSt) : State := { s with bus := { s.bus with tgt := f s.bus.tgt } }
def State.twp (s : State) (p : Nat) : TwPort := nth s.bus.tw p
def State.canc (s : State) (c : Nat) : CanCtrl := nth s.bus.can c

/-- A port, or a controller, may send (R364): it carries no shelf bus, or this device holds the role. -/
def State.twMaster (s : State) (p : Nat) : Bool := !s.on (TW_PORT_CFG_ShelfBus p) || s.on GLB_STAT_ShelfMaster

/-! ### What a transaction serves -/

/-- A pinned point as a bus run: ID, head, binding, and the value to write. -/
def State.pinRun (s : State) (use : BusUse) (id : Nat) (val : Option Nat) : Option BusRun :=
  (s.pinOf id).map (fun i => { use := use, id := id, head := s.pin i 0, d2 := s.pin i 2, d3 := s.pin i 3, val := val })

/-- The work of a use, where there is some (R172, R266, R327, R333, R336, R349, R367, R452). -/
def State.busWork (s : State) (use : BusUse) : Option BusRun :=
  match use with
  | .cmd tag =>
    match s.findCmd tag.val with
    | some c =>
      if !c.begun || c.commit then none
      else if c.opcode = 0x20 ∨ c.opcode = 0x21 then some { use := use }
      else if c.opcode = 0x10 then some { use := use, id := c.point, head := c.head, d2 := c.d2, d3 := c.d3 }
      else if c.opcode = 0x11 then
        some { use := use, id := c.point, head := c.head, d2 := c.d2, d3 := c.d3, val := some (numAt c.payload 0 4) }
      else none
    | none => none
  | .refresh i =>
    if (s.pin i.val 0).testBit 31 && s.pin i.val 1 % 65536 != 0 then s.pinRun use (s.pin i.val 0 % 2 ^ 20) none else none
  | .member m k =>
    match assoc (s.slc m.val).wr k.val with
    | some v => s.pinRun use (s.rd (SL_MEM_OUT_Id m.val k.val)) (some (unsigned 32 v))
    | none => none
  | .readback m k =>
    if s.on (SL_MEM_CFG_En m.val k.val) && s.rd (SL_MEM_RB_Id m.val k.val) != 0xFFFFF then
      s.pinRun use (s.rd (SL_MEM_RB_Id m.val k.val)) none
    else none
  | .rail r =>
    match (s.rail r.val).write with
    | some on => s.pinRun use (s.rd (SEQ_RAIL_PNT_Point r.val))
        (some (if on then s.rd (SEQ_RAIL_ONVAL_V r.val) else s.rd (SEQ_RAIL_OFFVAL_V r.val)))
    | none => none
  | .update k => if (assoc s.fwu.rect k.val).isSome then some { use := use } else none

/-- The command a run serves, while it has no completion. -/
def State.runCmd (s : State) (r : BusRun) : Option Cmd :=
  match r.use with
  | .cmd tag => if r.orphan then none else s.findCmd tag.val
  | _ => none

/-- The part entry a rectifier transaction serves: of the session, or of the manifest under check. -/
def State.rectPart (s : State) (k : Nat) : UpdPart :=
  if k < 16 then nth s.fwu.parts k
  else match s.fwu.check with
    | some (_, m, _) => nth (manParts m) (k - 16)
    | none => {}

/-- The two-wire port a run goes to (R349, R358, R445). -/
def State.twPortOf (s : State) (r : BusRun) : Option Nat :=
  match r.use with
  | .cmd tag =>
    match s.findCmd tag.val with
    | some c => if c.opcode = 0x20 then some (numAt c.payload 0 1) else if domainOf c.point = 1 then some (r.d2 % 16) else none
    | none => none
  | .update k => some (s.rectPart k.val).target
  | _ => if domainOf r.id = 1 then some (r.d2 % 16) else none

/-- The CAN controller a run goes to (R367, R369). -/
def State.canOf (s : State) (r : BusRun) : Option Nat :=
  match r.use with
  | .cmd tag =>
    match s.findCmd tag.val with
    | some c => if c.opcode = 0x21 then some (numAt c.payload 0 1) else if domainOf c.point = 2 then some (r.d2 % 4) else none
    | none => none
  | .update _ => none
  | _ => if domainOf r.id = 2 then some (r.d2 % 4) else none

/-! ### Bytes on the bus (R348, R349, R358) -/

/-- The bytes a controller sends before it reads: address, command byte, count and data by the protocol; a repeated START's address
follows (R348). -/
def twBytes (addr proto cmd : Nat) (quickRead : Bool) (wr : List Byte) (rdLen : Nat) : List Byte :=
  let b (n : Nat) : List Byte := [BitVec.ofNat 8 n]
  let w := b (2 * addr)
  let r := b (2 * addr + 1)
  match proto with
  | 0 => b (2 * addr + b2n quickRead)
  | 1 => w ++ wr
  | 2 => r
  | 3 | 4 => w ++ b cmd ++ wr
  | 5 | 6 => w ++ b cmd ++ r
  | 7 => w ++ b cmd ++ wr ++ r
  | 8 => w ++ b cmd ++ b wr.length ++ wr
  | 9 => w ++ b cmd ++ r
  | 10 => w ++ b cmd ++ b wr.length ++ wr ++ r
  | _ => (if wr.isEmpty then [] else w ++ wr) ++ (if rdLen = 0 then [] else r)

/-- A run on a point whose binding has a Page: a PAGE write comes first (R358). -/
def State.paged (s : State) (r : BusRun) : Bool :=
  match r.use with
  | .update _ => false
  | _ => (match s.runCmd r with | some c => c.opcode != 0x20 | none => true) && bits r.d2 31 24 != 255

/-- The bytes of a point access, or of the PAGE write before it (R358). -/
def State.pointBytes (s : State) (r : BusRun) : List Byte :=
  let addr := bits r.d2 10 4
  let cmd := bits r.d2 23 16
  let n := twSize r.d2
  if r.page then twBytes addr 3 0 false [BitVec.ofNat 8 (bits r.d2 31 24)] 0
  else match r.val with
    | some v =>
      let data := leBytes n (s.twEncode r.d2 r.d3 (headType r.head) v)
      twBytes addr (match n with | 1 => 3 | 2 => 4 | _ => 8) cmd false data 0
    | none => twBytes addr (match n with | 1 => 5 | 2 => 6 | _ => 9) cmd false [] 4

/-- The bytes of a run on a port: a TW_XFER, a point access (R358), or a rectifier command (R452). -/
def State.twRunBytes (s : State) (r : BusRun) : List Byte :=
  match r.use with
  | .update k =>
    match assoc s.fwu.rect k.val with
    | some op =>
      let p := s.rectPart k.val
      let (c, rd, data) := s.rectOp k.val op
      let proto := match op with
        | .caps _ => 9
        | .status _ => 5
        | .start | .data _ _ | .verify => 8
        | _ => 1
      twBytes p.addr proto c false (if proto = 1 then [BitVec.ofNat 8 c] else data) (if rd then 8 else 0)
    | none => []
  | _ =>
    match s.runCmd r with
    | some c =>
      if c.opcode = 0x20 then
        let p := c.payload
        twBytes (numAt p 1 1 % 128) (numAt p 2 1) (numAt p 4 1) (bit (numAt p 3 1) 1) (slice p 8 (numAt p 5 1)) (numAt p 6 1)
      else s.pointBytes r
    | none => s.pointBytes r

/-! ### The end of a run -/

/-- A point value that arrived good, or saturated (R330). -/
def mkVal (v : Nat) (sat : Bool) (stamp : Nat) : PVal := { v := BitVec.ofNat 32 v, q := if sat then 5 else 0, stamp := stamp }

/-- A point access ends (R178, R266, R331, R333, R336): a good read carries the value read. -/
def State.accessEnd (s : State) (r : BusRun) (st : Status) (rd : Option (Nat × Bool)) : State :=
  let ok := st == .ok
  let fr := s.frame32
  let wrote (s : State) : State := match r.val with
    | some v => if ok then s.arrive r.id (some (mkVal v false fr)) else s
    | none => s
  match r.use with
  | .refresh _ | .readback _ _ =>
    match rd with
    | some (v, sat) => if ok then s.arrive r.id (some (mkVal v sat fr)) else s.arrive r.id none
    | none => s.arrive r.id none
  | .member m k => wrote (s.slWritten m.val k.val ok)
  | .rail x => wrote (s.railWritten x.val (match r.val with | some v => v == s.rd (SEQ_RAIL_ONVAL_V x.val) && (s.rail x.val).write == some true | none => false) st.code)
  | .cmd tag =>
    if r.orphan then (if (s.pinOf r.id).isSome then wrote s else s)
    else match r.val, rd with
    | some _, _ =>
      let prev := match s.findCmd tag.val with | some c => c.result | none => 0
      (if (s.pinOf r.id).isSome then wrote s else s).complete tag.val st prev
    | none, some (v, sat) =>
      s.complete tag.val st (if ok then v + 2 ^ 32 * (if sat then 5 else 0) else 0)
    | none, none => s.complete tag.val st 0
  | .update _ => s

/-- The word a point read takes from the bytes of its transaction: a block read starts with its count byte (R358). -/
def twWord (n : Nat) (rx : List Byte) : Nat := if n = 4 then numAt rx 1 4 else numAt rx 0 n

/-- Complete a TW_XFER (R349): its bytes in the result, or by DMA to the host's buffer. -/
def State.xferEnd (s : State) (tag : Nat) (c : Cmd) (st : Status) (rx : List Byte) : State :=
  let host := bit (numAt c.payload 3 1) 2
  if !host then s.complete tag st (leNat (rx.take 8))
  else if rx.isEmpty then s.complete tag st 0
  else if !s.dmaOk then s.complete tag .timeout 0
  else (s.emit (.dmaWrite (numAt c.payload 32 8) rx)).complete tag st rx.length

/-- A run ends with a status and the bytes received (R178, R349, R350). -/
def State.runEnd (s : State) (r : BusRun) (st : Status) (rx : List Byte) : State :=
  match r.use with
  | .update k =>
    let data := match assoc s.fwu.rect k.val with | some (.caps _) => rx.drop 1 | _ => rx
    s.rectEnd k.val (st == .ok) data
  | _ =>
    match s.runCmd r with
    | some c => if c.opcode = 0x20 then s.xferEnd c.tag c st rx else point s
    | none => match r.use with | .cmd _ => if r.orphan then point s else s | _ => point s
where
  /-- A point access: the value read, in the binding's format. -/
  point (s : State) : State :=
    s.accessEnd r st (if r.val.isSome then none
      else some (s.twDecode r.d2 r.d3 (headType r.head) (twWord (twSize r.d2) rx)))

/-- Take the run off a port with a status (R373: NACK, and every failure, is counted). -/
def State.twFinish (s : State) (p : Nat) (st : Status) (rx : List Byte) : State :=
  match (s.twp p).run with
  | none => s
  | some r =>
    let s := (s.modTw p (fun t => { t with run := none })).wrB (TW_PORT_STAT_BusBusy p) false
    let s := match st with
      | .nack => s.inc (TW_PORT_NACK_CNT_Cnt p)
      | .ok | .disabled => s
      | _ => s.inc (TW_PORT_ERR_CNT_Cnt p)
    s.runEnd r st rx

/-- The status a code stands for, among those a run can carry from its start (R352). -/
def presetStatus (n : Nat) : Status := if n = 10 then .busError else .arbLost

/-! ### Start and end of transactions -/

/-- A transaction sends its START (R373). -/
def State.twSend (s : State) (p : Nat) (r : BusRun) : State :=
  ((s.inc (TW_PORT_XFER_CNT_Cnt p)).modTw p (fun t => { t with run := some r })).emit (.busStart p (s.twRunBytes r))

/-- A transaction's start slot (R351, R352). The value in force before a write is taken at its commit point (R333). -/
def State.twStart (s : State) (p : Nat) (use : BusUse) (busBusy : Bool) : State :=
  match s.busWork use with
  | none => s
  | some r =>
    if s.twPortOf r ≠ some p ∨ (s.twp p).run.isSome = true ∨ s.twMaster p = false then s
    else
      let take (s : State) : State := match use with
        | .member m k => s.modSl m.val (fun c => { c with wr := assocDel c.wr k.val })
        | .cmd tag => s.modCmd tag.val (fun c => { (c.ran [.bus]) with
            result := if c.opcode = 0x11 then writeResult (s.cached c.point) else c.result })
        | _ => s
      let s := take s
      if !s.on (TW_PORT_STAT_Ready p) then s.modTw p (fun t => { t with run := some { r with preset := some 10 } })
      else if busBusy then s.modTw p (fun t => { t with run := some { r with preset := some 13 } })
      else
        let s := match use with | .cmd tag => s.commit tag.val | _ => s
        (s.wrB (TW_PORT_STAT_BusBusy p) true).twSend p { r with page := s.paged r }

/-- TW_TRANSACTION_START (R351). -/
def execTwTransactionStart (p : Fin 12) (use : BusUse) (busBusy : Bool) (s : State) : Res := done s (s.twStart p.val use busBusy)

/-- What a run reads (R348): the bytes expected without a count byte, and for a block read the greatest count; whether PEC closes
the transaction, and the address. -/
def State.twShape (s : State) (r : BusRun) : Nat × Option Nat × Bool × Nat :=
  match r.use with
  | .update k =>
    let p := s.rectPart k.val
    let pec := s.rd (TW_PORT_CFG_Proto p.target) == 2
    match assoc s.fwu.rect k.val with
    | some (.caps _) => (0, some 8, pec, p.addr)
    | some (.status _) => (1, none, pec, p.addr)
    | _ => (0, none, pec, p.addr)
  | _ =>
    match s.runCmd r with
    | some c => if c.opcode = 0x20 then xfer c.payload else point
    | none => point
where
  xfer (p : List Byte) : Nat × Option Nat × Bool × Nat :=
    let rd := numAt p 6 1
    let pec := bit (numAt p 3 1) 0
    let addr := numAt p 1 1 % 128
    match numAt p 2 1 with
    | 2 | 5 => (1, none, pec, addr)
    | 6 | 7 => (2, none, pec, addr)
    | 9 | 10 => (0, some rd, pec, addr)
    | 11 => (rd, none, pec, addr)
    | _ => (0, none, pec, addr)
  point : Nat × Option Nat × Bool × Nat :=
    let pec := r.d2.testBit 11
    let addr := bits r.d2 10 4
    if r.val.isSome || r.page then (0, none, pec, addr)
    else if twSize r.d2 = 4 then (0, some 4, pec, addr) else (twSize r.d2, none, pec, addr)

/-- A transaction comes to its end (R350): NACK, a count above RdLen, a failed PEC, or OK; a PAGE write that ends OK is followed at
once by its access (R358). -/
def State.twEnd (s : State) (p : Nat) (rx : List Byte) (nack pecOk : Bool) : State :=
  match (s.twp p).run with
  | none => s
  | some r =>
    match r.preset with
    | some n => s.twFinish p (presetStatus n) []
    | none =>
      let (n, blk, pec, addr) := s.twShape r
      if nack then s.twFinish p .nack []
      else
        let tooLong := match blk with | some m => decide (m < numAt rx 0 1) | none => false
        let got := match blk with | some m => padTo (1 + min m (numAt rx 0 1)) rx | none => padTo n rx
        let reads := blk.isSome || n != 0
        let (inv, s) := if reads && pec then s.takeArmed 0xA p else (0, s)
        let pecOk := pecOk && inv == 0
        if tooLong then (s.wrB (TW_PORT_STAT_BlkLen p) true).twFinish p .busError got
        else if reads && pec && !pecOk then
          let s := (s.wrB (TW_PORT_STAT_PecErr p) true).inc (TW_PORT_PEC_CNT_Cnt p)
          (s.raise 195 (p + 16 * addr)).twFinish p .busError []
        else if r.page then s.twSend p { r with page := false }
        else s.twFinish p .ok got

/-- TW_TRANSACTION_END (R350). -/
def execTwTransactionEnd (p : Fin 12) (rx : List Byte) (nack pecOk : Bool) (s : State) : Res := done s (s.twEnd p.val rx nack pecOk)

/-- A transaction that has sent its START is on the port. -/
def State.twLive (s : State) (p : Nat) : Bool :=
  match (s.twp p).run with | some r => r.preset.isNone | none => false

/-- TW_STRETCH_TIMEOUT (R351). -/
def execTwStretchTimeout (p : Fin 12) (s : State) : Res :=
  done s (if s.twLive p.val then (s.wrB (TW_PORT_STAT_Timeout p.val) true).twFinish p.val .timeout [] else s)

/-- A transfer addressed to TW0 begins (R360). -/
def State.tgtAddressed (s : State) : State :=
  if s.on TW_TGT_CFG_En then (s.inc TW_TGT_CNT_Cnt).modTgt (fun t => { t with addressed := true }) else s

/-- TW_ARB_LOST (R353): the transaction completes ARB_LOST; TW0 becomes target where the address was its own. -/
def execTwArbLost (p : Fin 12) (ownAddress : Bool) (s : State) : Res :=
  done s (if s.twLive p.val then
      let s := (s.wrB (TW_PORT_STAT_ArbLost p.val) true).twFinish p.val .arbLost []
      if ownAddress && p.val == 0 then s.tgtAddressed else s
    else s)

/-- TW_BUS_ERROR (R357). -/
def execTwBusError (p : Fin 12) (asTarget : Bool) (s : State) : Res :=
  let s1 := (s.wrB (TW_PORT_STAT_BusErr p.val) true).raise 194 (p.val + 16 * b2n asTarget)
  done s (if asTarget then (if p.val = 0 ∧ s.bus.tgt.addressed = true then s1.modTgt (fun t => { t with addressed := false }) else s)
    else if s.twLive p.val then s1.twFinish p.val .busError [] else s)

/-! ### Port state (R355, R356) -/

/-- The bus-clear procedure begins. -/
def State.twClear (s : State) (p : Nat) : State :=
  ((s.inc (TW_PORT_CLR_CNT_Cnt p)).wrB (TW_PORT_STAT_Clearing p) true).wrB (TW_PORT_STAT_Ready p) false

/-- TW_BUS_CLEAR (R355): none begins the procedure on an idle bus; a result ends it. -/
def execTwBusClear (p : Fin 12) (result : Option Bool) (s : State) : Res :=
  let p := p.val
  done s (match result with
    | none => if s.on (TW_PORT_CTL_En p) && !s.on (TW_PORT_STAT_Clearing p) && (s.twp p).run.isNone then s.twClear p else s
    | some freed =>
      if !s.on (TW_PORT_STAT_Clearing p) then s
      else
        let s := s.wrB (TW_PORT_STAT_Clearing p) false
        if freed then (s.wrB (TW_PORT_STAT_SdaStuck p) false).wrB (TW_PORT_STAT_Ready p) true
        else (s.wrB (TW_PORT_STAT_SdaStuck p) true).raise 192 p)

/-- TW_SCL_STUCK (R356): a transaction in progress completes BUS_ERROR (log entry 49), a target transfer is abandoned. -/
def execTwSclStuck (p : Fin 12) (s : State) : Res :=
  let p := p.val
  done s (if (s.twp p).sclHeld then s
    else
      let s := (s.wrB (TW_PORT_STAT_SclStuck p) true).raise 193 p
      let s := (s.wrB (TW_PORT_STAT_Ready p) false).wrB (TW_PORT_STAT_Clearing p) false
      let s := s.modTw p (fun t => { t with sclHeld := true })
      let s := if p = 0 then s.modTgt (fun t => { t with addressed := false }) else s
      if s.twLive p then s.twFinish p .busError [] else s)

/-- TW_SCL_RECOVER (R356): Ready again, through the bus clear where SDA is low. -/
def execTwSclRecover (p : Fin 12) (sdaLow : Bool) (s : State) : Res :=
  let p := p.val
  done s (if !(s.twp p).sclHeld then s
    else
      let s := s.modTw p (fun t => { t with sclHeld := false })
      if !s.on (TW_PORT_CTL_En p) then s
      else if sdaLow then s.twClear p else s.wrB (TW_PORT_STAT_Ready p) true)

/-- A write of TW_PORTp_CTL.En (R355, R63): enabling makes the port Ready; a disable takes effect at the boundary. -/
def State.twEnable (s : State) (p : Nat) (en : Bool) : State :=
  let was := s.on (TW_PORT_CTL_En p)
  let s := s.wrB (TW_PORT_CTL_En p) en
  if en && !was then
    (s.modTw p (fun t => { t with disPend := false })).wrB (TW_PORT_STAT_Ready p) (!(s.twp p).sclHeld && !s.on (TW_PORT_STAT_Clearing p))
  else if !en && was then s.modTw p (fun t => { t with disPend := true }) else s

/-- TW_PORT_ENABLE (R355). -/
def execTwPortEnable (p : Fin 12) (en : Bool) (s : State) : Res := done s (s.twEnable p.val en)

/-- A write of 1 to TW_PORTp_CTL.Clear (R355). -/
def State.twClearWrite (s : State) (p : Nat) : State :=
  if s.on (TW_PORT_CTL_En p) && !s.on (TW_PORT_STAT_Clearing p) && (s.twp p).run.isNone then s.twClear p else s

/-- TW_PORT_CLEAR (R355). -/
def execTwPortClear (p : Fin 12) (s : State) : Res := done s (s.twClearWrite p.val)

/-! ### Alerts (R354) -/

/-- TW_ALERT_INPUT (R354). -/
def execTwAlertInput (p : Fin 12) (low : Bool) (s : State) : Res :=
  done s (if s.on (TW_PORT_CFG_AlertEn p.val) then s.wrB (TW_PORT_STAT_Alert p.val) low else s)

/-- Show the oldest entry of the alert log. -/
def State.showLog (s : State) (p : Nat) : State :=
  match (s.twp p).log with
  | [] => (s.wrB (TW_PORT_ALERT_LOG_Valid p) false).wr (TW_PORT_ALERT_LOG_Addr p) 0
  | a :: _ => (s.wrB (TW_PORT_ALERT_LOG_Valid p) true).wr (TW_PORT_ALERT_LOG_Addr p) a

/-- TW_ARA_READ (R354): sent only while ALERT_N is low, on a free port that may send (R371). -/
def execTwAraRead (p : Fin 12) (rx : Option (BitVec 8)) (pecOk : Bool) (s : State) : Res :=
  let p := p.val
  done s (if !(s.on (TW_PORT_CFG_AlertEn p) && s.on (TW_PORT_ARA_AraEn p) && s.on (TW_PORT_STAT_Alert p) && s.on (TW_PORT_STAT_Ready p) &&
      (s.twp p).run.isNone && s.twMaster p) then s
    else
      let s := (s.inc (TW_PORT_XFER_CNT_Cnt p)).emit (.busStart p [0x19])
      match rx with
      | none => s.inc (TW_PORT_NACK_CNT_Cnt p)
      | some b =>
        let (inv, s) := if s.rd (TW_PORT_CFG_Proto p) = 2 then s.takeArmed 0xA p else (0, s)
        if s.rd (TW_PORT_CFG_Proto p) == 2 && !(pecOk && inv == 0) then
          let s := ((s.wrB (TW_PORT_STAT_PecErr p) true).inc (TW_PORT_PEC_CNT_Cnt p)).inc (TW_PORT_ERR_CNT_Cnt p)
          s.raise 195 (p + 16 * 0x0C)
        else
          let a := b.toNat / 2
          let s := s.modTw p (fun t => { t with log := (if t.log.length < 8 then t.log else t.log.drop 1) ++ [a] })
          (s.showLog p).event 0x0400 p a 0)

/-- A read of the alert log (R354): the oldest entry is returned and removed. -/
def State.readLog (s : State) (p : Nat) : State :=
  let w := s.word (TW_PORT_ALERT_LOG p)
  ((s.emit (.readData (TW_PORT_ALERT_LOG p) w)).modTw p (fun t => { t with log := t.log.drop 1 })).showLog p

/-- TW_ALERT_LOG_READ (R354). -/
def execTwAlertLogRead (p : Fin 12) (s : State) : Res := done s (s.readLog p.val)

/-! ### TW_XFER (R347-R349) -/

/-- Whether the lengths fit the protocol (R348). -/
def xferLens (proto wr rd : Nat) : Bool :=
  match proto with
  | 0 => wr == 0 && rd == 0
  | 1 => wr == 1 && rd == 0
  | 2 => wr == 0 && rd == 1
  | 3 => wr == 1 && rd == 0
  | 4 => wr == 2 && rd == 0
  | 5 => wr == 0 && rd == 1
  | 6 => wr == 0 && rd == 2
  | 7 => wr == 2 && rd == 2
  | 8 => rd == 0
  | 9 => wr == 0
  | 10 => true
  | 11 => wr != 0 || rd != 0
  | _ => false

/-- The payload of TW_XFER is refused (R347, R349). -/
def State.xferBad (s : State) (p : List Byte) : Bool :=
  let port := numAt p 0 1
  let proto := numAt p 2 1
  let fl := numAt p 3 1
  let host := bit fl 2
  let wr := numAt p 5 1
  let rd := numAt p 6 1
  11 < port || 127 < numAt p 1 1 || 11 < proto || 7 < fl || numAt p 7 1 != 0 || !xferLens proto wr rd ||
    (if host then 24 < wr else 32 < wr || (if proto = 9 ∨ proto = 10 then 7 < rd else 8 < rd)) ||
    (bit fl 0 && s.rd (TW_PORT_CFG_Proto port) == 0) || !s.twMaster port

/-- TW_XFER's execution (R349): checked, then it waits for its start slot. -/
def State.twXferCmd (s : State) (tag : Nat) : State :=
  match s.ready tag 0x20 with
  | none => s
  | some c =>
    let s := s.modCmd tag (fun c => c.ran [.start])
    if s.xferBad c.payload then s.complete tag .refusedState 0
    else if !s.on (TW_PORT_CTL_En (numAt c.payload 0 1)) then s.complete tag .disabled 0 else s

/-- TW_XFER (R349). -/
def execTwXfer (tag : Fin 256) (s : State) : Res := done s (s.twXferCmd tag.val)

/-! ### CAN (R364-R370) -/

/-- The payload of CAN_XFER is refused (R364, R367). -/
def State.canBad (s : State) (p : List Byte) : Bool :=
  let c := numAt p 0 1
  let fl := numAt p 1 1
  let dlc := numAt p 2 1
  let id := numAt p 4 4
  let fd := bit fl 1
  let brs := bit fl 2
  3 < c || 7 < fl || (if fd then 13 < dlc else 8 < dlc) || numAt p 3 1 != 0 || 2 ^ 29 ≤ id || (!bit fl 0 && 2 ^ 11 ≤ id) ||
    (brs && !fd) || (fd && !s.on (CAN_CFG_FdEn c)) || (brs && !s.on (CAN_CFG_BrsEn c)) || !zeroAt p (8 + dlcLen dlc) (32 - dlcLen dlc) ||
    s.canRestricted c

/-- CAN_XFER's execution (R367). -/
def State.canXferCmd (s : State) (tag : Nat) : State :=
  match s.ready tag 0x21 with
  | none => s
  | some c =>
    let s := s.modCmd tag (fun c => c.ran [.start])
    if s.canBad c.payload then s.complete tag .refusedState 0
    else if !s.on (CAN_CTL_En (numAt c.payload 0 1)) then s.complete tag .disabled 0 else s

/-- CAN_XFER (R367). -/
def execCanXfer (tag : Fin 256) (s : State) : Res := done s (s.canXferCmd tag.val)

/-- Identifier word (bit 29 IDE, bit 30 FD, bit 31 BRS) and data of a frame. -/
def State.canFrame (s : State) (r : BusRun) : Nat × List Byte :=
  match s.runCmd r with
  | some c => if c.opcode = 0x21 then xfer c.payload else point
  | none => point
where
  xfer (p : List Byte) : Nat × List Byte :=
    let fl := numAt p 1 1
    (numAt p 4 4 + 2 ^ 29 * (fl % 8), slice p 8 (dlcLen (numAt p 2 1)))
  point : Nat × List Byte :=
    (r.d2 / 8 + 2 ^ 29 * b2n (r.d2.testBit 2) + 2 ^ 30 * bits r.d3 10 10 + 2 ^ 31 * bits r.d3 11 11,
     canEncode r.d3 (headType r.head) (r.val.getD 0))

/-- A frame ends: its command completes, or its point access does (R366, R367). -/
def State.canFinish (s : State) (c : Nat) (st : Status) (res : Nat) : State :=
  match (s.canc c).run with
  | none => s
  | some r =>
    let s := (s.modCan c (fun t => { t with run := none })).wrB (CAN_STAT_Idle c) true
    let s := s.when (st == .ok) (fun s => s.inc (CAN_TX_CNT_Cnt c))
    match s.runCmd r with
    | some d => if d.opcode = 0x21 then s.complete d.tag st res else s.accessEnd r st none
    | none => match r.use with | .cmd _ => if r.orphan then s.accessEnd r st none else s | _ => s.accessEnd r st none

/-- A frame's start slot (R366): loaded; its start of frame, at once on an idle bus, is the commit point. -/
def State.canStart (s : State) (c : Nat) (use : BusUse) (idle : Bool) : State :=
  match s.busWork use with
  | none => s
  | some r =>
    if s.canOf r ≠ some c ∨ (s.canc c).run.isSome = true ∨ s.canRestricted c = true ∨ s.on (CAN_CTL_En c) = false then s
    else
      let s := match use with
        | .member m k => s.modSl m.val (fun t => { t with wr := assocDel t.wr k.val })
        | .cmd tag => s.modCmd tag.val (fun d => { (d.ran [.bus]) with
            commit := idle && s.rd (CAN_STAT_ErrState c) != 2,
            result := if d.opcode = 0x11 then writeResult (s.cached d.point) else d.result })
        | _ => s
      if s.rd (CAN_STAT_ErrState c) = 2 then s.modCan c (fun t => { t with run := some { r with preset := some 10 } })
      else
        let (id, data) := s.canFrame r
        ((s.modCan c (fun t => { t with run := some r })).wrB (CAN_STAT_Idle c) false).emit (.canStart c id data)

/-- CAN_FRAME_START (R366). -/
def execCanFrameStart (c : Fin 4) (use : BusUse) (idle : Bool) (s : State) : Res := done s (s.canStart c.val use idle)

/-- CAN_FRAME_DONE (R366): sent, or its attempts are exhausted with a lost arbitration or an error. -/
def execCanFrameDone (c : Fin 4) (attempts : Fin 5) (outcome : Fin 3) (tec rxe : BitVec 8) (s : State) : Res :=
  done s (match (s.canc c.val).run with
    | none => s
    | some r =>
      let s := (s.wr (CAN_ERR_CNT_Tec c.val) tec.toNat).wr (CAN_ERR_CNT_Rec c.val) rxe.toNat
      let n := min attempts.val (1 + s.rd (CAN_CFG_Retry c.val))
      let st : Status := if r.preset.isSome then .busError else match outcome.val with | 0 => .ok | 1 => .arbLost | _ => .busError
      s.canFinish c.val st (n + 256 * tec.toNat + 65536 * rxe.toNat))

/-- The valid domain-2 pin entries of a controller with an identifier (R368, R369). -/
def State.canPins (s : State) (c : Nat) (ide : Bool) (id : Nat) : List (Nat × Nat) :=
  s.pins.filter (fun e =>
    let d2 := s.pin e.1 2
    domainOf (e.2 % 2 ^ 20) == 2 && d2 % 4 == c && d2.testBit 2 == ide && d2 / 8 % (if ide then 2 ^ 29 else 2 ^ 11) == id)

/-- An enabled filter passes a frame (R368). -/
def State.canPass (s : State) (c k : Nat) (ide : Bool) (id : Nat) : Bool :=
  let m := s.rd (CAN_FLT_MASK_Mask c k)
  s.on (CAN_FLT_ID_En c k) && s.on (CAN_FLT_ID_Ide c k) == ide && (id &&& m) == (s.rd (CAN_FLT_ID_Id c k) &&& m)

/-- CAN_RECEIVE (R368): bound signals enter the cache at the next slot 0, filtered frames post CAN_RX. -/
def State.canReceive (s : State) (c : Nat) (ide : Bool) (id : Nat) (fd : Bool) (dlc : Nat) (data : List Byte) : State :=
  let id := if ide then id else id % 2 ^ 11
  let data := padTo (if fd then dlcLen dlc else min 8 dlc) data
  let pins := s.canPins c ide id
  let flts := (List.range 32).filter (fun k => s.canPass c k ide id)
  if !s.on (CAN_CTL_En c) || (pins.isEmpty && flts.isEmpty) then s
  else if (s.canc c).taken ≥ 64 then (s.inc (CAN_LOST_CNT_Cnt c)).raise 200 c
  else
    let s := (s.inc (CAN_RX_CNT_Cnt c)).modCan c (fun t => { t with taken := t.taken + 1 })
    let s := forEach pins s (fun s e =>
      match canDecode (s.pin e.1 3) (headType e.2) data with
      | some (v, sat) => s.arrive (e.2 % 2 ^ 20) (some (mkVal v sat s.frame32))
      | none => s)
    if flts.any (fun k => s.on (CAN_FLT_ID_ToEq c k)) then
      let d := padTo 8 data
      s.postEvent { code := 0x0401, unit := c + 16 * dlc, p0 := id + 2 ^ 29 * b2n ide + 2 ^ 30 * b2n fd, p1 := numAt d 0 4, p2 := numAt d 4 4 }
    else s

/-- CAN_RECEIVE (R368). -/
def execCanReceive (c : Fin 4) (ide : Bool) (id : BitVec 29) (fd : Bool) (dlc : Fin 16) (data : List Byte) (s : State) : Res :=
  done s (s.canReceive c.val ide id.toNat fd dlc.val data)

/-- The commands that wait for their start slot on a controller. -/
def State.canWaiting (s : State) (c : Nat) : List Nat :=
  (s.hif.cmds.filter (fun d => d.begun && !d.commit &&
    ((d.opcode == 0x21 && numAt d.payload 0 1 == c) || (d.opcode == 0x11 && domainOf d.point == 2 && d.d2 % 4 == c)))).map Cmd.tag

/-- A change of error state (R366): CAN_STATE, the faults, and a bus-off ends every pending frame with BUS_ERROR. -/
def State.canState (s : State) (c st : Nat) : State :=
  if s.rd (CAN_STAT_ErrState c) = st then s
  else
    let s := (s.wr (CAN_STAT_ErrState c) st).event 0x0402 c st 0
    if st = 1 then s.raise 198 c
    else if st = 2 then
      let s := (s.inc (CAN_BUSOFF_CNT_Cnt c)).raise 197 c
      let res := s.rd (CAN_ERR_CNT_Tec c) * 256 + s.rd (CAN_ERR_CNT_Rec c) * 65536
      let s := s.canFinish c .busError res
      forEach (s.canWaiting c) s (fun s t => s.complete t .busError (match s.findCmd t with
        | some d => if d.opcode = 0x21 then res else writeResult (s.cached d.point)
        | none => 0))
    else s

/-- CAN_ERROR_STATE_CHANGE (R366): an enabled controller alone has an error state. -/
def execCanErrorStateChange (c : Fin 4) (st : Fin 3) (tec rxe : BitVec 8) (s : State) : Res :=
  done s (if s.rd (CAN_STAT_ErrState c.val) = 3 then s
    else ((s.wr (CAN_ERR_CNT_Tec c.val) tec.toNat).wr (CAN_ERR_CNT_Rec c.val) rxe.toNat).canState c.val st.val)

/-- CAN_BUS_OFF_RECOVERY (R366): with AutoRecover, or once software has asked for it; both error counters return to 0 (PRESUMED:
ISO 11898-1). -/
def execCanBusOffRecovery (c : Fin 4) (s : State) : Res :=
  done s (if s.rd (CAN_STAT_ErrState c.val) = 2 ∧ (s.on (CAN_CFG_AutoRecover c.val) || (s.canc c.val).recover) = true then
      let s := s.modCan c.val (fun t => { t with recover := false })
      ((s.wr (CAN_ERR_CNT_Tec c.val) 0).wr (CAN_ERR_CNT_Rec c.val) 0).canState c.val 0
    else s)

/-- A write of 1 to CANc_CTL.Recover (R366). -/
def State.canRecover (s : State) (c : Nat) : State :=
  if s.rd (CAN_STAT_ErrState c) = 2 then s.modCan c (fun t => { t with recover := true }) else s

/-- CAN_RECOVER (R366). -/
def execCanRecover (c : Fin 4) (s : State) : Res := done s (s.canRecover c.val)

/-- CAN_TX_DOMINANT (R370). -/
def execCanTxDominant (c : Fin 4) (s : State) : Res :=
  done s (if s.on (CAN_CFG_XcvrEn c.val) then s.raise 199 c.val else s)

/-- CAN_XCVR_FAULT (R370). -/
def execCanXcvrFault (c : Fin 4) (thermal : Bool) (s : State) : Res :=
  done s ((s.wrB (CAN_STAT_XcvrFault c.val) true).raise 201 (c.val + 4 * b2n thermal))

/-- A write of CANc_CTL.En (R63, R366): an enabled controller starts error-active, without an event. -/
def State.canEnable (s : State) (c : Nat) (en : Bool) : State :=
  let was := s.on (CAN_CTL_En c)
  let s := s.wrB (CAN_CTL_En c) en
  if en && !was then
    ((s.modCan c (fun t => { t with disPend := false })).wr (CAN_STAT_ErrState c) (if s.rd (CAN_STAT_ErrState c) = 3 then 0 else s.rd (CAN_STAT_ErrState c))).wrB
      (CAN_STAT_Idle c) true
  else if !en && was then s.modCan c (fun t => { t with disPend := true }) else s

/-! ### The frame boundary -/

/-- The commands of a port that wait for their start slot. -/
def State.twWaiting (s : State) (p : Nat) : List Nat :=
  (s.hif.cmds.filter (fun d => d.begun && !d.commit &&
    ((d.opcode == 0x20 && numAt d.payload 0 1 == p) ||
     ((d.opcode == 0x10 || d.opcode == 0x11) && domainOf d.point == 1 && d.d2 % 16 == p)))).map Cmd.tag

/-- Disables of ports and controllers take effect (R63). -/
def State.busDisables (s : State) : State :=
  let s := forN 12 s (fun s p =>
    if !(s.twp p).disPend then s
    else
      let s := (s.modTw p (fun t => { t with disPend := false })).twFinish p .disabled []
      let s := forEach (s.twWaiting p) s (fun s t => s.complete t .disabled 0)
      (s.wrB (TW_PORT_STAT_Ready p) false).wrB (TW_PORT_STAT_Clearing p) false)
  forN 4 s (fun s c =>
    if !(s.canc c).disPend then s
    else
      let s := (s.modCan c (fun t => { t with disPend := false })).canFinish c .disabled 0
      let s := forEach (s.canWaiting c) s (fun s t => s.complete t .disabled 0)
      (s.wr (CAN_STAT_ErrState c) 3).wrB (CAN_STAT_Idle c) false)

/-- The receive buffers empty into the cache in slot 0 (R328, R368). -/
def State.busBoundary (s : State) : State := forN 4 s (fun s c => s.modCan c (fun t => { t with taken := 0 }))

end Sys2Proof.Machine
end

