-- ==== Sys2Proof/Machine/Points.lean ====
section
/-!
DEFINITION. Points (chapter 11): reading and writing through the cache, the buses, the link and the directory; derived points,
staleness, snapshot streams and waveform capture.
-/
namespace Sys2Proof.Machine

def State.modPnt (s : State) (f : PntState → PntState) : State := { s with pnt := f s.pnt }

/-! ### Bindings (R358, R369) -/

/-- A two-wire binding that the compile, or a resolution, refuses (R358, R359). -/
def twBindBad (l : RegFile) (d2 d3 : Nat) : Bool :=
  let fmt := bits d3 3 0
  let size := bits d2 13 12
  11 < d2 % 16 || size == 3 || bits d2 15 14 != 0 || 4 < fmt || bits d3 11 9 != 0 || bits d3 31 16 != 0 ||
    (2 ≤ fmt && size != 1) || (fmt == 4 && (l.get (TW_DIR_MB (bits d3 15 12))).toNat % 65536 == 0)

/-- A CAN binding that the compile, or a resolution, refuses (R369). -/
def canBindBad (d2 d3 : Nat) : Bool :=
  let len := if d3.testBit 10 then dlcLen (bits d3 15 12) else min 8 (bits d3 15 12)
  bits d3 7 6 == 3 || bits d3 31 21 != 0 || len < d3 % 64 + canSize d3 || (!d2.testBit 2 && 2 ^ 11 ≤ d2 / 8)

/-- A binding is refused, by its domain. -/
def bindBad (l : RegFile) (dom d2 d3 : Nat) : Bool :=
  match dom with
  | 1 => twBindBad l d2 d3
  | 2 => canBindBad d2 d3
  | _ => false

/-! ### Commands (R332, R333) -/

/-- A rail in use switches the point (R23, R265). -/
def State.railOwns (s : State) (id : Nat) : Bool :=
  (List.range 32).any (fun r => s.on (SEQ_RAIL_CFG_En r) && s.rd (SEQ_RAIL_CFG_Kind r) == 3 && s.rd (SEQ_RAIL_PNT_Point r) == id)

/-- The port or controller of a binding is enabled. -/
def State.bindOn (s : State) (dom d2 : Nat) : Bool :=
  match dom with
  | 1 => s.on (TW_PORT_CTL_En (d2 % 16))
  | 2 => s.on (CAN_CTL_En (d2 % 4))
  | _ => true

/-- Give a command its binding; it waits for its start slot on the bus (R333, R336). -/
def State.bindCmd (s : State) (tag head d2 d3 : Nat) : State := s.modCmd tag (fun c => { c with head := head, d2 := d2, d3 := d3 })

/-- A write goes out by its binding (R333): refused, disabled, waiting for its bus, or sent to the peer. -/
def State.writeBound (s : State) (c : Cmd) (head d2 d3 : Nat) : State :=
  let dom := domainOf c.point
  if !headWritable head || s.slOwns c.point || s.railOwns c.point then s.complete c.tag .refusedState (writeResult (s.cached c.point))
  else if !s.bindOn dom d2 then s.complete c.tag .disabled (writeResult (s.cached c.point))
  else if dom = 3 then
    let prev := writeResult (s.cached c.point)
    let s := s.modCmd c.tag (fun c => { c with commit := true, result := prev })
    s.sendPwrite d2 (numAt c.payload 0 4) (.cmd c.tag)
  else s.bindCmd c.tag head d2 d3

/-- A resolved access starts (R336 step 3). A read of a domain whose points have no read transaction has nothing that could answer
it (log entry 50). -/
def State.runResolved (s : State) (c : Cmd) (head d2 d3 : Nat) : State :=
  let dom := domainOf c.point
  if c.opcode = 0x11 then s.writeBound c head d2 d3
  else if dom ≠ 1 then s.complete c.tag .timeout 0
  else if !s.bindOn dom d2 then s.complete c.tag .disabled 0
  else s.bindCmd c.tag head d2 d3

/-- An access to a point that is not pinned (R336 steps 1 and 2). -/
def State.resolve (s : State) (c : Cmd) : State :=
  let dom := domainOf c.point
  if !s.on PNT_DIR_CTL_En || dom == 0 || 4 ≤ dom then s.complete c.tag .pointUnknown 0
  else match s.pnt.resolved.find? (fun r => r.point == c.point) with
    | some r => s.runResolved c r.head (r.binding % 2 ^ 32) (r.binding / 2 ^ 32)
    | none => (s.inc PNT_DIRMISS_CNT_Cnt).modPnt (fun p => { p with pending := p.pending ++ [c.tag] })

/-- POINT_READ (R332). -/
def State.pointRead (s : State) (tag : Nat) : State :=
  match s.ready tag 0x10 with
  | none => s
  | some c =>
    let s := s.modCmd tag (fun c => c.ran [.start])
    if !zeroAt c.payload 0 40 then s.complete tag .refusedState 0
    else if s.pinned c.point then (s.commit tag).complete tag .ok (s.readResult (s.pointVal c.point))
    else s.resolve c

/-- POINT_READ (R332). -/
def execPointRead (tag : Fin 256) (s : State) : Res := done s (s.pointRead tag.val)

/-- POINT_WRITE (R333). -/
def State.pointWrite (s : State) (tag : Nat) : State :=
  match s.ready tag 0x11 with
  | none => s
  | some c =>
    let s := s.modCmd tag (fun c => c.ran [.start])
    let v := numAt c.payload 0 4
    let prev := writeResult (s.pointVal c.point)
    if !zeroAt c.payload 4 36 then s.complete tag .refusedState prev
    else if !s.pinned c.point then s.resolve c
    else match domainOf c.point with
      | 0 =>
        if s.ownRefuses c.point || s.railOwns c.point then s.complete tag .refusedState prev
        else ((s.commit tag).writeOwn c.point v).complete tag .ok prev
      | 4 =>
        if s.rd (PNT_DRV_CFG_Op (c.point - 0x40000)) ≠ 0 then s.complete tag .refusedState prev
        else ((s.commit tag).arrive c.point (some (mkVal v false s.frame32))).complete tag .ok prev
      | _ => match s.pinOf c.point with
        | some i => s.writeBound c (s.pin i 0) (s.pin i 2) (s.pin i 3)
        | none => s

/-- POINT_WRITE (R333). -/
def execPointWrite (tag : Fin 256) (s : State) : Res := done s (s.pointWrite tag.val)

/-- LOOP_MODE (R154, R190): the point names the loop by its target. -/
def State.loopModeCmd (s : State) (tag : Nat) : State :=
  match s.ready tag 0x13 with
  | none => s
  | some c =>
    let m := numAt c.payload 0 1
    let bad := !zeroAt c.payload 1 39
    if 0x4000 ≤ c.point ∧ c.point < 0x4300 ∧ c.point % 32 = 4 then
      let n := (c.point - 0x4000) / 32
      if bad then s.complete tag .refusedState (s.ltMode n) else s.ltLoopMode tag n m
    else if 0x5000 ≤ c.point ∧ c.point < 0x5200 ∧ c.point % 32 = 5 then
      let n := (c.point - 0x5000) / 32
      if bad then s.complete tag .refusedState (s.slMode n) else s.slLoopMode tag n m
    else s.complete tag .pointUnknown 0

/-- LOOP_MODE (R154). -/
def execLoopMode (tag : Fin 256) (s : State) : Res := done s (s.loopModeCmd tag.val)

/-! ### The directory (R335, R336) -/

/-- Keep a verified entry; the resolution cache holds 256, and a new one displaces the oldest (log entry 50). -/
def keepResolved (l : List Resolved) (r : Resolved) : List Resolved :=
  let l := l.filter (fun x => x.point != r.point)
  (if l.length < 256 then l else l.drop 1) ++ [r]

/-- The reads of a resolution have ended (R336). -/
def State.resolved (s : State) (tag : Nat) (d : DirReply) : State :=
  if !s.pnt.pending.contains tag then s
  else
    let s := s.modPnt (fun p => { p with pending := p.pending.filter (· != tag) })
    match s.findCmd tag with
    | none => s
    | some c =>
      let dom := domainOf c.point
      let crcFail (s : State) (syn : Nat) := ((s.inc PNT_DIRCRC_CNT_Cnt).raise 20 syn).complete tag .pointUnknown 1
      let desc := padTo 16 d.desc
      let entry := padTo 16 d.entry
      let withDesc (s : State) (count : Nat) : State :=
        if count ≤ c.point % 65536 then s.complete tag .pointUnknown 0
        else if !d.entryOk then s.complete tag .timeout 0
        else if !crcGood entry then crcFail s dom
        else
          let h := numAt entry 0 4
          let d2 := numAt entry 4 4
          let d3 := numAt entry 8 4
          if !h.testBit 31 || h % 2 ^ 20 != c.point || 2 < headType h || bindBad s.regs dom d2 d3 then s.complete tag .pointUnknown 0
          else
            let r : Resolved := { point := c.point, head := h, binding := d2 + 2 ^ 32 * d3 }
            (s.modPnt (fun p => { p with resolved := keepResolved p.resolved r })).runResolved c h d2 d3
      match s.pnt.descs.find? (fun e => e.1 == dom) with
      | some e => withDesc s e.2.2
      | none =>
        if !d.descOk then s.complete tag .timeout 0
        else if !crcGood desc then crcFail s (dom + 16)
        else withDesc (s.modPnt (fun p => { p with descs := p.descs ++ [(dom, numAt desc 0 8, numAt desc 8 4)] })) (numAt desc 8 4)

/-- DIRECTORY_RESOLVE (R336). -/
def execDirectoryResolve (tag : Fin 256) (reply : DirReply) (s : State) : Res := done s (s.resolved tag.val reply)

/-- A write of 1 to PNT_DIR_CTL.Flush (R336). -/
def State.dirFlush (s : State) : State := s.modPnt (fun p => { p with flush := true })

/-- DIR_FLUSH (R336). -/
def execDirFlush (s : State) : Res := done s s.dirFlush

/-- A write of PNT_DIR_CTL.En: setting it makes the descriptors be read again (R336). -/
def State.dirEnable (s : State) (en : Bool) : State :=
  let was := s.on PNT_DIR_CTL_En
  (s.wrB PNT_DIR_CTL_En en).when (en && !was) (fun s => s.modPnt (fun p => { p with descs := [] }))

/-! ### Slot 0 (R328-R331, R334, R337) -/

/-- Results that arrived in the ended frame enter the cache (R328, R331). -/
def State.takeArrivals (s : State) : State :=
  let l := s.pnt.arrivals
  let s := s.modPnt (fun p => { p with arrivals := [] })
  forEach l s (fun s e =>
    match e.2 with
    | some v => s.setCache e.1 v
    | none => let p := s.cached e.1; s.setCache e.1 { p with q := p.q ||| 16 })

/-- A pin entry's point is stale (R331). -/
def State.staleDue (s : State) (i : Nat) : Bool :=
  let p := s.cached (s.pin i 0 % 2 ^ 20)
  let a := s.pin i 1 / 65536
  a != 0 && qCode p.q < 2 && decide (a < s.pointAge p)

/-- A point goes STALE (R331). -/
def State.goStale (s : State) (i : Nat) : State :=
  let id := s.pin i 0 % 2 ^ 20
  let p := s.cached id
  ((s.setCache id { p with q := p.q / 4 * 4 + 2 }).inc PNT_STALE_CNT_Cnt).raise 21 i

/-- The stale check of every pin entry. -/
def State.staleCheck (s : State) : State := forEach s.pins s (fun s e => if s.staleDue e.1 then s.goStale e.1 else s)

/-- POINT_STALE (R331). -/
def execPointStale (point : BitVec 20) (s : State) : Res :=
  done s (match s.pinOf point.toNat with
    | some i => if s.staleDue i then s.goStale i else s
    | none => s)

/-- The oldest of some stamps (R329). -/
def State.oldest (s : State) (l : List PVal) : Nat :=
  l.foldl (fun a p => if s.pointAge { stamp := a } < s.pointAge p then p.stamp else a) s.frame32

/-- Compute derived point i (R334). -/
def State.derive (s : State) (i : Nat) : State :=
  let op := s.rd (PNT_DRV_CFG_Op i)
  if !s.on (PNT_DRV_CFG_En i) || op == 0 then s
  else
    let n := if op = 2 ∨ op = 5 then 2 else s.rd (PNT_DRV_CFG_N i)
    let ps := (List.range n).map (fun j => s.pointVal (s.rd (PNT_DRV_SRC_Id i j)))
    let w (j : Nat) : Int := s.rdS (PNT_DRV_SRC_W i j)
    let x (j : Nat) : Int := (nth ps j).int
    let k := s.rdS (PNT_DRV_K_K i)
    let xs := ps.map PVal.int
    let zero := op == 5 && x 1 == 0
    let r : Int := match op with
      | 1 => divRnd ((List.range n).foldl (fun a j => a + w j * x j) 0 + k * 256) 256
      | 2 => divRnd (w 0 * x 0 * x 1 + k * 16777216) 16777216
      | 3 => xs.foldl min (x 0)
      | 4 => xs.foldl max (x 0)
      | _ => divRndI (x 0 * 65536) (x 1)
    let (v, s) := if zero then s.draw 32 else (unsigned 32 (satS 32 r), s)
    let sat := !zero && satS 32 r != r
    let worst := ps.foldl (fun a p => max a (qCode p.q)) 0
    let code := if zero then 3 else max worst (b2n sat)
    s.setCache (0x40000 + i) { v := BitVec.ofNat 32 v, q := code + (if sat then 4 else 0), stamp := s.oldest ps }

/-- Every enabled derived point, in order of index (R334). -/
def State.deriveAll (s : State) : State := forN 128 s State.derive

/-- The reduction of the streams by the link's rate (R317). -/
def State.streamDiv (s : State) : Nat := max 1 (s.rd HIF_STAT_StreamDiv)

/-- A snapshot stream is due in this frame (R337, R317). -/
def State.snapDue (s : State) (k : Nat) : Bool :=
  let per := max 1 (s.rd (PNT_TS_CFG_Period k))
  s.on (PNT_TS_CFG_En k) && !s.on (PNT_TS_CFG_Kind k) &&
    (s.frame + per * 2 ^ 64 - s.rd (PNT_TS_CFG_Phase k)) % per == 0 && s.frame % s.streamDiv == 0

/-- Snapshot streams copy their points (R328, R337). -/
def State.snapCopy (s : State) : State :=
  let l := (List.range 8).filter s.snapDue
  s.modPnt (fun p => { p with snaps := l.map (fun k =>
    (k, (List.range (s.rd (PNT_TS_LIST_Count k))).map (fun j => s.pointVal (s.listed (s.rd (PNT_TS_LIST_First k) + j))))) })

/-- Bytes 4-59 of a snapshot record (R338). -/
def snapRec (frame part n : Nat) (last : Bool) (vs : List PVal) : List Byte :=
  padTo 56 (leBytes 4 frame ++ leBytes 1 part ++ leBytes 1 (n + 128 * b2n last) ++
    padTo 40 (vs.foldl (fun a p => a ++ leBytes 4 p.v.toNat) []) ++ padTo 10 (vs.map (fun p => BitVec.ofNat 8 p.q)))

/-- SNAPSHOT_STREAM_ASSEMBLY (R338): the records of the snapshots copied in this frame's slot 0. -/
def State.assemble (s : State) : State :=
  let recs := s.pnt.snaps.foldl (fun a e =>
    let n := e.2.length
    let parts := (n + 9) / 10
    a ++ (List.range parts).map (fun i =>
      let vs := (e.2.drop (10 * i)).take 10
      (e.1, snapRec s.frame32 i vs.length (i + 1 == parts) vs))) []
  s.modPnt (fun p => { p with snaps := [], recs := p.recs ++ recs })

/-- SNAPSHOT_STREAM_ASSEMBLY (R338). -/
def execSnapshotStreamAssembly (s : State) : Res := done s s.assemble

/-! ### Waveform capture (R339-R341) -/

def State.modCapu (s : State) (j : Nat) (f : CapUnit → CapUnit) : State := s.modPnt (fun p => { p with caps := upd p.caps j f })
def State.capu (s : State) (j : Nat) : CapUnit := nth s.pnt.caps j

/-- The words of a frame by cycle; a cycle whose conversion the environment has not supplied reads as Bad (log entry 51). -/
def capWords (l : List (Nat × Nat)) : List Nat := (List.range 200).map (fun c => (assoc l c).getD 0x8000)

/-- Queue the nine records of a captured frame (R340). -/
def State.capRecords (s : State) (j n : Nat) (ws : List Nat) (trig : Option Nat) : State :=
  let gap := (s.capu j).gap
  let ring := s.rd (CAPU_CFG_Ring j)
  let recs := (List.range 9).map (fun p =>
    (ring, padTo 56 (leBytes 4 (n % 2 ^ 32) ++ leBytes 1 (j + 4 * s.rd (CAPU_CFG_Conv j) + 128 * b2n trig.isSome) ++ leBytes 1 p ++
      leBytes 1 (trig.getD 0xFF) ++ leBytes 1 (b2n (gap && p == 0)) ++
      ((ws.drop (24 * p)).take 24).foldl (fun a w => a ++ leBytes 2 w) [])))
  (s.modCapu j (fun u => { u with gap := false })).modPnt (fun p => { p with recs := p.recs ++ recs })

/-- A trigger of an armed unit in this frame, at a cycle (R341). -/
def State.capTrigger (s : State) (j cycle : Nat) : State :=
  if s.rd (CAPU_STAT_State j) ≠ 1 ∨ s.on (CAPU_CFG_En j) = false then s
  else
    let short := decide ((s.capu j).frames.length < s.rd (CAPU_CFG_Pre j))
    let s := s.modCapu j (fun u => { u with tframe := s.frame, next := s.frame - u.frames.length, last := s.frame + s.rd (CAPU_CFG_Post j),
                                            gap := u.gap || short })
    ((s.wr (CAPU_STAT_State j) 2).wr (CAPU_STAT_Cycle j) cycle).wr (CAPU_TRIG_FRAME_Frame j) s.frame32

/-- CAPTURE_TRIGGER (R341): the condition that the unit's trigger selects holds; only a trip line records a cycle. -/
def execCaptureTrigger (j : Fin 4) (cycle : Fin 200) (s : State) : Res :=
  let line := s.rd (CAPU_TRIG_Line j.val)
  done s (match s.rd (CAPU_TRIG_Kind j.val) with
    | 1 => if s.sense.trips.testBit line then s.capTrigger j.val cycle.val else s
    | 2 => if s.unacked line then s.capTrigger j.val 0 else s
    | 3 => if s.rd (CAPU_TFRAME_Frame j.val) = s.frame32 then s.capTrigger j.val 0 else s
    | _ => s)

/-- CAP_SW_TRIG (R341). -/
def State.capSwTrig (s : State) (j : Nat) : State := if s.rd (CAPU_TRIG_Kind j) = 0 then s.capTrigger j 0 else s

/-- CAP_SW_TRIG (R341). -/
def execCapSwTrig (j : Fin 4) (s : State) : Res := done s (s.capSwTrig j.val)

/-- CAP_ARM (R341, R343): ignored while the unit drains. -/
def State.capArm (s : State) (j : Nat) : State :=
  if !s.on (CAPU_CFG_En j) || !s.on (CAPU_CFG_Mode j) || s.rd (CAPU_STAT_State j) == 2 then s
  else (s.wr (CAPU_STAT_State j) 1).modCapu j (fun u => { u with frames := [], kept := 0 })

/-- CAP_ARM (R341). -/
def execCapArm (j : Fin 4) (s : State) : Res := done s (s.capArm j.val)

/-- A draining unit has written its last frame (R341). -/
def State.capDrained (s : State) (j : Nat) : State :=
  let u := s.capu j
  if s.rd (CAPU_STAT_State j) = 2 ∧ u.last < u.next then
    (s.wr (CAPU_STAT_State j) 3).modCapu j (fun u => { u with frames := [] })
  else s

/-- CAPTURE_DRAIN_DONE (R341). -/
def execCaptureDrainDone (j : Fin 4) (s : State) : Res := done s (s.capDrained j.val)

/-- A unit at a boundary (R341): the frame just ended is kept or written; a frame trigger of the frame that begins. FRAME_CNT has
already been counted. -/
def State.capFrame (s : State) (j : Nat) : State :=
  let n := s.frame - 1
  let ws := capWords (s.capu j).cur
  let s := s.modCapu j (fun u => { u with cur := [] })
  if !s.on (CAPU_CFG_En j) then s
  else if !s.on (CAPU_CFG_Mode j) then
    if s.frame % s.streamDiv = 0 then s.capRecords j n ws none else s.modCapu j (fun u => { u with gap := true })
  else
    let s := s.capDrained j
    let s := match s.rd (CAPU_STAT_State j) with
      | 1 =>
        let pre := s.rd (CAPU_CFG_Pre j)
        s.modCapu j (fun u =>
          let l := u.frames ++ [(n, ws)]
          { u with frames := l.drop (l.length - pre), kept := min pre (u.kept + 1) })
      | 2 =>
        let s := if n ≤ (s.capu j).last then s.modCapu j (fun u => { u with frames := u.frames ++ [(n, ws)] }) else s
        if s.frame % s.streamDiv ≠ 0 then s
        else match (s.capu j).frames with
          | [] => s
          | (m, w) :: rest =>
            let u := s.capu j
            let s := s.modCapu j (fun u => { u with frames := rest, next := m + 1 })
            s.capRecords j m w (if m = u.tframe then some (s.rd (CAPU_STAT_Cycle j)) else none)
      | _ => s
    if s.rd (CAPU_TRIG_Kind j) = 3 ∧ s.rd (CAPU_TFRAME_Frame j) = s.frame32 then s.capTrigger j 0 else s

/-- Records not written by the boundary are dropped with the buffer (R46, R338); a capture unit shows the gap in its next record. -/
def State.dropRecs (s : State) : State :=
  let rings := s.pnt.recs.map (·.1)
  let s := s.modPnt (fun p => { p with recs := [], snaps := [] })
  forN 4 s (fun s j => if s.on (CAPU_CFG_En j) && rings.contains (s.rd (CAPU_CFG_Ring j)) then s.modCapu j (fun u => { u with gap := true }) else s)

/-- The flush of the directory takes effect (R336). -/
def State.dirBoundary (s : State) : State :=
  if s.pnt.flush then s.modPnt (fun p => { p with flush := false, resolved := [], descs := [] }) else s

/-! ### Apply (R343) -/

/-- The words of a pin entry are unchanged in what names the point: Point, Type and binding. -/
def pinSame (old new : RegFile) (i : Nat) : Bool :=
  let d0 (l : RegFile) := (l.get (pinKey i 0)).toNat
  (d0 old).testBit 31 && bits (d0 old) 23 0 == bits (d0 new) 23 0 && old.get (pinKey i 2) == new.get (pinKey i 2) &&
    old.get (pinKey i 3) == new.get (pinKey i 3)

/-- A range of words is unchanged. -/
def wordsSame (old new : RegFile) (ofs n : Nat) : Bool := (List.range n).all (fun k => old.get (ofs + 4 * k) == new.get (ofs + 4 * k))

/-- An apply: changed pin entries, points no longer pinned and changed derived points start with Init; a changed capture unit stops
draining (R343). -/
def State.pntApply (s : State) (old : RegFile) : State :=
  let keep := (s.pins.filter (fun e => pinSame old s.regs e.1)).map (fun e => e.2 % 2 ^ 20)
  let drv := (List.range 128).filter (fun i => wordsSame old s.regs (PNT_DRV_CFG i) 6 && s.on (PNT_DRV_CFG_En i))
  let s := s.modPnt (fun p => { p with cache := p.cache.filter (fun e =>
    match domainOf e.1 with
    | 0 => true
    | 4 => drv.contains (e.1 - 0x40000)
    | _ => keep.contains e.1) })
  forN 4 s (fun s j =>
    if wordsSame old s.regs (CAPU_CFG j) 1 && wordsSame old s.regs (CAPU_TRIG j) 2 then s
    else
      let drain := s.rd (CAPU_STAT_State j) == 2
      (s.wr (CAPU_STAT_State j) 0).modCapu j (fun u => { gap := u.gap || drain }))

end Sys2Proof.Machine
end

