-- ==== Sys2Proof/Machine/Link.lean ====
section
/-!
DEFINITION. The Thober link and the pair (chapter 13): training, routing, acceptance by generation, liveness, forwarded points,
remote writes, roles, heartbeats, the mirror, surrender, take-over and reversion.
-/
namespace Sys2Proof.Machine

def State.modTl (s : State) (f : TlState → TlState) : State := { s with tl := f s.tl }
def State.modRed (s : State) (f : RedSt → RedSt) : State := { s with red := f s.red }

/-! ### Pair and role (R384) -/

def State.pairOn (s : State) : Bool := s.on RED_CFG_PairEn
def State.peerPos (s : State) : Nat := s.rd RED_CFG_PeerPos

/-- This device acts as the primary: its ROLE, or the lower position where both have the same (R384). -/
def State.primary (s : State) : Bool :=
  let own := !s.on GLB_STAT_Role
  match s.red.hello with
  | some (_, _, p) => if p = own then decide (s.me < s.peerPos) else own
  | none => own

/-- HELLO (R379, R380), with NewGen set. -/
def State.helloBytes (s : State) : List Byte :=
  leBytes 1 s.me ++ leBytes 1 (s.rd TL_CFG_SetSize) ++
    leBytes 1 (b2n (!s.on GLB_STAT_Role) + 2 * b2n s.pairOn + 4) ++ leBytes 1 s.peerPos ++
    leBytes 4 (s.rd RED_CFG_DIGEST_Digest) ++ leBytes 4 (s.word GLB_ID).toNat

/-- Broadcast HELLO (R379). -/
def State.sendHello (s : State) : State := (s.modTl (fun t => { t with helloAt := s.frame })).linkSend 8 (.bytes 0x01 s.helloBytes)

/-- Set the role bits; a change is a new generation (R379) and interrupt cause 23 (R318). -/
def State.setRole (s : State) (master active : Bool) : State :=
  if s.on GLB_STAT_ShelfMaster = master ∧ s.on GLB_STAT_Active = active then s
  else ((((s.wrB GLB_STAT_ShelfMaster master).wrB GLB_STAT_Active active).inc TL_GEN_Gen).sendHello.cause 23).when master (fun s =>
    s.modTl (fun t => { t with master := s.me }))

/-- The role of a device outside a pair (R384): a set of one, or position 0 of a set in which no pair is known. -/
def State.roleAlone (s : State) : State :=
  if s.pairOn || !s.on FRM_STAT_Running then s
  else s.setRole (decide (s.rd TL_CFG_SetSize ≤ 1) || (s.me == 0 && s.tl.pairs == 0)) false

/-! ### The device's own engaged state at a change of role (R221, R392) -/

/-- The role ends: entries of other devices are no longer this one's, the lines driven stay driven (R392). -/
def State.capLeave (s : State) : State :=
  let own := s.cap.eng.filter (fun e => e.1 / 128 == s.me)
  let thr := s.thrDrive
  s.modCap (fun c => { c with eng := own, alloc := own.map (·.1), mirThr := thr })

/-! ### Surrender (R388) -/

/-- Enter Standby: nothing is in sync yet (R395). -/
def State.toStandby (s : State) : State :=
  (((s.wr RED_STAT_State 3).wr RED_MIRROR_STAT_InSync 0).wr RED_HEALTHY_Cnt 0).modRed (fun r =>
    { r with detect := none, mstRaised := false, byHand := false, rxSeq := none, passOk := false, lost := true,
             pathRaised := false, handAt := none, taken := [], takeSeq := none })

/-- The active leaves the role at the boundary after a surrender cause (R388). -/
def State.surrender (s : State) : State :=
  match s.red.surDue with
  | none => s
  | some why =>
    let s := s.modRed (fun r => { r with surDue := none })
    if s.redState ≠ 2 then s
    else
      let s := (s.capLeave.wrB RED_STAT_MstDrive false).setRole false false
      let s := s.toStandby.modRed (fun r => { r with surSend := some why, finalMir := true })
      s.when (why != 2) (fun s => s.raise 226 why)

/-- ACTIVE_SURRENDER (R388). -/
def execActiveSurrender (s : State) : Res := done s s.surrender

/-- RED_SURRENDER_WRITE (R388). -/
def execRedSurrenderWrite (s : State) : Res := done s (s.surCause 0)

/-! ### Mirror, sending side (R393, R394) -/

/-- Order in which the classes are sent (R394). -/
def classOrder : List Nat := [2, 0, 1, 5, 4, 3]

/-- The registers of a class (R393). -/
def mirrorRegs (c : Nat) : List Nat :=
  let loops (f : Nat → List Nat) := ((List.range 16).map f).flatten
  let mem := List.range 8
  match c with
  | 0 => loops (fun m => [SL_TARGET m, SL_MAN_OUT m, SL_STAT m] ++ mem.map (fun k => SL_MEM_CMD m k)) ++
      ((List.range 8).map (fun g => [FG_CFG g, FG_PLIM g])).flatten ++ [CAP_SET_PLIM]
  | 1 => loops (fun m => [SL_U_INT m, SL_FF m, SL_STAT m, SL_RUN_CNT m, SL_BAT_SOC m] ++ mem.map (fun k => SL_MEM_TRIM m k))
  | 2 => ((List.range 8).map (fun g => [FG_DEMAND g, FG_STAT g])).flatten ++ [CAP_SHED_STATE]
  | 4 => [ONX_NEXT_SEQ, ONX_COMMIT_SEQ]
  | 5 => ((List.range 4).map (fun n => [HIF_SQ_ACCEPTED_SEQ n, HIF_CQ_POSTED_SEQ n])).flatten ++
      (List.range 256).map HIF_TAG
  | _ => []

/-- The bits of a register that a class carries (R393). -/
def State.mirrorWord (s : State) (c ofs : Nat) : Nat :=
  let w := (s.word ofs).toNat
  if c = 0 ∧ 0x20000 ≤ ofs ∧ ofs < 0x22000 ∧ ofs % 0x200 = 8 then w &&& 7
  else if c = 0 ∧ 0x24400 ≤ ofs ∧ ofs % 256 = 0 then w / 65536 * 65536
  else if c = 1 ∧ 0x20000 ≤ ofs ∧ ofs < 0x22000 ∧ ofs % 0x200 = 8 then w &&& 0xF0
  else if c = 2 ∧ ofs % 256 = 8 then w &&& 0x72000
  else w

def mirKey (c field : Nat) : Nat := 65536 * c + field

/-- The registers of the masked classes, as keys. -/
def State.mirrorKeys (s : State) : List Nat :=
  let mask := s.rd RED_MIRROR_MASK_Mask
  ((classOrder.filter (fun c => mask.testBit c)).map (fun c => (mirrorRegs c).map (fun o => mirKey c (o / 4)))).flatten

/-- The bins of the class Tables, one bin of every loop after another (R394). -/
def State.tableKeys (s : State) : List Nat :=
  if (s.rd RED_MIRROR_MASK_Mask).testBit 3 then
    let ls := (List.range 16).filter (fun m => s.on (SL_RC_CFG_En m))
    let n := ls.foldl (fun a m => max a (s.rcNb m)) 0
    ((List.range n).map (fun b => (ls.filter (fun m => b < s.rcNb m)).map (fun m => mirKey 3 (1024 * m + b)))).flatten
  else []

/-- The value of a record. -/
def State.mirrorValue (s : State) (k : Nat) : Nat :=
  let c := k / 65536
  let f := k % 65536
  if c = 3 then unsigned 32 (s.rcAt (f / 1024) (f % 1024)) else s.mirrorWord c (4 * f)

/-- One record of a MIRROR message. -/
def State.mirrorRec (s : State) (k : Nat) : List Byte :=
  leBytes 2 (k % 65536) ++ leBytes 1 (k / 65536) ++ leBytes 1 0 ++ leBytes 4 (s.mirrorValue k)

/-- The bins of the tables that one frame refreshes: at most one per loop. -/
def oneBin (l : List Nat) : List Nat :=
  match l with
  | [] => []
  | k :: t => k :: (t.takeWhile (fun j => j % 1024 == k % 1024))

/-- Build the frame's mirror from changed records and, but for a final mirror, the rolling refresh (R394). -/
def State.buildMirror (s : State) (final : Bool) : State :=
  let room := 5 * s.rd RED_MIRROR_CFG_MaxMsgs
  let regs := s.mirrorKeys
  let tabs := s.tableKeys
  let chg := (regs ++ tabs).filter (fun k => match assoc s.red.sent k with
    | some v => v != s.mirrorValue k
    | none => false)
  let now := chg.take room
  let left := if final then 0 else room - now.length
  let t := (oneBin (tabs.drop s.red.tabPos)).take left
  let g := (regs.drop s.red.mirPos).take (left - t.length)
  let keys := now ++ t ++ g
  let n := (keys.length + 4) / 5
  let begins := s.red.first && !(t ++ g).isEmpty
  let msgs := (List.range n).map (fun i =>
    leBytes 4 (s.red.mirSeq + 1 + i) ++ leBytes 1 (b2n (begins && decide (i = now.length / 5))) ++ leBytes 3 0 ++
      (((keys.drop (5 * i)).take 5).map s.mirrorRec).flatten)
  let passAt := if begins then s.frame else s.red.passAt
  let tp := s.red.tabPos + t.length
  let gp := s.red.mirPos + g.length
  let ends := !final && decide (regs.length ≤ gp ∧ tabs.length ≤ tp) && !(regs.isEmpty && tabs.isEmpty)
  let s := s.modRed (fun r => { r with mirror := msgs, sent := keys.foldl (fun l k => assocPut l k (s.mirrorValue k)) r.sent,
                                       first := ends || (r.first && !begins), passAt := passAt,
                                       tabPos := if ends then 0 else tp, mirPos := if ends then 0 else gp })
  (s.wrB RED_STAT_Lag (decide (room < chg.length))).when ends (fun s =>
    s.wr RED_MIRROR_STAT_PassFrames (min 65535 (s.frame + 1 - passAt)))

/-- MIRROR_SEND: the messages built in this frame (R394). -/
def State.mirrorSend (s : State) : State :=
  forEach s.red.mirror (s.modRed (fun r => { r with mirror := [] })) (fun s m =>
    (s.modRed (fun r => { r with mirSeq := leNat (m.take 4) })).linkSend s.peerPos (.bytes 0x05 m))

/-- MIRROR_SEND (R394). -/
def execMirrorSend (s : State) : Res := done s (s.stage State.mirrorSend)

/-! ### Heartbeat (R386, R387, R398) -/

/-- The toggle path is silent (R387). -/
def State.togSilent (s : State) : Bool := !s.on RED_CFG_ToggleEn || s.on RED_STAT_ToggleSilent

/-- A primary in Standby is healthy (R398). -/
def State.healthy (s : State) : Bool :=
  s.redState == 3 && s.primary && s.inSync && !s.on RED_STAT_LinkSilent && !s.togSilent && s.flt.held.all (fun e => e.2 == 0)

/-- HANDBACK is due (R398). -/
def State.handbackDue (s : State) : Bool :=
  s.redState == 3 && s.primary && s.on RED_CFG_Revert &&
    decide (10000 * max 1 (s.rd RED_TIMING_RevertHold) ≤ s.rd RED_HEALTHY_Cnt) &&
    (match s.red.handAt with | some f => decide (f + 100 ≤ s.frame) | none => true)

/-- Send HANDBACK (R398). -/
def State.handbackSend (s : State) : State :=
  if s.handbackDue then
    ((s.modRed (fun r => { r with handAt := some s.frame })).wrB RED_STAT_RevertPend true).linkSend s.peerPos
      (.bytes 0x07 (List.replicate 48 0))
  else s

/-- HANDBACK_SEND (R398). -/
def execHandbackSend (s : State) : Res := done s s.handbackSend

/-- The payload of HEARTBEAT (R386). -/
def State.hbBytes (s : State) : List Byte :=
  leBytes 1 s.redState ++
    leBytes 1 (b2n (s.on GLB_STAT_ShelfMaster) + 2 * b2n s.inSync + 4 * b2n s.healthy + 8 * b2n (s.on RED_STAT_Lag)) ++
    leBytes 1 s.thrDrive ++ leBytes 1 0 ++ leBytes 4 (s.rd RED_CFG_DIGEST_Digest) ++ leBytes 4 s.red.mirSeq ++
    List.replicate 36 0

/-- Slots 1-2: the heartbeat, SURRENDER and HANDBACK, the wave on HB_TX, the mirror (R386-R388, R394). -/
def State.hbBuild (s : State) : State :=
  let s := (s.modRed (fun r => { r with built := true })).linkSend 8 (.bytes 0x02 s.hbBytes)
  let s := match s.red.surSend with
    | some why =>
      (s.modRed (fun r => { r with surSend := none })).linkSend s.peerPos
        (.bytes 0x03 (leBytes 1 why ++ leBytes 3 0 ++ leBytes 4 s.red.mirSeq))
    | none => s
  let s := s.handbackSend
  let s := s.when (s.pairOn && s.on RED_CFG_ToggleEn) (fun s => (s.modRed (fun r => { r with hbTx := true })).emit .heartbeatEdge)
  if s.red.finalMir then (s.buildMirror true).modRed (fun r => { r with finalMir := false })
  else if s.redState = 2 then s.buildMirror false
  else s

/-- HEARTBEAT_BUILD (R386). -/
def execHeartbeatBuild (s : State) : Res := done s (s.stage State.hbBuild)

/-! ### Sync (R395) -/

/-- A loss takes every class out of sync; it is counted and raised once. -/
def State.syncLoss (s : State) (digest : Bool) : State :=
  let s := (s.wr RED_MIRROR_STAT_InSync 0).modRed (fun r => { r with passOk := false })
  if s.red.lost then s
  else ((s.modRed (fun r => { r with lost := true })).inc RED_MIRROR_GAP_CNT_Cnt).raise 229
    (s.rd RED_MIRROR_MASK_Mask + 64 * b2n digest)

/-- The next loss counts again once the device has been in sync. -/
def State.syncNote (s : State) : State := if s.inSync then s.modRed (fun r => { r with lost := false }) else s

/-- RED_RESYNC (R395). -/
def execRedResync (s : State) : Res := done s (s.syncLoss false)

/-- The configuration digest of R395: the CRC-32C of the applied SL, CAP and RED shadow settings, in offset order, the peer's
position left out (log entry 60). -/
def State.digestOf (s : State) : Nat :=
  let offs := (allRegs.filter (fun r => r.shadowed && ((0x20000 ≤ r.base && r.base < 0x28000) || (0x36000 ≤ r.base && r.base < 0x36100)))).map
    (fun r => ((List.range r.cnt1).map (fun i => (List.range r.cnt2).map (fun j => r.base + r.str1 * i + r.str2 * j))).flatten)
  crc32c (offs.flatten.map (fun o => leBytes 4 (if o = RED_CFG then (s.word o).toNat &&& 0x301 else (s.word o).toNat))).flatten

/-! ### Detection (R389, R390) -/

/-- The standby declares the active failed in this frame (R389). -/
def State.detect (s : State) (bySur : Bool) (why : Nat) : State :=
  if s.redState ≠ 3 then s
  else ((s.wr RED_STAT_State 4).modRed (fun r => { r with detect := some s.frame, mstRaised := false, byHand := bySur && why == 2 })).raise 224
    (b2n bySur + 2 * (why % 4))

/-- Detection by silence (R389). -/
def State.peerFailed (s : State) : State :=
  if s.redState = 3 ∧ s.rd RED_TIMING_Thb ≤ s.rd RED_STAT_Silent then s.detect false 0 else s

/-- PEER_FAILED (R389). -/
def execPeerFailed (s : State) : Res := done s s.peerFailed

/-- One path alone silent for Thb frames (R389). -/
def State.hbPath (s : State) : State :=
  let thb := s.rd RED_TIMING_Thb
  let link := decide (thb ≤ s.red.linkFor) && s.red.togFor == 0
  let tog := decide (thb ≤ s.red.togFor) && s.red.linkFor == 0
  if s.redState = 3 ∧ (link || tog) = true ∧ s.red.pathRaised = false then
    (s.modRed (fun r => { r with pathRaised := true })).raise 228 (b2n link + 2 * b2n tog)
  else if link || tog then s else s.modRed (fun r => { r with pathRaised := false })

/-- HB_PATH_SILENT (R389). -/
def execHbPathSilent (s : State) : Res := done s s.hbPath

/-- MST_N still low three frames after the detection (R390). -/
def State.mstHeld (s : State) : State :=
  match s.red.detect with
  | some d =>
    if s.redState = 4 ∧ d + 3 ≤ s.frame ∧ s.on RED_STAT_MstIn = true ∧ s.red.mstRaised = false then
      (s.modRed (fun r => { r with mstRaised := true })).raise 227 0
    else s
  | none => s

/-- MST_HELD (R390). -/
def execMstHeld (s : State) : Res := done s s.mstHeld

/-! ### Start of a pair (R385) -/

/-- The device takes the role at start. -/
def State.startActive (s : State) : State :=
  ((((s.wr RED_STAT_State 2).wrB RED_STAT_MstDrive true).wrB RED_STAT_MstIn true).setRole true true).modRed (fun r =>
    { r with sent := [], mirPos := 0, tabPos := 0, first := true, passAt := s.frame, mstFree := 0 })

/-- The start of the primary, or of the secondary whose time is over (R385). -/
def State.startRole (s : State) : State :=
  if s.redState ≠ 1 then s
  else if s.primary then
    if s.on RED_STAT_MstIn then s.toStandby.cause 23 else if 2 ≤ s.red.mstFree then s.startActive else s
  else s

/-- PAIR_START_ROLE (R385). -/
def execPairStartRole (s : State) : Res := done s s.startRole

/-- The secondary waits no longer for a heartbeat (R385). -/
def State.startLate (s : State) : State :=
  if s.redState = 1 ∧ s.primary = false ∧ 10000 * max 1 (s.rd RED_TIMING_StartWait) ≤ s.red.startFor ∧ 2 ≤ s.red.mstFree then s.startActive
  else s

/-- SECONDARY_START_TIMEOUT (R385). -/
def execSecondaryStartTimeout (s : State) : Res := done s s.startLate

/-! ### Take-over (R396, R397) -/

/-- Load one mirrored register of a class in sync (R393, R396). -/
def State.loadMirror (s : State) (c ofs v : Nat) : State :=
  let loop := (ofs - 0x20000) / 0x200
  if c = 0 then
    if 0x20000 ≤ ofs ∧ ofs < 0x22000 ∧ ofs % 0x200 = 8 then s.modSl loop (fun x => { x with mode := v % 8 })
    else if 0x24400 ≤ ofs ∧ ofs % 256 = 0 then s.wr (FG_CFG_K ((ofs - 0x24400) / 256)) (v / 65536)
    else s.setWord ofs (BitVec.ofNat 32 v)
  else if c = 1 then
    if 0x20000 ≤ ofs ∧ ofs < 0x22000 ∧ ofs % 0x200 = 8 then
      (((s.wr (SL_STAT_Stage loop) (bits v 6 4)).wr (SL_STAT_Hold loop) (bits v 7 7)).modSl loop (fun x => { x with stageAt := s.frame }))
    else if 0x20000 ≤ ofs ∧ ofs < 0x22000 ∧ ofs % 0x200 = 0x13C then s.writeOwn (0x5000 + 32 * loop + 9) v
    else s.setWord ofs (BitVec.ofNat 32 v)
  else
    let g := (ofs - 0x24400) / 256
    if ofs % 256 = 8 then (s.wr (FG_STAT_Severity g) (bits v 18 16)).wr (FG_STAT_WrongSide g) (bits v 13 13)
    else if ofs = CAP_SHED_STATE then s
    else s.setDem s.me g { s.demOf s.me g with d := signed 32 v }

/-- Load the mirrored records of a class. -/
def State.loadClass (s : State) (c : Nat) : State :=
  forEach (s.red.recs.filter (fun e => e.1 / 65536 == c)) s (fun s e =>
    if c = 3 then s.rcSet (e.1 % 65536 / 1024) (e.1 % 1024) (signed 32 e.2) else s.loadMirror c (4 * (e.1 % 65536)) e.2)

/-- The fall-back of a class that is not in sync (R393). -/
def State.fallBack (s : State) (c : Nat) : State :=
  match c with
  | 1 => forN 16 s (fun s m =>
      let s := if s.on (SL_CTL_En m) then s.slPreset m (s.rcFf m) else s
      if s.slBattery m then (s.setSoc m (2 ^ 47)).wrB (SL_STAT_SocValid m) false else s)
  | 2 => forEach s.groups s (fun s g =>
      let eng := (s.actsOf s.me g).filter (fun a => (assoc s.cap.eng a.key).isSome)
      s.setDem s.me g { s.demOf s.me g with d := eng.foldl (fun t a => t + 65536 * (a.sav : Int)) 0, want := eng.map Act.key })
  | 3 => forN 16 s (fun s m => s.rcClear m)
  | _ => s

/-- Capping runs as master from the engaged state as it stands (R221): the lines driven for the former active become this device's
own, its shed groups keep their place. -/
def State.capTake (s : State) (sg : Nat) : State :=
  let keys := (bitsOf 8 s.cap.mirThr).map (fun t => 128 * s.me + t) ++ (bitsOf 32 sg).map (fun g => 128 * s.peerPos + 64 + g)
  let eng := keys.foldl (fun l k => assocPut l k ((assoc l k).getD s.frame)) s.cap.eng
  s.modCap (fun c => { c with eng := eng, mirThr := 0, alloc := [], wsEng := [] })

/-- A mirrored word, if a record of it has arrived. -/
def State.mirrored (s : State) (c ofs : Nat) : Option Nat := assoc s.red.recs (mirKey c (ofs / 4))

/-- Resume pair n (R397), given the tags found in the completion ring past the mirrored POSTED_SEQ. -/
def State.resumePair (s : State) (n : Nat) (cq : List Nat) : State :=
  let posted0 := (s.mirrored 5 (HIF_CQ_POSTED_SEQ n)).getD 0
  let acc := (s.mirrored 5 (HIF_SQ_ACCEPTED_SEQ n)).getD 0
  let s := (s.wr (HIF_SQ_ACCEPTED_SEQ_Seq n) acc).wr (HIF_CQ_POSTED_SEQ_Seq n) ((posted0 + cq.length) % 2 ^ 32)
  let mine := (List.range 256).filter (fun t => match s.mirrored 5 (HIF_TAG t) with
    | some w => bits w 9 8 == n && bits w 1 0 != 0
    | none => false)
  let s := forEach mine s (fun s t => s.setWord (HIF_TAG t) (BitVec.ofNat 32 ((s.mirrored 5 (HIF_TAG t)).getD 0)))
  let s := forEach ((List.range cq.length).zip cq) s (fun s e =>
    { s.wr (HIF_TAG_State e.2) 3 with hif := { s.hif with posted := s.hif.posted ++ [(n, (posted0 + 1 + e.1) % 2 ^ 32, e.2)] } })
  let old := mine.filter (fun t => s.rd (HIF_TAG_State t) == 3 && !cq.contains t)
  let s := { s with hif := { s.hif with posted := s.hif.posted ++ old.map (fun t => (n, posted0, t)),
                                        fetchSeq := upd s.hif.fetchSeq n (fun _ => (acc + 1) % 2 ^ 32) } }
  let owed := mine.filter (fun t => s.rd (HIF_TAG_State t) == 1 || s.rd (HIF_TAG_State t) == 2)
  let known := s.red.taken.filter (fun e => e.1 == n && owed.contains e.2.2)
  let fresh := owed.filter (fun t => !known.any (fun e => e.2.2 == t))
  let (s, l) := fresh.foldl (fun (st : State × List (Nat × Nat)) t => let (v, s) := st.1.draw 32; (s, st.2 ++ [(v, t)])) (s, [])
  forEach (l ++ known.map (fun e => (e.2.1, e.2.2))) s (fun s e =>
    { s.wr (HIF_TAG_State e.2) 2 with hif := { s.hif with comps := s.hif.comps ++
        [{ pair := n, sqSeq := e.1, tag := e.2, gen := s.rd (HIF_TAG_Gen e.2), status := Status.faulted.code, frame := s.frame32 }] } })

/-- The standby takes the role (R390, R396). -/
def State.roleTake (s : State) (cq : List (List Nat)) : State :=
  match s.red.detect with
  | none => s
  | some d =>
    if s.redState ≠ 4 ∨ s.frame ≤ d ∨ s.red.mstFree < 2 then s
    else
      let mask := s.rd RED_MIRROR_MASK_Mask
      let ins := s.rd RED_MIRROR_STAT_InSync
      let ok (c : Nat) : Bool := mask.testBit c && ins.testBit c
      let gap := match s.red.peer with | some p => min 65535 (s.frame - p.frame) | none => 65535
      let byHand := s.red.byHand
      let s := s.startActive
      let s := ((s.inc RED_TAKEOVER_CNT_Cnt).wr RED_LAST_GAP_Frames gap).wrB RED_STAT_RevertPend false
      let s := s.capTake (if ok 2 then (s.mirrored 2 CAP_SHED_STATE).getD 0 else 0)
      let s := forEach [0, 3, 2, 1] s (fun s c => if ok c then s.loadClass c else s.fallBack c)
      let s := s.updThr
      let s := s.raise 225 (min 255 gap)
      let onyx (o : Nat) : Option Nat := if ok 4 then s.mirrored 4 o else none
      let s := s.requestShelf 0x0401 s.peerPos ((onyx ONX_NEXT_SEQ).getD 0xFFFFFFFF)
        (match onyx ONX_COMMIT_SEQ with | some q => (q + 1) % 2 ^ 32 % 131072 | none => 0xFFFFFFFF) gap
      let s := s.when byHand (fun s => (s.inc RED_REVERT_CNT_Cnt).raise 231 0)
      let s := forEach ((List.range 4).filter (fun n => s.hif.attached.contains n)) s (fun s n =>
        if ok 5 then s.resumePair n (cq.getD n []) else
          { s.wrB (HIF_SQ_STAT_Attached n) false with hif := { s.hif with attached := s.hif.attached.filter (fun a => a != n) } })
      ((s.wr RED_MIRROR_STAT_InSync 0).wr RED_HEALTHY_Cnt 0).modRed (fun r =>
        { r with detect := none, byHand := false, handAt := none, recs := [], taken := [], rxSeq := none, takeSeq := none,
                 passOk := false, lost := true })

/-- ROLE_TAKE (R396). -/
def execRoleTake (cq : List (List (Fin 256))) (s : State) : Res := done s (s.roleTake (cq.map (fun l => l.map Fin.val)))

/-! ### Frame boundary and apply -/

/-- What the pair does at a frame boundary: the counters of the ended frame, then surrender, detection, start (R385-R390, R398).
`mstLow`: MST_N was low at some time of that frame. -/
def State.redBoundary (s : State) (mstLow : Bool) : State :=
  let missed := if s.red.built then 0 else s.red.missed + 1
  let s := s.modRed (fun r => { r with built := false, missed := missed, hbTx := r.hbTx && r.built })
  if s.redState = 0 then s
  else
    let low := mstLow || s.on RED_STAT_MstDrive
    let link := !s.red.hbSeen
    let tog := !s.on RED_CFG_ToggleEn || !s.red.togSeen
    let s := s.wrB RED_STAT_MstIn low
    let s := s.wrB RED_STAT_LinkSilent (link || (s.routeOf s.peerPos).isNone)
    let s := s.wr RED_STAT_Silent (if link && tog then min 31 (s.rd RED_STAT_Silent + 1) else 0)
    let s := s.modRed (fun r => { r with
      mstFree := if low then 0 else r.mstFree + 1,
      startFor := r.startFor + 1,
      linkFor := if link then r.linkFor + 1 else 0,
      togFor := if tog then r.togFor + 1 else 0,
      hbSeen := false, togSeen := !s.togSilent })
    let s := s.wr RED_HEALTHY_Cnt (if s.healthy then min (2 ^ 32 - 1) (s.rd RED_HEALTHY_Cnt + 1) else 0)
    let s := if 2 ≤ missed then s.surCause 1 else s
    ((((s.surrender).peerFailed).hbPath).mstHeld).startRole.startLate

/-- An apply (R384, R385, R395): the digest, and the start or the end of the pair. -/
def State.redApply (s : State) : State :=
  let dg := s.digestOf
  let changed := dg != s.rd RED_CFG_DIGEST_Digest
  let s := s.wr RED_CFG_DIGEST_Digest dg
  let s := if changed && (s.redState == 3 || s.redState == 4) then s.syncLoss true else s
  if s.pairOn then
    if s.redState = 0 then
      (((s.setRole false false).wr RED_STAT_State 1).modRed (fun r => { r with startFor := 0, togSeen := true, built := true, missed := 0 }))
    else s
  else if s.redState = 0 then s.roleAlone
  else
    ((((((s.wr RED_STAT_State 0).wrB RED_STAT_MstDrive false).wr RED_MIRROR_STAT_InSync 0).wrB RED_STAT_RevertPend false).wr
      RED_STAT_Silent 0).modRed (fun _ => {})).roleAlone

/-- HB_TOGGLE_MISSED (R387): no edge on HB_RX for more than 4 µs. -/
def execHbToggleMissed (s : State) : Res :=
  done s (if s.on RED_CFG_ToggleEn && s.pairOn then s.wrB RED_STAT_ToggleSilent true else s)

/-- HB_TOGGLE_RETURN (R387). -/
def execHbToggleReturn (s : State) : Res :=
  done s (if s.on RED_CFG_ToggleEn && s.pairOn then (s.wrB RED_STAT_ToggleSilent false).modRed (fun r => { r with togSeen := true }) else s)

/-! ### Ports (R375-R377) -/

/-- A port has trained: what the neighbour announces, and the checks of R375. -/
def State.portTrained (s : State) (p pos size : Nat) (reported : Option Nat) (lat : Nat) : State :=
  if !s.on TL_CFG_En then s
  else
    let s := (((((s.wr (TL_PORT_STAT_NbrPos p) pos).wr (TL_PORT_STAT_NbrSetSize p) size).wrB (TL_PORT_STAT_Trained p) true).wrB
      (TL_PORT_STAT_Lane0Up p) true).wrB (TL_PORT_STAT_Lane1Up p) true).wrB (TL_PORT_STAT_Up p) true
    let s := s.wr (TL_PORT_HOPLAT_Lat p) lat
    let s := match reported with
      | some g => if s.tl.genSet then s else (s.wr TL_GEN_Gen (g + 1)).modTl (fun t => { t with genSet := true })
      | none => s
    let s := s.when (pos != s.nbrOf p) (fun s => s.raise 50 (p + 2 * pos))
    let s := s.when (size != s.rd TL_CFG_SetSize) (fun s => s.raise 51 (p + 2 * size))
    let s := s.when (pos == s.me) (fun s => s.raise 52 pos)
    s.sendHello

/-- TL_PORT_TRAINED (R375). -/
def execTlPortTrained (p : Fin 2) (pos : Fin 8) (size : BitVec 4) (reported : Option (BitVec 16)) (lat : BitVec 16) (s : State) : Res :=
  done s (s.portTrained p pos size.toNat (reported.map BitVec.toNat) lat.toNat)

/-- A port goes down (R375, R386, R401). -/
def State.portDown (s : State) (p : Nat) : State :=
  if !s.on (TL_PORT_STAT_Up p) then s
  else
    let s := (((s.wrB (TL_PORT_STAT_Up p) false).wrB (TL_PORT_STAT_Trained p) false).wrB (TL_PORT_STAT_Lane0Up p) false).wrB
      (TL_PORT_STAT_Lane1Up p) false
    let s := (s.inc (TL_PORT_DOWN_CNT_Cnt p)).raise 48 p
    let n := s.rd TL_CFG_SetSize
    let s := s.when (decide (1 < n) && (List.range n).all s.isLive) (fun s => s.raise 54 p)
    s.when (s.redState != 0 && (s.routeOf s.peerPos).isNone) (fun s => s.wrB RED_STAT_LinkSilent true)

/-- TL_PORT_DOWN (R375). -/
def execTlPortDown (p : Fin 2) (s : State) : Res := done s (s.portDown p.val)

/-- TL_TRANSIT_FORWARD (R377): the message leaves the other port unchanged; with that port down it is lost. -/
def execTlTransitForward (p : Fin 2) (body : LinkBody) (s : State) : Res :=
  let o := 1 - p.val
  done s (if s.portUp p && s.portUp o then (s.inc (TL_PORT_TX_CNT_Cnt o)).emit (.forward o body) else s)

/-- LINK_MESSAGE_DROPPED (R377, R380): a failed CRC-32C, or an unknown type. -/
def execLinkMessageDropped (p : Fin 2) (_unknownType : Bool) (s : State) : Res :=
  done s ((s.inc (TL_PORT_CRC_CNT_Cnt p)).raise 49 p)

/-- A position is heard no more (R381). -/
def State.liveExpire (s : State) (q : Nat) : State :=
  if s.isLive q then s else s.modTl (fun t => { t with heard := assocDel t.heard q })

/-- TL_LIVENESS_EXPIRY (R381). -/
def execTlLivenessExpiry (q : Fin 8) (s : State) : Res := done s (s.liveExpire q.val)

/-- HELLO every 1,000 frames (R379). -/
def State.helloPeriodic (s : State) : State := if s.tl.helloAt + 1000 ≤ s.frame then s.sendHello else s

/-- HELLO_PERIODIC (R379). -/
def execHelloPeriodic (s : State) : Res := done s s.helloPeriodic

/-! ### Receiving (R377, R379) -/

/-- A message has been taken by the receiver's checks: routing, generation, first copy of a broadcast (R377, R379). A gap in the
sequence of the peer's messages to this device takes the mirror out of sync (R395). -/
def State.accept (s : State) (h : LinkHdr) (newGen : Bool) : Bool × State :=
  let q := h.src.val
  if !s.portUp h.port || q = s.me || !(h.bcast || h.dest.val == s.me) then (false, s)
  else
    let s := s.inc (TL_PORT_RX_CNT_Cnt h.port)
    let same := s.on (TL_GEN_SEEN_Valid q) && s.rd (TL_GEN_SEEN_Gen q) == h.gen.toNat
    if !same && !newGen then (false, s.inc (TL_PORT_STALE_CNT_Cnt h.port))
    else
      let last := if same then assoc s.tl.rxBcast q else none
      let s := if same then s
        else (((s.wr (TL_GEN_SEEN_Gen q) h.gen.toNat).wrB (TL_GEN_SEEN_Valid q) true).modTl (fun t =>
          { t with rxBcast := assocDel t.rxBcast q })).when (q == s.peerPos) (fun s => s.modRed (fun r => { r with takeSeq := none }))
      if h.bcast then
        match last with
        | some n => if seqAfter n h.seq.toNat then (true, s.modTl (fun t => { t with rxBcast := assocPut t.rxBcast q h.seq.toNat }))
                    else (false, s)
        | none => (true, s.modTl (fun t => { t with rxBcast := assocPut t.rxBcast q h.seq.toNat }))
      else if s.redState = 3 ∧ q = s.peerPos then
        let gap := match s.red.takeSeq with | some n => decide ((n + 1) % 2 ^ 32 ≠ h.seq.toNat) | none => false
        let s := s.modRed (fun r => { r with takeSeq := some h.seq.toNat })
        (true, if gap then s.syncLoss false else s)
      else (true, s)

/-- Run a receiver on an accepted message. -/
def State.received (s : State) (h : LinkHdr) (f : State → State) : State := let (ok, s) := s.accept h false; if ok then f s else s

/-- A message of the pair's peer. -/
def State.fromPeer (s : State) (h : LinkHdr) : Bool := s.pairOn && h.src.val == s.peerPos

/-- HELLO (R379, R384). -/
def State.gotHello (s : State) (h : LinkHdr) (p : List Byte) : State :=
  let fl := numAt p 2 1
  let (ok, s) := s.accept h (fl.testBit 2)
  if !ok then s
  else
    let q := h.src.val
    let s := s.modTl (fun t => { t with heard := assocPut t.heard q s.frame, pairs := setBit t.pairs q (fl.testBit 1) })
    if s.pairOn then
      if q = s.peerPos then
        let prim := fl.testBit 0
        let s := s.modRed (fun r => { r with hello := some (numAt p 3 1 % 8, fl.testBit 1, prim) })
        let sameRole := prim == !s.on GLB_STAT_Role
        let other := !(fl.testBit 1) || numAt p 3 1 % 8 != s.me
        let bad := sameRole || other
        let was := s.on RED_STAT_RoleConflict
        (s.wrB RED_STAT_RoleConflict bad).when (bad && !was) (fun s => s.raise 230 (b2n sameRole + 2 * b2n other))
      else s
    else s.roleAlone

/-- HELLO (R379). -/
def execHello (h : LinkHdr) (payload : List Byte) (s : State) : Res := done s (s.gotHello h payload)

/-- HEARTBEAT (R381, R385, R386, R390, R392). -/
def State.gotHeartbeat (s : State) (h : LinkHdr) (p : List Byte) : State :=
  let q := h.src.val
  let fl := numAt p 1 1
  let master := fl.testBit 0
  let s := s.modTl (fun t => { t with heard := assocPut t.heard q s.frame, master := if master then q else t.master })
  if !s.fromPeer h then s
  else
    let hb : PeerHb := { state := numAt p 0 1, master := master, sync := fl.testBit 1, thr := numAt p 2 1, digest := numAt p 4 4,
                         mirSeq := numAt p 8 4, frame := s.frame }
    let digest := match s.red.peer with | some o => o.digest != hb.digest | none => false
    let s := (s.modRed (fun r => { r with peer := some hb, hbSeen := true })).wrB RED_STAT_LinkSilent false
    let s : State := match s.redState with
      | 1 => if s.primary then s else s.toStandby.cause 23
      | 4 => if master then (s.wr RED_STAT_State 3).modRed (fun r => { r with detect := none, mstRaised := false, byHand := false }) else s
      | _ => s
    let s := if s.redState = 3 then
        let gap := match s.red.rxSeq with | some n => n != hb.mirSeq | none => false
        let s := if digest then s.syncLoss true else s
        let s := if gap then (s.syncLoss false).modRed (fun r => { r with rxSeq := some hb.mirSeq }) else s
        s.syncNote
      else s
    if s.redState == 3 && master then (s.modCap (fun c => { c with mirThr := hb.thr })).updThr else s

/-- HEARTBEAT (R386). -/
def execHeartbeat (h : LinkHdr) (payload : List Byte) (s : State) : Res := done s (s.received h (fun s => s.gotHeartbeat h payload))

/-- SURRENDER (R389). -/
def execSurrender (h : LinkHdr) (payload : List Byte) (s : State) : Res :=
  done s (s.received h (fun s => if s.fromPeer h then s.detect true (numAt payload 0 1) else s))

/-- THROTTLE (R392): followed while the active is the standby's. -/
def execThrottle (h : LinkHdr) (payload : List Byte) (s : State) : Res :=
  done s (s.received h (fun s =>
    if s.fromPeer h && s.redState == 3 then (s.modCap (fun c => { c with mirThr := numAt payload 0 1 })).updThr else s))

/-- Whether a record names something of its class (R393, R394). -/
def State.mirrorKnown (s : State) (c f : Nat) : Bool :=
  if c = 3 then f < 16384 && decide (f % 1024 < s.rcNb (f / 1024)) else (mirrorRegs c).contains (4 * f)

/-- The records of a MIRROR message, by key. -/
def State.mirrorRecs (s : State) (p : List Byte) : List (Nat × Nat) :=
  ((List.range 5).map (fun i => (numAt p (8 + 8 * i) 2, numAt p (10 + 8 * i) 1, numAt p (12 + 8 * i) 4))).filterMap (fun e =>
    if s.mirrorKnown e.2.1 e.1 then some (mirKey e.2.1 e.1, e.2.2) else none)

/-- MIRROR (R394, R395): the records are kept, a gap in MirSeq is a loss, and the first message of a pass ends the pass before it. -/
def State.gotMirror (s : State) (p : List Byte) : State :=
  let n := numAt p 0 4
  let gap := match s.red.rxSeq with | some q => decide ((q + 1) % 2 ^ 32 ≠ n) | none => false
  let s := if gap then s.syncLoss false else s
  let recs := s.mirrorRecs p
  let runs (tag : Nat) : Bool :=
    match assoc recs (mirKey 5 (HIF_TAG tag / 4)) with
    | some w => decide (w % 4 = 1 ∨ w % 4 = 2)
    | none => true
  let s := s.modRed (fun r =>
    { r with rxSeq := some n, recs := recs.foldl (fun l e => assocPut l e.1 e.2) r.recs, taken := r.taken.filter (fun e => runs e.2.2) })
  let s := if (numAt p 4 1).testBit 0 then
      let s := if s.red.passOk then
          (s.wr RED_MIRROR_STAT_InSync (s.rd RED_MIRROR_MASK_Mask)).wr RED_MIRROR_STAT_PassFrames (min 65535 (s.frame - s.red.rxPassAt))
        else s
      s.modRed (fun r => { r with passOk := true, rxPassAt := s.frame })
    else s
  s.syncNote

/-- MIRROR (R394). -/
def execMirror (h : LinkHdr) (payload : List Byte) (s : State) : Res :=
  done s (s.received h (fun s => if s.fromPeer h && (s.redState == 3 || s.redState == 4) then s.gotMirror payload else s))

/-- TAKE (R397): each descriptor taken counts as the active's ACCEPTED_SEQ and tag state. -/
def State.gotTake (s : State) (l : List (Nat × Nat × Nat)) : State :=
  forEach l s (fun s e =>
    let (n, tag, gen) := e
    let key := mirKey 5 (HIF_SQ_ACCEPTED_SEQ n / 4)
    let seq := ((assoc s.red.recs key).getD 0 + 1) % 2 ^ 32
    s.modRed (fun r => { r with
      recs := assocPut (assocPut r.recs key seq) (mirKey 5 (HIF_TAG tag / 4)) (65536 * gen + 256 * n + 1),
      taken := r.taken.filter (fun t => t.2.2 != tag) ++ [(n, seq, tag)] }))

/-- TAKE (R397): the entries the active sent, pair, tag and generation. -/
def execTake (h : LinkHdr) (entries : List (Fin 4 × Fin 256 × BitVec 16)) (s : State) : Res :=
  done s (s.received h (fun s => if s.fromPeer h && (s.redState == 3 || s.redState == 4) then
    s.gotTake ((entries.take 12).map (fun e => (e.1.val, e.2.1.val, e.2.2.toNat))) else s))

/-- HANDBACK (R399): a surrender cause, deferred outside Normal and during an activation. -/
def execHandback (h : LinkHdr) (s : State) : Res :=
  done s (s.received h (fun s =>
    if s.fromPeer h && s.rd HU_STAT_State == 0 && s.rd UPD_STAT_State != 3 then s.surCause 2 else s))

/-- FEED_REPORT (R219). -/
def execFeedReport (h : LinkHdr) (groups : List FeedRep) (s : State) : Res :=
  done s (s.received h (fun s => s.gotFeedReport h.src h.setFrame.toNat groups))

/-- CAP_ALLOC (R219). -/
def execCapAlloc (h : LinkHdr) (thr : BitVec 8) (pol : BitVec 24) (sg : BitVec 32) (s : State) : Res :=
  done s (s.received h (fun s => s.gotAlloc thr.toNat pol.toNat sg.toNat))

/-- WS_SHED (R220). -/
def execWsShed (h : LinkHdr) (groups : List (Fin 256)) (s : State) : Res :=
  done s (s.received h (fun s => s.gotWsShed h.src (groups.map Fin.val)))

/-- GASP (R229): acts at the next slot 3. -/
def execGasp (h : LinkHdr) (s : State) : Res := done s (s.received h (fun s => s.modCap (fun c => { c with gaspIn := true })))

/-- ACT_TABLE (R217). -/
def execActTable (h : LinkHdr) (entries : List ActEntry) (s : State) : Res :=
  done s (s.received h (fun s => s.modTl (fun t => { t with actTables := assocPut t.actTables h.src entries })))

/-! ### Forwarded points (R382) -/

/-- Split a list into pieces of a length. -/
def pieces {α : Type} (n : Nat) (l : List α) : List (List α) :=
  (List.range ((l.length + n - 1) / n)).map (fun i => (l.drop (n * i)).take n)

/-- The subscriptions of an apply: per peer, its points with their Refresh. -/
def State.subscribe (s : State) : State :=
  let pins := (s.pins.filter (fun e => domainOf (e.2 % 2 ^ 20) == 3)).map (fun e => (s.pin e.1 2, s.pin e.1 1 % 65536))
  forN 8 s (fun s q =>
    let l := pins.filter (fun e => e.1 % 8 == q && e.2 != 0)
    if q = s.me then s
    else forEach (pieces 8 l) s (fun s m =>
      s.linkSend q (.bytes 0x20 (m.map (fun e => leBytes 4 (bits e.1 22 3) ++ leBytes 2 e.2)).flatten)))

/-- SUBSCRIBE at the peer: each point is accepted or refused. -/
def State.gotSubscribe (s : State) (q : Nat) (p : List Byte) : State :=
  let l := ((List.range (p.length / 6)).map (fun i => (numAt p (6 * i) 4 % 2 ^ 20, numAt p (6 * i + 4) 2))).filter (fun e => e.2 != 0)
  let (s, bad) := l.foldl (fun (st : State × List Nat) e =>
    let s := st.1
    let rest := s.tl.subs.filter (fun x => !(x.1 == q && x.2.1 == e.1))
    if s.pinned e.1 && decide (rest.length < 4 * s.rd TL_CFG_FwdMsgs) then (s.modTl (fun t => { t with subs := rest ++ [(q, e.1, e.2)] }), st.2)
    else (s, st.2 ++ [e.1])) (s, [])
  if bad.isEmpty then s else s.linkSend q (.bytes 0x21 (bad.map (leBytes 4)).flatten)

/-- SUBSCRIBE (R382). -/
def execSubscribe (h : LinkHdr) (payload : List Byte) (s : State) : Res :=
  done s (s.received h (fun s => s.gotSubscribe h.src payload))

/-- The domain-3 pin entries of a peer's point. -/
def State.pinsOfPeer (s : State) (q id : Nat) : List (Nat × Nat) :=
  s.pins.filter (fun e => domainOf (e.2 % 2 ^ 20) == 3 && s.pin e.1 2 % 8 == q && bits (s.pin e.1 2) 22 3 == id)

/-- SUB_NACK (R382): the entry keeps Init. -/
def execSubNack (h : LinkHdr) (payload : List Byte) (s : State) : Res :=
  done s (s.received h (fun s =>
    forEach ((List.range (payload.length / 4)).map (fun i => numAt payload (4 * i) 4 % 2 ^ 20)) s (fun s id =>
      forEach (s.pinsOfPeer h.src id) s (fun s e => (s.setCache (e.2 % 2 ^ 20) {}).raise 53 e.1))))

/-- One record of FWD: point, quality, value and set-frame stamp. -/
def State.fwdRec (s : State) (id : Nat) : List Byte :=
  let v := s.pointVal id
  leBytes 4 (id + 2 ^ 24 * (v.q % 256)) ++ leBytes 4 v.v.toNat ++
    leBytes 4 (v.stamp + s.rd FRM_SET_OFF_LO_Lo)

/-- The points due in this frame go out with the values sealed at slot 0. -/
def State.sendFwd (s : State) : State :=
  forN 8 s (fun s q =>
    let due := s.tl.subs.filter (fun x => x.1 == q && s.setFrameNo % x.2.2 == 0)
    forEach (pieces 4 due) s (fun s l => s.linkSend q (.bytes 0x22 (l.map (fun x => s.fwdRec x.2.1)).flatten)))

/-- FWD (R382, R328, R329): the values enter the cache at the next slot 0, stamps in this device's frames. -/
def execFwd (h : LinkHdr) (payload : List Byte) (s : State) : Res :=
  done s (s.received h (fun s =>
    forEach (List.range (payload.length / 12)) s (fun s i =>
      let a := numAt payload (12 * i) 4
      let stamp := (numAt payload (12 * i + 8) 4 + 2 ^ 32 - s.rd FRM_SET_OFF_LO_Lo) % 2 ^ 32
      forEach (s.pinsOfPeer h.src (a % 2 ^ 20)) s (fun s e =>
        s.arrive (e.2 % 2 ^ 20) (some { v := BitVec.ofNat 32 (numAt payload (12 * i + 4) 4), q := a / 2 ^ 24, stamp := stamp })))))

/-! ### Remote writes (R383) -/

/-- The write a PWRITE asks for: a POINT_WRITE with deadline 1, which admits only points of domains 0 and 4 (R55). -/
def State.remoteWrite (s : State) (id v : Nat) : Status × State :=
  let dom := domainOf id
  if !s.pointKnown id then (.pointUnknown, s)
  else match s.pinOf id with
    | some i => if s.bindOn dom (s.pin i 2) then (.notAdmitted, s) else (.disabled, s)
    | none =>
      if dom = 0 then
        if s.ownRefuses id || s.railOwns id then (.refusedState, s) else (.ok, s.writeOwn id v)
      else if dom = 4 then
        if s.rd (PNT_DRV_CFG_Op (id - 0x40000)) ≠ 0 then (.refusedState, s) else (.ok, s.arrive id (some (mkVal v false s.frame32)))
      else (.notAdmitted, s)

/-- PWRITE (R383). -/
def execPwrite (h : LinkHdr) (payload : List Byte) (s : State) : Res :=
  done s (s.received h (fun s =>
    let (st, s) := s.remoteWrite (numAt payload 0 4 % 2 ^ 20) (numAt payload 4 4)
    s.modTl (fun t => { t with pwIn := t.pwIn ++ [(h.src.val, numAt payload 8 4, st.code)] })))

/-- The answers to the writes of the frame before (R383). -/
def State.sendAcks (s : State) : State :=
  forEach s.tl.pwIn (s.modTl (fun t => { t with pwIn := [] })) (fun s e =>
    s.linkSend e.1 (.bytes 0x24 (leBytes 4 e.2.1 ++ leBytes 1 e.2.2)))

/-- The status of a code (R309). -/
def Status.ofCode (n : Nat) : Option Status :=
  [Status.ok, .notAdmitted, .aborted, .superseded, .disabled, .alreadyDone, .badCrc, .badTag, .refusedState, .notAuthorised,
   .busError, .timeout, .nack, .arbLost, .deadlineMissed, .pointUnknown, .faulted].find? (fun st => st.code == n)

/-- PWRITE_ACK (R383, R178, R266). -/
def State.gotAck (s : State) (q req code : Nat) : State :=
  match s.tl.pwrites.find? (fun x => x.1 == req && x.2.1 == q), Status.ofCode code with
  | some (_, _, use), some st =>
    let s := s.modTl (fun t => { t with pwrites := t.pwrites.filter (fun x => !(x.1 == req && x.2.1 == q)) })
    match use with
    | .cmd tag => s.complete tag st (match s.findCmd tag with | some c => c.result | none => 0)
    | .member m k => s.slWritten m k (st == .ok)
    | .rail r => s.railWritten r ((s.rail r).write.getD false) code
  | _, _ => s

/-- PWRITE_ACK (R383). -/
def execPwriteAck (h : LinkHdr) (payload : List Byte) (s : State) : Res :=
  done s (s.received h (fun s => s.gotAck h.src (numAt payload 0 4) (numAt payload 4 1)))

/-- PWRITE_TIMEOUT (R333): no reply by slot 39 of the last frame of the window. -/
def State.pwTimeout (s : State) (tag : Nat) : State :=
  match s.findCmd tag with
  | none => s
  | some c =>
    if s.tl.pwrites.any (fun x => x.2.2 == .cmd tag) && c.deadline != 0 && decide (c.arrival + min c.deadline 1024 ≤ s.frame) then
      (s.complete tag .timeout c.result).modTl (fun t => { t with pwrites := t.pwrites.filter (fun x => x.2.2 != .cmd tag) })
    else s

/-- PWRITE_TIMEOUT (R333). -/
def execPwriteTimeout (tag : Fin 256) (s : State) : Res := done s (s.pwTimeout tag.val)

/-- What the link does at a frame boundary: liveness, HELLO, the answers and the forwarded points of the frame. -/
def State.linkBoundary (s : State) : State :=
  (((forN 8 s State.liveExpire).helloPeriodic).sendAcks).sendFwd

/-! ### Update messages (R453) -/

/-- UPD_MAN (R453). -/
def execUpdMan (h : LinkHdr) (payload : List Byte) (s : State) : Res := done s (s.received h (fun s => s.gotUpdMan h.src payload))
/-- UPD_DATA (R453). -/
def execUpdData (h : LinkHdr) (payload : List Byte) (s : State) : Res := done s (s.received h (fun s => s.gotUpdData h.src payload))
/-- UPD_ACK (R453). -/
def execUpdAck (h : LinkHdr) (payload : List Byte) (s : State) : Res := done s (s.received h (fun s => s.gotUpdAck h.src payload))
/-- UPD_PREPARE (R453). -/
def execUpdPrepare (h : LinkHdr) (payload : List Byte) (s : State) : Res := done s (s.received h (fun s => s.gotUpdPrepare h.src payload))
/-- UPD_READY (R453). -/
def execUpdReady (h : LinkHdr) (payload : List Byte) (s : State) : Res := done s (s.received h (fun s => s.gotUpdReady h.src payload))
/-- UPD_COMMIT (R453). -/
def execUpdCommit (h : LinkHdr) (payload : List Byte) (s : State) : Res := done s (s.received h (fun s => s.gotUpdCommit h.src payload))
/-- UPD_DONE (R453). -/
def execUpdDone (h : LinkHdr) (payload : List Byte) (s : State) : Res := done s (s.received h (fun s => s.gotUpdDone h.src payload))
/-- UPD_REVERT (R453). -/
def execUpdRevert (h : LinkHdr) (payload : List Byte) (s : State) : Res := done s (s.received h (fun s => s.gotUpdRevert h.src payload))
/-- UPD_CONFIRM (R453). -/
def execUpdConfirm (h : LinkHdr) (payload : List Byte) (s : State) : Res := done s (s.received h (fun s => s.gotUpdConfirm h.src payload))

end Sys2Proof.Machine
end

