-- ==== Sys2Proof/Machine/Hif.lean ====
section
/-!
DEFINITION. The host interface (chapter 10): PCIe state, attachment, doorbells, descriptor fetch, posting of completions and
events, stream records, interrupts.
-/
namespace Sys2Proof.Machine

def State.modHif (s : State) (f : HifState → HifState) : State := { s with hif := f s.hif }

def State.ringAttached (s : State) (r : RingRegs) : Bool := s.hif.attached.contains r.id

/-- Write the next entry of a ring: its sequence number, the body, the CRC-32C (R299). -/
def State.ringWrite (s : State) (r : RingRegs) (esize : Nat) (body : List Byte) : State :=
  let q := seqAdd (s.rd r.posted) 1
  (s.wr r.posted q).emit (.dmaWrite (s.ringBase r + q % s.ringSize r * esize) (sealCrc (leBytes 4 q ++ body)))

/-- An attached pair of a standby is passive (R397). -/
def State.passive (s : State) : Bool := s.redState == 3 || s.redState == 4

/-! ### Attachment (R303) -/

/-- A write of the En and Resume bits of a pair. -/
def State.pairCtl (s : State) (n : Nat) (en resume : Bool) : State :=
  let was := s.on (HIF_SQ_CTL_En n)
  let s := (s.wrB (HIF_SQ_CTL_En n) en).wrB (HIF_SQ_CTL_Resume n) resume
  if en && !was then s.modHif (fun h => { h with attachReq := h.attachReq.filter (fun e => e.1 != n) ++ [(n, resume)] })
  else if !en && was then
    s.modHif (fun h => { h with attachReq := h.attachReq.filter (fun e => e.1 != n), detachReq := n :: h.detachReq.filter (fun e => e != n) })
  else s

/-- PAIR_ATTACH (R303). -/
def execPairAttach (n : Fin 4) (resume : Bool) (s : State) : Res := done s (s.pairCtl n true resume)

/-- PAIR_DETACH (R303). -/
def execPairDetach (n : Fin 4) (s : State) : Res := done s (s.pairCtl n false (s.on (HIF_SQ_CTL_Resume n)))

/-- A write of the CTL register of the event ring or of a stream ring (R303). -/
def State.ringCtl (s : State) (enF resF : Fld) (id v : Nat) : State :=
  let was := s.on enF
  let en := v.testBit 0
  let s := (s.wrB enF en).wrB resF (v.testBit 1)
  if en && !was then s.modHif (fun h => { h with attachReq := h.attachReq.filter (fun e => e.1 != id) ++ [(id, v.testBit 1)] })
  else if !en && was then
    s.modHif (fun h => { h with attachReq := h.attachReq.filter (fun e => e.1 != id), detachReq := id :: h.detachReq.filter (fun e => e != id) })
  else s

/-- EQ_CTL_WRITE (R303). -/
def execEqCtlWrite (value : BitVec 32) (s : State) : Res := done s (s.ringCtl HIF_EQ_CTL_En HIF_EQ_CTL_Resume 8 value.toNat)

/-- TS_CTL_WRITE (R303). -/
def execTsCtlWrite (k : Fin 8) (value : BitVec 32) (s : State) : Res :=
  done s (s.ringCtl (HIF_TS_CTL_En k) (HIF_TS_CTL_Resume k) (16 + k) value.toNat)

/-- Descriptors fetched and not taken stay in their ring (R301). -/
def State.unfetch (s : State) (n : Nat) : State :=
  s.modHif (fun h => { h with fetch := h.fetch.filter (fun d => d.pair != n), dmaFails := upd h.dmaFails n (fun _ => 0),
                              fetchSeq := upd h.fetchSeq n (fun _ => seqAdd (s.rd (HIF_SQ_ACCEPTED_SEQ_Seq n)) 1) })

/-- A ring is attached at the boundary, fresh or resuming. -/
def State.attachRing (s : State) (id : Nat) (resume : Bool) : State :=
  let s := s.modHif (fun h => { h with attached := h.attached.filter (fun a => a != id) ++ [id] })
  if id < 4 then
    let s := s.wrB (HIF_SQ_STAT_Attached id) true
    let s := if resume then s
      else
        let a := s.rd (HIF_SQ_INIT_SEQ_Seq id)
        let c := s.rd (HIF_CQ_INIT_SEQ_Seq id)
        let s := (((s.wr (HIF_SQ_ACCEPTED_SEQ_Seq id) (seqAdd a (2 ^ 32 - 1))).wr (HIF_SQ_TAIL_Seq id) a).wr (HIF_CQ_POSTED_SEQ_Seq id)
          (seqAdd c (2 ^ 32 - 1))).wr (HIF_CQ_HEAD_Seq id) c
        s.modHif (fun h => { h with cmds := h.cmds.map (fun d => if d.pair == id then { d with dropped := true } else d),
                                    comps := h.comps.map (fun d => if d.pair == id then { d with dropped := true } else d) })
    s.unfetch id
  else
    let r := if id = 8 then eqRegs else tsRegs (id - 16)
    if resume then s else (s.wr r.posted (seqAdd (s.rd r.init) (2 ^ 32 - 1))).wr r.head (s.rd r.init)

/-- A ring is detached at the boundary. -/
def State.detachRing (s : State) (id : Nat) : State :=
  let s := s.modHif (fun h => { h with attached := h.attached.filter (fun a => a != id) })
  if id < 4 then (s.wrB (HIF_SQ_STAT_Attached id) false).unfetch id else s

/-- Attachments, detachments and interrupt map writes take effect at the boundary (R303, R324). -/
def State.hifBoundary (s : State) : State :=
  let att := s.hif.attachReq
  let det := s.hif.detachReq
  let maps := s.hif.mapPend
  let s := s.modHif (fun h => { h with attachReq := [], detachReq := [], mapPend := [] })
  let s := forEach det s State.detachRing
  let s := forEach att s (fun s e => s.attachRing e.1 e.2)
  forEach maps s (fun s e => s.setWord e.1 (BitVec.ofNat 32 e.2))

/-! ### Doorbells (R300) -/

/-- A pair may be served: attached and not detaching (R303). -/
def State.pairOpen (s : State) (n : Nat) : Bool := s.hif.attached.contains n && s.on (HIF_SQ_CTL_En n)

/-- A doorbell error of a pair or of another ring (R300, R323). -/
def State.dbErr (s : State) (ring : Nat) : State :=
  (s.when (decide (ring < 8)) (fun s => s.wrB (HIF_SQ_STAT_DbErr (ring % 4)) true)).raise 33 ring

/-- SQ_TAIL_DOORBELL (R300): a passive pair only records the tail (R397). -/
def State.tailBell (s : State) (n v : Nat) : State :=
  if !s.hif.attached.contains n then s
  else if s.passive then s.wr (HIF_SQ_TAIL_Seq n) v
  else if seqDist (seqAdd (s.rd (HIF_SQ_ACCEPTED_SEQ_Seq n)) 1) v ≤ 2 ^ s.rd (HIF_SQ_CFG_SizeLog2 n) then s.wr (HIF_SQ_TAIL_Seq n) v
  else s.dbErr n

/-- SQ_TAIL_DOORBELL (R300). -/
def execSqTailDoorbell (n : Fin 4) (value : BitVec 32) (s : State) : Res := done s (s.tailBell n value.toNat)

/-- A head write (R300): entries go back to the device, and Posted tags before the head become Free (R310). -/
def State.headBell (s : State) (r : RingRegs) (errRing v : Nat) : State :=
  if !s.ringAttached r then s
  else if r.id < 4 && s.passive then s.wr r.head v
  else if seqDist (s.rd r.head) v ≤ s.ringUsed r then
    let s := s.wr r.head v
    if r.id < 4 then
      let isGone (e : Nat × Nat × Nat) : Bool := e.1 == r.id && seqAfter e.2.1 v
      let gone := s.hif.posted.filter isGone
      let s := s.modHif (fun h => { h with posted := h.posted.filter (fun e => !isGone e) })
      forEach gone s (fun s e => s.wr (HIF_TAG_State e.2.2) 0)
    else s
  else s.dbErr errRing

/-- CQ_HEAD_DOORBELL (R300, R310). -/
def execCqHeadDoorbell (ring : DevRing) (value : BitVec 32) (s : State) : Res :=
  done s (match ring with
    | .cq n => s.headBell (cqRegs n) (4 + n) value.toNat
    | .eq => s.headBell eqRegs 8 value.toNat
    | .ts k => s.headBell (tsRegs k) 9 value.toNat)

/-! ### Fetch (R301, R323) -/

/-- Descriptors that may be fetched now: announced and not fetched, within the buffer of 32 and one request of 512 bytes. -/
def State.fetchRoom (s : State) (n : Nat) : Nat :=
  min 8 (min (32 - s.hif.fetch.length) (seqDist (s.hif.fetchSeq.getD n 0) (s.rd (HIF_SQ_TAIL_Seq n))))

/-- DESCRIPTOR_FETCH: a read of announced descriptors completes, or fails (R301, R323). -/
def State.fetchDesc (s : State) (n : Nat) (data : Option (List Byte)) : State :=
  if !s.pairOpen n || s.passive || !s.dmaOk || s.fetchRoom n = 0 then s
  else match data with
    | none =>
      let s := s.modHif (fun h => { h with dmaFails := upd h.dmaFails n (· + 1) })
      if s.hif.dmaFails.getD n 0 < 3 then s
      else (((s.modHif (fun h => { h with dmaFails := upd h.dmaFails n (fun _ => 0) })).wrB (HIF_SQ_STAT_DmaErr n) true).raise 37 n).pairCtl n
        false (s.on (HIF_SQ_CTL_Resume n))
    | some b =>
      let k := min (b.length / 64) (s.fetchRoom n)
      s.modHif (fun h => { h with
        dmaFails := upd h.dmaFails n (fun _ => 0), fetchSeq := upd h.fetchSeq n (fun q => seqAdd q k),
        fetch := h.fetch ++ (List.range k).map (fun i => { pair := n, bytes := slice b (64 * i) 64 }) })

/-- DESCRIPTOR_FETCH (R301). -/
def execDescriptorFetch (n : Fin 4) (data : Option (List Byte)) (s : State) : Res := done s (s.fetchDesc n data)

/-! ### Completions (R302, R304, R309) -/

/-- The completion that posts next: of the oldest frame, the first in SqSeq order (R309). -/
def nextComp (l : List Comp) : Option Comp :=
  match l with
  | [] => none
  | a :: t => some (t.foldl (fun b c => if c.frame = b.frame ∧ seqAfter c.sqSeq b.sqSeq = true then c else b) a)

/-- The bytes of a completion entry after its sequence number (R309). -/
def compBytes (c : Comp) : List Byte :=
  leBytes 4 c.sqSeq ++ leBytes 1 c.tag ++ leBytes 1 c.status ++ leBytes 2 c.gen ++ leBytes 4 c.frame ++ leBytes 8 c.result ++ leBytes 4 0

/-- Completions can post: the pair is attached and serves the host, and DMA is possible (R304). -/
def State.canPost (s : State) (n : Nat) : Bool := s.hif.attached.contains n && s.on (HIF_SQ_CTL_En n) && !s.passive && s.dmaOk

/-- Post the next completion of a pair; one owed to an earlier attachment is dropped in its place (R303), and one whose SECDED
fails uncorrectably is not posted (R32, R427). -/
def State.postComp (s : State) (n : Nat) : State :=
  if !s.canPost n then s
  else match nextComp (s.pairComps n) with
    | none => s
    | some c =>
      let s := s.modHif (fun h => { h with comps := h.comps.erase c })
      if c.dropped then (s.inc HIF_DROP_CNT_Cnt).when c.hasTag (fun s => s.wr (HIF_TAG_State c.tag) 0)
      else if c.inv = 3 then s.raise 38 n
      else
        let s := if c.inv = 0 then s else (let (a, s) := s.draw 16; s.raise 0 a)
        let s := s.ringWrite (cqRegs n) 32 (compBytes c)
        let s := if c.hasTag then (s.wr (HIF_TAG_State c.tag) 3).modHif (fun h =>
            { h with posted := h.posted ++ [(n, s.rd (HIF_CQ_POSTED_SEQ_Seq n), c.tag)] }) else s
        s.when (!c.noIrq) (fun s => s.cause (8 + n))

/-- COMPLETION_POST (R304, R309). -/
def execCompletionPost (n : Fin 4) (s : State) : Res := done s (s.postComp n)

/-! ### Events (R314, R315) -/

/-- The bytes of an event entry after its sequence number (R314). -/
def eventBytes (e : Event) : List Byte :=
  leBytes 2 e.code ++ leBytes 1 e.tag ++ leBytes 1 (b2n e.tagValid) ++ leBytes 2 e.gen ++ leBytes 2 e.unit ++ leBytes 4 e.frame ++
    leBytes 4 e.p0 ++ leBytes 4 e.p1 ++ leBytes 4 e.p2

/-- Write the next event; after losses EQ_LOST comes first, and EQ is full when one entry is left (R315). -/
def State.postEq (s : State) : State :=
  if !(s.hif.attached.contains 8 && s.on HIF_EQ_CTL_En && s.dmaOk) || decide (s.ringSize eqRegs ≤ s.ringUsed eqRegs + 1) then s
  else if s.hif.evLost > 0 then
    let e : Event := { code := 1, p0 := s.hif.evLost, p1 := s.hif.evLostAt, frame := s.frame32 }
    ((s.modHif (fun h => { h with evLost := 0, evLostAt := 0 })).ringWrite eqRegs 32 (eventBytes e)).cause 12
  else match s.hif.events with
    | [] => s
    | e :: t => ((s.modHif (fun h => { h with events := t })).ringWrite eqRegs 32 (eventBytes e)).cause 12

/-- EVENT_POST (R315). -/
def execEventPost (s : State) : Res := done s s.postEq

/-! ### Stream records (R316) -/

/-- The next record of a stream ring goes out, or is dropped where the ring is full, detached or without DMA. -/
def State.writeRec (s : State) (k : Nat) : State :=
  match s.pnt.recs.find? (fun e => e.1 == k) with
  | none => s
  | some e =>
    let s := s.modPnt (fun p => { p with recs := p.recs.erase e })
    let r := tsRegs k
    if s.hif.attached.contains r.id && s.on (HIF_TS_CTL_En k) && s.dmaOk && decide (s.ringUsed r < s.ringSize r) then
      ((s.ringWrite r 64 e.2).inc (PNT_TS_REC_CNT_Cnt k)).cause (13 + k)
    else s.inc (HIF_TS_DROP_CNT_Cnt k)

/-- STREAM_RECORD_WRITE (R316). -/
def execStreamRecordWrite (k : Fin 8) (s : State) : Res := done s (s.writeRec k)

/-! ### Interrupts (R319, R324) -/

/-- A moderated vector is due in slot 39: Count events, or Frames whole frames since the first (R319). -/
def State.vecDue (s : State) (p : VecPend) : Bool :=
  let v := p.vec - 8
  decide (max 1 (s.rd (HIF_MSIX_MOD_Count v)) ≤ p.cnt) || decide (p.first + s.rd (HIF_MSIX_MOD_Frames v) ≤ s.frame)

/-- The moderated vectors that are due send their messages. -/
def State.sealVecs (s : State) : State :=
  forEach (s.hif.vecs.filter (fun p => s.vecDue p)) s (fun s p =>
    (s.modHif (fun h => { h with vecs := h.vecs.filter (fun x => x.vec != p.vec) })).sendMsix p.vec)

/-- A vector's message goes out: it is due, or it waited in the PBA and is unmasked (R319). -/
def State.msixMessage (s : State) (v : Nat) : State :=
  match s.hif.vecs.find? (fun p => p.vec == v) with
  | some p =>
    if s.vecDue p then (s.modHif (fun h => { h with vecs := h.vecs.filter (fun x => x.vec != v) })).sendMsix v else wait s
  | none => wait s
where
  /-- A message kept in the PBA. -/
  wait (s : State) : State := if s.hif.pba.testBit v && !s.masked v && s.dmaOk then s.sendMsix v else s

/-- MSIX_MESSAGE (R319). -/
def execMsixMessage (v : Fin 32) (s : State) : Res := done s (s.msixMessage v)

/-- A write of an interrupt map or moderation register, for the next boundary (R324): vectors 0-7 leave the field, and the map of
causes 0-7 and 25-31 is fixed. -/
def State.mapWrite (s : State) (isMod : Bool) (i v : Nat) : State :=
  let put (o w : Nat) := s.modHif (fun h => { h with mapPend := h.mapPend ++ [(o, w)] })
  if isMod then (if 8 ≤ i then put (HIF_MSIX_MOD i) (v % 2 ^ 24) else s)
  else if 8 ≤ i ∧ i ≤ 24 ∧ 8 ≤ v % 32 then put (HIF_MSIX_MAP i) (v % 32) else s

/-- MSIX_MAP_WRITE (R324). -/
def execMsixMapWrite (isMod : Bool) (idx : Fin 32) (value : BitVec 32) (s : State) : Res := done s (s.mapWrite isMod idx value.toNat)

/-! ### PCI Express (R295, R296, R317, R323) -/

/-- Units per frame of the DMA lane by link (R317). -/
def State.dmaCap (s : State) : Nat :=
  match s.rd HIF_STAT_Rate, s.rd HIF_STAT_Width with
  | _, 0 => 480
  | 0, 1 => 40
  | 0, _ => 120
  | 1, 1 => 120
  | 1, _ => 240
  | _, 1 => 240
  | _, _ => 480

/-- m of R317 for the link and the table in force. -/
def State.setStreamDiv (s : State) : State :=
  s.wr HIF_STAT_StreamDiv (max 1 ((s.frm.dmaBooked + s.dmaCap - 1) / s.dmaCap))

/-- A PCIe reset (R295): the core, configuration space with the MSI-X table, and every ring detached. -/
def State.pcieReset (s : State) (cause : Nat) : State :=
  let s := forN 4 s (fun s n => s.pairCtl n false (s.on (HIF_SQ_CTL_Resume n)))
  let s := s.ringCtl HIF_EQ_CTL_En HIF_EQ_CTL_Resume 8 (2 * b2n (s.on HIF_EQ_CTL_Resume))
  let s := forN 8 s (fun s k => s.ringCtl (HIF_TS_CTL_En k) (HIF_TS_CTL_Resume k) (16 + k) (2 * b2n (s.on (HIF_TS_CTL_Resume k))))
  let s := (s.modHif (fun h => { h with msixTable := [], pba := 0, vecs := [] })).wrB HIF_STAT_BusMaster false
  let s := (s.wrB HIF_STAT_L1 false).wrB HIF_STAT_D3 (cause == 4)
  let s := s.when (decide (cause < 3)) (fun s => ((s.wrB HIF_STAT_LinkUp false).wr HIF_STAT_Width 0).wr HIF_STAT_Rate 0)
  ((s.inc HIF_LINKDOWN_CNT_Cnt).raise 34 cause).request 0x0601 0 cause 0 0

/-- PCIE_RESET (R295). -/
def execPcieReset (cause : Fin 5) (s : State) : Res := done s (s.pcieReset cause)

/-- PCIE_LINK_UP (R296, R317): the link is in L0 and the function in D0 with bus mastering. -/
def execPcieLinkUp (rate : Fin 3) (x2 : Bool) (s : State) : Res :=
  done s (((((s.wrB HIF_STAT_LinkUp true).wr HIF_STAT_Rate rate).wr HIF_STAT_Width (1 + b2n x2)).wrB HIF_STAT_D3 false).wrB
    HIF_STAT_BusMaster true).setStreamDiv

/-- BUS_MASTER_ENABLE_WRITE (R296): Bus Master Enable is cleared. -/
def execBusMasterEnableWrite (s : State) : Res := done s (s.wrB HIF_STAT_BusMaster false)

/-- AER_ERROR_LOGGED (R323). -/
def execAerErrorLogged (uncorrectable : Bool) (statusBit : BitVec 6) (s : State) : Res :=
  done s (s.raise (if uncorrectable then 36 else 35) statusBit.toNat)

end Sys2Proof.Machine
end

