-- ==== Sys2Proof/Machine/Admission.lean ====
section
/-!
DEFINITION. Taking descriptors and admission (R50-R57, R301, R302, R305-R308, R310, R311), best effort (R60), FENCE and
ABORT (R61, R62, R313), missed portions and deadlines (R46, R59), and the completion seal.
-/
namespace Sys2Proof.Machine

/-! ### The ledger (R42, R51) -/

/-- A periodic job holds a slot of the run of `c` slots from absolute slot `b`; overlaps are those of R47. -/
def Job.hits (j : Job) (b c : Nat) : Bool :=
  let p := 40 * max 1 j.period
  let d := (b + p * (40 * j.phase + j.slot) - (40 * j.phase + j.slot)) % p
  decide (d < j.len) || decide (p - d < c)

/-- A job falls due in a frame. -/
def Job.due (j : Job) (f : Nat) : Bool := (f + j.phase * j.period - j.phase) % max 1 j.period == 0

/-- A reserved portion holds a slot of a run. -/
def Portion.hits (p : Portion) (lane b c : Nat) : Bool := p.lane == lane && decide (p.slot < b + c) && decide (b < p.slot + p.len)

/-- Every reserved portion of the commands in flight. -/
def State.plans (s : State) : List Portion := s.hif.cmds.foldl (fun a c => a ++ c.plan) []

/-- A run of slots of a lane is free of bookings and reservations. -/
def State.laneFree (s : State) (lane b c : Nat) : Bool :=
  !s.frm.jobs.any (fun j => j.lane == lane && j.hits b c) && !s.plans.any (fun p => p.hits lane b c)

/-- A core slot is open to a command: slots 16-38, unreserved (R42, R44). -/
def State.coreFree (s : State) (lane a : Nat) : Bool := decide (16 ≤ a % 40) && decide (a % 40 ≤ 38) && s.laneFree lane a 1

/-- Units of a counted lane that the table books in a frame: streams by the rate of the link (R317), messages every frame. -/
def State.unitsBooked (s : State) (lane f : Nat) : Nat :=
  let n := (s.frm.jobs.filter (fun j => j.lane == lane && j.due f)).foldl (fun a j => a + j.len) 0
  if lane = 20 ∧ f % s.streamDiv ≠ 0 then 0 else n

/-- Units of a counted lane that commands hold in a frame. -/
def State.unitsReserved (s : State) (lane f : Nat) : Nat :=
  (s.plans.filter (fun p => p.lane == lane && p.slot / 40 == f)).foldl (fun a p => a + p.len) 0

/-- Units of the DMA lane left in a frame, of the capacity of the link in force (R317). -/
def State.dmaLeft (s : State) (f : Nat) : Nat := s.dmaCap - s.unitsBooked 20 f - s.unitsReserved 20 f

/-- The least `a` of `n` candidates that passes a test. -/
def firstFrom (p : Nat → Bool) (n a : Nat) : Option Nat :=
  match n with
  | 0 => none
  | k + 1 => if p a then some a else firstFrom p k (a + 1)

/-- The earliest open core slot in [a, e) of a frame that leaves `units` DMA units, CORE1 before CORE0 (log entry 81), past the
slot already taken. -/
def State.coreFind (s : State) (a e : Nat) (taken : Option Portion) (ok : Nat → Bool) : Option Portion :=
  let fr (l x : Nat) : Bool := s.coreFree l x && !(match taken with | some t => t.lane == l && t.slot == x | none => false)
  (firstFrom (fun x => (fr 1 x || fr 0 x) && ok (x / 40)) (e - a) a).map (fun x =>
    { lane := if fr 1 x then 1 else 0, slot := x, len := 1 })

/-! ### Costs (R55-R57) -/

/-- Bus slots of a two-wire transaction (R56), from the settings of a register map. -/
def twSlots (l : RegFile) (port bytes conds : Nat) : Nat :=
  let q := match TW_PORT_CFG_Speed port |>.of (l.get (TW_PORT_CFG port)) with | 0 => 40 | 1 => 10 | _ => 4
  (9 * bytes + conds + 1) * q + (TW_PORT_TIMING_Stretch port).of (l.get (TW_PORT_TIMING port))

/-- Bytes and bus conditions of a protocol without PEC (R348). -/
def twShapeCost (proto wr rd : Nat) : Nat × Nat :=
  match proto with
  | 0 => (1, 2)
  | 1 | 2 => (2, 2)
  | 3 => (3, 2)
  | 4 => (4, 2)
  | 5 => (4, 3)
  | 6 => (5, 3)
  | 7 => (7, 3)
  | 8 => (3 + wr, 2)
  | 9 => (4 + rd, 3)
  | 10 => (5 + wr + rd, 3)
  | _ => if wr = 0 then (1 + rd, 2) else if rd = 0 then (1 + wr, 2) else (2 + wr + rd, 3)

/-- The cost of an access by a domain-1 binding, with its PAGE write (R358). -/
def twBindCost (l : RegFile) (d2 : Nat) (write : Bool) : Nat :=
  let p := d2 % 16
  let pec := b2n (d2.testBit 11)
  let n := twSize d2
  let (b, c) := if write then twShapeCost (match n with | 1 => 3 | 2 => 4 | _ => 8) n 0
    else twShapeCost (match n with | 1 => 5 | 2 => 6 | _ => 9) 0 4
  twSlots l p (b + pec) c + (if bits d2 31 24 = 255 then 0 else twSlots l p (3 + pec) 2)

/-- Slots of a CAN frame (R57), rounded up from 12.5 ns clocks of the 80 MHz bit timing. -/
def canSlots (l : RegFile) (c len : Nat) (ide brs : Bool) : Nat :=
  let nom := (CAN_NBT_Brp c).of (l.get (CAN_NBT c)) * (1 + (CAN_NBT_Seg1 c).of (l.get (CAN_NBT c)) + (CAN_NBT_Seg2 c).of (l.get (CAN_NBT c)))
  let dat := (CAN_DBT_Brp c).of (l.get (CAN_DBT c)) * (1 + (CAN_DBT_Seg1 c).of (l.get (CAN_DBT c)) + (CAN_DBT_Seg2 c).of (l.get (CAN_DBT c)))
  let m := 5 + 8 * len
  let nd := m + m / 4 + (if len ≤ 16 then 27 else 32)
  let t := (if ide then 58 else 34) * nom + nd * (if brs then dat else nom)
  (t + 19) / 20 * (1 + (CAN_CFG_Retry c).of (l.get (CAN_CFG c)))

/-- The cost of a write by a domain-2 binding (R57, R369). -/
def canBindCost (l : RegFile) (d2 d3 : Nat) : Nat :=
  canSlots l (d2 % 4) (dlcLen (bits d3 15 12)) (d2.testBit 2) (d3.testBit 11)

/-- What a deterministic command must reserve (R55): core slots, minimum deadline, a run on a bus lane, NVM slots, DMA units of
data at most 96 a frame, DMA units beside the completion's, a message on a link lane, and whether its finish falls in the frame
after its start. -/
structure Need where
  cores : Nat := 1
  minD  : Nat := 1
  bus   : Option (Nat × Nat) := none
  nvm   : Nat := 0
  data  : Nat := 0
  host  : Nat := 0
  msg   : Option Nat := none
  split : Bool := false
deriving DecidableEq, Repr, Inhabited

/-- A bus run and its minimum deadline (R55). -/
def busNeed (lane c host : Nat) : Need := { cores := 2, minD := (c + 39) / 40 + 1, bus := some (lane, c), host := host }

/-- The cost of a command (R55). A transfer on a port that does not exist uses no bus lane (log entry 71). -/
def State.needOf (s : State) (c : Cmd) : Need :=
  let p := c.payload
  match c.opcode with
  | 0x11 =>
    match domainOf c.point, s.pinOf c.point with
    | 1, some i => busNeed (2 + s.pin i 2 % 16) (twBindCost s.regs (s.pin i 2) true) 0
    | 2, some i => busNeed (14 + s.pin i 2 % 4) (canBindCost s.regs (s.pin i 2) (s.pin i 3)) 0
    | 3, some i => { cores := 2, minD := 2, msg := some (21 + (s.routeOf (s.pin i 2 % 8)).getD 1) }
    | _, _ => { cores := 2 }
  | 0x12 => { cores := 2, minD := 2, split := true }
  | 0x13 => { cores := 2 }
  | 0x16 => { cores := 2 }
  | 0x20 =>
    let port := numAt p 0 1
    if 11 < port then { cores := 2 } else
    let (b, k) := twShapeCost (numAt p 2 1) (numAt p 5 1) (numAt p 6 1)
    busNeed (2 + port) (twSlots s.regs port (b + b2n (bit (numAt p 3 1) 0)) k)
      (if bit (numAt p 3 1) 2 then (numAt p 6 1 + 32) / 32 else 0)
  | 0x21 =>
    let ctl := numAt p 0 1
    if 3 < ctl then { cores := 2 } else
    let fl := numAt p 1 1
    busNeed (14 + ctl) (canSlots s.regs ctl (dlcLen (numAt p 2 1 % 16)) (bit fl 0) (bit fl 2)) 0
  | 0x30 =>
    let n := numAt p 4 2
    { cores := 2, minD := 1 + (n + 95) / 96, nvm := (n + 7) / 8, data := n }
  | 0x32 => { nvm := 1 }
  | 0x42 => { cores := 2, nvm := 4 }
  | _ => {}

/-! ### Placement (R51-R53) -/

/-- The NVM lane has capacity: requester 0 does not hold the port (R442). -/
def State.nvmOpen (s : State) : Bool := !s.rbt.gasp && !s.rbt.preReset

/-- The earliest `n` free NVM slots in [a, e). -/
def State.nvmFind (s : State) (n a e : Nat) : Option (List Portion) :=
  match n with
  | 0 => some []
  | k + 1 =>
    match firstFrom (fun x => s.laneFree 18 x 1) (e - a) a with
    | none => none
    | some x => (s.nvmFind k (x + 1) e).map (fun l => { lane := 18, slot := x, len := 1, kind := .nvm } :: l)

/-- Data units from frame `y` to `last`, at most 96 a frame. -/
def State.dataFind (s : State) (n y : Nat) (frames : Nat) : Option (List Portion) :=
  if n = 0 then some []
  else match frames with
    | 0 => none
    | k + 1 =>
      let t := min n (min 96 (s.dmaLeft y))
      (s.dataFind (n - t) (y + 1) k).map (fun l =>
        if t = 0 then l else { lane := 20, slot := 40 * y, len := t, kind := .dma } :: l)

/-- The end of a list of portions: the first slot after the last of them. -/
def endOf (a : Nat) (l : List Portion) : Nat := l.foldl (fun m p => max m (if p.kind = .dma then p.slot else p.slot + p.len)) a

/-- The finish slot from `t` on with the completion's DMA units in its frame (R51); `used` units of data already stand in it. -/
def State.finishPlan (s : State) (nd : Need) (start : Portion) (t e : Nat) (rest : List Portion) : Option (List Portion) :=
  let used (f : Nat) : Nat := (rest.filter (fun p => p.lane == 20 && p.slot / 40 == f)).foldl (fun a p => a + p.len) 0
  let ok (f : Nat) : Bool := decide (1 + nd.host + used f ≤ s.dmaLeft f)
  let out (f : Nat) (l : List Portion) : List Portion :=
    start :: l ++ rest ++ [{ lane := 20, slot := 40 * f, len := 1 + nd.host, kind := .dma }]
  if nd.cores = 1 then
    let f := max (start.slot / 40) ((t - 1) / 40)
    if ok f && decide (40 * f < e) then some (out f []) else none
  else (s.coreFind t e (some start) ok).map (fun p => out (p.slot / 40) [{ p with kind := .finish }])

/-- Earliest-first placement in frames `first` to `last` (R51). -/
def State.place (s : State) (nd : Need) (first last : Nat) : Option (List Portion) :=
  let e := 40 * last + 40
  let any (_ : Nat) : Bool := true
  match nd.bus with
  | some (lane, c) =>
    -- the START at the earliest free run; its start slot before it in its frame or the one before, the finish after its end
    let start (b : Nat) : Option Portion :=
      let f := b / 40
      match s.coreFind (40 * f) b none any with
      | some p => some p
      | none => if first < f then s.coreFind (40 * (f - 1)) (40 * f) none any else none
    let plan (b : Nat) : Option (List Portion) :=
      if !s.laneFree lane b c then none
      else match start b with
        | some p => s.finishPlan nd p (b + c + 1) e [{ lane := lane, slot := b, len := c, kind := .bus }]
        | none => none
    (firstFrom (fun b => (plan b).isSome) (e + 1 - c - 40 * first) (40 * first)).bind plan
  | none =>
    let okHere (f : Nat) : Bool := nd.cores != 1 || nd.nvm != 0 || decide (1 + nd.host ≤ s.dmaLeft f)
    let okSplit (f : Nat) : Bool :=
      !nd.split || (s.coreFind (40 * f + 40) (min e (40 * f + 80)) none (fun g => decide (1 ≤ s.dmaLeft g))).isSome
    let msgOk (f : Nat) : Bool := match nd.msg with
      | some l => decide (s.unitsBooked l f + s.unitsReserved l f < 120 / max 1 (s.rd TL_CFG_SetSize))
      | none => true
    (s.coreFind (40 * first) e none (fun f => okHere f && okSplit f && msgOk f)).bind (fun st =>
      let f := st.slot / 40
      let msgs : List Portion := match nd.msg with
        | some l => [{ lane := l, slot := 40 * f, len := 1, kind := .msg }]
        | none => []
      if nd.split then s.finishPlan nd st (40 * f + 40) (min e (40 * f + 80)) []
      else if nd.msg.isSome then s.finishPlan nd st (40 * f + 40) e msgs
      else
        let from_ := if nd.data = 0 then st.slot + 1 else 40 * f + 40
        match s.nvmFind nd.nvm from_ e, s.dataFind nd.data (f + 1) (last - f) with
        | some n, some d => s.finishPlan nd st (endOf (st.slot + 1) (n ++ d)) e (n ++ d)
        | _, _ => none)

/-- The oldest record in MRAM; the next sequence number where there is none (R415). -/
def State.mramOldest (s : State) : Nat :=
  s.onx.mram.foldl (fun a e => if seqAfter e.2.seq a then e.2.seq else a) (s.rd ONX_NEXT_SEQ_Seq)

/-- A query reaches the flash archive (R52, R415). -/
def State.queryDeep (s : State) (p : List Byte) : Bool := decide (256 < numAt p 4 2) || seqAfter (numAt p 0 4) s.mramOldest

/-- The last frame in which an earlier command of the ring holds a reservation (R55, R61). -/
def State.ledgerEnd (s : State) (c : Cmd) : Nat :=
  (s.hif.cmds.filter (fun d => d.pair == c.pair && d.tag != c.tag && seqAfter d.sqSeq c.sqSeq)).foldl (fun a d =>
    d.plan.foldl (fun a p => max a (p.slot / 40)) a) s.frame

/-- A core restart is due, or will be once the session past its commit point comes to the device's own firmware (R456, R457). -/
def State.restartAhead (s : State) : Bool :=
  s.fwu.restart || (s.fwu.order.contains 24 && (match s.fwu.nv.act with
    | some a => a.kinds.contains 1
    | none => false))

/-- The window reaches the restart, which waits for the last reservation already made (R457). -/
def State.reachesRestart (s : State) (last : Nat) : Bool :=
  s.restartAhead && s.plans.all (fun p => decide (p.slot / 40 < last))

/-- Admission of a deterministic command (R51, R52): its reservations, or none. -/
def State.admitPlan (s : State) (c : Cmd) : Option (List Portion) :=
  let takesPoint := c.opcode / 16 == 1 && c.opcode ≤ 0x13
  if c.opcode = 0x31 ∨ c.opcode = 0x40 ∨ c.opcode = 0x41 then none
  else if takesPoint && !s.pinned c.point then none
  else if c.opcode = 0x30 ∧ s.queryDeep c.payload then none
  else
    let nd := s.needOf c
    let f := s.frame
    let w := min c.deadline Config.maxWindow
    let lc := if c.opcode = 1 then s.ledgerEnd c else f
    if w < max nd.minD (lc - f) then none
    else if s.reachesRestart (f + w) then none
    else if nd.nvm != 0 && !s.nvmOpen then none
    else s.place nd (max (f + 1) lc) (f + w)

/-! ### Taking a descriptor (R301, R308) -/

/-- An opcode that takes a point (R306). -/
def takesPoint (op : Nat) : Bool := op == 0x10 || op == 0x11 || op == 0x12 || op == 0x13

/-- The opcodes of R306. -/
def opcodes : List Nat :=
  [0x00, 0x01, 0x02, 0x10, 0x11, 0x12, 0x13, 0x14, 0x15, 0x16, 0x20, 0x21, 0x30, 0x31, 0x32, 0x40, 0x41, 0x42]

/-- A loop-tile target point, and a mode point (R147, R190, R307). -/
def tileTarget (id : Nat) : Bool := decide (0x4000 ≤ id ∧ id < 0x4300) && id % 32 == 0
def modePoint (id : Nat) : Bool :=
  (decide (0x4000 ≤ id ∧ id < 0x4300) && id % 32 == 4) || (decide (0x5000 ≤ id ∧ id < 0x5200) && id % 32 == 5)

/-- The descriptor breaks R305 or R306. -/
def descBad (op flags point : Nat) (b : List Byte) : Bool :=
  !opcodes.contains op || 1 < flags || 2 ^ 21 ≤ point || !zeroAt b 56 4 ||
    (if takesPoint op then !point.testBit 20 || (op == 0x12 && !tileTarget (point % 2 ^ 20)) || (op == 0x13 && !modePoint (point % 2 ^ 20))
     else point != 0)

/-- The block that the command addresses is disabled (R63, R308, R333, R349, R367). -/
def State.takeDisabled (s : State) (op point : Nat) (p : List Byte) : Bool :=
  match op with
  | 0x12 => !s.on (LT_CTL_En ((point - 0x4000) / 32))
  | 0x13 => if point < 0x5000 then !s.on (LT_CTL_En ((point - 0x4000) / 32)) else !s.on (SL_CTL_En ((point - 0x5000) / 32))
  | 0x11 => match domainOf point, s.pinOf point with
    | 1, some i => !s.bindOn 1 (s.pin i 2)
    | 2, some i => !s.bindOn 2 (s.pin i 2)
    | _, _ => false
  | 0x14 => s.efuseCheck p == some .disabled
  | 0x15 => !s.on SEQ_CTL_En
  | 0x16 => !s.on CAP_CTL_En
  | 0x20 => decide (numAt p 0 1 < 12) && !s.on (TW_PORT_CTL_En (numAt p 0 1))
  | 0x21 => decide (numAt p 0 1 < 4) && !s.on (CAN_CTL_En (numAt p 0 1))
  | _ => false

/-- The completion of a descriptor that fails at take: it holds no tag (R308). -/
def State.failTake (s : State) (c : Cmd) (st : Status) (result : Nat) : State :=
  s.modHif (fun h => { h with comps := h.comps ++ [{ pair := c.pair, sqSeq := c.sqSeq, tag := c.tag, gen := c.gen, status := st.code,
                                                     result := result, frame := s.frame32, noIrq := c.noIrq, hasTag := false }] })

/-- A descriptor that passed the checks is in flight under its tag, and is admitted or refused (R51, R60, R310, R311). -/
def State.admitCmd (s : State) (c : Cmd) : State :=
  let s := ((s.wr (HIF_TAG_State c.tag) 1).wr (HIF_TAG_Pair c.tag) c.pair).wr (HIF_TAG_Gen c.tag) c.gen
  let s := s.modRed (fun r => { r with takes := if s.redState = 2 then r.takes ++ [(c.pair, c.tag, c.gen)] else r.takes })
  let s := s.modHif (fun h => { h with cmds := h.cmds ++ [c] })
  if c.deadline = 0 then s
  else match s.admitPlan c with
    | some l => s.modCmd c.tag (fun d => { d with plan := l })
    | none => s.complete c.tag .notAdmitted 0

/-- Take one fetched descriptor (R301, R308). -/
def State.takeDesc (s : State) (d : Fetched) : State :=
  let n := d.pair
  let b := padTo 64 d.bytes
  let q := seqAdd (s.rd (HIF_SQ_ACCEPTED_SEQ_Seq n)) 1
  let s := s.wr (HIF_SQ_ACCEPTED_SEQ_Seq n) q
  let point := numAt b 12 4
  let c : Cmd := { pair := n, sqSeq := q, tag := numAt b 5 1, gen := numAt b 6 2, opcode := numAt b 4 1, deadline := numAt b 8 2,
                   arrival := s.frame, point := point % 2 ^ 20, payload := slice b 16 40, noIrq := bit (numAt b 10 2) 0 }
  let (inv, s) := s.takeArmed 6 n
  let bad := b2n (!crcGood b || inv != 0) + 2 * b2n (numAt b 0 4 != q)
  if bad ≠ 0 then ((s.inc HIF_BADCRC_CNT_Cnt).raise 32 (n + 4 * bad)).failTake c .badCrc bad
  else if s.rd (HIF_TAG_State c.tag) ≠ 0 ∨ s.rd (HIF_TAG_Gen c.tag) = c.gen then
    ((s.inc HIF_BADTAG_CNT_Cnt).raise 39 c.tag).failTake c .badTag (s.word (HIF_TAG c.tag)).toNat
  else if descBad c.opcode (numAt b 10 2) point b then s.failTake c .refusedState 0
  else if s.takeDisabled c.opcode c.point c.payload then s.failTake c .disabled 0
  else if takesPoint c.opcode && !s.pointKnown c.point then s.failTake c .pointUnknown 0
  else s.admitCmd c

/-- The pair served next: the first in priority with a fetched descriptor and room in its CQ (R50, R302). -/
def State.nextFetched (s : State) : Option Fetched :=
  if s.passive then none
  else ((List.range 4).filterMap (fun n =>
    if s.pairOpen n && !s.noCredit n then s.hif.fetch.find? (fun d => d.pair == n) else none)).head?

/-- Take up to `k` descriptors. -/
def State.takeMany (s : State) (k : Nat) : State :=
  match k with
  | 0 => s
  | j + 1 =>
    match s.nextFetched with
    | none => s
    | some d => ((s.modHif (fun h => { h with fetch := h.fetch.erase d })).takeDesc d).takeMany j

/-- Send TAKE for the descriptors just taken (R397). -/
def State.sendTakes (s : State) : State :=
  let l := s.red.takes
  forEach (pieces 12 l) (s.modRed (fun r => { r with takes := [] })) (fun s p => s.linkSend s.peerPos (.take p))

/-- ADMISSION_STAGE (R50). -/
def State.admission (s : State) : State :=
  let n := s.rd FRM_CTL_AdmitMax
  (s.takeMany (if n = 0 ∨ 32 < n then 32 else n)).sendTakes

/-- ADMISSION_STAGE (R50). -/
def execAdmissionStage (s : State) : Res := done s (s.stage State.admission)

/-! ### Commands that end before their work (R59, R60, R62, R63) -/

/-- The value a command's completion carries whatever its status: of the point before it for SETPOINT_SLEW and LOOP_MODE (R307). -/
def State.priorValue (s : State) (c : Cmd) : Nat :=
  match c.opcode with
  | 0x12 => unsigned 32 (s.ltc ((c.point - 0x4000) / 32)).tgtV
  | 0x13 => if c.point < 0x5000 then s.ltMode ((c.point - 0x4000) / 32) else s.slMode ((c.point - 0x5000) / 32)
  | _ => 0

/-- Forget the work of a command that ends early: before the commit point a frame or transaction that waits for its bus is taken
off it; past it the transaction runs to its end alone (R59). -/
def State.dropWork (s : State) (c : Cmd) : State :=
  let tag := c.tag
  let mine (r : Option BusRun) : Bool := match r with
    | some r => (match r.use with | .cmd t => t.val == tag && !r.orphan | _ => false)
    | none => false
  let mark (r : Option BusRun) : Option BusRun :=
    if !mine r then r else if c.commit then r.map (fun r => { r with orphan := true }) else none
  let s := forN 4 s (fun s k => s.when (!c.commit && mine (s.canc k).run) (fun s => s.wrB (CAN_STAT_Idle k) true))
  let s : State := { s with
    lt := s.lt.map (fun c => { c with waiting := c.waiting.filter (fun w => w.tag != tag),
                                      modePend := c.modePend.filter (fun p => p.1 != tag) }),
    sl := s.sl.map (fun c => { c with modePend := c.modePend.filter (fun p => p.1 != tag) }),
    bus := { s.bus with tw := s.bus.tw.map (fun t => { t with run := mark t.run }), can := s.bus.can.map (fun t => { t with run := mark t.run }) } }
  (s.modPnt (fun p => { p with pending := p.pending.filter (· != tag) })).modTl (fun t =>
    { t with pwrites := t.pwrites.filter (fun x => x.2.2 != .cmd tag) })

/-- End a command with a status of its own. -/
def State.endCmd (s : State) (c : Cmd) (st : Status) : State := (s.dropWork c).complete c.tag st (s.priorValue c)

/-- A portion of a command that was due in frame `f` has not run (R46): its start, its START on the bus, or the finish of a bus
command. -/
def missedPortion (c : Cmd) (f : Nat) : Option Portion :=
  let onBus := c.plan.any (fun p => p.kind == .bus)
  c.plan.find? (fun p => !p.ran && decide (p.slot / 40 ≤ f) &&
    (p.kind == .start || p.kind == .bus || (p.kind == .finish && onBus)))

/-- R45 step 2 (R46), for the frame that ended: every lane with a portion left raises FRM_OVERRUN, its command completes
DEADLINE_MISSED. -/
def State.overruns (s : State) (f : Nat) : State :=
  forEach s.hif.cmds s (fun s c =>
    match missedPortion c f with
    | some p => ((((s.raise 248 p.lane).incSat FRM_OVERRUN_CNT_Cnt).wrB FRM_STAT_DrainErr true).incSat FRM_MISS_CNT_Cnt).endCmd c .deadlineMissed
    | none => s)

/-- A LOOP_MODE that has run waits for the boundary of its commit point, which follows the end of its window (R55, log entry 67). -/
def awaitsBoundary (c : Cmd) : Bool := c.opcode == 0x13 && c.begun

/-- R45 step 3 (R59). -/
def State.misses (s : State) (f : Nat) : State :=
  forEach s.hif.cmds s (fun s c =>
    if c.deadline = 0 ∨ f < c.arrival + min c.deadline Config.maxWindow ∨ awaitsBoundary c = true then s
    else (((s.raise 249 (c.tag + 256 * c.pair)).incSat FRM_MISS_CNT_Cnt).wrB FRM_STAT_Missed true).endCmd c .deadlineMissed)

/-- The outcome of an ABORT against the tag state at its boundary (R313). -/
def State.abortTarget (s : State) (c : Cmd) : Status × State :=
  let p := c.payload
  let t := numAt p 0 1
  let g := numAt p 2 2
  if numAt p 1 1 ≠ 0 ∨ zeroAt p 4 36 = false then (.refusedState, s)
  else if s.rd (HIF_TAG_Gen t) ≠ g then (.badTag, s)
  else if s.rd (HIF_TAG_State t) ≠ 1 then (.alreadyDone, s)
  else match s.findCmd t with
    | none => (.badTag, s)
    | some d =>
      if d.opcode = 2 then (.refusedState, s)
      else if d.commit then (.alreadyDone, s)
      else (.ok, s.endCmd d .aborted)

/-- R45 step 4: the ABORT commands received are processed, in the order of their taking; each then completes in its slot. -/
def State.aborts (s : State) : State :=
  forEach (s.hif.cmds.filter (fun c => c.opcode == 2 && !c.commit)) s (fun s c =>
    let (st, s) := s.abortTarget c
    s.modCmd c.tag (fun d => { d with commit := true, result := st.code }))

/-- A command in flight works for a function whose disable takes effect at this boundary (R63). -/
def State.disabledNow (s : State) (c : Cmd) : Bool :=
  match c.opcode with
  | 0x12 => (s.ltc ((c.point - 0x4000) / 32)).disPend
  | 0x13 => if c.point < 0x5000 then (s.ltc ((c.point - 0x4000) / 32)).disPend else (s.slc ((c.point - 0x5000) / 32)).disPend
  | 0x14 => (bitsOf 16 (numAt c.payload 0 2)).any (fun e => (s.efc e).disPend)
  | 0x16 => s.cap.disPend
  | 0x20 => (s.twp (numAt c.payload 0 1)).disPend
  | 0x21 => (s.canc (numAt c.payload 0 1)).disPend
  | 0x11 => match domainOf c.point, s.pinOf c.point with
    | 1, some i => (s.twp (s.pin i 2 % 16)).disPend
    | 2, some i => (s.canc (s.pin i 2 % 4)).disPend
    | _, _ => false
  | _ => false

/-- R45 step 5 for the commands before their commit points. -/
def State.disableSweep (s : State) : State :=
  forEach s.hif.cmds s (fun s c => if !c.commit && s.disabledNow c then s.endCmd c .disabled else s)

/-- R45 step 7: what was reserved in frames that have ended is released. -/
def State.releaseFrames (s : State) : State :=
  s.modHif (fun h => { h with cmds := h.cmds.map (fun c => { c with plan := c.plan.filter (fun p => decide (s.frame ≤ p.slot / 40) ||
    (p.kind == .bus && decide (40 * s.frame < p.slot + p.len))) }) })

/-! ### NOP, FENCE, ABORT -/

/-- NOP (R55, R306). -/
def State.nop (s : State) (tag : Nat) : State :=
  match s.ready tag 0x00 with
  | none => s
  | some c => if !zeroAt c.payload 0 40 then s.complete tag .refusedState 0 else (s.commit tag).complete tag .ok 0

/-- NOP (R55). -/
def execNop (tag : Fin 256) (s : State) : Res := done s (s.nop tag.val)

/-- An earlier command of the ring has no completion (R61). -/
def State.fenceHeld (s : State) (c : Cmd) : Bool :=
  s.hif.cmds.any (fun d => d.pair == c.pair && d.tag != c.tag && seqAfter d.sqSeq c.sqSeq)

/-- A FENCE that has run completes once nothing earlier is left. -/
def State.fenceTry (s : State) (c : Cmd) : State := if s.fenceHeld c then s else (s.commit c.tag).complete c.tag .ok 0

/-- FENCE (R61): it completes in its slot, or later with the last of the earlier commands. -/
def State.fence (s : State) (tag : Nat) : State :=
  match s.ready tag 0x01 with
  | none => s
  | some c =>
    if !zeroAt c.payload 0 40 then s.complete tag .refusedState 0
    else (s.modCmd tag (fun c => c.ran [.start])).fenceTry c

/-- FENCE (R61). -/
def execFence (tag : Fin 256) (s : State) : Res := done s (s.fence tag.val)

/-- Every FENCE that waits and now holds nothing. -/
def State.fences (s : State) : State :=
  forEach (s.hif.cmds.filter (fun c => c.opcode == 1 && c.begun)) s (fun s c => s.fenceTry c)

/-- ABORT in its slot (R62, R313): it completes with the outcome of its boundary. -/
def State.abort (s : State) (tag : Nat) : State :=
  match s.ready tag 0x02 with
  | none => s
  | some c => if c.commit then s.complete tag ((Status.ofCode c.result).getD .badTag) 0 else s

/-- ABORT (R313). -/
def execAbort (tag : Fin 256) (s : State) : Res := done s (s.abort tag.val)

/-! ### Slot 39 -/

/-- Best-effort commands that BeLimit ends (R60). -/
def State.beTimeouts (s : State) : State :=
  let lim := s.rd FRM_CTL_BeLimit
  if lim = 0 then s
  else forEach (s.hif.cmds.filter (fun c => c.deadline == 0 && decide (c.arrival + lim ≤ s.frame))) s (fun s c => s.endCmd c .timeout)

/-- COMPLETION_SEAL (R44, R319). -/
def State.completionSeal (s : State) : State := (s.fences.beTimeouts).sealVecs

/-- COMPLETION_SEAL (R44). -/
def execCompletionSeal (s : State) : Res := done s (s.stage State.completionSeal)

end Sys2Proof.Machine
end

