-- ==== Sys2Proof/Machine/Timers.lean ====
section
/-!
DEFINITION. One-shot timers, OPMS and the Roundabout arbiters (chapter 15).
-/
namespace Sys2Proof.Machine

def State.timer (s : State) (i : Nat) : Timer := nth s.timers i
def State.modTimer (s : State) (i : Nat) (f : Timer → Timer) : State := { s with timers := upd s.timers i f }

/-- A match (R433): Match, the count of matches, the event, and the stop or the wrap. -/
def State.tmrMatch (s : State) (i : Nat) : State :=
  let t := s.timer i
  let s := (s.wrB (TMR_STAT_Match i) true).inc (TMR_MATCH_CNT_Cnt i)
  let s := s.when t.evEn (fun s => s.event 0x0500 i (s.rd (TMR_CNT_Cnt i)) (s.rd (TMR_STAT_CmpLate i)))
  if t.mode then s.modTimer i (fun t => { t with wrap := true }) else s.wr (TMR_STAT_State i) 3

/-- A match that R434 makes fire: CmpLate sets with it. -/
def State.tmrLate (s : State) (i : Nat) : State := (s.wrB (TMR_STAT_CmpLate i) true).tmrMatch i

/-- One timer clock of a running timer (R431, R433). -/
def State.tmrTick (s : State) (i : Nat) : State :=
  let t := s.timer i
  if s.rd (TMR_STAT_State i) != 2 then s
  else if t.frac + 1 < t.pre then s.modTimer i (fun t => { t with frac := t.frac + 1 })
  else
    let s := s.modTimer i (fun t => { t with frac := 0, wrap := false })
    let s := if t.wrap then s.wr (TMR_CNT_Cnt i) 0 else s.inc (TMR_CNT_Cnt i)
    if s.rd (TMR_CNT_Cnt i) = s.rd (TMR_CMP_Cmp i) then s.tmrMatch i else s

/-- Advance a timer to a timer clock of the frame; a clock already passed changes nothing. -/
def State.tmrTo (s : State) (i clk : Nat) : State :=
  if s.rd (TMR_STAT_State i) != 2 then s.modTimer i (fun t => { t with clk := max t.clk clk })
  else
    let s := forN (clk - (s.timer i).clk) s (fun s _ => s.tmrTick i)
    s.modTimer i (fun t => { t with clk := max t.clk clk })

/-- The start of a timer (R432): configuration sampled, count 0, judged against the compare value (R434). -/
def State.tmrBegin (s : State) (i : Nat) : State :=
  let s := s.modTimer i (fun t => { t with pre := s.rd (TMR_CFG_Pre i) + 1, mode := s.on (TMR_CFG_Mode i),
                                           evEn := s.on (TMR_CFG_EvEn i), frac := 0, wrap := false })
  let s := (s.wr (TMR_CNT_Cnt i) 0).wr (TMR_STAT_State i) 2
  if s.rd (TMR_CMP_Cmp i) = 0 then s.tmrLate i else s

/-- A compare write lands (R434): on a running timer a value at or below the count fires at once. -/
def State.tmrCmp (s : State) (i v : Nat) : State :=
  let s := s.wr (TMR_CMP_Cmp i) v
  if s.rd (TMR_STAT_State i) = 2 ∧ v % 2 ^ 32 ≤ s.rd (TMR_CNT_Cnt i) then s.tmrLate i else s

/-- A write of TMRi_CTL at a timer clock (R432, R435): Stop prevails over Start. The write acts before the comparison of its
clock, so the timer is advanced to the clock before it. -/
def State.tmrCtl (s : State) (i clk : Nat) (start stop sync : Bool) : State :=
  if stop then (s.tmrTo i (clk - 1)).modTimer i (fun t => { t with clk := max t.clk clk }) |>.wr (TMR_STAT_State i) 0
  else if start then ((s.tmrTo i (clk - 1)).modTimer i (fun t => { t with clk := max t.clk clk })).tmrBegin i
  else if sync then ((s.tmrTo i (clk - 1)).wr (TMR_CNT_Cnt i) 0).wr (TMR_STAT_State i) 1
  else s

/-- The prescaler clock of a compare write: the count of that clock is formed, then the write is judged against it; a match of
the old value at that clock does not happen (R435). -/
def State.tmrCmpAt (s : State) (i clk v : Nat) : State :=
  let s := s.tmrTo i (clk - 1)
  let t := s.timer i
  if s.rd (TMR_STAT_State i) = 2 ∧ t.clk < clk then
    let s := s.modTimer i (fun t => { t with clk := clk })
    if t.frac + 1 < t.pre then (s.modTimer i (fun t => { t with frac := t.frac + 1 })).tmrCmp i v
    else
      let s := s.modTimer i (fun t => { t with frac := 0, wrap := false })
      let s := if t.wrap then s.wr (TMR_CNT_Cnt i) 0 else s.inc (TMR_CNT_Cnt i)
      s.tmrCmp i v
  else s.tmrCmp i v

/-- What the timers do at a frame boundary: a frame has 1,000 timer clocks (R17); armed timers start (R432); OPMS advances
every 100,000 clocks (R405). -/
def State.tmrBoundary (s : State) : State :=
  let s := forN 16 s (fun s i =>
    let s := (s.tmrTo i 1000).modTimer i (fun t => { t with clk := 0 })
    if s.rd (TMR_STAT_State i) = 1 then s.tmrBegin i else s)
  let f := s.onx.opmsFrac + 1000
  if f ≥ 100000 then ({ s with onx := { s.onx with opmsFrac := f - 100000 } }).setOpms (s.opms + 1)
  else { s with onx := { s.onx with opmsFrac := f } }

/-- TMR_START (R432). -/
def execTmrStart (i : Fin 16) (clk : Fin 1000) (s : State) : Res := done s (s.tmrCtl i clk true false false)
/-- TMR_STOP (R432). -/
def execTmrStop (i : Fin 16) (clk : Fin 1000) (s : State) : Res := done s (s.tmrCtl i clk false true false)
/-- TMR_SYNC_START (R432). -/
def execTmrSyncStart (i : Fin 16) (s : State) : Res := done s (s.tmrCtl i 0 false false true)
/-- TMR_CMP_WRITE (R434). -/
def execTmrCmpWrite (i : Fin 16) (clk : Fin 1000) (value : BitVec 32) (s : State) : Res :=
  done s (s.tmrCmpAt i clk value.toNat)
/-- TMR_MATCH (R433): the timer has counted to this clock of the frame, with every match on the way. -/
def execTmrMatch (i : Fin 16) (clk : Fin 1000) (s : State) : Res := done s (s.tmrTo i clk)

/-! ### The Roundabout (R438-R443) -/

/-- The registers of requester r of an instance: RBT_NVM, or RBT_MC. -/
def rbtF (mc : Bool) (a b : Nat → Fld) (r : Nat) : Fld := if mc then b r else a r

def State.rbtWait (s : State) (mc : Bool) (r : Nat) : Nat := s.rd (rbtF mc RBT_NVM_REQ_STAT_Wait RBT_MC_REQ_STAT_Wait r)

/-- A requester may compete for free rounds: enabled, and not requester 0 of RBT_NVM (R438, R439). -/
def State.rbtOn (s : State) (mc : Bool) (r : Nat) : Bool :=
  s.on (rbtF mc RBT_NVM_REQ_CFG_En RBT_MC_REQ_CFG_En r) && (mc || r != 0)

/-- Effective priority min(BasePrio + W, 15) (R439). -/
def State.rbtPrio (s : State) (mc : Bool) (r : Nat) : Nat :=
  min (s.rd (rbtF mc RBT_NVM_REQ_CFG_BasePrio RBT_MC_REQ_CFG_BasePrio r) + s.rbtWait mc r) 15

/-- The best of a list by a measure, the earliest among equals, a preferred element first among equals. -/
def bestBy (l : List Nat) (m : Nat → Nat) (pref : Option Nat) : Option Nat :=
  let top := l.foldl (fun a r => max a (m r)) 0
  let ts := l.filter (fun r => m r == top)
  match pref with
  | some p => if ts.contains p then some p else ts.head?
  | none => ts.head?

/-- The winner of a free round among the requesters with work (R439 steps 3 and 4), and whether it is a forced win. -/
def State.rbtFree (s : State) (mc : Bool) (work : List Nat) : Option (Nat × Bool) :=
  let c := work.filter (fun r => s.rbtOn mc r)
  let wm := s.rd (if mc then RBT_MC_CFG_WaitMax else RBT_NVM_CFG_WaitMax)
  let wmax := if wm = 0 then 255 else wm
  let forced := c.filter (fun r => decide (s.rbtWait mc r ≥ wmax))
  match bestBy forced (fun r => s.rbtWait mc r) none with
  | some r => some (r, true)
  | none =>
    let st := if mc then RBT_MC_STAT_Parked else RBT_NVM_STAT_Parked
    let ow := if mc then RBT_MC_STAT_Owner else RBT_NVM_STAT_Owner
    (bestBy c (fun r => s.rbtPrio mc r) (if s.on st then some (s.rd ow) else none)).map (fun r => (r, false))

/-- One round (R439-R441): the last-gasp commit, the owner of a booked or reserved round, or the free-round winner takes it;
in a free round the others with work wait one longer. -/
def State.rbtRound (s : State) (mc : Bool) (owner : Option Nat) (work : Nat) : State :=
  let n := if mc then 4 else 6
  let ws := bitsOf n work
  let s := forN n s (fun s r => s.wrB (rbtF mc RBT_NVM_REQ_STAT_Pending RBT_MC_REQ_STAT_Pending r) (work.testBit r))
  let owned := match owner with
    | some r => if r < n && work.testBit r then some r else none
    | none => none
  let gasp := !mc && s.on RBT_NVM_STAT_Gasp
  let win : Option (Nat × Bool) :=
    if gasp then some (0, false)
    else match owned with
      | some r => some (r, false)
      | none => s.rbtFree mc ws
  let s :=
    if gasp || owned.isSome then s
    else forEach (ws.filter (fun r => s.rbtOn mc r && win.map (fun w => w.1) != some r)) s (fun s r =>
      let s := s.incSat (rbtF mc RBT_NVM_REQ_STAT_Wait RBT_MC_REQ_STAT_Wait r)
      let pk := rbtF mc RBT_NVM_REQ_STAT_WaitPeak RBT_MC_REQ_STAT_WaitPeak r
      s.wr pk (max (s.rd pk) (s.rbtWait mc r)))
  match win with
  | some (r, forced) =>
    let s := s.wr (rbtF mc RBT_NVM_REQ_STAT_Wait RBT_MC_REQ_STAT_Wait r) 0
    let s := s.inc (rbtF mc RBT_NVM_REQ_GRANT_CNT_Cnt RBT_MC_REQ_GRANT_CNT_Cnt r)
    let s := s.when forced (fun s => s.inc (rbtF mc RBT_NVM_REQ_FORCED_CNT_Cnt RBT_MC_REQ_FORCED_CNT_Cnt r))
    let s := s.wr (if mc then RBT_MC_STAT_Owner else RBT_NVM_STAT_Owner) r
    (s.wrB (if mc then RBT_MC_STAT_Busy else RBT_NVM_STAT_Busy) true).wrB
      (if mc then RBT_MC_STAT_Parked else RBT_NVM_STAT_Parked) false
  | none =>
    (s.wrB (if mc then RBT_MC_STAT_Busy else RBT_NVM_STAT_Busy) false).wrB
      (if mc then RBT_MC_STAT_Parked else RBT_NVM_STAT_Parked) true

/-- Requester 0 takes the NVM port (R442): at last gasp, or for the commit before a chip reset. -/
def State.rbtPreempt (s : State) : State :=
  if s.on RBT_NVM_STAT_Gasp then s
  else ((s.wrB RBT_NVM_STAT_Gasp true).inc RBT_NVM_PREEMPT_CNT_Cnt).wr RBT_NVM_STAT_Owner 0

end Sys2Proof.Machine
end

