-- ==== Sys2Proof/Machine/Recorder.lean ====
section
/-!
DEFINITION. Onyx (R403-R419): building, limiting and accepting records, the commit to MRAM, the archive, queries and clears;
and the fault collector's own steps (R422-R428): acknowledgement, NMI service, block resets, injection.
-/
namespace Sys2Proof.Machine

def State.modOnx (s : State) (f : OnyxState → OnyxState) : State := { s with onx := f s.onx }
def State.modFlt (s : State) (f : FltState → FltState) : State := { s with flt := f s.flt }

/-! ### Records (R403, R404) -/

/-- A fault record's code. -/
def isFaultCode (code : Nat) : Bool := decide (0x1000 ≤ code ∧ code < 0x1800)

/-- Severity by code (R404 and the update records of chapter 16). -/
def recSeverity (code : Nat) : Nat :=
  if isFaultCode code then code % 4 + 1
  else if code = 0x0103 then 3
  else if [0x0005, 0x0006, 0x0008, 0x0101, 0x0201, 0x0301, 0x0401, 0x0502, 0x0702, 0x0704].contains code then 2
  else if [0x0001, 0x0003, 0x0004, 0x0102, 0x0104, 0x0105, 0x0202, 0x0203, 0x0501, 0x0601, 0x0701, 0x0703, 0x0705, 0x0706].contains code
    then 1
  else 0

/-- Bytes 0-29 of a record (R403). -/
def Rec.body (r : Rec) : List Byte :=
  leBytes 2 r.code ++ leBytes 1 r.flags ++ leBytes 1 r.source ++ leBytes 6 r.opms ++ leBytes 4 r.pwrcyc ++ leBytes 4 r.seq ++
    leBytes 4 r.p0 ++ leBytes 4 r.p1 ++ leBytes 4 r.p2

/-- The 32 bytes of a record. -/
def Rec.bytes (r : Rec) : List Byte := r.body ++ leBytes 2 (crc16 r.body)

/-! ### The tests of R408 -/

/-- What became of a request. -/
inductive Fate where
  | accepted | suppressed | refused | lost
deriving DecidableEq, Repr

/-- A request is subject to the bucket of its class (R413). -/
def State.limited (s : State) (r : RecReq) : Bool :=
  let c := r.code / 256
  1 < c && !(isFaultCode r.code && r.code % 4 == 2) && !r.force && s.rd (ONX_RL_CFG_Period c) != 0

/-- Tokens in the bucket of a class (R413). -/
def State.tokens (s : State) (c : Nat) : Nat := max 1 (s.rd (ONX_RL_CFG_Burst c)) - (assoc s.onx.short c).getD 0

/-- Test 2: the allowance of RideThrough, or the reserve after last gasp (R226). -/
def State.allowed (s : State) : Bool :=
  if s.rd HU_STAT_State = 1 then decide ((s.onx.rideCnt : Int) < s.rdS HU_ALLOW_V)
  else if s.afterGasp then decide (s.onx.resCnt < s.rd HU_CFG_ResRecs)
  else true

/-- Test 3: space in the staging queue. -/
def State.staged (s : State) (c : Nat) : Bool := decide (s.onx.staging.length < (if c ≤ 1 then 2048 else 1920))

/-- A record enters the staging queue (R407, R408). -/
def State.acceptRec (s : State) (r : RecReq) : State :=
  let (inv, s) := s.takeArmed 9 0
  let gasp := s.afterGasp
  let e : Rec := { code := r.code, source := r.source % 256, opms := s.opms, pwrcyc := s.rd TMR_PWRCYC_Cnt, seq := s.rd ONX_NEXT_SEQ_Seq,
                   flags := recSeverity r.code + 4 * b2n gasp + 8 * b2n r.inj + 16 * b2n r.shelf,
                   p0 := r.p0 % 2 ^ 32, p1 := r.p1 % 2 ^ 32, p2 := r.p2 % 2 ^ 32, bad := if inv = 0 then 0 else 4 }
  (s.inc ONX_NEXT_SEQ_Seq).modOnx (fun o => { o with
    staging := o.staging ++ [e], sinceMark := o.sinceMark + 1, rideCnt := o.rideCnt + 1,
    resCnt := if gasp then o.resCnt + 1 else o.resCnt })

/-- A refused record is counted; the first of a RideThrough raises ONX_REFUSED (R408, R421). -/
def State.refuseRec (s : State) : State :=
  let first := s.rd HU_STAT_State == 1 && !s.onx.refused1
  ((s.inc ONX_REFUSED_CNT_Cnt).modOnx (fun o => { o with refPend := o.refPend + 1, refused1 := o.refused1 || first })).when first
    (fun s => s.raise 238 0)

/-- A record that finds no space is lost (R408). -/
def State.loseRec (s : State) : State := ((s.inc ONX_LOST_CNT_Cnt).modOnx (fun o => { o with lostPend := o.lostPend + 1 })).noteLoss

/-- Tests 2 and 3. -/
def State.passRec (s : State) (r : RecReq) : Fate × State :=
  if !r.force && !s.allowed then (.refused, s.refuseRec)
  else if !s.staged (r.code / 256) then (.lost, s.loseRec)
  else (.accepted, s.acceptRec r)

/-- The SUPPRESSED record of a class with a count (R414); the count stays where the record is not accepted. -/
def State.tellSupp (s : State) (c : Nat) : State :=
  let n := s.rd (ONX_RL_SUPP_Cnt c)
  if n = 0 then s
  else
    let (f, s) := s.passRec { code := 0x0004, source := c, p0 := n, p1 := (assoc s.onx.suppAt c).getD 0 }
    if f = .accepted then (s.wr (ONX_RL_SUPP_Cnt c) 0).modOnx (fun o => { o with suppAt := assocDel o.suppAt c }) else s

/-- Build one record (R408). -/
def State.buildRec (s : State) (r : RecReq) : Fate × State :=
  let c := r.code / 256
  if !s.limited r then s.passRec r
  else if s.tokens c = 0 then
    let s := (s.incSat (ONX_RL_SUPP_Cnt c)).inc ONX_SUPP_CNT_Cnt
    (.suppressed, s.modOnx (fun o => { o with suppAt := if (assoc o.suppAt c).isSome then o.suppAt else assocPut o.suppAt c (s.opms % 2 ^ 32) }))
  else
    let s := if (r.force || s.allowed) && s.staged c then s.tellSupp c else s
    let (f, s) := s.passRec r
    (f, if f = .accepted then s.modOnx (fun o => { o with short := assocPut o.short c ((assoc o.short c).getD 0 + 1) }) else s)

/-! ### Slot 3 (R405, R407, R408) -/

/-- The CLEARED record of a clear is built (R419): its acceptance is the commit point of the command; one that is no longer in
flight is not written, and one whose record is not accepted waits to run again. -/
def State.buildClear (s : State) (r : RecReq) (tag gen : Nat) : State :=
  match s.findCmd tag with
  | none => s
  | some c =>
    if c.gen ≠ gen ∨ c.opcode ≠ 0x31 ∨ c.begun = false then s
    else if r.p0 ≠ s.rd ONX_LOW_WATER_Seq then s.complete tag .refusedState 0
    else
      let (f, s) := s.buildRec r
      if f = .accepted then ((s.commit tag).wr ONX_LOW_WATER_Seq (r.p1 + 1)).complete tag .ok 0
      else s.modCmd tag (fun c => { c with begun := false })

/-- One request of the FIFO. -/
def State.buildReq (s : State) (r : RecReq) : State :=
  match r.clear with
  | some (t, g) => s.buildClear r t g
  | none =>
    let (_, s) := s.buildRec r
    -- the commit before a chip reset takes the port once its fault record has been accepted, or lost (R426)
    if r.force then { s with rbt := { s.rbt with preReset := true } } else s

/-- The reports of R408 and R412 that wait: LOST once there is space, REFUSED in Normal, ARCH_LOST. -/
def State.tellLosses (s : State) : State :=
  let s :=
    if s.onx.lostPend > 0 && s.staged 0 && s.allowed then
      ((s.passRec { code := 0x0005, p0 := s.onx.lostPend }).2).modOnx (fun o => { o with lostPend := 0 })
    else s
  let s :=
    if s.onx.refPend > 0 && s.rd HU_STAT_State == 0 && s.staged 0 then
      ((s.passRec { code := 0x0006, p0 := s.onx.refPend }).2).modOnx (fun o => { o with refPend := 0 })
    else s
  if s.onx.archLost > 0 && s.staged 0 && s.allowed then
    ((s.passRec { code := 0x0008, p0 := s.onx.archLost, p1 := s.onx.archFirst }).2).modOnx (fun o => { o with archLost := 0 })
  else s

/-- A MARK is due (R405). -/
def State.markDue (s : State) : Bool :=
  s.on ONX_STAT_Ready && (decide (s.onx.markOpms + 60000 * max 1 (s.rd ONX_CFG_MarkMin) ≤ s.opms) || decide (65536 ≤ s.onx.sinceMark)) &&
    s.staged 0 && s.allowed

/-- MARK, after the SUPPRESSED records of every class with a count (R405, R414). -/
def State.mark (s : State) : State :=
  if !s.markDue then s
  else
    let s := forN 256 s State.tellSupp
    let n := s.onx.sinceMark
    let (f, s) := s.passRec { code := 0x0002, p0 := s.rd ONX_LOW_WATER_Seq, p1 := n }
    if f = .accepted then s.modOnx (fun o => { o with sinceMark := 0, markOpms := s.opms }) else s

/-- MARK_RECORD (R405). -/
def execMarkRecord (s : State) : Res := done s s.mark

/-- The queues are empty: the next loss raises again (R408). -/
def State.calm (s : State) : State :=
  if s.onx.fifo.isEmpty && s.onx.staging.isEmpty && s.onx.lostPend == 0 then s.modOnx (fun o => { o with lossSeen := false }) else s

/-- Slot 3: up to 32 requests of earlier frames, oldest first, then those of the hold-up manager (R407, R408). -/
def State.recordBuild (s : State) : State :=
  if !s.on ONX_STAT_Ready then s
  else
    let s := (s.modOnx (fun o => { o with rideCnt := 0 })).tellLosses
    let now := (s.onx.fifo.filter (fun r => decide (r.frame < s.frame))).take 32
    let s := s.modOnx (fun o => { o with fifo := o.fifo.drop now.length })
    let s := forEach now s State.buildReq
    let hu := s.onx.huReqs
    let s := forEach hu (s.modOnx (fun o => { o with huReqs := [] })) (fun s r => (s.buildRec r).2)
    s.mark.calm

/-- ONYX_RECORD_BUILD (R408). -/
def execOnyxRecordBuild (s : State) : Res := done s (s.stage State.recordBuild)

/-- RATE_LIMIT_TOKEN (R413): one token at a boundary whose frame number Period divides. -/
def State.token (s : State) (c : Nat) : State :=
  let p := s.rd (ONX_RL_CFG_Period c)
  if c < 2 ∨ p = 0 ∨ s.frame % p ≠ 0 ∨ assoc s.onx.tokenAt c = some s.frame then s
  else
    let n := (assoc s.onx.short c).getD 0
    s.modOnx (fun o => { o with tokenAt := assocPut o.tokenAt c s.frame,
                                short := if n ≤ 1 then assocDel o.short c else assocPut o.short c (n - 1) })

/-- RATE_LIMIT_TOKEN (R413). -/
def execRateLimitToken (c : Fin 256) (s : State) : Res := done s (s.token c.val)

/-- TIME_ANCHOR in its execution slot (R406). -/
def State.timeAnchor (s : State) (tag : Nat) : State :=
  match s.ready tag 0x32 with
  | none => s
  | some c =>
    let p := c.payload
    let s := s.modCmd tag (fun c => c.ran [.start])
    if !zeroAt p 10 30 then s.complete tag .refusedState 0
    else
      let q := s.rd ONX_NEXT_SEQ_Seq
      let (f, s) := s.passRec { code := 0x0007, p0 := numAt p 0 4, p1 := numAt p 4 4, p2 := numAt p 8 2 }
      if f = .accepted then (s.commit tag).complete tag .ok (q + 2 ^ 32 * (s.opms % 2 ^ 32))
      else s.complete tag .refusedState (if f = .lost then 2 else 1)

/-- TIME_ANCHOR (R406). -/
def execTimeAnchor (tag : Fin 256) (s : State) : Res := done s (s.timeAnchor tag.val)

/-! ### The NVM port (R410, R442) -/

/-- Requester 0 takes the port from the slot after last gasp, or after the record of a chip reset: what it displaces completes. -/
def State.nvmTake (s : State) : State :=
  if !(s.rbt.gasp || s.rbt.preReset) || s.on RBT_NVM_STAT_Gasp then s
  else
    let s := s.rbtPreempt
    forEach (s.hif.cmds.filter (fun c => !c.commit && c.deadline != 0)) s (fun s c =>
      match c.opcode with
      | 0x30 | 0x42 => s.endCmd c .refusedState
      | 0x32 => (s.modCmd c.tag (fun d => { d with begun := false })).timeAnchor c.tag
      | _ => s)

/-- RBT_ROUND_GRANT (R439, R442): `owner` is the requester for which the round is booked or reserved, `work` the requesters with
work for it. -/
def execRbtRoundGrant (mc : Bool) (owner : Option (Fin 6)) (work : BitVec 6) (s : State) : Res :=
  done s ((if mc then s else s.nvmTake).rbtRound mc (owner.map (fun r => r.val)) work.toNat)

/-- The sequence numbers not archived and not below the low-water mark begin here (R412, R419). -/
def State.archNext (s : State) : Nat :=
  let a := if s.onx.anyArch then (s.rd ONX_ARCH_SEQ_Seq + 1) % 2 ^ 32 else s.mramOldest
  let a := if seqAfter a s.mramOldest then s.mramOldest else a
  if seqAfter a (s.rd ONX_LOW_WATER_Seq) then s.rd ONX_LOW_WATER_Seq else a

/-- A record still wants archiving: past the last archived, not cleared. -/
def State.unarchived (s : State) (q : Nat) : Bool :=
  (!s.onx.anyArch || seqAfter (s.rd ONX_ARCH_SEQ_Seq) q) && !seqAfter q (s.rd ONX_LOW_WATER_Seq)

/-- Write the oldest staged record to its MRAM slot (R409); an unarchived record there is lost to the archive (R412). -/
def State.commitOne (s : State) : State :=
  match s.onx.staging with
  | [] => s
  | r :: t =>
    let slot := r.seq % 131072
    let (inv, s) := s.takeArmed 1 0
    let r := if inv = 0 then r else { r with bad := if inv = 3 then 2 else max 1 r.bad }
    let s := match assoc s.onx.mram slot with
      | some o =>
        if s.unarchived o.seq then
          ((s.inc ONX_ARCH_LOST_CNT_Cnt).raise 234 0).modOnx (fun x =>
            { x with archLost := x.archLost + 1, archFirst := if x.archLost = 0 then o.seq else x.archFirst })
        else s
      | none => s
    (s.wr ONX_COMMIT_SEQ_Seq r.seq).modOnx (fun o => { o with staging := t, mram := assocPut o.mram slot r, anyCommit := true })

/-- One slot's commit: up to 8 records in Seq order. -/
def State.commitSlot (s : State) : State := (forN 8 s.nvmTake (fun s _ => s.commitOne)).calm

/-- ONYX_COMMIT (R409, R410). -/
def execOnyxCommit (s : State) : Res := done s (if s.on ONX_STAT_Ready then s.commitSlot else s)

/-! ### Reading records -/

/-- Read a record of MRAM: a corrected word raises MRAM_ECC_CORR, an uncorrectable one MRAM_ECC_UNCORR, a failed CRC
ONX_RECORD_CRC (R411, R421). -/
def State.readMram (s : State) (r : Rec) : Option Rec × State :=
  let slot := r.seq % 131072
  match r.bad with
  | 0 => (some r, s)
  | 1 => (some r, s.raise 2 (slot / 2))
  | 2 => (none, s.raise 3 (slot / 2))
  | _ => (none, s.raise 232 (slot % 65536 / 2 * 2))

/-- A word of flash is read: an armed injection is met (R427); the byte address is one the spec does not give. -/
def State.flashRead (s : State) : Bool × State :=
  let (inv, s) := s.takeArmed 2 0
  if inv = 0 then (true, s)
  else
    let (a, s) := s.draw 16
    if inv = 3 then (false, s.raise 5 a) else (true, s.raise 4 a)

/-- Read a record of the archive. -/
def State.readArch (s : State) (r : Rec) : Option Rec × State :=
  let (ok, s) := s.flashRead
  if r.bad ≤ 1 && ok then (some r, s) else (none, s.raise 232 (1 + r.seq % 524288 % 65536 / 2 * 2))

/-! ### The archive (R412) -/

/-- The page of the next program: eight committed records from the oldest unarchived. -/
def State.archPage (s : State) : List Rec :=
  let a := s.archNext
  (List.range 8).filterMap (fun i => let q := (a + i) % 2 ^ 32
    match assoc s.onx.mram (q % 131072) with
    | some r => if r.seq = q then some r else none
    | none => none)

/-- One archive program, or the erase its sector needs first (R412). -/
def State.archive (s : State) (readBackOk : Bool) : State :=
  let page := s.archPage
  if !s.on ONX_CFG_ArchEn || !s.on ONX_STAT_Ready || s.onx.erasing.isSome || !s.nvmOpen || page.length < 8 then s
  else
    let secs := page.map (fun r => r.seq % 524288 / 2048)
    match secs.find? (fun x => !s.onx.erased.contains x) with
    | some x => s.modOnx (fun o => { o with erasing := some x, archive := o.archive.filter (fun e => e.1 / 2048 != x) })
    | none =>
      let (ok, s) := s.flashRead
      if !(readBackOk && ok) then s.raise 235 (secs.headD 0)
      else
        let last := page.foldl (fun _ r => r.seq) 0
        (s.wr ONX_ARCH_SEQ_Seq last).modOnx (fun o => { o with
          anyArch := true, archive := page.foldl (fun a r => assocPut a (r.seq % 524288) r) o.archive,
          erased := if last % 2048 = 2047 then o.erased.filter (· != last % 524288 / 2048) else o.erased })

/-- ARCHIVE_PROGRAM (R412). -/
def execArchiveProgram (readBackOk : Bool) (s : State) : Res := done s (s.archive readBackOk)

/-- ARCHIVE_ERASE_DONE (R412). -/
def execArchiveEraseDone (ok : Bool) (s : State) : Res :=
  done s (match s.onx.erasing with
    | none => s
    | some x =>
      let s := s.modOnx (fun o => { o with erasing := none, erased := if ok then o.erased ++ [x] else o.erased })
      if ok then s else s.raise 235 x)

/-! ### Queries (R415, R416) -/

/-- The refusals of R415. -/
def State.queryBad (s : State) (p : List Byte) : Bool :=
  let fl := numAt p 6 1
  numAt p 4 2 == 0 || 7 < fl || 3 < numAt p 7 1 || !zeroAt p 9 7 || !zeroAt p 28 12 || numAt p 16 8 % 32 != 0 || numAt p 24 4 < 32 ||
    (!bit fl 0 && seqAfter (numAt p 0 4) s.mramOldest)

/-- What a query makes of a number: a record to write and whether it is a GAP, or nothing. -/
def State.queryOne (s : State) (p : List Byte) (q : Nat) : Option (Rec × Bool) × State :=
  let fl := numAt p 6 1
  let gap (why : Nat) (s : State) : Option (Rec × Bool) × State :=
    (some ({ code := 0, opms := s.opms, pwrcyc := s.rd TMR_PWRCYC_Cnt, seq := q, p0 := why }, true), s)
  let good (r : Rec) (s : State) : Option (Rec × Bool) × State :=
    if (bit fl 1 && r.flags % 4 < numAt p 7 1) || (bit fl 2 && r.code / 256 != numAt p 8 1) then (none, s) else (some (r, false), s)
  if seqAfter q (s.rd ONX_OLDEST_SEQ_Seq) then (none, s)
  else
    let m := assoc s.onx.mram (q % 131072)
    let a := assoc s.onx.archive (q % 524288)
    let inArch := match a with | some r => bit fl 0 && r.seq == q | none => false
    match m, a with
    | some r, some x =>
      if r.seq = q then (match s.readMram r with | (some r, s) => good r s | (none, s) => gap 2 (if r.bad = 2 then s.raise 232 (q % 131072 % 65536 / 2 * 2) else s))
      else if inArch then (match s.readArch x with | (some r, s) => good r s | (none, s) => gap 2 s)
      else gap 1 s
    | some r, none =>
      if r.seq = q then (match s.readMram r with | (some r, s) => good r s | (none, s) => gap 2 (if r.bad = 2 then s.raise 232 (q % 131072 % 65536 / 2 * 2) else s))
      else gap 1 s
    | none, some x =>
      if inArch then (match s.readArch x with | (some r, s) => good r s | (none, s) => gap 2 s)
      else gap 2 (s.raise 232 (q % 131072 % 65536 / 2 * 2))
    | none, none => gap 2 (s.raise 232 (q % 131072 % 65536 / 2 * 2))

/-- The progress of a query: the next number, records and GAPs written, and whether DMA failed. -/
structure QueryRun where
  next : Nat
  recs : Nat := 0
  gaps : Nat := 0
  dead : Bool := false
deriving DecidableEq, Repr

/-- Examine up to `n` numbers (R416). -/
def State.queryRun (s : State) (p : List Byte) (n : Nat) (w : QueryRun) : QueryRun × State :=
  match n with
  | 0 => (w, s)
  | k + 1 =>
    if !s.onx.anyCommit || seqAfter (s.rd ONX_COMMIT_SEQ_Seq) w.next || decide (numAt p 24 4 / 32 ≤ w.recs) then (w, s)
    else
      match s.queryOne p w.next with
      | (none, s) => s.queryRun p k { w with next := (w.next + 1) % 2 ^ 32 }
      | (some (r, g), s') =>
        if !s.dmaOk then ({ w with dead := true }, s)
        else
          let s := (s'.emit (.dmaWrite (numAt p 16 8 + 32 * w.recs) r.bytes)).when g (fun s => s.inc ONX_GAP_CNT_Cnt)
          s.queryRun p k { next := (w.next + 1) % 2 ^ 32, recs := w.recs + 1, gaps := w.gaps + b2n g }

/-- ONYX_QUERY (R415, R416): the first record read is the commit point; while requester 0 holds the port it waits (R442). -/
def State.onyxQuery (s : State) (tag : Nat) : State :=
  match s.ready tag 0x30 with
  | none => s
  | some c =>
    let p := c.payload
    if s.queryBad p then s.complete tag .refusedState 0
    else if !s.nvmOpen then s
    else
      let s := s.modCmd tag (fun c => { c.ran [.start, .nvm, .dma] with commit := true })
      let (w, s) := s.queryRun p (numAt p 4 2) { next := numAt p 0 4 }
      s.complete tag (if w.dead then .timeout else .ok) (w.next + 2 ^ 32 * w.recs + 2 ^ 48 * w.gaps)

/-- ONYX_QUERY (R416). -/
def execOnyxQuery (tag : Fin 256) (s : State) : Res := done s (s.onyxQuery tag.val)

/-! ### Clearing (R417-R419) -/

/-- What a clear token fails: the cause of ONX_CLEAR_REJECT (R418, R421). -/
def State.clearRefused (s : State) (t : Option (List Byte)) : Option Nat :=
  match s.fwu.nv.keyHash, t with
  | none, _ => some 0
  | some _, none => none
  | some h, some t =>
    let key := slice t 128 97
    if Config.sha384 key ≠ h then some 1
    else if !Config.ecdsaP384 (Config.sha384 (t.take 32)) (slice t 32 96) key then some 2
    else if numAt t 4 8 ≠ Config.serialNumber.toNat then some 3
    else none

/-- ONYX_CLEAR (R418, R419): an authorised clear requests its CLEARED record and completes when that is accepted. -/
def State.onyxClear (s : State) (tag : Nat) (token : Option (List Byte)) : State :=
  match s.ready tag 0x31 with
  | none => s
  | some c =>
    let p := c.payload
    let t := token.map (padTo 232)
    let formBad := match t with
      | some t => numAt t 0 2 != 1 || !zeroAt t 2 2 || !zeroAt t 20 12 || !zeroAt t 225 7
      | none => false
    if numAt p 0 8 % 8 ≠ 0 ∨ zeroAt p 8 32 = false ∨ s.rd HU_STAT_State ≠ 0 ∨ formBad = true then s.complete tag .refusedState 0
    else match s.clearRefused t with
      | some why => (s.raise 237 why).complete tag .notAuthorised 0
      | none =>
        match t with
        | none => s.complete tag .timeout 0
        | some t =>
          let a := numAt t 12 4
          let b := numAt t 16 4
          if a ≠ s.rd ONX_LOW_WATER_Seq ∨ seqAfter b a = true ∨ seqAfter b (s.rd ONX_NEXT_SEQ_Seq) = false then s.complete tag .refusedState 0
          else if 256 ≤ s.onx.fifo.length then s
          else
            let d := leNat ((leBytes 48 (Config.sha384 (t.take 32)).toNat).reverse.take 4)
            (s.modCmd tag (fun c => c.ran [.start])).requestRaw { code := 0x0003, p0 := a, p1 := b, p2 := d, clear := some (tag, c.gen) }

/-- ONYX_CLEAR (R418). -/
def execOnyxClear (tag : Fin 256) (token : Option (List Byte)) (s : State) : Res := done s (s.onyxClear tag.val token)

/-! ### The fault collector (R422-R428) -/

/-- FAULT_ACK (R422): a write of 1 to status bits. -/
def execFaultAck (g : Fin 8) (mask : BitVec 32) (s : State) : Res := done s (s.ackSources g.val mask.toNat)

/-- FIRST_ERROR_RELEASE (R423). -/
def execFirstErrorRelease (s : State) : Res := done s (s.wrB FLT_FIRST_SRC_Valid false)

/-- The boundary that ends the frame of a raise acknowledges sources with AutoAck or without a Record reaction, before any raise of
the new frame (R422). -/
def State.autoAck (s : State) : State :=
  let l := s.flt.raisedNow
  forEach l (s.modFlt (fun f => { f with raisedNow := [] })) (fun s src =>
    if s.on (FLT_SRC_CFG_AutoAck src) || !s.on (FLT_SRC_CFG_Record src) then s.ackSources (src / 32) (2 ^ (src % 32)) else s)

/-- The NMI services one fault (R425): a corrected MRAM word is rewritten; a second error raises the source again. -/
def State.nmiOne (s : State) (src syn : Nat) (second : Bool) : State :=
  if src = 0 ∨ src = 2 ∨ src = 4 then
    let s := if src = 2 then s.modOnx (fun o => { o with mram := o.mram.map (fun e =>
        if e.1 / 2 = syn && e.2.bad == 1 then (e.1, { e.2 with bad := 0 }) else e) }) else s
    if second then s.raise src syn else s
  else s

/-- NMI_SERVICE (R425): the faults raised in earlier frames. -/
def State.nmiService (s : State) (second : Bool) : State :=
  let old (e : Nat × Nat × Nat) : Bool := decide (e.2.2 < s.frame)
  let l := s.flt.nmi.filter old
  forEach l (s.modFlt (fun f => { f with nmi := f.nmi.filter (fun e => !old e) })) (fun s e => s.nmiOne e.1 e.2.1 second)

/-- NMI_SERVICE (R425). -/
def execNmiService (secondError : Bool) (s : State) : Res := done s (s.stage (fun s => s.nmiService secondError))

/-- Whether a block is enabled, and a write of its enable (R425: kinds as in `blockOf`). -/
def State.blockOn (s : State) (b : Nat × Nat) : Bool :=
  match b.1 with
  | 0 => s.on (PG_CH_CTL_En b.2)
  | 1 => s.on (LT_CTL_En b.2)
  | 2 => s.on (SL_CTL_En b.2)
  | 3 => s.on (EF_CTL_En b.2)
  | 4 => s.on (TW_PORT_CTL_En b.2)
  | _ => s.on (CAN_CTL_En b.2)
def State.blockSet (s : State) (b : Nat × Nat) (en : Bool) : State :=
  match b.1 with
  | 0 => if en then s.pgEnable b.2 true else s.immDis b.2
  | 1 => s.ltEnable b.2 en
  | 2 => s.slEnable b.2 en
  | 3 => s.efEnable b.2 en
  | 4 => s.twEnable b.2 en
  | _ => s.canEnable b.2 en

/-- Block resets at a boundary (R425): those of the boundary before end, the new ones disable their instance. -/
def State.blockResets (s : State) : State :=
  let on := s.flt.blkOn
  let off := s.flt.blkOff.filter s.blockOn
  let s := s.modFlt (fun f => { f with blkOn := off, blkOff := [] })
  let s := forEach on s (fun s b => s.blockSet b true)
  forEach off s (fun s b => s.blockSet b false)

/-! ### Injection (R427, R428) -/

/-- Instances of an injection target; 0 where it takes none. -/
def injInst (t : Nat) : Nat := match t with | 3 | 5 => 24 | 6 | 7 => 4 | 8 => 2 | 0xA => 12 | _ => 0

/-- A write of 1 to FLT_INJ.Go while the debug lock is set (R428). -/
def State.injLocked (s : State) : State := (s.wrB FLT_STAT_InjRefused true).raise 247 0

/-- Arm a check-bit injection (R427). -/
def State.injectBits (s : State) : State :=
  if s.on DBG_LOCK_Lock then s.injLocked
  else
    let t := s.rd FLT_INJ_Target
    let i := s.rd FLT_INJ_Inst
    let m := s.rd FLT_INJ_InvMask
    let n := injInst t
    if s.rd FLT_INJ_Mode ≠ 1 ∨ m = 0 ∨ 0xA < t ∨ (n ≠ 0 ∧ n ≤ i) then s
    else (s.wrB FLT_INJ_Armed true).modFlt (fun f => { f with armed := some (t, if n = 0 then 0 else i, m) })

/-- INJECT_CHECK_BITS (R427). -/
def execInjectCheckBits (s : State) : Res := done s s.injectBits

/-- A forced raise (R427). -/
def State.injectForce (s : State) : State :=
  if s.on DBG_LOCK_Lock then s.injLocked
  else if s.rd FLT_INJ_Mode ≠ 2 ∨ s.rd FLT_INJ_Class = 3 then s
  else s.raiseForced (s.rd FLT_INJ_Src) (s.rd FLT_INJ_SYN_Syn) (s.rd FLT_INJ_Class)

/-- INJECT_FORCE (R427). -/
def execInjectForce (s : State) : Res := done s s.injectForce

/-- The SRAM word that the cores wrote under an armed injection is read at the boundary (R427, log entry 72). -/
def State.sramInject (s : State) : State :=
  let (inv, s) := s.takeArmed 0 0
  if inv = 0 then s
  else
    let (a, s) := s.draw 16
    s.raise (if inv = 3 then 1 else 0) a

end Sys2Proof.Machine
end

