-- ==== Sys2Proof/Machine/Compile.lean ====
section
/-!
DEFINITION. The compile (R47-R49): the checks of every chapter on a configuration, the converter plan (R78, R87, R137-R139), the
periodic jobs and their placement, and the shadows (R509).
-/
namespace Sys2Proof.Machine

/-! ### Shadows (R509) -/

/-- Whether the registers of an offset take effect through compile and apply: the registers their chapters name, the pin table and
the snapshot list. -/
def shadowed (o : Nat) : Bool :=
  if 0x100000 ≤ o then true
  else match regAt o with
    | some (r, _, _) => r.shadowed
    | none => false

/-- The bits of an offset that a shadow holds: the writable bits; every bit of a pin or list word. -/
def shadowMask (o : Nat) : Nat :=
  if 0x100000 ≤ o then 2 ^ 32 - 1
  else match regAt o with
    | some (r, _, _) => r.rw
    | none => 0

/-- A word in force with the bits a shadow holds replaced. -/
def mergeWord (o : Nat) (live shadow : Word) : Word :=
  BitVec.ofNat 32 (maskOff live.toNat (shadowMask o) ||| (shadow.toNat &&& shadowMask o))

/-- The register map after a snapshot takes effect: every shadowed register listed in either takes the snapshot's bits. -/
def mergeRegs (live snap : RegFile) : RegFile :=
  let keys := (live.map (fun e => e.1) ++ snap.map (fun e => e.1)).filter shadowed
  keys.foldl (fun l o => l.put o (mergeWord o (live.get o) (snap.get o))) live

/-- The shadows of a register map: every shadowed register at the value in force. -/
def shadowsOf (live : RegFile) : RegFile :=
  live.foldl (fun l e => if shadowed e.1 then l.put e.1 (mergeWord e.1 (resetWord e.1) e.2) else l) []

/-- Write a shadowed register: into its shadow, and Dirty sets (R509). -/
def State.shadowWrite (s : State) (o : Nat) (w : Word) : State :=
  { s with shadow := s.shadow.put o w }.wrB GLB_SHADOW_Dirty true

/-! ### Failures -/

/-- A check that failed: what FRM_COMPILE_STAT reports of it. -/
structure Bad where
  code : Nat := 0
  lane : Nat := 0
  slot : Nat := 0
  item : Nat := 0
deriving DecidableEq, Repr, Inhabited

def badIf (code item : Nat) (b : Bool) : List Bad := if b then [{ code := code, item := item }] else []
def formatIf (item : Nat) (b : Bool) : List Bad := badIf 9 item b
def latencyIf (item : Nat) (b : Bool) : List Bad := badIf 5 item b

/-- Failures of each instance below a bound. -/
def eachBad (n : Nat) (f : Nat → List Bad) : List Bad := (List.range n).foldl (fun a i => a ++ f i) []

/-! ### Formats, chapter by chapter. The argument is the machine with the configuration in force. -/

/-- An enabled telemetry channel of a kind. -/
def State.tmIs (t : State) (k kind : Nat) : Bool := t.on (AFE_TM_CFG_En k) && t.rd (AFE_TM_CFG_Kind k) == kind

/-- An enabled fast converter. -/
def State.fcOn (t : State) (k : Nat) : Bool := decide (k < 24) && t.on (AFE_FC_CFG_En k)

/-- A reserved source code of the main converter (R80). -/
def mcReserved (src : Nat) : Bool := decide (0xEC ≤ src)

/-- Sequence entries, jobs, telemetry channels, self-test (R78, R80, R81, R87, R515). -/
def State.badSense (t : State) : List Bad :=
  eachBad 24 (fun k => eachBad 8 (fun j =>
    formatIf k (t.on (AFE_FC_SEQ_En k j) &&
      (!t.fcOn k || t.rd (AFE_FC_SEQ_Count k j) == 0 || decide (200 < t.rd (AFE_FC_SEQ_Count k j)))))) ++
  formatIf 0 (decide (5 < t.rd AFE_ST_CFG_McPeriod) || decide (4 < t.rd AFE_ST_CFG_RbPerFrame)) ++
  eachBad 32 (fun j => formatIf j (t.on (AFE_MC_JOB_En j) &&
    (t.rd (AFE_MC_JOB_Period j) == 0 || decide (1000 < t.rd (AFE_MC_JOB_Period j)) || mcReserved (t.rd (AFE_MC_JOB_Src j))))) ++
  eachBad 256 (fun k =>
    let src := t.rd (AFE_TM_CFG_Src k)
    formatIf k (decide (8 < t.rd (AFE_TM_CFG_Win k)) || (t.on (AFE_TM_CFG_En k) &&
      ((t.rd (AFE_TM_CFG_SrcType k) == 0 && !t.fcOn (src % 32)) ||
       (t.rd (AFE_TM_CFG_SrcType k) == 2 &&
        !(t.tmIs (src % 256) 0 && t.tmIs (bits src 15 8) 1 && t.rd (AFE_TM_CFG_SrcType (src % 256)) == 0 &&
          t.rd (AFE_TM_CFG_SrcType (bits src 15 8)) == 0))))))

/-- The offset at which a channel's periods will start (R108, R109, R117). -/
def State.planOfs (t : State) (n : Nat) : Nat :=
  let g := n / 4
  let m := t.rd (PG_GRP_STAG_Mask g)
  if t.on (PG_GRP_STAG_En g) && m.testBit (n % 4) then
    popCount (n % 4) m * 64000 / (t.rd (PG_GRP_CFG_Mul g) * popCount 4 m)
  else t.rd (PG_CH_OFS_Ofs n)

/-- A group's frequency is n × 100 kHz with n of 1-20 (R107). -/
def State.mulOk (t : State) (g : Nat) : Bool := decide (1 ≤ t.rd (PG_GRP_CFG_Mul g) ∧ t.rd (PG_GRP_CFG_Mul g) ≤ 20)

/-- Pulse generators (R106, R108, R112, R125). Offsets and dead times are compared with a period only where the group's frequency is
in range. -/
def State.badPulse (t : State) : List Bad :=
  eachBad 48 (fun n =>
    let g := n / 4
    let om := t.rd (PG_CH_CFG_OutMode n)
    let h := t.rd (PG_CH_CFG_SafeH n)
    let l := t.rd (PG_CH_CFG_SafeL n)
    let tmin := shortest (t.rd (PG_GRP_CFG_Mul g))
    let dt := t.rd (PG_CH_DT_DtH n) + t.rd (PG_CH_DT_DtL n)
    formatIf n (om == 3 || h == 3 || l == 3 || (om != 2 && h == 1 && (l == 1 || om == 1)) ||
      (!t.on (PG_CH_CFG_Src n) && decide (23 < t.rd (PG_CH_CFG_Tile n))) ||
      decide (8192 < t.rd (PG_CH_DT_DtH n)) || decide (8192 < t.rd (PG_CH_DT_DtL n)) ||
      (t.mulOk g && (decide (tmin ≤ t.rd (PG_CH_OFS_Ofs n)) || decide (tmin < t.rd (PG_CH_LIMIT_MinOn n) + dt))))) ++
  eachBad 12 (fun g => badIf 4 g (!t.mulOk g))

/-- Loop tiles (R132, R133, R137, R149, R159, R163, R168, R73, R515). The latency test lifts the bound of R73 (R74). -/
def State.badTile (t : State) : List Bad :=
  eachBad 24 (fun n =>
    let one : Int := 2 ^ 22
    let p1 := t.rdS (LT_COEF_P1_P n)
    let p2 := t.rdS (LT_COEF_P2_P n)
    let p3 := t.rdS (LT_COEF_P3_P n)
    let form := t.rd (LT_CFG_Form n)
    let exp := t.rdS (LT_COEF_B0_Exp n)
    let mask := t.rd (LT_CFG_ChMask n)
    let chans := t.ltChans n
    let en := t.on (LT_CTL_En n)
    let mode := t.rd (LT_RETRY_Mode n)
    formatIf n (decide (1 < form) || decide (p1 < -one ∨ one < p1) ||
      (form == 0 && decide (p2 ≤ -one ∨ one ≤ p2 ∨ p3 ≤ -one ∨ one ≤ p3)) ||
      (form == 1 && decide (one ≤ p3 ∨ one + p3 ≤ p2 ∨ p2 ≤ -(one + p3))) ||
      decide (exp < -31 ∨ 15 < exp) || decide (11 < t.rd (LT_CFG_Group n)) ||
      chans.any (fun c => t.on (PG_CH_CFG_Src c) || t.rd (PG_CH_CFG_Tile c) != n || t.rd (PG_CH_CFG_Align c) == 3) ||
      (en && (mask == 0 || decide (t.rd (LT_LIMIT_Max n) ≤ t.rd (LT_LIMIT_Min n)) || t.rd (LT_SLEW_START_Rate n) == 0 ||
        t.rd (LT_SLEW_CAP_Rate n) == 0)) ||
      (mask != 0 && (!t.fcOn (t.rd (LT_SAMPLE_SRC_Conv n)) ||
        (t.on (LT_CFG_IlimEn n) && !t.fcOn (t.rd (LT_SAMPLE_SRC_IlConv n))))) ||
      (t.on (LT_START_PbEn n) && !t.tmIs (t.rd (LT_START_VinCh n)) 0) ||
      mode == 3 || (mode == 1 && t.rd (LT_RETRY_Count n) == 0)) ++
    latencyIf n (decide (t.rd (LT_SAMPLE_OFS_Ofs n) < 320) && !t.on DBG_CTL_LatTest))

/-- A point that a configuration may name where it asks for a pinned point (R326). -/
def State.namesPin (t : State) (id : Nat) : Bool := decide (domainOf id < 5) && t.pinned id

/-- Shelf loops (R169, R171, R173, R174, R179, R181, R187-R189); loops that are enabled. -/
def State.badShelf (t : State) : List Bad :=
  let live := (List.range 16).filter (fun m => t.on (SL_CTL_En m))
  let outs (m : Nat) : List Nat := (t.slMembers m).map (fun k => t.rd (SL_MEM_OUT_Id m k))
  eachBad 16 (fun m =>
    let kind := t.rd (SL_CFG_Kind m)
    let per := t.rd (SL_CFG_Period m)
    let mem := t.slMembers m
    let ch (f : Nat → Fld) (k : Nat) : Bool := t.tmIs (t.rd (f m)) k
    formatIf m (kind == 3 || t.rd (SL_CFG_InitMode m) == 3 || per == 0 || decide (1000 < per) ||
      decide (per ≤ t.rd (SL_CFG_PhaseOfs m)) || (t.on (SL_CFG_ShareEn m) && kind != 1) ||
      (t.on (SL_RC_CFG_En m) && (t.rd (SL_RC_CFG_Period m) % max 1 per != 0 || decide (t.rcNr m < 2))) ||
      (t.on (SL_CTL_En m) && (
        !t.namesPin (t.rd (SL_IN_Id m)) ||
        mem.any (fun k => !t.namesPin (t.rd (SL_MEM_OUT_Id m k)) ||
          (t.rd (SL_MEM_RB_Id m k) != 0xFFFFF && !t.namesPin (t.rd (SL_MEM_RB_Id m k))) ||
          (t.on (SL_MEM_CFG_ShareEn m k) && (t.rd (SL_MEM_CFG_Weight m k) == 0 || t.rd (SL_MEM_RB_Id m k) == 0xFFFFF)) ||
          live.any (fun q => q != m && (outs q).contains (t.rd (SL_MEM_OUT_Id m k)))) ||
        !decide (0 ≤ t.rdS (SL_BAND_HOLD_V m) ∧ t.rdS (SL_BAND_HOLD_V m) ≤ t.rdS (SL_BAND_REL_V m) ∧
          t.rdS (SL_BAND_REL_V m) ≤ t.rdS (SL_BAND_FAST_V m)) ||
        decide (t.rdS (SL_STEP_MAX_V m) < 0 ∨ t.rdS (SL_STEP_FAST_V m) < 0 ∨ t.rdS (SL_RATE_V m) < 0) ||
        decide (t.rdS (SL_OUT_MAX_V m) ≤ t.rdS (SL_OUT_MIN_V m)) ||
        (kind == 1 && mem.isEmpty) ||
        (kind == 2 && (mem.length != 1 || !ch SL_BAT_CH_VBat 0 || !ch SL_BAT_CH_IBat 1 || !ch SL_BAT_CH_T 3 || !ch SL_BAT_CH_VBus 0 ||
          t.rd (SL_CFG_Kind (t.rd (SL_BAT_CFG_BusLoop m))) != 1 || t.rd (AFE_TM_CFG_Win (t.rd (SL_BAT_CH_IBat m))) != 0 ||
          decide (t.rdS (SL_BAT_VDISREG_V m) ≤ t.rdS (SL_BAT_VDIS_V m) + t.rdS (SL_BAND_HOLD_V m))))))))

/-- Feed groups, shed groups and hold-up (R200, R203, R204, R206-R208, R224). -/
def State.badFeed (t : State) : List Bad :=
  eachBad 8 (fun g =>
    let k := t.rd (FG_CFG_K g)
    let lc := t.rd (FG_PAIRS_LossCmp g)
    let ws := t.rd (FG_WS_WsMargin g)
    let u := t.rd (FG_CFG_PertUnit g)
    formatIf g (t.on (FG_CFG_En g) && (
      t.rd (FG_PAIRS_PairEn g) == 0 || t.rd (AFE_TM_CFG_Win (t.rd (FG_CFG_VrCh g))) != 0 || !t.tmIs (t.rd (FG_CFG_VrCh g)) 0 ||
      (t.fgPairs g).any (fun p => !t.tmIs (t.fgPairCh g p) 1 || t.rd (AFE_TM_CFG_Win (t.fgPairCh g p)) != 0) ||
      (t.on (FG_PAIRS_LossCmpEn g) && !(t.on (CMP_CFG_Latch lc) && t.on (CMP_CFG_LoEn lc))) ||
      decide (t.rd (FG_EST_LamExp g) < 4 ∨ 14 < t.rd (FG_EST_LamExp g)) ||
      decide (2 * k < 65536 ∨ 95 * 65536 < 100 * k) || decide ((65536 - k) * 65536 ≤ 4 * ws * ws) ||
      (t.on (FG_CFG_PertEn g) && !t.on (FG_CFG_PertSrc g) &&
        decide (t.rd (FG_PERT_Half g) < 4 * t.rd (SL_CFG_Period (t.rd CAP_SHAVE_CFG_Loop)))) ||
      (t.on (FG_CFG_PertEn g) && t.on (FG_CFG_PertSrc g) &&
        decide ((t.ltc u).tgtV - t.rdS (FG_PERT_AMP_V g) < t.rdS (LT_REF_MIN_V u)))))) ++
  eachBad 32 (fun g => formatIf g ((bitsOf 16 (t.rd (CAP_SG_CFG_EfMask g))).any (fun e => !t.on (EF_CTL_En e)))) ++
  formatIf 0 (t.rd HU_CFG_Store == 3)

/-- The breaker curve (R249): points in use, currents rising, times not rising. -/
def State.curveBad (t : State) (e : Nat) : Bool :=
  let m := ((List.range 8).takeWhile (fun k => t.rd (EF_BRK_T_T e k) != 0)).length
  m == 0 || decide (t.rdS (EF_BRK_I_I e 0) ≤ 0) ||
    (List.range (m - 1)).any (fun k => decide (t.rdS (EF_BRK_I_I e (k + 1)) ≤ t.rdS (EF_BRK_I_I e k)) ||
      decide (t.rd (EF_BRK_T_T e k) < t.rd (EF_BRK_T_T e (k + 1))))

/-- E-fuse channels (R237, R242, R246, R248-R250, R252, R255); channels that are enabled. -/
def State.badFuse (t : State) : List Bad :=
  eachBad 16 (fun e =>
    let i := t.rd (EF_MEAS_IinCh e)
    let src := t.rd (AFE_TM_CFG_Src i)
    let n := t.rd (CMP_EF_SRC_Cmp e)
    let sel := t.rd (CMP_EF_SRC_Sel e)
    let lim := t.on (EF_INRUSH_LimEn e) || t.on (EF_CFG_OnLim e)
    let named (k kind : Nat) : Bool := t.tmIs k kind && t.rd (AFE_TM_CFG_Win k) == 0
    let mode := t.rd (EF_RETRY_Mode e)
    let v (f : Nat → Fld) : Int := t.rdS (f e)
    formatIf e (mode == 3 || (mode == 1 && t.rd (EF_RETRY_Count e) == 0) || (t.on (EF_CTL_En e) && (
      !named (t.rd (EF_MEAS_VinCh e)) 0 || !named (t.rd (EF_MEAS_VoutCh e)) 0 || !named i 1 ||
      (t.rd (EF_MEAS_TambCh e) != 0xFF && !named (t.rd (EF_MEAS_TambCh e)) 3) ||
      t.rd (AFE_TM_CFG_SrcType i) != 0 || decide (t.rdS (AFE_TM_GAIN_Gain i) ≤ 0) || !t.fcOn (src % 32) ||
      4 * (src % 32) + t.rd (AFE_FC_SEQ_Mux (src % 32) (src / 32 % 8)) != n || sel == 0 || t.on (CMP_BLANK_BlankEn n) ||
      !decide (12 * 65536 ≤ v EF_UV_OFF_V ∧ v EF_UV_OFF_V < v EF_UV_ON_V ∧ v EF_UV_ON_V ≤ v EF_OV_ON_V ∧
        v EF_OV_ON_V < v EF_OV_OFF_V ∧ v EF_OV_OFF_V ≤ 75 * 65536) ||
      t.rd (EF_ALPHA1_V e) == 0 || t.rd (EF_ALPHA2_V e) == 0 || (t.rd (EF_CFG_TMode e) == 0 && lim) || t.curveBad e ||
      decide (t.rd (EF_BRK_CFG_CoolExp e) < 4 ∨ 24 < t.rd (EF_BRK_CFG_CoolExp e)) ||
      (sel % 2 == 1 && lim && decide (t.rd (CMP_THR_Hi n) ≤ t.rd (EF_INRUSH_LimCode e) + 8))))))

/-- A rail reaches itself through its prerequisites (R268). -/
def State.railCycle (t : State) (r : Nat) : Bool :=
  (t.closePre ((t.railPre r).foldl (fun a p => a ||| 2 ^ p) 0)).testBit r

/-- A domain-0 point that its block's table marks read only (R265): every published one but those a POINT_WRITE may write and the
target of a tile. -/
def readOnlyOwn (id : Nat) : Bool := !writableOwn id && !(0x4000 ≤ id && id < 0x4300 && id % 32 == 0)

/-- Rails (R265, R267, R268, R270, R287). -/
def State.badRails (t : State) : List Bad :=
  eachBad 32 (fun r =>
    let kind := t.railKind r
    let u := t.railUnit r
    let id := t.rd (SEQ_RAIL_PNT_Point r)
    formatIf r (t.railUse r && (
      ((kind == 1 || kind == 2) && t.rails.any (fun q => q != r && t.railKind q == kind && t.railUnit q == u)) ||
      (kind == 1 && (decide (23 < u) || !t.on (LT_CTL_En u))) ||
      (kind == 2 && (decide (15 < u) || !t.on (EF_CFG_RailEn u) || t.rd (EF_CFG_Rail u) != r)) ||
      (kind == 3 && (decide (4 ≤ domainOf id) || !t.pinned id || (domainOf id == 0 && readOnlyOwn id))) ||
      !t.tmIs (t.rd (SEQ_RAIL_CFG_MonCh r)) 0 ||
      !decide (t.rdS (SEQ_RAIL_OFF_THR_V r) < t.rdS (SEQ_RAIL_DROP_THR_V r) ∧
        t.rdS (SEQ_RAIL_DROP_THR_V r) ≤ t.rdS (SEQ_RAIL_UP_THR_V r)) ||
      (t.railPre r).any (fun p => !t.railUse p || p == r) || t.railCycle r || t.rd (SEQ_RAIL_LIMIT_RampMax r) == 0))) ++
  eachBad 16 (fun e =>
    let r := t.rd (EF_CFG_Rail e)
    formatIf r (t.on (EF_CFG_RailEn e) && !(t.railUse r && t.railKind r == 2 && t.railUnit r == e))) ++
  formatIf 0 (t.rd SEQ_FLT_CFG_InAct == 3)

/-- A point of type Q16.16 (R334): by the block's point table in domain 0, by the pin entry in domains 1-3; derived points are. -/
def State.isQ16 (t : State) (id : Nat) : Bool :=
  match domainOf id with
  | 0 =>
    if id < 0x2000 then id % 16 != 4
    else if id < 0x5000 then decide (id % 32 < 2)
    else if id < 0x5200 then [0, 1, 2, 3, 4, 8, 9].contains (id % 32)
    else if id < 0x5300 then true
    else if id < 0x6100 then decide (id % 32 < 6)
    else if id < 0x7000 then id % 32 == 1 || id % 32 == 2
    else if id < 0x7400 then [3, 4, 5].contains (id % 32)
    else if id < 0x7600 then id % 16 == 2
    else false
  | 4 => true
  | _ => match t.pinOf id with
    | some i => headType (t.pin i 0) == 0
    | none => false

/-- Streams due in one frame (R337): every two of them meet in some frame, so all do. -/
def State.streamsMeet (t : State) (mask : Nat) : Bool :=
  let ks := bitsOf 8 mask
  let per (k : Nat) := t.rd (PNT_TS_CFG_Period k)
  ks.all (fun a => ks.all (fun b =>
    let g := Nat.gcd (per a) (per b)
    t.rd (PNT_TS_CFG_Phase a) % max 1 g == t.rd (PNT_TS_CFG_Phase b) % max 1 g))

/-- An enabled snapshot stream. -/
def State.streamOn (t : State) (k : Nat) : Bool := t.on (PNT_TS_CFG_En k) && !t.on (PNT_TS_CFG_Kind k)

/-- The greatest total over sets of streams that fall due together. -/
def State.streamPeak (t : State) (cost : Nat → Nat) : Nat :=
  (List.range 256).foldl (fun a m =>
    if (bitsOf 8 m).all (fun k => t.streamOn k) && t.streamsMeet m then max a ((bitsOf 8 m).foldl (fun b k => b + cost k) 0) else a) 0

/-- DMA units of a stream in a frame in which it is due (R338). -/
def State.streamUnits (t : State) (k : Nat) : Nat := 2 * ((t.rd (PNT_TS_LIST_Count k) + 9) / 10)

/-- Pins, derived points, streams and captures (R327, R334, R337, R340, R341, R358, R359, R369, R515). -/
def State.badPoints (t : State) : List Bad :=
  let pins := t.pins
  let pinBad (p : Nat × Nat) : Bool :=
    let id := p.2 % 2 ^ 20
    let dom := domainOf id
    let refresh := t.pin p.1 1 % 65536
    dom == 0 || decide (3 < dom) || pins.any (fun q => q.1 != p.1 && q.2 % 2 ^ 20 == id) || decide (2 < headType p.2) ||
      decide (1000 < refresh) || (dom == 2 && refresh != 0) || bits p.2 29 24 != 0 || bindBad t.regs dom (t.pin p.1 2) (t.pin p.1 3)
  pins.foldl (fun a p => a ++ formatIf (p.1 % 256) (pinBad p)) [] ++
  eachBad 128 (fun i =>
    let op := t.rd (PNT_DRV_CFG_Op i)
    let n := t.rd (PNT_DRV_CFG_N i)
    formatIf i (t.on (PNT_DRV_CFG_En i) && (decide (5 < op) || decide (n < 1 ∨ 4 < n) || ((op == 2 || op == 5) && n != 2) ||
      (op != 0 && (List.range n).any (fun j =>
        let id := t.rd (PNT_DRV_SRC_Id i j)
        !t.namesPin id || !t.isQ16 id || (domainOf id == 4 && decide (i ≤ id - 0x40000))))))) ++
  eachBad 8 (fun k =>
    let per := t.rd (PNT_TS_CFG_Period k)
    let n := t.rd (PNT_TS_LIST_Count k)
    let a := t.rd (PNT_TS_LIST_First k)
    formatIf k (t.streamOn k && (per == 0 || decide (1000 < per) || decide (per ≤ t.rd (PNT_TS_CFG_Phase k)) || n == 0 ||
      decide (1024 < a + n) || (List.range n).any (fun j => !t.namesPin (t.listed (a + j)))))) ++
  eachBad 4 (fun j =>
    let r := t.rd (CAPU_CFG_Ring j)
    formatIf j (t.on (CAPU_CFG_En j) && (!t.fcOn (t.rd (CAPU_CFG_Conv j)) || !t.on (PNT_TS_CFG_Kind r) ||
      (List.range 4).any (fun q => q != j && t.on (CAPU_CFG_En q) && t.rd (CAPU_CFG_Ring q) == r) ||
      decide (256 < t.rd (CAPU_CFG_Pre j) + 1 + t.rd (CAPU_CFG_Post j))))) ++
  badIf 6 0 (decide (1024 < t.streamPeak (fun k => t.rd (PNT_TS_LIST_Count k))))

/-- Buses (R346, R363, R365, and the low supply of chapter 18). `vioLow`: the I/O banks below 2.0 V. -/
def State.badBus (t : State) (vioLow : Nat) : List Bad :=
  eachBad 12 (fun p =>
    formatIf p (t.rd (TW_PORT_CFG_Speed p) == 3 || t.rd (TW_PORT_CFG_Proto p) == 3 ||
      (t.rd (TW_PORT_CFG_Speed p) == 2 && vioLow.testBit (if p = 0 then 0 else 1)))) ++
  formatIf 0 (t.on (TW_PORT_CFG_AlertEn 0) && t.on TW_TGT_CFG_AlertDrv) ++
  eachBad 4 (fun c =>
    let tq (a b : Nat) := 1 + a + b
    let n := tq (t.rd (CAN_NBT_Seg1 c)) (t.rd (CAN_NBT_Seg2 c))
    let d := tq (t.rd (CAN_DBT_Seg1 c)) (t.rd (CAN_DBT_Seg2 c))
    formatIf c (t.on (CAN_CTL_En c) &&
      (decide (t.rd (CAN_NBT_Brp c) * n < 80) || decide (t.rd (CAN_DBT_Brp c) * d < 16) || decide (n < 8) || decide (d < 8) ||
        decide (t.rd (CAN_NBT_Seg2 c) < t.rd (CAN_NBT_Sjw c)) || decide (t.rd (CAN_DBT_Seg2 c) < t.rd (CAN_DBT_Sjw c)))))

/-- The set, the pair and the mirror (R374, R382, R384, R389, R402). -/
def State.badSet (t : State) : List Bad :=
  let n := t.rd TL_CFG_SetSize
  formatIf 0 (n == 0 || decide (8 < n) || decide (n ≤ t.me) || decide (20 < t.rd TL_CFG_FwdMsgs) ||
    (t.pairOn && (t.peerPos == t.me || decide (n ≤ t.peerPos))) ||
    decide (t.rd RED_TIMING_Thb < 2 ∨ 16 < t.rd RED_TIMING_Thb) ||
    decide (t.rd RED_MIRROR_CFG_MaxMsgs < 1 ∨ 12 < t.rd RED_MIRROR_CFG_MaxMsgs))

/-- SYNC_IN ratio (R64). -/
def State.badSync (t : State) : List Bad := badIf 10 0 (t.rd FRM_SYNC_CFG_SyncDiv == 0 || t.rd FRM_SYNC_CFG_FrameMul == 0)

/-! ### The converter plan (R43, R78, R87, R137-R139, R146) -/

/-- A planned conversion: converter, cycle, use (as SenseState.fcPlan). -/
abbrev Plan := List (Nat × Nat × Nat)

def Plan.free (p : Plan) (k c : Nat) : Bool := !p.any (fun e => e.1 == k && e.2.1 == c)

/-- The controlled edge of a channel, in ticks from its period start (R137). -/
def State.edgeAt (t : State) (n ch : Nat) : Int :=
  let tmin : Int := shortest (t.rd (PG_GRP_CFG_Mul (ch / 4)))
  match t.rd (PG_CH_CFG_Align ch) with
  | 0 => t.rd (LT_LIMIT_Min n)
  | 1 => tmin - t.rd (LT_LIMIT_Max n)
  | _ => (tmin - t.rd (LT_LIMIT_Max n)) / 2

/-- The positions in the frame of the controlled edges of a tile's updates, in the order of time (R139). -/
def State.edgesOf (t : State) (n : Nat) : List Int :=
  let chans := if t.on (LT_CFG_Multi n) then t.ltChans n else (t.ltChans n).take 1
  let mul := t.rd (PG_GRP_CFG_Mul (t.rd (LT_CFG_Group n)))
  let l := (List.range mul).foldl (fun a j =>
    a ++ chans.map (fun ch => (periodStart mul j : Int) + t.planOfs ch + t.edgeAt n ch)) []
  l.mergeSort (fun a b => decide (a ≤ b))

/-- The latest cycle whose aperture ends `ofs` ticks before an edge (R138): cycles of 320 ticks, the aperture ending 64 ticks in; a
negative cycle lies in the frame before. -/
def cycleBefore (edge : Int) (ofs : Nat) : Int := (edge - ofs - 64) / 320

/-- One tile's samples: the voltage cycle of every update, and its current cycle where IlimEn = 1; the smallest offset; and whether
the latency rules hold (R136, R138, R146). The current sample takes the latest free cycle at least 3 before the voltage sample
and 3 after the update before. -/
def State.planTile (t : State) (n : Nat) (p : Plan) : Plan × List Bad × Nat :=
  let es := t.edgesOf n
  let ofs := t.rd (LT_SAMPLE_OFS_Ofs n)
  let cs := es.map (fun e => cycleBefore e ofs)
  let prev := match es.getLast?, cs.getLast? with
    | some e, some c => (e - 64000, c - 200)
    | _, _ => (0, 0)
  let k := t.rd (LT_SAMPLE_SRC_Conv n)
  let il := t.rd (LT_SAMPLE_SRC_IlConv n)
  let r := (es.zip cs).foldl (fun (a : Plan × List Bad × (Int × Int) × Nat) x =>
    let c := x.2
    let (p, bad, pv, least) := a
    let bad := bad ++ latencyIf n (decide (320 * c + 64 ≤ pv.1) || decide (c - pv.2 < 3))
    let cyc := (c % 200).toNat
    let bad := bad ++ badIf 3 k (!p.free k cyc)
    let p := p ++ [(k, cyc, 8 + n)]
    let (p, bad) :=
      if t.on (LT_CFG_IlimEn n) then
        let cand : List Int := (List.range (c - 3 - (pv.2 + 3) + 1).toNat).map (fun (i : Nat) => c - 3 - (i : Int))
        match cand.find? (fun q => p.free il (q % 200).toNat) with
        | some q => (p ++ [(il, (q % 200).toNat, 8 + n)], bad)
        | none => (p, bad ++ latencyIf n true)
      else (p, bad)
    (p, bad, (x.1, c), min least (x.1 - (320 * c + 64)).toNat)) (p, [], prev, 65535)
  (r.1, r.2.1, r.2.2.2)

/-- The tiles whose samples the compile books: those with channels, in a group whose frequency is in range. -/
def State.planned (t : State) (n : Nat) : Bool := !(t.ltChans n).isEmpty && t.mulOk (t.rd (LT_CFG_Group n))

/-- The power channels that pair two sequence entries: converter and entry of the voltage, and of the current (R87). -/
def State.powerPairs (t : State) : List ((Nat × Nat) × (Nat × Nat)) :=
  ((List.range 256).filter (fun k => t.on (AFE_TM_CFG_En k) && t.rd (AFE_TM_CFG_SrcType k) == 2)).map (fun k =>
    let src := t.rd (AFE_TM_CFG_Src k)
    let e (c : Nat) := (t.rd (AFE_TM_CFG_Src c) % 32, t.rd (AFE_TM_CFG_Src c) / 32 % 8)
    (e (src % 256), e (bits src 15 8)))

/-- The first of the 200 cycles from a target on that passes a test, wrapping (R78). -/
def firstCycle (target : Nat) (ok : Nat → Bool) : Option Nat :=
  ((List.range 200).map (fun i => (target + i) % 200)).find? ok

/-- Place the samples of one entry, with those of the current entry it pairs with (R78, R87). -/
def State.planEntry (t : State) (k j : Nat) (mate : Option (Nat × Nat)) (p : Plan) : Plan × List Bad :=
  let n := t.rd (AFE_FC_SEQ_Count k j)
  (List.range n).foldl (fun (a : Plan × List Bad) i =>
    let ok (c : Nat) : Bool := a.1.free k c && (match mate with
      | some m => if m.1 = k then a.1.free k ((c + 1) % 200) else a.1.free m.1 c
      | none => true)
    match firstCycle (i * 200 / n) ok with
    | some c =>
      let q := match mate with
        | some m => [(m.1, if m.1 = k then (c + 1) % 200 else c, m.2)]
        | none => []
      (a.1 ++ (k, c, j) :: q, a.2)
    | none => (a.1, a.2 ++ badIf 3 k true)) (p, [])

/-- The cycles of an entry, rising. -/
def Plan.cyclesOf (p : Plan) (e : Nat × Nat) : List Nat :=
  ((p.filter (fun x => x.1 == e.1 && x.2.2 == e.2)).map (fun x => x.2.1)).mergeSort (fun a b => decide (a ≤ b))

/-- A power channel's streams pair (R87). -/
def Plan.paired (p : Plan) (v i : Nat × Nat) : Bool :=
  let cv := p.cyclesOf v
  let ci := p.cyclesOf i
  if v.1 = i.1 then ci == (cv.map (fun c => (c + 1) % 200)).mergeSort (fun a b => decide (a ≤ b)) else cv == ci

/-- The whole plan: tiles first, then sequence entries, lowest converter and entry first; an entry paired with one placed before it
is placed already. The least offset of each tile goes with it. -/
def State.fcPlanOf (t : State) : Plan × List Bad × List (Nat × Nat) :=
  let a := (List.range 24).foldl (fun (a : Plan × List Bad × List (Nat × Nat)) n =>
    if t.planned n then
      let (p, b, m) := t.planTile n a.1
      (p, a.2.1 ++ b, a.2.2 ++ [(n, m)])
    else a) ([], [], [])
  let pairs := t.powerPairs
  let b := (List.range 192).foldl (fun (b : Plan × List Bad) x =>
    let (k, j) := (x / 8, x % 8)
    if !t.on (AFE_FC_SEQ_En k j) || !(b.1.cyclesOf (k, j)).isEmpty then b
    else
      let mate := match pairs.find? (fun q => q.1 == (k, j)) with
        | some q => some q.2
        | none => none
      let held := pairs.find? (fun q => q.2 == (k, j) && (b.1.cyclesOf q.1).isEmpty)
      match held with
      | some q => let (p, e) := t.planEntry q.1.1 q.1.2 (some (k, j)) b.1
                  (p, b.2 ++ e)
      | none => let (p, e) := t.planEntry k j (mate.filter (fun m => (b.1.cyclesOf m).isEmpty)) b.1
                (p, b.2 ++ e)) (a.1, a.2.1)
  let late := pairs.foldl (fun l q => l ++ badIf 3 q.1.1 (!b.1.paired q.1 q.2)) []
  (b.1, b.2 ++ late, a.2.2)

/-! ### Periodic jobs (R42, R47, R81, R99, R172, R266, R327, R338, R340, R376, R382, R386, R394, R412, R515) -/

/-- A periodic job before placement: the lane, the period, the length; the frame phase where a rule fixes it, with the range of
slots from that frame in which the run may begin and by which it ends; and the instance it reports. -/
structure Want where
  lane   : Nat := 0
  period : Nat := 1
  len    : Nat := 0
  phase  : Option Nat := none
  lo     : Nat := 0
  hi     : Nat := 0
  item   : Nat := 0
  /-- It follows the job before it on the same lane (R172). -/
  after  : Bool := false
deriving DecidableEq, Repr, Inhabited

/-- The bus run of an access to a pinned point of domain 1 or 2: lane and cost. -/
def State.accessCost (t : State) (id : Nat) (write : Bool) : Option (Nat × Nat) :=
  match t.pinOf id with
  | some i =>
    match domainOf id with
    | 1 => some (2 + t.pin i 2 % 16, twBindCost t.regs (t.pin i 2) write)
    | 2 => if write then some (14 + t.pin i 2 % 4, canBindCost t.regs (t.pin i 2) (t.pin i 3)) else none
    | _ => none
  | none => none

/-- The refresh reads of domain-1 pins (R327). -/
def State.wantRefresh (t : State) : List Want :=
  (t.pins.filter (fun p => domainOf (p.2 % 2 ^ 20) == 1 && t.pin p.1 1 % 65536 != 0)).filterMap (fun p =>
    (t.accessCost (p.2 % 2 ^ 20) false).map (fun c =>
      { lane := c.1, period := t.pin p.1 1 % 65536, len := c.2, hi := 40 * (t.pin p.1 1 % 65536) + c.2, item := c.1 - 2 }))

/-- The alert response reads (R354): a Receive byte, with PEC under PMBus. -/
def State.wantAra (t : State) : List Want :=
  ((List.range 12).filter (fun p => t.on (TW_PORT_ARA_AraEn p))).map (fun p =>
    let per := max 1 (t.rd (TW_PORT_ARA_AraPeriod p))
    let c := twSlots t.regs p (2 + b2n (t.rd (TW_PORT_CFG_Proto p) == 2)) 2
    { lane := 2 + p, period := per, len := c, hi := 40 * per + c, item := p })

/-- The frame phase, by FRAME_CNT, of a loop whose runs follow the set frame number (R169, R70). -/
def State.loopPhase (t : State) (m : Nat) : Nat :=
  let p := max 1 (t.rd (SL_CFG_Period m))
  (t.rd (SL_CFG_PhaseOfs m) + p * 2 ^ 64 - t.setFrameNo % p + t.frame % p) % p

/-- The transactions of the enabled loops (R172): writes from slot 15 of the run's frame, reads that end before the next run's. -/
def State.wantLoops (t : State) : List Want :=
  ((List.range 16).filter (fun m => t.on (SL_CTL_En m))).foldl (fun a m =>
    let per := t.rd (SL_CFG_Period m)
    let one (id : Nat) (write : Bool) (lo : Nat) (after : Bool) : List Want :=
      match t.accessCost id write with
      | some (lane, c) => [{ lane := lane, period := per, len := c, phase := some (t.loopPhase m), lo := lo, hi := 40 * per, item := m,
                             after := after }]
      | none => []
    a ++ (t.slMembers m).foldl (fun b k =>
      let w := one (t.rd (SL_MEM_OUT_Id m k)) true 15 false
      let rb := t.rd (SL_MEM_RB_Id m k)
      let r := if domainOf rb = 1 then one rb false 0 false else []
      let same := match w, r with | [x], [y] => x.lane == y.lane | _, _ => false
      b ++ w ++ (if same then r.map (fun y => { y with after := true }) else r)) []) []

/-- The writes of the Point rails of domains 1 and 2 (R266). -/
def State.wantRails (t : State) : List Want :=
  (t.rails.filter (fun r => t.railKind r == 3)).filterMap (fun r =>
    (t.accessCost (t.rd (SEQ_RAIL_PNT_Point r)) true).map (fun c =>
      { lane := c.1, period := t.rd (SEQ_RAIL_PNT_Every r), len := c.2, hi := 40 * t.rd (SEQ_RAIL_PNT_Every r) + c.2, item := r }))

/-- Conversions of the main converter (R79, R81, R99, R515). -/
def State.wantMain (t : State) : List Want :=
  let conv (per item : Nat) : Want := { lane := 19, period := per, len := 4, hi := 40 * per, item := item }
  ((List.range 32).filter (fun j => t.on (AFE_MC_JOB_En j))).map (fun j => conv (t.rd (AFE_MC_JOB_Period j)) j) ++
  (if t.on AFE_ST_CFG_McCheck then List.replicate 2 (conv (16 * 2 ^ t.rd AFE_ST_CFG_McPeriod) 0) else []) ++
  (if t.on AFE_ST_CFG_RbEn then List.replicate (t.rd AFE_ST_CFG_RbPerFrame) (conv 1 0) else []) ++
  (if t.on AFE_CTL_TempScan then List.replicate 3 (conv 1000 0) else [])

/-- The archive programs (R412). -/
def State.wantNvm (t : State) : List Want :=
  if t.on ONX_CFG_ArchEn then
    [{ lane := 18, period := max 1 (t.rd ONX_CFG_ArchPeriod), len := 8, hi := 40 * max 1 (t.rd ONX_CFG_ArchPeriod) + 8 }]
  else []

/-- Every job that the placement must find room for, in the order of its operand. -/
def State.wants (t : State) : List Want := t.wantRefresh ++ t.wantAra ++ t.wantLoops ++ t.wantRails ++ t.wantMain ++ t.wantNvm

/-- Jobs that need no placement: the commit slots from slot 4 (R409), the units of streams and captures (R338, R340). -/
def State.fixedJobs (t : State) : List Job :=
  [{ lane := 18, period := 1, slot := 4, len := max 1 (t.rd ONX_CFG_CommitSlots) }] ++
  ((List.range 8).filter (fun k => t.streamOn k)).map (fun k =>
    { lane := 20, period := t.rd (PNT_TS_CFG_Period k), phase := t.rd (PNT_TS_CFG_Phase k), slot := 15, len := t.streamUnits k }) ++
  ((List.range 4).filter (fun j => t.on (CAPU_CFG_En j))).map (fun _ => { lane := 20, period := 1, slot := 15, len := 18 })

/-- Messages the device originates on a port (R376): heartbeats, the mirror, forwarding, and those booked for domain-3 outputs and
rails (log entry 75). -/
def State.linkJobs (t : State) : List Job :=
  let n := t.rd TL_CFG_SetSize
  if n ≤ 1 then []
  else
    let both (c : Nat) : List Job := [{ lane := 21, len := c }, { lane := 22, len := c }]
    let toward (id per phase : Nat) : List Job :=
      match t.pinOf id with
      | some i => if domainOf id = 3 then [{ lane := 21 + (t.routeOf (t.pin i 2 % 8)).getD 1, period := max 1 per, phase := phase, len := 1 }]
                  else []
      | none => []
    both 1 ++ (if t.rd TL_CFG_FwdMsgs = 0 then [] else both (t.rd TL_CFG_FwdMsgs)) ++
    (if t.pairOn then [{ lane := 21 + (t.routeOf t.peerPos).getD 1, len := t.rd RED_MIRROR_CFG_MaxMsgs + 3 }] else []) ++
    ((List.range 16).filter (fun m => t.on (SL_CTL_En m))).foldl (fun a m =>
      a ++ (t.slMembers m).foldl (fun b k => b ++ toward (t.rd (SL_MEM_OUT_Id m k)) (t.rd (SL_CFG_Period m)) (t.loopPhase m)) []) [] ++
    (t.rails.filter (fun r => t.railKind r == 3)).foldl (fun a r =>
      a ++ toward (t.rd (SEQ_RAIL_PNT_Point r)) (t.rd (SEQ_RAIL_PNT_Every r)) 0) []

/-- Two periodic jobs fall due in one frame at some time. -/
def Job.meets (a b : Job) : Bool := let g := max 1 (Nat.gcd a.period b.period); a.phase % g == b.phase % g

/-- Some set of jobs that fall due together, begun with those taken, loads a lane above a bound. -/
def overLoad (l taken : List Job) (load cap : Nat) : Bool :=
  match l with
  | [] => decide (cap < load)
  | j :: r =>
    if load + l.foldl (fun a x => a + x.len) 0 ≤ cap then false
    else (taken.all (fun q => q.meets j) && overLoad r (j :: taken) (load + j.len) cap) || overLoad r taken load cap

/-- Two placed jobs on a lane share a slot in some frame (R47 item 1). -/
def Job.clash (a b : Job) : Bool :=
  let m := 40 * max 1 (Nat.gcd a.period b.period)
  let x := 40 * a.phase + a.slot
  let y := 40 * b.phase + b.slot
  let r := (x + m * (y / m + 1) - y) % m
  a.lane == b.lane && (decide (r < b.len) || decide (m - r < a.len))

/-- The place given to a job: counted in slots from its fixed phase where it has one, else from frame 0 of its period. Its run begins
no earlier than its rule allows and ends in time; a conversion begins at a slot divisible by 4. -/
def Want.at (w : Want) (pos : Nat) : Option Job :=
  if pos < w.lo ∨ w.hi < pos + w.len ∨ 40 * w.period ≤ pos ∨ (w.lane = 19 ∧ pos % 4 ≠ 0) then none
  else some { lane := w.lane, period := w.period, phase := (w.phase.getD 0 + pos / 40) % w.period, slot := pos % 40, len := w.len }

/-- Place the jobs one after another; the first that has no valid place fails the lane (R47 item 1). -/
def placeJobs (ws : List Want) (ps : List Nat) (prev : Nat) (l : List Job) : List Job × List Bad :=
  match ws with
  | [] => (l, [])
  | w :: r =>
    let pos := ps.headD 0
    match w.at pos with
    | some j =>
      if (w.after && decide (pos < prev)) || l.any (fun q => j.clash q) then
        (l, [{ code := 1, lane := w.lane, slot := pos % 40, item := w.item }])
      else placeJobs r ps.tail (pos + w.len) (l ++ [j])
    | none => (l, [{ code := 1, lane := w.lane, slot := pos % 40, item := w.item }])

/-- A job with a period out of range (R47 item 1), and a transaction that does not end before its next occurrence (item 7, R172,
R266). -/
def Want.bads (w : Want) : List Bad :=
  (if w.period = 0 then [if 2 ≤ w.lane ∧ w.lane < 18 then { code := 7, lane := w.lane, item := w.item }
                         else { code := 9, lane := w.lane, item := w.item }]
   else if 1000 < w.period then [{ code := 9, lane := w.lane, item := w.item }]
   else if 2 ≤ w.lane ∧ w.lane < 18 ∧ (40 * w.period < w.len ∨ (w.phase.isSome ∧ w.hi < w.lo + w.len)) then
     [{ code := 7, lane := w.lane, item := w.item }]
   else [])

/-- Reservations already made that the new table would take slots or units from, after the boundary to come (R49). -/
def State.ledger (s : State) (jobs : List Job) : List Bad :=
  let lim := 40 * (s.frame + 1)
  (s.plans.filter (fun p => decide (lim < p.slot + p.len))).foldl (fun a p =>
    if p.lane = 20 ∨ p.lane = 21 ∨ p.lane = 22 then
      let f := p.slot / 40
      let n := (jobs.filter (fun j => j.lane == p.lane && j.due f)).foldl (fun b j => b + j.len) 0
      if (if p.lane = 20 then s.dmaCap else 120) < n + s.unitsReserved p.lane f then a ++ [{ code := 8, lane := p.lane, slot := p.slot % 40 }]
      else a
    else if jobs.any (fun j => j.lane == p.lane && j.hits p.slot p.len) then a ++ [{ code := 8, lane := p.lane, slot := p.slot % 40 }]
    else a) []

/-- Link load above ⌊120 / N⌋ on a port (R376). -/
def State.badLink (t : State) : List Bad :=
  [21, 22].foldl (fun a lane =>
    a ++ (if overLoad (t.linkJobs.filter (fun j => j.lane == lane)) [] 0 (120 / max 1 (t.rd TL_CFG_SetSize)) then
      [{ code := 1, lane := lane }] else [])) []

/-- What a compile finds: its failures, the table of jobs, and the converter plan with the least offset of each tile. -/
structure Table where
  bads : List Bad := []
  jobs : List Job := []
  plan : Plan := []
  ofs  : List (Nat × Nat) := []
deriving Inhabited

/-- Compile a configuration (R47). The placement is the compile's own, which the spec does not give: it comes with the command, and
one that is no placement counts as none found (log entry 74). -/
def State.tabulate (s t : State) (placement : List Nat) (vioLow : Nat) : Table :=
  let fmt := t.badSense ++ t.badPulse ++ t.badTile ++ t.badShelf ++ t.badFeed ++ t.badFuse ++ t.badRails ++ t.badPoints ++ t.badBus vioLow ++
    t.badSet ++ t.badSync
  let (plan, pb, ofs) := t.fcPlanOf
  let ws := t.wants
  let wb := ws.foldl (fun a w => a ++ w.bads) []
  let (placed, xb) := if wb.isEmpty then placeJobs ws placement 0 (t.fixedJobs.filter (fun j => j.lane == 18)) else ([], [])
  let jobs := placed ++ t.fixedJobs.filter (fun j => j.lane != 18) ++ t.linkJobs
  { bads := fmt ++ pb ++ wb ++ xb ++ t.badLink ++ s.ledger jobs, jobs := jobs, plan := plan, ofs := ofs }

/-- The first failure in the order of the conditions of R47, which is that of the codes; within one, in the order found. -/
def firstBad (l : List Bad) : Option Bad :=
  match ([1, 2, 3, 4, 5, 6, 7, 8, 9, 10].filterMap (fun c => l.find? (fun b => b.code == c))) with
  | [] => none
  | b :: _ => some b

/-- The machine with a snapshot in force. -/
def State.trial (s : State) (snap : RegFile) : State := { s with regs := mergeRegs s.regs snap }

end Sys2Proof.Machine
end

