-- ==== Sys2Proof/Machine/Frame.lean ====
section
/-!
DEFINITION. Compile, apply and abandon (R47-R49, R509), the table and the settings taking effect at a boundary, and the frame lock
(R64-R71, R381).
-/
namespace Sys2Proof.Machine

/-- Change the scheduler's own state. -/
def State.modFrm (s : State) (f : FrmState → FrmState) : State := { s with frm := f s.frm }

/-! ### Compile, apply, abandon (R47, R48, R509) -/

/-- Drop the snapshot (R509). -/
def State.dropSnap (s : State) : State := { s.wrB GLB_SHADOW_Snap false with snap := none }

/-- A compile starts: it discards a table that waits for Apply, takes a snapshot of every shadow, and reads BUSY (R48, R509). -/
def State.startCompile (s : State) (own : Bool) : State :=
  let s := s.modFrm (fun f => { f with compiled := none, prev := s.word FRM_COMPILE_STAT, own := own })
  let s : State := { s with snap := some s.shadow }
  (((s.wrB GLB_SHADOW_Snap true).wrB GLB_SHADOW_Dirty false).wrB FRM_STAT_Compiling true).setWord FRM_COMPILE_STAT 0xF

/-- A write of 1 to FRM_CTL.Compile: none while a compile runs or an applied table waits for its boundary (R48). -/
def State.compileReq (s : State) : State :=
  if s.on FRM_STAT_Compiling || s.on FRM_STAT_Pending then s else s.startCompile false

/-- COMPILE (R47). -/
def execCompile (s : State) : Res := done s s.compileReq

/-- Show a failed compile (R47). -/
def State.showBad (s : State) (b : Bad) : State :=
  (((s.wr FRM_COMPILE_STAT_Result b.code).wr FRM_COMPILE_STAT_Lane b.lane).wr FRM_COMPILE_STAT_Slot b.slot).wr FRM_COMPILE_STAT_Item b.item

/-- The compile has failed: its first failure shows and the snapshot is dropped (R47, R509). -/
def State.compileFail (s : State) (e : Bad) : State := (s.dropSnap.showBad e).modFrm (fun f => { f with own := false })

/-- The compile has passed: its table waits for Apply (R48). -/
def State.compilePass (s : State) (b : Table) : State :=
  s.modFrm (fun f => { f with compiled := some { jobs := b.jobs, plan := b.plan, ofs := b.ofs } })

/-- The compile ends with what it built (R47, R48); interrupt cause 22 (R318). The device applies its own compile for the configuration
set of an update at once, and a failure there fails the switch (R456). -/
def State.compileEnd (s : State) (b : Table) : State :=
  let t := ((s.wrB FRM_STAT_Compiling false).setWord FRM_COMPILE_STAT 0).cause 22
  match firstBad b.bads with
  | some e =>
    if s.frm.own then ((t.compileFail e).modFrm (fun f => { f with load := none })).cfgSwitched false else t.compileFail e
  | none => (t.compilePass b).when s.frm.own (fun t => t.wrB FRM_STAT_Pending true)

/-- A compile that runs ends. It uses the management cores, so none ends during their restart (R512). -/
def State.compileFinish (s : State) (placement : List Nat) (vioLow : Nat) : State :=
  if !s.on FRM_STAT_Compiling || s.frm.coreRst then s
  else match s.snap with
    | none => s
    | some snap => s.compileEnd (s.tabulate (s.trial snap) placement vioLow)

/-- COMPILE_FINISH (R47). -/
def execCompileFinish (placement : List Nat) (vioLow : BitVec 4) (s : State) : Res :=
  done s (s.compileFinish placement vioLow.toNat)

/-- A write of 1 to FRM_CTL.Apply: only with a compiled table (R48). -/
def State.applyReq (s : State) : State :=
  if s.frm.compiled.isSome && s.rd FRM_COMPILE_STAT_Result == 0 then s.wrB FRM_STAT_Pending true else s

/-- APPLY (R48). -/
def execApply (s : State) : Res := done s s.applyReq

/-- A write of 1 to FRM_CTL.Abandon (R509): snapshot and table gone, every shadow at the value in force. -/
def State.abandon (s : State) : State :=
  let live := s.regs
  let s := if s.on FRM_STAT_Compiling then s.setWord FRM_COMPILE_STAT s.frm.prev else s
  let s := (s.dropSnap.wrB FRM_STAT_Compiling false).wrB FRM_STAT_Pending false
  let s := (s.wrB GLB_SHADOW_Dirty false).modFrm (fun f => { f with compiled := none, own := false, load := if f.own then none else f.load })
  { s with shadow := shadowsOf live }

/-- ABANDON (R509). -/
def execAbandon (s : State) : Res := done s s.abandon

/-- A write of FRM_CTL: Abandon prevails (R517); Apply acts on the table that waits before Compile would discard it. -/
def State.frmCtl (s : State) (v : Nat) : State :=
  if v.testBit 2 then s.abandon
  else (s.when (v.testBit 1) State.applyReq).when (v.testBit 0) State.compileReq

/-! ### Taking effect (R45 item 6, R48) -/

/-- The configuration of a telemetry channel, with what feeds it, is unchanged (R85). -/
def State.tmSame (s : State) (old : RegFile) (k : Nat) : Bool :=
  let src := s.rd (AFE_TM_CFG_Src k)
  wordsSame old s.regs (AFE_TM_CFG k) 1 && wordsSame old s.regs (AFE_TM_GAIN k) 2 &&
    (match s.rd (AFE_TM_CFG_SrcType k) with
     | 0 => wordsSame old s.regs (AFE_FC_SEQ (src % 32) (src / 32 % 8)) 1
     | 1 => wordsSame old s.regs (AFE_MC_JOB (src % 32)) 1
     | _ => true)

/-- A changed telemetry channel restarts: its window empties, its points carry Init (R85). A power channel restarts with a channel
it takes its samples from. -/
def State.tmApply (s : State) (old : RegFile) : State :=
  forN 256 s (fun s k =>
    let src := s.rd (AFE_TM_CFG_Src k)
    let same := s.tmSame old k &&
      (s.rd (AFE_TM_CFG_SrcType k) != 2 || (s.tmSame old (src % 256) && s.tmSame old (bits src 15 8)))
    if same then s
    else
      let s := s.modTm k (fun _ => {})
      { s with pnt := { s.pnt with cache := s.pnt.cache.filter (fun e => !(decide (0x1000 + 16 * k ≤ e.1 ∧ e.1 < 0x1010 + 16 * k))) } })

/-- Offsets at an apply (R109): the stagger's where Mul has changed; every channel's at the first apply; an offset no longer below the
shortest period saturates. -/
def State.ofsApply (s : State) (old : RegFile) (first : Bool) (g : Nat) : State :=
  if first then s.loadOffsets g
  else if wordsSame old s.regs (PG_GRP_CFG g) 1 then s
  else
    let m := if s.on (PG_GRP_STAG_En g) then s.rd (PG_GRP_STAG_Mask g) else 0
    let lim := shortest (s.rd (PG_GRP_CFG_Mul g)) - 1
    forN 4 s (fun s i =>
      let n := 4 * g + i
      let o := if m.testBit i then s.planOfs n else s.rd (PG_CH_OFS_OfsCur n)
      let s := s.when (decide (lim < o)) (fun s => s.wrB (PG_CH_STAT_Clamp n) true)
      s.wr (PG_CH_OFS_OfsCur n) (min o lim))

/-- Pulse generators at an apply (R116, R117, R131): changed channels run a transition period; routing and trip actions take hold
(R98). -/
def State.pgApply (s : State) (old : RegFile) (first : Bool) : State :=
  let s := forN 48 s (fun s n =>
    if wordsSame old s.regs (PG_CH_CFG n) 1 && wordsSame old s.regs (PG_CH_DT n) 1 && wordsSame old s.regs (PG_CH_LIMIT n) 1 &&
       wordsSame old s.regs (PG_GRP_CFG (n / 4)) 1 then s
    else s.modPg n (fun c => { c with trans := true }))
  let s := forN 12 s (fun s g => s.ofsApply old first g)
  forN 48 s.updTrips State.pgTripped

/-- A tile's coefficients, gain or Form have changed (R157, R168). -/
def State.ltChanged (s : State) (old : RegFile) (n : Nat) : Bool :=
  !wordsSame old s.regs (LT_COEF_B0 n) 7 || (LT_CFG_Form n).of (old.get (LT_CFG n)) != s.rd (LT_CFG_Form n)

/-- A shelf loop's repetitive table clears (R185); at the first apply an enabled loop takes its initial mode (R190). -/
def State.slApply (s : State) (old : RegFile) (first : Bool) (m : Nat) : State :=
  let cfg (l : RegFile) := ((SL_RC_CFG_Period m).of (l.get (SL_RC_CFG m)), (SL_RC_CFG_En m).of (l.get (SL_RC_CFG m)),
    (SL_CFG_Period m).of (l.get (SL_CFG m)))
  let s := s.when (cfg old != cfg s.regs) (fun s => s.modSl m (fun c => { c with rcClr := true }))
  if first && s.on (SL_CTL_En m) then s.slEnter m (s.rd (SL_CFG_InitMode m)) else s

/-! ### Timing source (R64-R71, R381) -/

/-- The device is the lowest live position of its set (R381). -/
def State.lowestLive (s : State) : Bool := (List.range s.me).all (fun q => !s.isLive q)

/-- Position 0 locks to SYNC_IN (R64, R69). -/
def State.syncOn (s : State) : Bool := s.me == 0 && s.on FRM_SYNC_CFG_En

/-- Follow a source: lock is to be declared anew. -/
def State.follow (s : State) (src : Nat) : State :=
  if s.rd FRM_STAT_SyncSrc = src then s
  else ((s.wr FRM_STAT_SyncSrc src).wrB FRM_STAT_Locked false).modFrm (fun f => { f with lockRun := 0 })

/-- Become timing master: the device goes on with its own frames (R71, R381), position 0 under its lock to SYNC_IN. -/
def State.timingTake (s : State) : State :=
  ((s.wrB FRM_STAT_TimingMaster true).wrB FRM_STAT_Holdover false).follow (b2n s.syncOn)

/-- Lock is declared after 64 frames within ±2 ns (R66); the first lock sets the set frame offset (R70). -/
def State.lockDeclare (s : State) : State :=
  if decide (s.frm.lockRun < 64) || s.rd FRM_STAT_SyncSrc == 0 || s.on FRM_STAT_Locked || s.on FRM_STAT_Holdover then s
  else
    let s := s.wrB FRM_STAT_Locked true
    if s.frm.everLock then s
    else
      let d := if s.rd FRM_STAT_SyncSrc = 1 then 0 else s.frm.setDelta
      ((s.wr FRM_SET_OFF_LO_Lo (d % 2 ^ 32)).wr FRM_SET_OFF_HI_Hi (d / 2 ^ 32)).modFrm (fun f => { f with everLock := true })

/-- SYNC_LOCK_DECLARED (R66). -/
def execSyncLockDeclared (s : State) : Res := done s s.lockDeclare

/-- The source is lost: the trim is frozen in holdover (R67, R69). -/
def State.syncLose (s : State) (why : Nat) : State :=
  let s := (((s.wrB FRM_STAT_Holdover true).wrB FRM_STAT_SyncLost true).wrB FRM_STAT_Locked false).raise 250 why
  s.modFrm (fun f => { f with lockRun := 0 })

/-- SYNC_LOST (R67). -/
def execSyncLost (s : State) : Res :=
  done s (if s.rd FRM_STAT_SyncSrc = 1 ∧ s.on FRM_STAT_Holdover = false then s.syncLose 0 else s)

/-- SYNC_IN_RETURN (R67): the device relocks. -/
def execSyncInReturn (s : State) : Res :=
  done s (if s.rd FRM_STAT_SyncSrc = 1 then (s.wrB FRM_STAT_Holdover false).modFrm (fun f => { f with lockRun := 0 }) else s)

/-- The marker source: the port of fewer hops from the sender, the other where that one has no marker (R69). -/
def State.markerSrc (s : State) (src : Nat) : Nat :=
  let p := (s.routeOf src).getD 1
  2 + (if s.frm.markers.testBit p then p else 1 - p)

/-- A frame marker arrives (R69, R381): a device that is timing master goes on with its own frames unless the sender's position is
lower. `setFrame` is the set frame number of the frame it marks. -/
def State.frameMarker (s : State) (port src setFrame : Nat) : State :=
  if !s.on TL_CFG_En || src == s.me || (s.on FRM_STAT_TimingMaster && decide (s.me < src)) then s
  else
    let s := (s.wrB FRM_STAT_TimingMaster false).modFrm (fun f => { f with
      markers := setBit f.markers port true, tmPos := src, setDelta := (setFrame + 2 ^ 64 - s.frame % 2 ^ 64) % 2 ^ 64 })
    let s := s.modTl (fun t => { t with noMarker := 0 })
    let s := if s.rd FRM_STAT_SyncSrc < 2 then s.follow (s.markerSrc src) else s.wr FRM_STAT_SyncSrc (s.markerSrc src)
    if s.on FRM_STAT_Holdover then (s.wrB FRM_STAT_Holdover false).modFrm (fun f => { f with lockRun := 0 }) else s

/-- FRAME_MARKER (R69). -/
def execFrameMarker (port : Fin 2) (src : Fin 8) (setFrame : BitVec 64) (s : State) : Res :=
  done s (s.frameMarker port.val src.val setFrame.toNat)

/-- The marker of a port is lost: the other port's is followed, or the device enters holdover (R69). -/
def State.markerLoss (s : State) (port : Nat) : State :=
  if !s.frm.markers.testBit port then s
  else
    let s := s.modFrm (fun f => { f with markers := setBit f.markers port false })
    if s.rd FRM_STAT_SyncSrc < 2 then s
    else if s.frm.markers = 0 then s.syncLose 1
    else s.wr FRM_STAT_SyncSrc (s.markerSrc s.frm.tmPos)

/-- MARKER_LOSS (R69). -/
def execMarkerLoss (port : Fin 2) (s : State) : Res := done s (s.markerLoss port.val)

/-- The timing master's marker has been absent on both ports for 4 frames, and this is the lowest live device (R381). -/
def State.timingTakeover (s : State) : State :=
  if decide (4 ≤ s.tl.noMarker) && s.lowestLive && !s.on FRM_STAT_TimingMaster then s.timingTake else s

/-- TIMING_MASTER_TAKEOVER (R381). -/
def execTimingMasterTakeover (s : State) : Res := done s s.timingTakeover

/-- Timing at a frame boundary: the phase error and trim of the ended frame, lock, the missing marker, and a lower device that has
locked to the marker in force becoming timing master (R66, R67, R381). -/
def State.timingBoundary (s : State) (phaseErr trim : Nat) : State :=
  let e := signed 16 phaseErr
  let s := s.wr FRM_PHASE_ERR_Err phaseErr
  let s := if s.on FRM_STAT_Holdover then s else s.wr CLK_TRIM_Trim trim
  let near := s.rd FRM_STAT_SyncSrc != 0 && decide (-12 ≤ e ∧ e ≤ 12)
  let was := s.on FRM_STAT_Locked
  let s := (s.modFrm (fun f => { f with lockRun := if near then f.lockRun + 1 else 0 })).lockDeclare
  let s := s.modTl (fun t => { t with noMarker := if s.frm.markers = 0 ∧ s.on FRM_STAT_TimingMaster = false then t.noMarker + 1 else 0 })
  let s := s.when (was && !s.on FRM_STAT_TimingMaster && s.lowestLive) State.timingTake
  s.timingTakeover

/-- An apply with the lock to SYNC_IN changed, or a set of one, which is its own timing master (R41, R64, R69). -/
def State.timingApply (s : State) (old : RegFile) : State :=
  let s := s.when (decide (s.rd TL_CFG_SetSize ≤ 1)) (fun s => s.wrB FRM_STAT_TimingMaster true)
  let s := s.when (!wordsSame old s.regs FRM_SYNC_CFG 1 && s.rd FRM_STAT_SyncSrc == 1) (fun s => (s.follow 0).wrB FRM_STAT_Holdover false)
  if s.me = 0 ∧ s.rd FRM_STAT_SyncSrc < 2 then s.follow (b2n s.syncOn) else s

/-! ### The table and the settings take effect (R45 item 6, R48, R509) -/

/-- An apply: the table, the settings of a snapshot, and what each chapter does at an apply; `first` is the first apply (R478). -/
def State.takeEffect (s : State) (tbl : SlotTable) (snap : RegFile) (first : Bool) : State :=
  let old := s.regs
  let s : State := { s with regs := mergeRegs s.regs snap, sense := { s.sense with fcPlan := tbl.plan, applied := true } }
  let s := (s.dropSnap.wrB FRM_STAT_Pending false).modFrm (fun f => { f with jobs := tbl.jobs, compiled := none })
  let caps := ((List.range 4).filter (fun j => s.on (CAPU_CFG_En j))).length
  let s := (s.modFrm (fun f => { f with dmaBooked := s.streamPeak s.streamUnits + 18 * caps })).setStreamDiv
  let s := forEach tbl.ofs s (fun s e => s.wr (LT_SAMPLE_OFS_OfsMin e.1) e.2)
  let s := forN 24 s (fun s k => s.wr (AFE_FC_STAT_Cycles k) (tbl.plan.filter (fun e => e.1 == k)).length)
  let s := (s.timingApply old).tmApply old
  let s := s.pgApply old first
  let s := forN 16 s (fun s m => s.slApply old first m)
  let s := s.pntApply old
  let s := (s.capApply old first).redApply
  let s := s.when first (fun s => (s.efFirstApply).seqFirstApply)
  let s := s.subscribe
  -- the guardian's releases end (R286, R391)
  { s with pwr := { s.pwr with guard := false, seqLow := false } }

end Sys2Proof.Machine
end

