-- ==== Sys2Proof/Machine/Power.lean ====
section
/-!
DEFINITION. Supplies, the pin guardian, resets, clock checks and the boot up to the first frame (chapter 17; R257, R258, R286, R391,
R411, R426, R458, R461).
-/
namespace Sys2Proof.Machine

/-- Change the power state. -/
def State.modPwr (s : State) (f : PwrSt → PwrSt) : State := { s with pwr := f s.pwr }

/-! ### The pin guardian (R391) -/

/-- A channel whose gate the guardian leaves on: in On with Hold = 1 and OnLim = 0, or held before the first apply (R257). -/
def State.efHolds (s : State) (e : Nat) : Bool :=
  s.efState e == 5 && (if s.sense.applied then s.on (EF_CFG_Hold e) && !s.on (EF_CFG_OnLim e) else (s.rd EF_HELD_Held).testBit e)

/-- The guardian acts (R126, R257, R286, R391): gates off or held, pulse outputs Hi-Z, MST_N and the shared lines released, SEQ_FLT_N
low with GuardLow. -/
def State.guardian (s : State) : State :=
  let s := forN 16 s (fun s e =>
    if s.efHolds e then s.wr EF_HELD_Held (setBit (s.rd EF_HELD_Held) e true)
    else (s.efGateOff e false).wr EF_HELD_Held (setBit (s.rd EF_HELD_Held) e false))
  let s := forN 48 s (fun s n => s.drive n (.hiz, .hiz))
  (s.wrB RED_STAT_MstDrive false).modPwr (fun p => { p with guard := true, seqLow := p.seqLow || s.on SEQ_FLT_CFG_GuardLow })

/-- PIN_GUARDIAN_ACTION (R391). -/
def execPinGuardianAction (s : State) : Res := done s s.guardian

/-! ### Resets of the logic die (R475-R477, R510) -/

/-- The registers a logic-die reset keeps: cause and count, and those of the analogue/HV die (R257, R477, R510). -/
def State.keptRegs (s : State) : RegFile :=
  let l := [EF_HELD, EF_VHV_LOSS_CNT, PWR_RST_CNT] ++ (bitsOf 16 (s.rd EF_HELD_Held)).map EF_STAT
  l.foldl (fun (r : RegFile) o => r.put o (s.regs.get o)) []

/-- A logic-die reset: every register of the logic die at its reset value, cause and count latched on VSYS, the analogue/HV die
kept, MRAM, flash and OTP kept; the guardian acts. -/
def State.logicReset (s : State) (cause : Nat) (why : Option ResetReq) : State :=
  let s := s.guardian
  let r : State := { State.reset with
    pending := s.pending, out := s.out, free := s.free, regs := s.keptRegs,
    ef := s.ef.map (fun c => { ({} : EfCh) with gate := c.gate, latch := c.latch }),
    onx := { mram := s.onx.mram, archive := s.onx.archive, erased := s.onx.erased },
    fwu := { nv := s.fwu.nv },
    flt := { cause := why },
    pwr := { vhv := s.pwr.vhv, vio := s.pwr.vio, guard := s.pwr.guard, seqLow := s.pwr.seqLow } }
  (r.wr PWR_RST_CAUSE_Cause cause).inc PWR_RST_CNT_Cnt

/-- A reset cause while the die is out of reset; one that is held in reset already keeps the cause latched first. -/
def State.resetBy (s : State) (cause : Nat) : State := if s.pwr.phase = .held then s else s.logicReset cause none

/-- VSYS power-on (R468, R475, R477): the cause latch, the count, the gate latches and the held states start anew. -/
def State.powerOn (s : State) : State :=
  let s := s.logicReset 1 none
  let s : State := { s with ef := List.replicate 16 {} }
  ((s.setWord EF_HELD 0).setWord EF_VHV_LOSS_CNT 0).setWord PWR_RST_CNT 0 |> fun s =>
    forN 16 s (fun s e => s.setWord (EF_STAT e) (resetWord (EF_STAT e)))

/-- VSYS_POWER_ON (R475). -/
def execVsysPowerOn (s : State) : Res := done s s.powerOn

/-- VSYS_BROWN_OUT (R468): the cause latch survived. -/
def execVsysBrownOut (s : State) : Res := done s (s.logicReset 2 none)

/-- CORE_UV (R468). -/
def execCoreUv (s : State) : Res := done s (s.resetBy 3)

/-- VHV falls below its UVLO (R258, R475): every gate off, every channel Off, latches and held states lost, and the die resets. -/
def State.vhvFall (s : State) : State :=
  if !s.pwr.vhv then s
  else
    let s := forN 16 s (fun s e => ((s.efGateOff e false).modEf e (fun c => { c with latch := false, fastPend := false })).when
      (decide (1 < s.efState e)) (fun s => s.efEnter e 1 false))
    let s := ((s.setWord EF_HELD 0).inc EF_VHV_LOSS_CNT_Cnt).modPwr (fun p => { p with vhv := false })
    if s.pwr.phase = .held then s else (s.raise 139 0).resetBy 4

/-- VHV_UVLO_FALL (R258). -/
def execVhvUvloFall (s : State) : Res := done s s.vhvFall

/-- VHV_UVLO_RISE (R468): guardian and gate drivers start; the reset may be released. -/
def execVhvUvloRise (s : State) : Res := done s (s.modPwr (fun p => { p with vhv := true }))

/-- STROBE_LOSS (R391): the guardian acts and the die resets. -/
def execStrobeLoss (s : State) : Res := done s (s.resetBy 8)

/-- PLL_LOCK_LOSS (R474): the BOOT record to come names CLK_PLL_LOCK. -/
def execPllLockLoss (s : State) : Res :=
  done s (if s.pwr.phase = .held then s
    else ((s.wrB CLK_STAT_PllLock false).raise 255 0).logicReset 9 (some { src := 255, cls := s.rd (FLT_SRC_CFG_Class 255), frame := s.frame }))

/-- Commit the whole staging queue through requester 0 (R426, R442). -/
def State.commitAll (s : State) : State :=
  forN s.onx.staging.length (s.when (!s.onx.staging.isEmpty) State.rbtPreempt) (fun s _ => s.commitOne)

/-- A reset by RESET_N or by software (R476): after the commit, at a frame boundary; at once while nothing runs yet (R482). -/
def State.resetAsk (s : State) (cause : Nat) : State :=
  match s.pwr.phase with
  | .held => s
  | .running =>
    { s.modPwr (fun p => { p with pend := some (match p.pend with | some c => min c cause | none => cause) }) with
      rbt := { s.rbt with preReset := true } }
  | _ => s.commitAll.logicReset cause none

/-- RESET_N_ASSERT (R476). -/
def execResetNAssert (s : State) : Res := done s (s.resetAsk 5)

/-- SOFTWARE_RESET (R476). -/
def execSoftwareReset (s : State) : Res := done s (s.resetAsk 7)

/-- The reset that waits is due at this boundary: its queue is committed, or a core restart would hold the commit up (R482); by
software it waits for the end of Shutdown (R476). -/
def State.resetDue (s : State) : Option Nat :=
  match s.pwr.pend with
  | some c => if (s.onx.staging.isEmpty || s.frm.coreRst) && (c == 5 || s.rd HU_STAT_State != 2) then some c else none
  | none => none

/-- The reset of a chip-reset reaction is due (R426): its record has left the FIFO, and the hold-up state is not Shutdown. -/
def State.faultReset (s : State) : State :=
  match s.flt.chipReset with
  | some r =>
    if (!s.frm.coreRst && s.onx.fifo.any (fun q => q.force)) || s.rd HU_STAT_State == 2 then s
    else s.commitAll.logicReset 6 (some r)
  | none => s

/-- FAULT_CHIP_RESET (R426): the frame boundary after the commit. -/
def execFaultChipReset (s : State) : Res := done s s.faultReset

/-! ### Supplies while the die runs (R468-R471) -/

/-- Show the banks (PWR_STAT.VioOk). -/
def State.showVio (s : State) : State := if s.pwr.phase = .held then s else s.wr PWR_STAT_VioOk s.pwr.vio

/-- Raise PWR_VIO_LOSS with the banks below threshold (R483). -/
def State.raiseVio (s : State) : State := s.raise 251 (15 - s.pwr.vio % 16)

/-- VIO_GOOD_RISE (R469): the bank's pins drive again. -/
def execVioGoodRise (n : Fin 4) (s : State) : Res := done s (s.modPwr (fun p => { p with vio := setBit p.vio n.val true })).showVio

/-- A bank falls below its threshold (R469). -/
def State.vioFall (s : State) (n : Nat) : State :=
  let s := (s.modPwr (fun p => { p with vio := setBit p.vio n false })).showVio
  if s.pwr.phase = .held then s else s.raiseVio

/-- VIO_GOOD_FALL (R469). -/
def execVioGoodFall (n : Fin 4) (s : State) : Res := done s (s.vioFall n.val)

/-- CORE_REG_ERROR (R471). -/
def execCoreRegError (limit window : Bool) (s : State) : Res :=
  done s (if limit || window then (s.when limit (fun s => s.wrB PWR_STAT_CoreLim true)).raise 252 (b2n limit + 2 * b2n window) else s)

/-- VHV against the warning level (R471): raised once, and again only after 100 frames at or above it. -/
def State.vhvLevel (s : State) (v : BitVec 32) : State :=
  if v.toInt < s.rdS PWR_VHV_WARN_V then
    if s.on PWR_STAT_VhvWarn then s
    else
      let again := !s.pwr.warned || decide (s.pwr.warnAt + 100 ≤ s.frame)
      let s := (s.wrB PWR_STAT_VhvWarn true).modPwr (fun p => { p with warned := true })
      if again then s.raise 253 (min 65535 (divRnd (v.toInt * 100) 65536).toNat) else s
  else if s.on PWR_STAT_VhvWarn then (s.wrB PWR_STAT_VhvWarn false).modPwr (fun p => { p with warnAt := s.frame })
  else s

/-- VHV_WARN (R471). -/
def execVhvWarn (v : BitVec 32) (s : State) : Res := done s (s.vhvLevel v)

/-! ### Clock checks (R473) -/

/-- The oscillator measured against REFCLK (R473). -/
def State.oscCheck (s : State) (present : Bool) (err : Nat) : State :=
  let s := s.wrB CLK_STAT_RefclkOk present
  if !present || !s.on CLK_CHECK_CFG_RefEn then s
  else
    let e := satS 16 (signed 16 err - s.rdS CLK_TRIM_Trim)
    let s := s.wrS CLK_OSC_ERR_Err e
    if 1000 * max 1 (s.rd CLK_CHECK_CFG_RefTol) < e.natAbs then
      ((s.wrB CLK_STAT_RefErr true).wrB CLK_STAT_OscOk false).raise 254 (2 * min 32767 (e.natAbs / 2))
    else s.wrB CLK_STAT_OscOk true

/-- OSC_REF_CHECK (R473). -/
def execOscRefCheck (present : Bool) (err : BitVec 16) (s : State) : Res := done s (s.oscCheck present err.toNat)

/-- OSC_GUARDIAN_MISMATCH (R473): more than 10 %, which the syndrome's field of ppm ÷ 2 cannot hold. -/
def execOscGuardianMismatch (s : State) : Res :=
  done s (((s.wrB CLK_STAT_GuardErr true).wrB CLK_STAT_OscOk false).raise 254 0xFFFF)

/-! ### Boot (R478) -/

/-- The newest record of a list, by sequence number (R411). -/
def newestRec (l : List Rec) : Option Rec :=
  l.foldl (fun a r => match a with
    | some n => if seqAfter n.seq r.seq then some r else a
    | none => some r) none

/-- The records of a medium of `n` slots that pass their checks (R411). -/
def validRecs (l : List (Nat × Rec)) (n : Nat) : List Rec :=
  (l.filter (fun e => decide (e.2.bad < 2) && e.2.seq % n == e.1)).map (fun e => e.2)

/-- The head scan (R411): next sequence number, OPMS, PWRCYC (R405), the low-water mark, and the fault of a gap or of an empty ring. -/
def State.onyxScan (s : State) : State :=
  let ring := validRecs s.onx.mram 131072
  let arch := validRecs s.onx.archive 524288
  let s := match newestRec arch with
    | some r => (s.wr ONX_ARCH_SEQ_Seq r.seq).modOnx (fun o => { o with anyArch := true })
    | none => s
  let found := if ring.isEmpty then arch else ring
  let s := s.when ring.isEmpty (fun s => s.raise 236 0)
  match newestRec found with
  | none => s.wrB ONX_STAT_NoHead true
  | some r =>
    let s := ((s.wr ONX_NEXT_SEQ_Seq (r.seq + 1)).wr ONX_COMMIT_SEQ_Seq r.seq).setOpms r.opms
    let s := s.wr TMR_PWRCYC_Cnt (r.pwrcyc + 1)
    let s := match newestRec (found.filter (fun q => q.code == 3 || q.code == 2)) with
      | some q => s.wr ONX_LOW_WATER_Seq (if q.code = 3 then q.p1 + 1 else q.p0)
      | none => s
    let dist (q : Rec) : Nat := (r.seq + 2 ^ 32 - q.seq) % 2 ^ 32
    let near := ring.filter (fun q => decide (dist q < 131072))
    let span := near.foldl (fun a q => max a (dist q)) 0
    let gaps := if ring.isEmpty then 0 else span + 1 - near.length
    let s := s.when (decide (0 < gaps)) (fun s => s.raise 236 (min 65535 gaps))
    let (n, at_) := match newestRec (found.filter (fun q => q.code == 2)) with
      | some m => (dist m, m.opms)
      | none => (0, r.opms)
    (s.wrB ONX_STAT_NoHead ring.isEmpty).modOnx (fun o => { o with anyCommit := true, sinceMark := n, markOpms := at_ })

/-- The first bank of a kind that R460 allows and that verifies, the selected one first (R461): whether there is one; a bank skipped or
failed raises its fault. -/
def State.verifyKind (s : State) (ok : Nat) (kind : Nat) : Bool × State :=
  let b := s.fwu.nv.banks.getD (kind - 1) 0
  [b, 1 - b].foldl (fun (a : Bool × State) k =>
    if a.1 then a
    else
      let i := 2 * (kind - 1) + k
      if s.fwu.nv.secVers.getD i 0 < s.fwu.nv.counter then (false, a.2.raise 246 (kind + 4 * k))
      else if !ok.testBit i then (false, a.2.raise 245 (kind + 4 * k))
      else (true, a.2.modNv (fun nv => { nv with banks := upd nv.banks (kind - 1) (fun _ => k) }))) (false, s)

/-- Load the settings of a configuration set: shadowed registers into their shadows; those that act at once wait (R478). -/
def State.loadShadows (s : State) (l : List (Nat × Word)) : State :=
  { s with shadow := l.foldl (fun (m : RegFile) e =>
      if shadowed e.1 then m.put e.1 (mergeWord e.1 (resetWord e.1) e.2) else m) s.shadow }

/-- The settings that act at once. -/
def liveOf (l : List (Nat × Word)) : List (Nat × Word) := l.filter (fun e => !shadowed e.1)

/-- The machine that the first apply will leave, as far as the table is concerned: the shadows and the settings that act at once in force
(R478). -/
def State.bootTrial (s : State) (set : List (Nat × Word)) : State :=
  let t := s.trial s.shadow
  { t with regs := (liveOf set).foldl (fun (l : RegFile) e =>
      match regAt e.1 with
      | some (r, _, _) => l.put e.1 (BitVec.ofNat 32 (maskOff (l.get e.1).toNat r.rw ||| (e.2.toNat &&& r.rw)))
      | none => l) t.regs }

/-- Param0 of a BOOT record (R404). -/
def State.bootParam (s : State) : Nat :=
  s.rd PWR_RST_CAUSE_Cause + 256 * (s.rd GLB_STAT_FwBank + 2 * s.rd GLB_STAT_LtBank + 4 * s.rd GLB_STAT_CfgBank + 8 * s.rd GLB_STAT_Fallback)

/-- Step 1: the straps, and the bank levels at the release (R478). -/
def State.bootStart (s : State) (p : Straps) : State :=
  if s.pwr.phase != .held then s
  else
    let s := ((s.wrB GLB_STAT_Role p.role).wr GLB_STAT_Pos p.pos.toNat).wr TW_TGT_STAT_Addr (0x40 + p.addr.toNat)
    ((s.wrB HIF_STAT_Sris p.sris).modPwr (fun w => { w with phase := .boot })).showVio

/-- Step 3: what OTP and the flash boot area hold (R462-R464, R513). -/
def State.bootOtp (s : State) : State :=
  let nv := s.fwu.nv
  let s := (s.setWord GLB_SERIAL_LO (Config.serialNumber.extractLsb' 0 32)).setWord GLB_SERIAL_HI (Config.serialNumber.extractLsb' 32 32)
  let s := (s.wrB DBG_LOCK_PermLock nv.permLock).wrB DBG_LOCK_Lock nv.permLock
  let s := ((s.wr UPD_SECVER_Counter nv.counter).wrB UPD_LOCK_OwnerLock nv.ownerLock).wrB UPD_LOCK_KeyProvisioned nv.keyHash.isSome
  (s.wrB UPD_LOCK_CoSignReq nv.coSignReq).wr UPD_LOCK_LockCnt nv.lockCnt

/-- Steps 2 to 7 (R461, R478, R479). A boot loader that fails leaves the die in reset; without firmware or microprograms the boot does
not end; without a configuration set it ends with CfgValid = 0. -/
def State.bootRun (s : State) (b : BootIn) : State :=
  if !b.loaderOk then { s with pwr := { s.pwr with phase := .held } }
  else
    let s := (s.bootOtp.onyxScan.bankSelect).updResume false
    let (fw, s) := s.verifyKind b.imagesOk.toNat 1
    let (lt, s) := s.verifyKind b.imagesOk.toNat 2
    let (cfg, s) := s.verifyKind b.imagesOk.toNat 3
    if !fw || !lt then s
    else
      let s := s.showBanks
      let set := b.settings.map (fun e => (e.1.toNat, e.2))
      let s := if cfg then
          let s := ((s.loadShadows set).wrB GLB_STAT_CfgValid true).wr GLB_CFG_ID_CfgId b.cfgId.toNat
          let s := s.wr GLB_STAT_StartMode b.startMode.toNat
          let t := s.tabulate (s.bootTrial set) b.placement 0
          s.modPwr (fun p => { p with
            live := liveOf set, table := { jobs := t.jobs, plan := t.plan, ofs := t.ofs },
            script := if b.startMode = 1 then { efOn := b.scriptEf.toNat, up := b.scriptUp.map BitVec.toNat } else {} })
        else s
      let (p1, p2) := match s.flt.cause with
        | some r => (r.src + 256 * r.cls, r.syn)
        | none => (0, 0)
      let s := (s.wrB ONX_STAT_Ready true).acceptRec { code := 0x0001, p0 := s.bootParam, p1 := p1, p2 := p2 }
      (s.modFlt (fun f => { f with cause := none })).modPwr (fun p => { p with phase := .booted })

/-- The die leaves reset while its supplies allow it (R470), and its boot goes on as far as the command says. -/
def State.release (s : State) (p : Straps) (boot : Option BootIn) : State :=
  if !s.pwr.vhv || !s.pwr.vio.testBit 0 || (s.pwr.phase != .held && s.pwr.phase != .boot) then s
  else match boot with
    | none => s.bootStart p
    | some b => (s.bootStart p).bootRun b

/-- LOGIC_RESET_RELEASE (R478): without `boot` the die is out of reset and its boot under way; with it, steps 2 to 7 have run. -/
def execLogicResetRelease (straps : Straps) (boot : Option BootIn) (s : State) : Res := done s (s.release straps boot)

/-! ### Core restart (R457) -/

/-- The restart begins once no reservation is left (R457). -/
def State.coreRestart (s : State) : State :=
  if !s.fwu.restart || !s.plans.isEmpty || s.frm.coreRst || s.pwr.phase != .running then s
  else (s.wr PWR_RST_CAUSE_Cause 0x0A).modFrm (fun f => { f with coreRst := true })

/-- CORE_RESTART (R457). -/
def execCoreRestart (s : State) : Res := done s s.coreRestart

/-- The restart ends (R456-R458, R477): the banks are chosen, a session resumes, a configuration set in a new bank is to be compiled,
and the BOOT record is written. `settings` are those of the set in the bank chosen, where the engine has not verified them itself. -/
def State.coreRestartEnd (s : State) (settings : List (Nat × Word)) : State :=
  if !s.frm.coreRst then s
  else
    let asked := s.fwu.restart
    let was := s.fwu.nv.banks.getD 2 0
    let staged := s.fwu.settings
    let s := ((s.modFrm (fun f => { f with coreRst := false })).modUpd (fun u => { u with restart := false })).bankSelect
    let fell := s.on GLB_STAT_Fallback
    let s := s.updResume asked
    let s := if s.fwu.nv.banks.getD 2 0 = was then s
      else s.modFrm (fun f => { f with load := some (if fell || staged.isEmpty then settings else staged) })
    s.request 0x0001 0 s.bootParam 0 0

/-- CORE_RESTART_END (R457). -/
def execCoreRestartEnd (settings : List (BitVec 21 × BitVec 32)) (s : State) : Res :=
  done s (s.coreRestartEnd (settings.map (fun e => (e.1.toNat, e.2))))

/-- At a boundary the device starts the compile of a configuration set of its own update (R456) while no other runs or waits. -/
def State.ownCompile (s : State) : State :=
  let s := if s.fwu.cfgSwitch && s.frm.load.isNone then s.modFrm (fun f => { f with load := some s.fwu.settings }) else s
  match s.frm.load with
  | some l =>
    if s.frm.own || s.frm.coreRst || s.on FRM_STAT_Compiling || s.on FRM_STAT_Pending || s.frm.compiled.isSome then s
    else (s.loadShadows l).startCompile true
  | none => s

end Sys2Proof.Machine
end

