-- ==== Sys2Proof/Machine/Access.lean ====
section
/-!
DEFINITION. Register reads and writes by address (R9-R13, R505-R511) and the TW0 management target (R360-R363).
-/
namespace Sys2Proof.Machine

/-- The instance of a template at an offset: base, stride and count (R507). -/
def instAt (o base stride cnt : Nat) : Option Nat :=
  if base ≤ o ∧ (o - base) % stride = 0 ∧ (o - base) / stride < cnt then some ((o - base) / stride) else none

/-- The first alternative that applies. -/
def firstOf (l : List (Option State)) : Option State := l.findSome? id

/-- A write that its access codes alone describe (R9): RW fields take the value, a 1 clears a W1C bit, the rest stays. -/
def State.plainWrite (s : State) (r : RegSpec) (o v : Nat) : State :=
  let old := (s.word o).toNat
  s.setWord o (BitVec.ofNat 32 (maskOff old (r.rw ||| (v &&& r.w1c)) ||| (v &&& r.rw)))

/-! ### Writes that act (each chapter's update rule) -/

/-- FRM, AFE, CMP: limits and the compile bits (R48), PeakClr, thresholds and latches. -/
def State.writeFrm (s : State) (r : RegSpec) (o v : Nat) : Option State :=
  firstOf [
    if o = FRM_CTL then some ((s.plainWrite r o v).frmCtl v) else none,
    (instAt o (AFE_TM_CTL 0) 0x20 256).map (fun k => s.when (v.testBit 0) (fun s => s.modTm k (fun c => { c with pkClr := true }))),
    (instAt o (CMP_LATCH 0) 4 4).map (fun i => s.latchWordClear i v),
    (instAt o (CMP_THR 0) 0x10 64).map (fun n => s.thrWrite n (bits v 25 16) (bits v 9 0))]

/-- PG and LT (R109, R113-R123, R131, R155). The instant of a duty write is not one the write carries: a free value. -/
def State.writePg (s : State) (r : RegSpec) (o v : Nat) : Option State :=
  let duty (n : Nat) (edge : Bool) : State := let (t, s) := s.draw 16; s.dutyWrite n edge v (t % 64000)
  firstOf [
    (instAt o (PG_CH_CTL 0) 0x100 48).map (fun n =>
      let s := s.when (s.on (PG_CH_CFG_Src n)) (fun s => s.wrB (PG_CH_CTL_Idle n) (v.testBit 1))
      (s.pgEnable n (v.testBit 0)).when (v.testBit 2) (fun s => s.immDis n)),
    (instAt o (PG_CH_DUTY 0) 0x100 48).map (fun n => duty n false),
    (instAt o (PG_CH_EDGE 0) 0x100 48).map (fun n => duty n true),
    (instAt o (PG_CH_STAT 0) 0x100 48).map (fun n => (s.when (v.testBit 6) (fun s => s.parOffClear n)).plainWrite r o (maskOff v 64)),
    (instAt o (PG_GRP_CTL 0) 0x40 12).map (fun g =>
      (s.when (v.testBit 0) (fun s => s.wrB (PG_GRP_STAT_OfsPend g) true)).when (v.testBit 1) (fun s =>
        forN 4 s (fun s i => s.immDis (4 * g + i)))),
    (instAt o (PG_GRP_STAT 0) 0x40 12).map (fun g => s.tripLatchClear g (v % 65536)),
    (instAt o (LT_CTL 0) 0x400 24).map (fun n => (s.ltEnable n (v.testBit 0)).when (v.testBit 1) (fun s => s.ltClear n))]

/-- SL, CAP, EF, SEQ (R185, R189, R191, R194, R204, R215, R223, R228, R241, R256, R277, R284). -/
def State.writeShelf (s : State) (r : RegSpec) (o v : Nat) : Option State :=
  firstOf [
    (instAt o (SL_CTL 0) 0x200 16).map (fun m =>
      let s := s.wrB (SL_CTL_RcFreeze m) (v.testBit 3)
      let s := s.slEnable m (v.testBit 0)
      (s.when (v.testBit 2) (fun s => s.modSl m (fun c => { c with rcClr := true }))).when (v.testBit 1) (fun s => s.slClear m)),
    (instAt o (SL_RC_DATA 0) 0x200 16).map (fun m => s.rcDataWrite m v),
    (instAt o (SL_BAT_SOC 0) 0x200 16).map (fun m => s.socWrite m v),
    if o = CAP_CTL then some ((s.plainWrite r o (v ||| 1)).wrB CAP_CTL_En (s.on CAP_CTL_En) |>.capEnable (v.testBit 0)) else none,
    (instAt o (FG_CTL 0) 0x100 8).map (fun g => s.when (v.testBit 0) (fun s => s.modFg g (fun c => { c with estReq := true }))),
    if o = HU_CTL then some ((s.huEnable (v.testBit 0)).when (v.testBit 1) State.huRestartWrite) else none,
    (instAt o (EF_CTL 0) 0x100 16).map (fun e =>
      ((s.efEnable e (v.testBit 0)).efSetOn e (v.testBit 1) (s.on (EF_CFG_SoftOff e))).when (v.testBit 2) (fun s => s.efClear e)),
    if o = SEQ_CTL then some (s.seqEnable (v.testBit 0)) else none,
    (instAt o (SEQ_RAIL_CTL 0) 0x40 32).map (fun n => s.when (v.testBit 0) (fun s => s.seqTake (.clear (2 ^ n))))]

/-- A ring's base or size, only while it is detached, and a size only from 4 to 12 (R324). -/
def State.ringConfig (s : State) (r : RegSpec) (o v id err : Nat) (size : Bool) : State :=
  if s.hif.attached.contains id || s.hif.attachReq.any (fun e => e.1 == id) || (size && !decide (4 ≤ v % 16 ∧ v % 16 ≤ 12)) then s.dbErr err
  else s.plainWrite r o v

/-- The registers of a submission or completion ring, at an offset in pair n (R300, R303, R324). -/
def State.writePair (s : State) (r : RegSpec) (o v n : Nat) : Option State :=
  match (o - 0x2C100) % 0x40 with
  | 0x00 => some (s.ringConfig r o v n n false)
  | 0x04 => some (s.ringConfig r o v n n false)
  | 0x08 => some (s.ringConfig r o v n n true)
  | 0x0C => some (s.pairCtl n (v.testBit 0) (v.testBit 1))
  | 0x14 => some (s.tailBell n v)
  | 0x20 => some (s.ringConfig r o v n (4 + n) false)
  | 0x24 => some (s.ringConfig r o v n (4 + n) false)
  | 0x28 => some (s.ringConfig r o v n (4 + n) true)
  | 0x2C => some (s.headBell (cqRegs n) (4 + n) v)
  | _ => none

/-- The registers of the event ring or of a stream ring, at an offset in the ring's words. -/
def State.writeRing (s : State) (r : RegSpec) (o v w : Nat) (q : RingRegs) (enF resF : Fld) (err : Nat) : Option State :=
  match w with
  | 0x00 => some (s.ringConfig r o v q.id err false)
  | 0x04 => some (s.ringConfig r o v q.id err false)
  | 0x08 => some (s.ringConfig r o v q.id err true)
  | 0x0C => some (s.ringCtl enF resF q.id v)
  | 0x10 => some (s.headBell q err v)
  | _ => none

/-- HIF (R324). -/
def State.writeHif (s : State) (r : RegSpec) (o v : Nat) : Option State :=
  if 0x2C100 ≤ o ∧ o < 0x2C200 then s.writePair r o v ((o - 0x2C100) / 0x40)
  else if 0x2C200 ≤ o ∧ o < 0x2C220 then s.writeRing r o v (o - 0x2C200) eqRegs HIF_EQ_CTL_En HIF_EQ_CTL_Resume 8
  else if 0x2C300 ≤ o ∧ o < 0x2C400 then
    let k := (o - 0x2C300) / 0x20
    s.writeRing r o v ((o - 0x2C300) % 0x20) (tsRegs k) (HIF_TS_CTL_En k) (HIF_TS_CTL_Resume k) 9
  else firstOf [
    (instAt o (HIF_MSIX_MAP 0) 4 32).map (fun c => s.mapWrite false c v),
    (instAt o (HIF_MSIX_MOD 8) 4 24).map (fun i => s.mapWrite true (i + 8) v)]

/-- PNT, TW, CAN, RED (R327, R336, R337, R341, R345, R355, R362, R366, R388). A window write leaves TW_TGT_CFG.WinWr (R362). -/
def State.writePnt (s : State) (r : RegSpec) (o v : Nat) (window : Bool) : Option State :=
  let pin := s.rd PNT_PIN_ADDR_Entry
  firstOf [
    if o = PNT_DIR_BASE_LO ∨ o = PNT_DIR_BASE_HI then some (if s.on PNT_DIR_CTL_En then s else s.plainWrite r o v) else none,
    if o = PNT_DIR_CTL then some ((s.dirEnable (v.testBit 0)).when (v.testBit 1) State.dirFlush) else none,
    (instAt o (PNT_PIN_DATA 0) 4 4).map (fun w => if 13951 < pin then s else s.shadowWrite (pinKey pin w) (BitVec.ofNat 32 v)),
    if o = PNT_LIST_DATA then some (s.shadowWrite (listKey (s.rd PNT_LIST_ADDR_Entry)) (BitVec.ofNat 32 (v % 2 ^ 20))) else none,
    (instAt o (CAPU_CTL 0) 0x20 4).map (fun j => (s.when (v.testBit 0) (fun s => s.capArm j)).when (v.testBit 1) (fun s => s.capSwTrig j)),
    (instAt o (TW_PORT_CTL 0) 0x100 12).map (fun p => (s.twEnable p (v.testBit 0)).when (v.testBit 1) (fun s => s.twClearWrite p)),
    if o = TW_TGT_CFG then some ((s.plainWrite r o v).wrB TW_TGT_CFG_WinWr (if window then s.on TW_TGT_CFG_WinWr else v.testBit 2)) else none,
    (instAt o (CAN_CTL 0) 0x400 4).map (fun c => (s.canEnable c (v.testBit 0)).when (v.testBit 1) (fun s => s.canRecover c)),
    if o = RED_CTL then some ((s.when (v.testBit 0) (fun s => s.surCause 0)).when (v.testBit 1) (fun s => s.syncLoss false)) else none]

/-- The reactions a source accepts, with AutoAck (R323, R425). -/
def sourceMask (src : Nat) : Nat := if src = 34 then 0x45 else if (blockOf src 0).isSome then 0xFF else 0xF7

/-- The debug lock (R428, R516): its first write since the reset fixes it; set, it disarms an injection. -/
def State.lockWrite (s : State) (lock : Bool) : State :=
  if s.pwr.lockSet || s.on DBG_LOCK_PermLock then s
  else
    let s := (s.wrB DBG_LOCK_Lock lock).modPwr (fun p => { p with lockSet := true })
    s.when lock (fun s => (s.wrB FLT_INJ_Armed false).modFlt (fun f => { f with armed := none }))

/-- A write of the latency test bit (R74, R516). -/
def State.latTest (s : State) (b : Bool) : State := if s.on DBG_LOCK_Lock then s.raise 247 0 else s.wrB DBG_CTL_LatTest b

/-- Close an Open or Ready session (R467). -/
def State.updAbandon (s : State) : State :=
  if s.rd UPD_STAT_State = 1 ∨ s.rd UPD_STAT_State = 2 then
    ((forEach s.updMine s (fun s k => s.updPart k 0 0)).modUpd (fun u => { u with rect := [] })).updClose
  else s

/-- PWR, TMR, FLT, UPD, DBG (R422, R423, R427, R430, R432, R434, R467, R475, R516). The instant of a timer write is a free value. The
writes of UPD_CTL that read host memory are commands of their own. -/
def State.writeSys (s : State) (r : RegSpec) (o v : Nat) : Option State :=
  firstOf [
    if o = PWR_CTL then some (if v.testBit 0 && bits v 15 8 == 0xA5 then s.resetAsk 7 else s) else none,
    (instAt o (TMR_CTL 0) 0x20 16).map (fun i =>
      let (t, s) := s.draw 16
      s.tmrCtl i (t % 1000) (v.testBit 0) (v.testBit 1) (v.testBit 2)),
    (instAt o (TMR_CMP 0) 0x20 16).map (fun i => let (t, s) := s.draw 16; s.tmrCmpAt i (t % 1000) v),
    (instAt o (FLT_GRP_STAT 0) 4 8).map (fun g => s.ackSources g v),
    (instAt o (FLT_SRC_CFG 0) 4 256).map (fun q => if s.on (FLT_SRC_CFG_Assigned q) then s.plainWrite r o (v &&& sourceMask q) else s),
    if o = FLT_INJ then
      let s := s.plainWrite r o v
      some (s.when (v.testBit 31) (fun s => if s.rd FLT_INJ_Mode = 2 then s.injectForce else s.injectBits))
    else none,
    if o = UPD_CTL then some (s.when (v.testBit 3) State.updAbandon) else none,
    if o = DBG_CTL then some (s.latTest (v.testBit 0)) else none,
    if o = DBG_LOCK then some (s.lockWrite (v.testBit 0)) else none]

/-- A word of the MSI-X table before its first write: its vector control masks (R297). -/
def msixReset (i : Nat) : Word := if i % 4 = 3 then 1 else 0

/-- A write of the MSI-X table (R297): an unmasked vector whose pending bit is set sends its message. -/
def State.msixWrite (s : State) (i v : Nat) : State :=
  let w : Word := BitVec.ofNat 32 (if i % 4 = 3 then v % 2 else v)
  let s := s.modHif (fun h => { h with msixTable := if w = msixReset i then assocDel h.msixTable i else assocPut h.msixTable i w })
  if i % 4 = 3 && v % 2 == 0 && s.hif.pba.testBit (i / 4) then s.sendMsix (i / 4) else s

/-- What a write does that acts: none for a register that its access codes alone describe. -/
def State.writeAct (s : State) (r : RegSpec) (o v : Nat) (window : Bool) : Option State :=
  firstOf [s.writeFrm r o v, s.writePg r o v, s.writeShelf r o v, s.writeHif r o v, s.writePnt r o v window, s.writeSys r o v]

/-- A 32-bit write of BAR0 (R9-R12): a shadowed register takes the value in its shadow; others act at once, as their chapters state;
an unassigned offset takes nothing. -/
def State.regWrite (s : State) (o v : Nat) (window : Bool) : State :=
  match regAt o with
  | none => match instAt o 0x2D000 4 128 with
    | some i => s.msixWrite i v
    | none => s
  | some (r, _, _) =>
    if r.shadowed then
      -- W1C bits of a shadowed register act at once
      let s := s.when (r.w1c != 0) (fun s => s.setWord o (BitVec.ofNat 32 (maskOff (s.word o).toNat (v &&& r.w1c))))
      s.shadowWrite o (mergeWord o (resetWord o) (BitVec.ofNat 32 v))
    else (s.writeAct r o v window).getD (s.plainWrite r o v)

/-- A 32-bit read of BAR0 (R9-R12, R509): the value returned, and what reading it clears. -/
def State.regRead (s : State) (o : Nat) : Word × State :=
  match regAt o with
  | none => (if o = 0x2D200 then BitVec.ofNat 32 s.hif.pba else 0, s)
  | some (r, _, _) =>
    let pin := s.rd PNT_PIN_ADDR_Entry
    match instAt o (PNT_PIN_DATA 0) 4 4, instAt o (TW_PORT_ALERT_LOG 0) 0x100 12 with
    | some w, _ => (if 13951 < pin then 0 else s.shadow.get (pinKey pin w), s)
    | _, some p => (s.word o, (s.modTw p (fun t => { t with log := t.log.drop 1 })).showLog p)
    | none, none =>
      if o = PNT_LIST_DATA then (s.shadow.get (listKey (s.rd PNT_LIST_ADDR_Entry)), s)
      else
        let w := if r.shadowed then mergeWord o (s.word o) (s.shadow.get o) else s.word o
        (w, if r.rc = 0 then s else s.setWord o (BitVec.ofNat 32 (maskOff (s.word o).toNat r.rc)))

/-- REGISTER_WRITE (R9, R12): a write with fewer than four byte enables is discarded. -/
def execRegisterWrite (offset : BitVec 18) (value : BitVec 32) (byteEnables : BitVec 4) (s : State) : Res :=
  done s (if byteEnables = 15 ∧ offset.toNat % 4 = 0 then s.regWrite offset.toNat value.toNat false else s)

/-- GLB_SCRATCH_WRITE (R514). -/
def execGlbScratchWrite (value : BitVec 32) (s : State) : Res := done s (s.setWord GLB_SCRATCH value)

/-- DBG_LOCK_WRITE (R516). -/
def execDbgLockWrite (lock : Bool) (s : State) : Res := done s (s.lockWrite lock)

/-- DBG_CTL_WRITE (R516). -/
def execDbgCtlWrite (latTest : Bool) (s : State) : Res := done s (s.latTest latTest)

/-! ### The TW0 target (R360-R363, R511) -/

/-- TW0_TARGET_ADDRESSED (R360). -/
def execTw0TargetAddressed (s : State) : Res :=
  done s (if s.pwr.phase = .held ∨ s.pwr.vio.testBit 0 = false then s else s.tgtAddressed)

/-- Serve one command of an addressed target; the transfer ends with it. -/
def State.tgtServe (s : State) (f : State → State) : State :=
  if s.bus.tgt.addressed && s.on TW_TGT_CFG_En then (f s).modTgt (fun t => { t with addressed := false }) else s

/-- Set a bit of STATUS_CML; a new one is a cause of TW0_ALERT_N (R363). -/
def State.cml (s : State) (k : Nat) : State :=
  let old := s.rd TW_TGT_STAT_Cml
  (s.wr TW_TGT_STAT_Cml (setBit old k true)).when (!old.testBit k) (fun s => s.modFlt (fun f => { f with alertNew := true }))

/-- A write of the target: its PEC is checked, and required with PecReq (R360, R363). -/
def State.tgtWrite (s : State) (pec : Option Bool) (f : State → State) : State :=
  s.tgtServe (fun s => if pec = some false ∨ (pec = none ∧ s.on TW_TGT_CFG_PecReq = true) then s.cml 5 else f s)

/-- A read of the target. -/
def State.tgtRead (s : State) (data : List Byte) : State := s.tgtServe (fun s => s.emit (.targetData data))

/-- A block read: the count, then the bytes (R361). -/
def State.tgtBlock (s : State) (data : List Byte) : State := s.tgtRead (leBytes 1 data.length ++ data)

/-- STATUS_WORD (R361). -/
def State.statusWord (s : State) : Nat :=
  b2n (s.flt.held.any (fun e => decide (1 ≤ e.2))) + 2 * b2n (s.rd TW_TGT_STAT_Cml != 0) + 4 * b2n (s.unacked 72)

/-- CLEAR_FAULTS (R361). -/
def execClearFaults (pec : Option Bool) (s : State) : Res := done s (s.tgtWrite pec (fun s => s.wr TW_TGT_STAT_Cml 0))
/-- CAPABILITY (R361). -/
def execCapability (s : State) : Res := done s (s.tgtRead [0xD0])
/-- STATUS_BYTE (R361). -/
def execStatusByte (s : State) : Res := done s (s.tgtRead (leBytes 1 s.statusWord))
/-- STATUS_WORD (R361). -/
def execStatusWord (s : State) : Res := done s (s.tgtRead (leBytes 2 s.statusWord))
/-- STATUS_CML (R361). -/
def execStatusCml (s : State) : Res := done s (s.tgtRead (leBytes 1 (s.rd TW_TGT_STAT_Cml)))
/-- PMBUS_REVISION (R361). -/
def execPmbusRevision (s : State) : Res := done s (s.tgtRead [0x44])
/-- MFR_ID (R361): "MEHRALE". -/
def execMfrId (s : State) : Res := done s (s.tgtBlock [0x4D, 0x45, 0x48, 0x52, 0x41, 0x4C, 0x45])
/-- MFR_MODEL (R361): "JD7840". -/
def execMfrModel (s : State) : Res := done s (s.tgtBlock [0x4A, 0x44, 0x37, 0x38, 0x34, 0x30])
/-- MFR_REVISION (R361): "B0". -/
def execMfrRevision (s : State) : Res := done s (s.tgtBlock [0x42, 0x30])
/-- MFR_SERIAL (R361). -/
def execMfrSerial (s : State) : Res := done s (s.tgtBlock (leBytes 8 Config.serialNumber.toNat))

/-- WIN_ADDR (R361): a write of the window's word address, or a read of it. -/
def execWinAddr (write : Option (BitVec 16)) (pec : Option Bool) (s : State) : Res :=
  done s (match write with
    | some v => s.tgtWrite pec (fun s => s.modTgt (fun t => { t with win := v.toNat }))
    | none => s.tgtRead (leBytes 2 s.bus.tgt.win))

/-- The offset of the window register. -/
def State.winOfs (s : State) : Nat := 4 * s.bus.tgt.win

/-- The boot has not ended (R511). -/
def State.booting (s : State) : Bool := s.pwr.phase == .held || s.pwr.phase == .boot

/-- What a read through the window returns, with its effects (R362, R511): 0 from the MSI-X table; before step 7 of the boot 0 but for
GLB_ID and GLB_STAT. -/
def State.winRead (s : State) : Word × State :=
  let o := s.winOfs
  if (instAt o 0x2D000 4 128).isSome || (s.booting && o != GLB_ID && o != GLB_STAT) then (0, s) else s.regRead o

/-- A read of one half (R362). With WinRd = 0 it is refused; what the bus then carries the spec does not say: a free value. -/
def State.winHalf (s : State) (hi : Bool) : State :=
  s.tgtServe (fun s =>
    if !s.on TW_TGT_CFG_WinRd then
      let (v, s) := (s.cml 6).draw 16
      s.emit (.targetData (leBytes 2 v))
    else
      let (w, s) := s.winRead
      s.emit (.targetData (leBytes 2 (if hi then w.toNat / 65536 else w.toNat % 65536))))

/-- WIN_LO_READ (R362). -/
def execWinLoRead (s : State) : Res := done s (s.winHalf false)
/-- WIN_HI_READ (R362). -/
def execWinHiRead (s : State) : Res := done s (s.winHalf true)

/-- A window write is refused (R362, R511). -/
def State.winRefuses (s : State) : Bool :=
  !s.on TW_TGT_CFG_WinWr || !s.on TW_TGT_CFG_WinRd || decide (0x38000 ≤ s.winOfs) || (instAt s.winOfs 0x2D000 4 128).isSome || s.booting

/-- WIN_LO_WRITE (R362): stages the low half. -/
def execWinLoWrite (value : BitVec 16) (pec : Option Bool) (s : State) : Res :=
  done s (s.tgtWrite pec (fun s => if s.winRefuses then s.cml 6 else s.modTgt (fun t => { t with staged := some value.toNat })))

/-- WIN_HI_WRITE (R362): the 32-bit write with the staged low half. -/
def execWinHiWrite (value : BitVec 16) (pec : Option Bool) (s : State) : Res :=
  done s (s.tgtWrite pec (fun s =>
    match s.bus.tgt.staged with
    | some lo =>
      if s.winRefuses then s.cml 6
      else (s.modTgt (fun t => { t with staged := none })).regWrite s.winOfs (65536 * value.toNat + lo) true
    | none => s.cml 6))

/-- TW0_UNSUPPORTED_COMMAND (R363). -/
def execTw0UnsupportedCommand (read : Bool) (count : Fin 256) (s : State) : Res :=
  done s (s.tgtServe (fun s => (s.cml 7).when read (fun s => s.emit (.targetData (List.replicate count.val 0xFF)))))

/-- TW0_ARA_RESPONSE (R363): the device answers with its own address while it drives ALERT_N, and releases it when it wins. -/
def execTw0AraResponse (won : Bool) (s : State) : Res :=
  done s (if s.bus.tgt.alertLow then
      let s := s.emit (.targetData (leBytes 1 (2 * s.rd TW_TGT_STAT_Addr)))
      s.when won (fun s => s.modTgt (fun t => { t with alertLow := false }))
    else s)

end Sys2Proof.Machine
end

