-- ==== Sys2Proof/Machine/Boundary.lean ====
section
/-!
DEFINITION. The first frame boundary (R478 step 8, R479) and every later one (R45, and what each chapter does in slot 0).
-/
namespace Sys2Proof.Machine

/-! ### FRAME_BOUNDARY (R45) -/

/-- R45 step 6: a table that waits takes effect with its snapshot, and with it, for a configuration set of the device's own update,
the settings that act at once (R456). -/
def State.tableApply (s : State) : State :=
  match s.frm.compiled, s.snap with
  | some tbl, some snap =>
    if !s.on FRM_STAT_Pending then s
    else
      let own := s.frm.own
      let live := if own then liveOf (s.frm.load.getD []) else []
      let s := forEach live s (fun s e => s.regWrite e.1 e.2.toNat false)
      let s := s.takeEffect tbl snap (!s.sense.applied)
      if own then (s.modFrm (fun f => { f with own := false, load := none })).cfgSwitched true else s
  | _, _ => s

/-- Slots of the core lanes that the fixed slots of R44 take in a frame: boundary, stages, the shelf loops that are due, seal. -/
def State.coreBooked (s : State) (lane : Nat) : Nat :=
  let loops := (List.range 8).filter (fun i =>
    let m := 8 * lane + i
    let p := max 1 (s.rd (SL_CFG_Period m))
    s.on (SL_CTL_En m) && (s.frame + p - s.loopPhase m % p) % p == 0)
  9 + loops.length

/-- Slots of a frame that runs of jobs on a lane cover: a run may have begun in an earlier frame. -/
def Job.slotsIn (j : Job) (f : Nat) : Nat :=
  (List.range 40).countP (fun x =>
    let p := 40 * max 1 j.period
    decide ((40 * f + x + p - (40 * j.phase + j.slot) % p) % p < j.len))

/-- Slots of a frame that a reservation covers. -/
def Portion.slotsIn (q : Portion) (f : Nat) : Nat := min (q.slot + q.len) (40 * f + 40) - max q.slot (40 * f)

/-- FRM_LANEk_USE in the current frame: units of the counted lanes in slots, 12 DMA units or 3 messages each, rounded up (R42, log
entry 78). -/
def State.laneUse (s : State) (k : Nat) : State :=
  let f := s.frame
  let per := if k = 20 then 12 else 3
  let units (n : Nat) : Nat := (n + per - 1) / per
  let booked :=
    if k < 2 then s.coreBooked k
    else if 20 ≤ k then units (s.unitsBooked k f)
    else (s.frm.jobs.filter (fun j => j.lane == k)).foldl (fun a j => a + j.slotsIn f) 0
  let held :=
    if 20 ≤ k then units (s.unitsReserved k f)
    else (s.plans.filter (fun q => q.lane == k)).foldl (fun a q => a + q.slotsIn f) 0
  (s.wr (FRM_LANE_USE_Booked k) (min 255 booked)).wr (FRM_LANE_USE_Reserved k) (min 255 held)

/-- Steps 1 to 7 of R45, with what slot 0 computes from the sealed telemetry (R328-R337) and what the blocks do at the boundary. The
actions of the management cores wait for the end of their restart; converters, tiles, pulse generators, telemetry sealing and
e-fuse rules run on (R457, log entry 79). -/
def State.boundary (s : State) (b : BoundaryIn) : State :=
  let f := s.frame
  let stamp := s.frame32
  let old := s.regs
  let s := s.autoAck
  let s := s.setFrame (f + 1)
  -- 1: telemetry; the cache, the derived points and the snapshots follow from it
  let s := forN 24 (s.sealTelemetry stamp) State.ltSeal
  let s := (s.takeArrivals).stage (fun s => (s.deriveAll).staleCheck)
  let s := (s.dropRecs).stage State.snapCopy
  -- 2 to 5
  let s := s.stage (fun s => ((s.overruns f).misses f).aborts)
  let s := (s.blockResets).stage State.disableSweep
  let s := s.busDisables
  -- 6 and 7
  let s := (s.stage State.tableApply).releaseFrames
  let s := (s.pgBoundary).efBoundary b.gateGood.toNat
  let s := forN 24 s (fun s n => s.ltBoundary n (s.ltChanged old n))
  let s := forN 16 s State.slBoundary
  let s := ((s.tmrBoundary).feedBoundary).capBoundary
  let s := forN 4 s State.capFrame
  let s := ((s.busBoundary).dirBoundary).stage (fun s => s.redBoundary b.mstLow)
  let s := (s.linkBoundary).stage State.updBoundary
  let s := (s.sramInject).hifBoundary
  let s := (s.timingBoundary b.phaseErr.toNat b.trim.toNat).ownCompile
  let s := s.wr CAP_STAT_ThrIn (b.thrIn.toNat ||| s.thrDrive)
  forN 23 s State.laneUse

/-- A boundary of a running device: a reset that is due takes effect here (R476, R482), else the frame begins. FRAME_CNT reads the new
frame's number while the actions of slot 0 run and after them: nothing else moves it (R45, R70). -/
def State.nextFrame (s : State) (b : BoundaryIn) : State :=
  if s.pwr.phase != .running then s
  else match s.resetDue with
    | some c => s.logicReset c none
    | none => (s.boundary b).setFrame (s.frame + 1)

/-- FRAME_BOUNDARY (R45). -/
def execFrameBoundary (inp : BoundaryIn) (s : State) : Res := done s (s.nextFrame inp)

/-! ### FIRST_FRAME (R478 step 8) -/

/-- The first apply (R478): the settings of the configuration set that act at once, its table and its shadowed settings. -/
def State.firstApply (s : State) : State :=
  let snap := s.shadow
  let live := s.pwr.live.filter (fun e => match regAt e.1 with | some (r, _, _) => r.rwl == 0 | none => false)
  let s := forEach live s (fun s e => s.regWrite e.1 e.2.toNat false)
  (s.takeEffect s.pwr.table snap true).wrB GLB_SHADOW_Dirty false

/-- Standalone start (R34): the start script's e-fuse channels, and its on request to the sequencer. -/
def State.runScript (s : State) : State :=
  if s.rd GLB_STAT_StartMode != 1 then s
  else
    let s := s.wrB GLB_STAT_Standalone true
    let s := forEach (bitsOf 16 s.pwr.script.efOn) s (fun s e => s.efSetOn e true false)
    match s.pwr.script.up with
    | some m => s.seqTake (.on m)
    | none => s

/-- Frame 0 begins (R478, R479, R482): with a configuration set its apply and its start script; the e-fuse rules run in its slot 0 as in
that of every frame (R246, R250). -/
def State.firstFrame (s : State) (us gateGood : Nat) : State :=
  if s.pwr.phase != .booted then s
  else
    let s := ((s.wrB GLB_STAT_Running true).wrB FRM_STAT_Running true).setFrame 0
    let s := (s.wr PWR_BOOT_TIME_Us us).modPwr (fun p => { p with phase := .running })
    let s := s.wrB FRM_STAT_TimingMaster (s.rd TL_CFG_SetSize ≤ 1)
    let valid := s.on GLB_STAT_CfgValid
    let s := if valid then s.firstApply.runScript.efBoundary gateGood else s.roleAlone
    let s := s.when (valid && s.pwr.vio / 4 % 4 != 3) State.raiseVio
    let s := s.modPwr (fun p => { p with live := [], table := {}, script := {} })
    forN 23 s State.laneUse

/-- FIRST_FRAME (R478). -/
def execFirstFrame (us : BitVec 20) (gateGood : BitVec 16) (s : State) : Res := done s (s.firstFrame us.toNat gateGood.toNat)

end Sys2Proof.Machine
end

