-- ==== Sys2Proof/Machine/Dispatch.lean ====
section
/-!
DEFINITION. One arm per command of the opcode table: a direct call of the command's meaning.
-/
namespace Sys2Proof.Machine

def exec (i : Instr) (s : State) : Host.Outcome State Fault Refusal :=
  match i with
  | .frameBoundary inp => Sys2Proof.Machine.execFrameBoundary inp s
  | .rateLimitToken c => Sys2Proof.Machine.execRateLimitToken c s
  | .feedEstimatorStage => Sys2Proof.Machine.execFeedEstimatorStage s
  | .energyPredictor => Sys2Proof.Machine.execEnergyPredictor s
  | .feedPairReturn g p => Sys2Proof.Machine.execFeedPairReturn g p s
  | .feedGroupReturn g => Sys2Proof.Machine.execFeedGroupReturn g s
  | .pertToggle g => Sys2Proof.Machine.execPertToggle g s
  | .holdUpStage => Sys2Proof.Machine.execHoldUpStage s
  | .huReturnNormal => Sys2Proof.Machine.execHuReturnNormal s
  | .huShutLong => Sys2Proof.Machine.execHuShutLong s
  | .cappingStage => Sys2Proof.Machine.execCappingStage s
  | .wrongSideClear g => Sys2Proof.Machine.execWrongSideClear g s
  | .shelfLoopRun m => Sys2Proof.Machine.execShelfLoopRun m s
  | .slInputLost m => Sys2Proof.Machine.execSlInputLost m s
  | .slMemberLost m k => Sys2Proof.Machine.execSlMemberLost m k s
  | .sequencerStep lineLow => Sys2Proof.Machine.execSequencerStep lineLow s
  | .railOndelayExpiry r => Sys2Proof.Machine.execRailOndelayExpiry r s
  | .railOffdelayExpiry r => Sys2Proof.Machine.execRailOffdelayExpiry r s
  | .railRampTimeout r => Sys2Proof.Machine.execRailRampTimeout r s
  | .railFallTimeout r => Sys2Proof.Machine.execRailFallTimeout r s
  | .railDropout r => Sys2Proof.Machine.execRailDropout r s
  | .restartDelayExpiry => Sys2Proof.Machine.execRestartDelayExpiry s
  | .seqFltIn => Sys2Proof.Machine.execSeqFltIn s
  | .seqFltRelease => Sys2Proof.Machine.execSeqFltRelease s
  | .seqFltLineHigh => Sys2Proof.Machine.execSeqFltLineHigh s
  | .admissionStage => Sys2Proof.Machine.execAdmissionStage s
  | .completionSeal => Sys2Proof.Machine.execCompletionSeal s
  | .heartbeatBuild => Sys2Proof.Machine.execHeartbeatBuild s
  | .mirrorSend => Sys2Proof.Machine.execMirrorSend s
  | .onyxRecordBuild => Sys2Proof.Machine.execOnyxRecordBuild s
  | .markRecord => Sys2Proof.Machine.execMarkRecord s
  | .onyxCommit => Sys2Proof.Machine.execOnyxCommit s
  | .archiveProgram readBackOk => Sys2Proof.Machine.execArchiveProgram readBackOk s
  | .archiveEraseDone ok => Sys2Proof.Machine.execArchiveEraseDone ok s
  | .nmiService secondError => Sys2Proof.Machine.execNmiService secondError s
  | .snapshotStreamAssembly => Sys2Proof.Machine.execSnapshotStreamAssembly s
  | .streamRecordWrite k => Sys2Proof.Machine.execStreamRecordWrite k s
  | .captureTrigger j cycle => Sys2Proof.Machine.execCaptureTrigger j cycle s
  | .captureDrainDone j => Sys2Proof.Machine.execCaptureDrainDone j s
  | .fcCodeReady k cycle code par => Sys2Proof.Machine.execFcCodeReady k cycle code par s
  | .mcConversionDone idx use src code par timedOut => Sys2Proof.Machine.execMcConversionDone idx use src code par timedOut s
  | .comparatorEvent n high asserted => Sys2Proof.Machine.execComparatorEvent n high asserted s
  | .blankingEnd n => Sys2Proof.Machine.execBlankingEnd n s
  | .swapTest n highRaw lowRaw => Sys2Proof.Machine.execSwapTest n highRaw lowRaw s
  | .tieTest n lowOk highOk => Sys2Proof.Machine.execTieTest n lowOk highOk s
  | .cmpUntested n => Sys2Proof.Machine.execCmpUntested n s
  | .periodStart n j => Sys2Proof.Machine.execPeriodStart n j s
  | .ltSample n upd x => Sys2Proof.Machine.execLtSample n upd x s
  | .ltRetryExpiry n => Sys2Proof.Machine.execLtRetryExpiry n s
  | .ltIlimLong n => Sys2Proof.Machine.execLtIlimLong n s
  | .ltRetryBudgetRestore n => Sys2Proof.Machine.execLtRetryBudgetRestore n s
  | .efFastTrip e => Sys2Proof.Machine.execEfFastTrip e s
  | .efInsertComplete e => Sys2Proof.Machine.execEfInsertComplete e s
  | .efInrushTimeout e => Sys2Proof.Machine.execEfInrushTimeout e s
  | .efRetryExpiry e => Sys2Proof.Machine.execEfRetryExpiry e s
  | .efRetryBudgetRestore e => Sys2Proof.Machine.execEfRetryBudgetRestore e s
  | .efTdMeasure e tj => Sys2Proof.Machine.execEfTdMeasure e tj s
  | .efLimiterChange e limiting => Sys2Proof.Machine.execEfLimiterChange e limiting s
  | .vhvUvloFall => Sys2Proof.Machine.execVhvUvloFall s
  | .vhvUvloRise => Sys2Proof.Machine.execVhvUvloRise s
  | .vsysPowerOn => Sys2Proof.Machine.execVsysPowerOn s
  | .vsysBrownOut => Sys2Proof.Machine.execVsysBrownOut s
  | .coreUv => Sys2Proof.Machine.execCoreUv s
  | .vioGoodRise n => Sys2Proof.Machine.execVioGoodRise n s
  | .vioGoodFall n => Sys2Proof.Machine.execVioGoodFall n s
  | .resetNAssert => Sys2Proof.Machine.execResetNAssert s
  | .strobeLoss => Sys2Proof.Machine.execStrobeLoss s
  | .pinGuardianAction => Sys2Proof.Machine.execPinGuardianAction s
  | .pllLockLoss => Sys2Proof.Machine.execPllLockLoss s
  | .oscRefCheck present err => Sys2Proof.Machine.execOscRefCheck present err s
  | .oscGuardianMismatch => Sys2Proof.Machine.execOscGuardianMismatch s
  | .coreRegError limit window => Sys2Proof.Machine.execCoreRegError limit window s
  | .vhvWarn v => Sys2Proof.Machine.execVhvWarn v s
  | .logicResetRelease straps boot => Sys2Proof.Machine.execLogicResetRelease straps boot s
  | .firstFrame us gateGood => Sys2Proof.Machine.execFirstFrame us gateGood s
  | .coreRestart => Sys2Proof.Machine.execCoreRestart s
  | .coreRestartEnd settings => Sys2Proof.Machine.execCoreRestartEnd settings s
  | .syncLockDeclared => Sys2Proof.Machine.execSyncLockDeclared s
  | .syncLost => Sys2Proof.Machine.execSyncLost s
  | .frameMarker port src setFrame => Sys2Proof.Machine.execFrameMarker port src setFrame s
  | .markerLoss port => Sys2Proof.Machine.execMarkerLoss port s
  | .timingMasterTakeover => Sys2Proof.Machine.execTimingMasterTakeover s
  | .nop tag => Sys2Proof.Machine.execNop tag s
  | .fence tag => Sys2Proof.Machine.execFence tag s
  | .abort tag => Sys2Proof.Machine.execAbort tag s
  | .pointRead tag => Sys2Proof.Machine.execPointRead tag s
  | .pointWrite tag => Sys2Proof.Machine.execPointWrite tag s
  | .setpointSlew tag => Sys2Proof.Machine.execSetpointSlew tag s
  | .loopMode tag => Sys2Proof.Machine.execLoopMode tag s
  | .efuseOff tag => Sys2Proof.Machine.execEfuseOff tag s
  | .efuseOn tag => Sys2Proof.Machine.execEfuseOn tag s
  | .efuseClear tag => Sys2Proof.Machine.execEfuseClear tag s
  | .efuseRead tag => Sys2Proof.Machine.execEfuseRead tag s
  | .seqPowerUp tag => Sys2Proof.Machine.execSeqPowerUp tag s
  | .seqPowerDown tag => Sys2Proof.Machine.execSeqPowerDown tag s
  | .seqRailOn tag => Sys2Proof.Machine.execSeqRailOn tag s
  | .seqRailOff tag => Sys2Proof.Machine.execSeqRailOff tag s
  | .seqClear tag => Sys2Proof.Machine.execSeqClear tag s
  | .seqRead tag => Sys2Proof.Machine.execSeqRead tag s
  | .capSet tag => Sys2Proof.Machine.execCapSet tag s
  | .twXfer tag => Sys2Proof.Machine.execTwXfer tag s
  | .canXfer tag => Sys2Proof.Machine.execCanXfer tag s
  | .onyxQuery tag => Sys2Proof.Machine.execOnyxQuery tag s
  | .onyxClear tag token => Sys2Proof.Machine.execOnyxClear tag token s
  | .timeAnchor tag => Sys2Proof.Machine.execTimeAnchor tag s
  | .updateStageManifest tag manifest => Sys2Proof.Machine.execUpdateStageManifest tag manifest s
  | .updateStageBlocks tag blocks => Sys2Proof.Machine.execUpdateStageBlocks tag blocks s
  | .updateActivate tag => Sys2Proof.Machine.execUpdateActivate tag s
  | .updateConfirm tag => Sys2Proof.Machine.execUpdateConfirm tag s
  | .sqTailDoorbell n value => Sys2Proof.Machine.execSqTailDoorbell n value s
  | .cqHeadDoorbell ring value => Sys2Proof.Machine.execCqHeadDoorbell ring value s
  | .descriptorFetch n data => Sys2Proof.Machine.execDescriptorFetch n data s
  | .completionPost n => Sys2Proof.Machine.execCompletionPost n s
  | .eventPost => Sys2Proof.Machine.execEventPost s
  | .msixMessage v => Sys2Proof.Machine.execMsixMessage v s
  | .pairAttach n resume => Sys2Proof.Machine.execPairAttach n resume s
  | .pairDetach n => Sys2Proof.Machine.execPairDetach n s
  | .eqCtlWrite value => Sys2Proof.Machine.execEqCtlWrite value s
  | .tsCtlWrite k value => Sys2Proof.Machine.execTsCtlWrite k value s
  | .msixMapWrite isMod idx value => Sys2Proof.Machine.execMsixMapWrite isMod idx value s
  | .pcieReset cause => Sys2Proof.Machine.execPcieReset cause s
  | .pcieLinkUp rate x2 => Sys2Proof.Machine.execPcieLinkUp rate x2 s
  | .aerErrorLogged uncorrectable statusBit => Sys2Proof.Machine.execAerErrorLogged uncorrectable statusBit s
  | .directoryResolve tag reply => Sys2Proof.Machine.execDirectoryResolve tag reply s
  | .dirFlush => Sys2Proof.Machine.execDirFlush s
  | .pointStale point => Sys2Proof.Machine.execPointStale point s
  | .capArm j => Sys2Proof.Machine.execCapArm j s
  | .capSwTrig j => Sys2Proof.Machine.execCapSwTrig j s
  | .twTransactionStart p use busBusy => Sys2Proof.Machine.execTwTransactionStart p use busBusy s
  | .twTransactionEnd p rx nack pecOk => Sys2Proof.Machine.execTwTransactionEnd p rx nack pecOk s
  | .twStretchTimeout p => Sys2Proof.Machine.execTwStretchTimeout p s
  | .twArbLost p ownAddress => Sys2Proof.Machine.execTwArbLost p ownAddress s
  | .twBusError p asTarget => Sys2Proof.Machine.execTwBusError p asTarget s
  | .twBusClear p result => Sys2Proof.Machine.execTwBusClear p result s
  | .twSclStuck p => Sys2Proof.Machine.execTwSclStuck p s
  | .twSclRecover p sdaLow => Sys2Proof.Machine.execTwSclRecover p sdaLow s
  | .twAlertInput p low => Sys2Proof.Machine.execTwAlertInput p low s
  | .twAraRead p rx pecOk => Sys2Proof.Machine.execTwAraRead p rx pecOk s
  | .twPortEnable p en => Sys2Proof.Machine.execTwPortEnable p en s
  | .twPortClear p => Sys2Proof.Machine.execTwPortClear p s
  | .twAlertLogRead p => Sys2Proof.Machine.execTwAlertLogRead p s
  | .tw0TargetAddressed => Sys2Proof.Machine.execTw0TargetAddressed s
  | .clearFaults pec => Sys2Proof.Machine.execClearFaults pec s
  | .capability => Sys2Proof.Machine.execCapability s
  | .statusByte => Sys2Proof.Machine.execStatusByte s
  | .statusWord => Sys2Proof.Machine.execStatusWord s
  | .statusCml => Sys2Proof.Machine.execStatusCml s
  | .pmbusRevision => Sys2Proof.Machine.execPmbusRevision s
  | .mfrId => Sys2Proof.Machine.execMfrId s
  | .mfrModel => Sys2Proof.Machine.execMfrModel s
  | .mfrRevision => Sys2Proof.Machine.execMfrRevision s
  | .mfrSerial => Sys2Proof.Machine.execMfrSerial s
  | .winAddr write pec => Sys2Proof.Machine.execWinAddr write pec s
  | .winLoRead => Sys2Proof.Machine.execWinLoRead s
  | .winHiRead => Sys2Proof.Machine.execWinHiRead s
  | .winLoWrite value pec => Sys2Proof.Machine.execWinLoWrite value pec s
  | .winHiWrite value pec => Sys2Proof.Machine.execWinHiWrite value pec s
  | .tw0UnsupportedCommand read count => Sys2Proof.Machine.execTw0UnsupportedCommand read count s
  | .tw0AraResponse won => Sys2Proof.Machine.execTw0AraResponse won s
  | .canFrameStart c use idle => Sys2Proof.Machine.execCanFrameStart c use idle s
  | .canFrameDone c attempts outcome tec rxe => Sys2Proof.Machine.execCanFrameDone c attempts outcome tec rxe s
  | .canReceive c ide id fd dlc data => Sys2Proof.Machine.execCanReceive c ide id fd dlc data s
  | .canErrorStateChange c st tec rxe => Sys2Proof.Machine.execCanErrorStateChange c st tec rxe s
  | .canBusOffRecovery c => Sys2Proof.Machine.execCanBusOffRecovery c s
  | .canRecover c => Sys2Proof.Machine.execCanRecover c s
  | .canTxDominant c => Sys2Proof.Machine.execCanTxDominant c s
  | .canXcvrFault c thermal => Sys2Proof.Machine.execCanXcvrFault c thermal s
  | .tlPortTrained p pos size reported lat => Sys2Proof.Machine.execTlPortTrained p pos size reported lat s
  | .tlPortDown p => Sys2Proof.Machine.execTlPortDown p s
  | .tlTransitForward p body => Sys2Proof.Machine.execTlTransitForward p body s
  | .tlLivenessExpiry q => Sys2Proof.Machine.execTlLivenessExpiry q s
  | .helloPeriodic => Sys2Proof.Machine.execHelloPeriodic s
  | .hello h payload => Sys2Proof.Machine.execHello h payload s
  | .heartbeat h payload => Sys2Proof.Machine.execHeartbeat h payload s
  | .surrender h payload => Sys2Proof.Machine.execSurrender h payload s
  | .throttle h payload => Sys2Proof.Machine.execThrottle h payload s
  | .mirror h payload => Sys2Proof.Machine.execMirror h payload s
  | .take h entries => Sys2Proof.Machine.execTake h entries s
  | .handback h => Sys2Proof.Machine.execHandback h s
  | .feedReport h groups => Sys2Proof.Machine.execFeedReport h groups s
  | .capAlloc h thr pol sg => Sys2Proof.Machine.execCapAlloc h thr pol sg s
  | .wsShed h groups => Sys2Proof.Machine.execWsShed h groups s
  | .gasp h => Sys2Proof.Machine.execGasp h s
  | .actTable h entries => Sys2Proof.Machine.execActTable h entries s
  | .subscribe h payload => Sys2Proof.Machine.execSubscribe h payload s
  | .subNack h payload => Sys2Proof.Machine.execSubNack h payload s
  | .fwd h payload => Sys2Proof.Machine.execFwd h payload s
  | .pwrite h payload => Sys2Proof.Machine.execPwrite h payload s
  | .pwriteAck h payload => Sys2Proof.Machine.execPwriteAck h payload s
  | .pwriteTimeout tag => Sys2Proof.Machine.execPwriteTimeout tag s
  | .pairStartRole => Sys2Proof.Machine.execPairStartRole s
  | .secondaryStartTimeout => Sys2Proof.Machine.execSecondaryStartTimeout s
  | .hbToggleMissed => Sys2Proof.Machine.execHbToggleMissed s
  | .peerFailed => Sys2Proof.Machine.execPeerFailed s
  | .hbPathSilent => Sys2Proof.Machine.execHbPathSilent s
  | .roleTake cq => Sys2Proof.Machine.execRoleTake cq s
  | .mstHeld => Sys2Proof.Machine.execMstHeld s
  | .activeSurrender => Sys2Proof.Machine.execActiveSurrender s
  | .redSurrenderWrite => Sys2Proof.Machine.execRedSurrenderWrite s
  | .redResync => Sys2Proof.Machine.execRedResync s
  | .handbackSend => Sys2Proof.Machine.execHandbackSend s
  | .faultChipReset => Sys2Proof.Machine.execFaultChipReset s
  | .faultAck g mask => Sys2Proof.Machine.execFaultAck g mask s
  | .firstErrorRelease => Sys2Proof.Machine.execFirstErrorRelease s
  | .injectCheckBits => Sys2Proof.Machine.execInjectCheckBits s
  | .injectForce => Sys2Proof.Machine.execInjectForce s
  | .compile => Sys2Proof.Machine.execCompile s
  | .compileFinish placement vioLow => Sys2Proof.Machine.execCompileFinish placement vioLow s
  | .apply => Sys2Proof.Machine.execApply s
  | .abandon => Sys2Proof.Machine.execAbandon s
  | .pgEnableWrite n en => Sys2Proof.Machine.execPgEnableWrite n en s
  | .pgIdleWrite n idle => Sys2Proof.Machine.execPgIdleWrite n idle s
  | .immDis n => Sys2Proof.Machine.execImmDis n s
  | .immDisAll g => Sys2Proof.Machine.execImmDisAll g s
  | .ofsLoad g => Sys2Proof.Machine.execOfsLoad g s
  | .pgDutyWrite n edge value tick => Sys2Proof.Machine.execPgDutyWrite n edge value tick s
  | .parOffClear n => Sys2Proof.Machine.execParOffClear n s
  | .tripLatchClear g mask => Sys2Proof.Machine.execTripLatchClear g mask s
  | .cmpThrWrite n hi lo => Sys2Proof.Machine.execCmpThrWrite n hi lo s
  | .cmpLatchClear w mask => Sys2Proof.Machine.execCmpLatchClear w mask s
  | .peakClr k => Sys2Proof.Machine.execPeakClr k s
  | .ltEnWrite n en => Sys2Proof.Machine.execLtEnWrite n en s
  | .ltClr n => Sys2Proof.Machine.execLtClr n s
  | .slEnWrite m en => Sys2Proof.Machine.execSlEnWrite m en s
  | .slClr m => Sys2Proof.Machine.execSlClr m s
  | .rcClr m => Sys2Proof.Machine.execRcClr m s
  | .rcDataWrite m value => Sys2Proof.Machine.execRcDataWrite m value s
  | .slTargetWrite m value => Sys2Proof.Machine.execSlTargetWrite m value s
  | .socWrite m value => Sys2Proof.Machine.execSocWrite m value s
  | .estRestart g => Sys2Proof.Machine.execEstRestart g s
  | .capEnWrite en => Sys2Proof.Machine.execCapEnWrite en s
  | .huEnWrite en => Sys2Proof.Machine.execHuEnWrite en s
  | .huRestartWrite => Sys2Proof.Machine.execHuRestartWrite s
  | .efEnWrite e en => Sys2Proof.Machine.execEfEnWrite e en s
  | .efOnWrite e on => Sys2Proof.Machine.execEfOnWrite e on s
  | .efClrWrite e => Sys2Proof.Machine.execEfClrWrite e s
  | .seqEnWrite en => Sys2Proof.Machine.execSeqEnWrite en s
  | .seqRailClr r => Sys2Proof.Machine.execSeqRailClr r s
  | .tmrStart t clk => Sys2Proof.Machine.execTmrStart t clk s
  | .tmrStop t clk => Sys2Proof.Machine.execTmrStop t clk s
  | .tmrSyncStart t => Sys2Proof.Machine.execTmrSyncStart t s
  | .tmrCmpWrite t clk value => Sys2Proof.Machine.execTmrCmpWrite t clk value s
  | .tmrMatch t clk => Sys2Proof.Machine.execTmrMatch t clk s
  | .rbtRoundGrant mc owner work => Sys2Proof.Machine.execRbtRoundGrant mc owner work s
  | .updBlockProgram => Sys2Proof.Machine.execUpdBlockProgram s
  | .updPartVerify k settings => Sys2Proof.Machine.execUpdPartVerify k settings s
  | .updPartReady k ok => Sys2Proof.Machine.execUpdPartReady k ok s
  | .updPrepTimeout => Sys2Proof.Machine.execUpdPrepTimeout s
  | .updSwitchTimeout => Sys2Proof.Machine.execUpdSwitchTimeout s
  | .updConfirmExpired => Sys2Proof.Machine.execUpdConfirmExpired s
  | .updMan h payload => Sys2Proof.Machine.execUpdMan h payload s
  | .updData h payload => Sys2Proof.Machine.execUpdData h payload s
  | .updAck h payload => Sys2Proof.Machine.execUpdAck h payload s
  | .updPrepare h payload => Sys2Proof.Machine.execUpdPrepare h payload s
  | .updReady h payload => Sys2Proof.Machine.execUpdReady h payload s
  | .updCommit h payload => Sys2Proof.Machine.execUpdCommit h payload s
  | .updDone h payload => Sys2Proof.Machine.execUpdDone h payload s
  | .updRevert h payload => Sys2Proof.Machine.execUpdRevert h payload s
  | .updConfirm h payload => Sys2Proof.Machine.execUpdConfirm h payload s
  | .provision coSign key => Sys2Proof.Machine.execProvision coSign key s
  | .lockOp token => Sys2Proof.Machine.execLockOp token s
  | .updAbandon => Sys2Proof.Machine.execUpdAbandon s
  | .softwareReset => Sys2Proof.Machine.execSoftwareReset s
  | .dbgLockWrite lock => Sys2Proof.Machine.execDbgLockWrite lock s
  | .dbgCtlWrite latTest => Sys2Proof.Machine.execDbgCtlWrite latTest s
  | .latMaxRead n => Sys2Proof.Machine.execLatMaxRead n s
  | .glbScratchWrite value => Sys2Proof.Machine.execGlbScratchWrite value s
  | .registerWrite offset value byteEnables => Sys2Proof.Machine.execRegisterWrite offset value byteEnables s
  | .syncInReturn => Sys2Proof.Machine.execSyncInReturn s
  | .hbToggleReturn => Sys2Proof.Machine.execHbToggleReturn s
  | .linkMessageDropped p unknownType => Sys2Proof.Machine.execLinkMessageDropped p unknownType s
  | .pulseEdge n rise readH readL => Sys2Proof.Machine.execPulseEdge n rise readH readL s
  | .busMasterEnableWrite => Sys2Proof.Machine.execBusMasterEnableWrite s

end Sys2Proof.Machine
end

