-- ==== Sys2Proof/Safety.lean ====
section
/-!
DEFINITION. What the statements speak of: the form of an answer, fields that have no bit in common, what a command leaves as it was, and
the invariant of the machine.
-/
namespace Sys2Proof.Machine

/-- The answer is a next state, and the property holds of it. -/
def Answers (r : Res) (P : State → Prop) : Prop := ∃ t, r = .next t ∧ P t

/-! ### Fields -/

/-- A field lies within its word. -/
def Fld.ok (f : Fld) : Bool := decide (f.lo ≤ f.hi) && decide (f.hi < 32)

/-- Two fields have no bit in common. -/
def Fld.apart (f g : Fld) : Bool := f.off != g.off || decide (f.hi < g.lo) || decide (g.hi < f.lo)

/-- The number of values of a field. -/
def Fld.size (f : Fld) : Nat := 2 ^ (f.hi + 1 - f.lo)

/-- The fields that show what they are functions of (Flags.lean). -/
def statusFlds : List Fld := (State.status {}).map (fun e => e.1)

/-- A field that is no status field of Flags.lean. -/
def Fld.plain (f : Fld) : Bool := statusFlds.all f.apart

/-! ### What a command leaves as it was -/

/-- Every register field reads as before but for the listed fields and the status fields of Flags.lean. -/
def Keeps (s t : State) (fs : List Fld) : Prop := ∀ f : Fld, f.plain = true → fs.all f.apart = true → t.rd f = s.rd f

/-- The `n` words of a register block, as fields. -/
def regsFrom (base n : Nat) : List Fld := (List.range n).map (fun k => ⟨base + 4 * k, 31, 0⟩)

/-- The parts of the state beside the registers; the two that a fault raise or a record request may reach inside the host interface and
the recorder stand apart: interrupts that wait, and record requests with their losses. -/
inductive Part where
  | shadow | snap | irq | rings | pnt | requests | records | flt | frm | sense | ef | lt | sl | seq | cap | bus | tl | red | fwu
  | timers | rbt | pwr | out | free
deriving DecidableEq, Repr

/-- A part is as before, in canonical form where it has one; the alert line and its new cause, which the end of every command forms,
apart. -/
def Part.same (p : Part) (s t : State) : Prop :=
  match p with
  | .shadow => t.shadow = s.shadow.norm
  | .snap => t.snap = s.snap
  | .irq => t.hif.vecs = s.hif.vecs ∧ t.hif.pba = s.hif.pba
  | .rings => t.hif = { s.hif with vecs := t.hif.vecs, pba := t.hif.pba }
  | .pnt => t.pnt = s.pnt
  | .requests => t.onx.fifo = s.onx.fifo ∧ t.onx.lostPend = s.onx.lostPend ∧ t.onx.lossSeen = s.onx.lossSeen
  | .records => t.onx = { s.onx with mram := canonList s.onx.mram, archive := canonList s.onx.archive, fifo := t.onx.fifo,
                                     lostPend := t.onx.lostPend, lossSeen := t.onx.lossSeen }
  | .flt => t.flt = { s.flt with alertNew := false }
  | .frm => t.frm = s.frm
  | .sense => t.sense = s.sense
  | .ef => t.ef = s.ef
  | .lt => t.lt = s.lt
  | .sl => t.sl = s.sl
  | .seq => t.seq = s.seq
  | .cap => t.cap = s.cap
  | .bus => t.bus.tw = s.bus.tw ∧ t.bus.can = s.bus.can ∧ t.bus.tgt.addressed = s.bus.tgt.addressed ∧ t.bus.tgt.win = s.bus.tgt.win ∧
      t.bus.tgt.staged = s.bus.tgt.staged
  | .tl => t.tl = s.tl
  | .red => t.red = s.red
  | .fwu => t.fwu = s.fwu
  | .timers => t.timers = s.timers
  | .rbt => t.rbt = s.rbt
  | .pwr => t.pwr = s.pwr
  | .out => t.out = s.out
  | .free => t.free = s.free

/-- Nothing changes but the listed fields and the listed parts. -/
def Frame (s t : State) (fs : List Fld) (ps : List Part) : Prop := Keeps s t fs ∧ ∀ p : Part, p ∉ ps → p.same s t

/-- Nothing changes but the listed fields and parts, and what a fault raise or a record request may reach: the fault collector with its
registers, the recorder's loss counter and requests, interrupts that wait or go out. -/
def FrameFault (s t : State) (fs : List Fld) (ps : List Part) : Prop :=
  (∀ f : Fld, f.plain = true → fs.all f.apart = true → (f.off < 0x5000 ∨ 0x6000 ≤ f.off) → f.off ≠ ONX_LOST_CNT → t.rd f = s.rd f) ∧
  ∀ p : Part, p ∉ ps → p ∉ [Part.irq, .requests, .flt, .out] → p.same s t

/-! ### What commands bring about -/

/-- The source is unacknowledged and shows the syndrome (R422). -/
def Raised (t : State) (src syn : Nat) : Prop := t.unacked src = true ∧ t.rd (FLT_SRC_CNT_Syn src) = syn % 2 ^ 16

/-- The command completes: its completion waits to be posted, it has left the table with its reservations, and its tag is Held (R301,
R304, R310). Check bits that an armed injection inverts are left open. -/
def Completes (s t : State) (c : Cmd) (st : Status) (result : Nat) : Prop :=
  (∃ inv, t.hif.comps = s.hif.comps ++ [{ pair := c.pair, sqSeq := c.sqSeq, tag := c.tag, gen := c.gen, status := st.code,
                                           result := result % 2 ^ 64, frame := s.frame32, noIrq := c.noIrq, dropped := c.dropped,
                                           inv := inv }]) ∧
  t.findCmd c.tag = none ∧ t.rd (HIF_TAG_State c.tag) = 2

/-- The command completes and has no other effect. -/
def CompletesAlone (s t : State) (c : Cmd) (st : Status) (result : Nat) : Prop :=
  Completes s t c st result ∧ Frame s t [HIF_TAG_State c.tag, FLT_INJ_Armed] [.rings, .flt]

/-- The event waits for the event ring, with the frame in which it arose (R315). -/
def Posts (s t : State) (e : Event) : Prop := t.hif.events = s.hif.events ++ [{ e with frame := s.frame32 }]

/-- The e-fuse channel has tripped with a cause and a syndrome (R254, R255): its gate is off, the trip is counted and raised, and the
channel waits for a retry or is latched off. -/
def Trips (s t : State) (e cause syn : Nat) : Prop :=
  t.efState e = (if s.rd (EF_RETRY_Mode e) = 2 ∨ (s.rd (EF_RETRY_Mode e) = 1 ∧ s.rd (EF_STAT_RetryLeft e) ≠ 0) then 6 else 7) ∧
  t.rd (EF_STAT_Cause e) = cause ∧ t.rd (EF_TRIP_CNT_Cnt e) = (s.rd (EF_TRIP_CNT_Cnt e) + 1) % 2 ^ 32 ∧
  (t.efc e).gate = false ∧ t.on (EF_STAT_Pg e) = false ∧ Raised t (127 + cause) syn ∧
  FrameFault s t [EF_STAT_State e, EF_STAT_Cause e, EF_STAT_GateGood e, EF_STAT_Limiting e, EF_STAT_Pg e, EF_TRIP_CNT_Cnt e,
    HIF_EQ_LOST_CNT_Cnt] [.ef, .rings]

/-- The sequencer runs with one rail in use, of kind None, which no other needs, with no request, no failure line and no adoption. -/
def SeqQuiet (s : State) (r : Nat) : Prop :=
  s.frm.coreRst = false ∧ s.sense.applied ∧ s.on SEQ_CTL_En ∧ s.seq.drive = 0 ∧ s.seq.extLow = false ∧ s.seq.extNew = false ∧
  s.seq.lineDown = false ∧ s.seq.adopt = 0 ∧ s.rails = [r] ∧ s.railKind r = 0 ∧ s.railPre r = [] ∧ (s.rail r).writeFail = none

/-- A TW_XFER whose START has been sent is on a port. -/
def XferOn (s : State) (p : Nat) (c : Cmd) : Prop :=
  ∃ r tag, (s.twp p).run = some r ∧ r.preset = none ∧ r.page = false ∧ r.orphan = false ∧ r.use = .cmd tag ∧
    s.findCmd tag.val = some c ∧ c.opcode = 0x20

/-- A CAN_XFER is in progress on a controller. -/
def CanXferOn (s : State) (k : Nat) (c : Cmd) : Prop :=
  ∃ r tag, (s.canc k).run = some r ∧ r.preset = none ∧ r.orphan = false ∧ r.use = .cmd tag ∧
    s.findCmd tag.val = some c ∧ c.opcode = 0x21

/-- The record that an accepted request becomes (R403, R408), with no injection armed. -/
def State.recOf (s : State) (r : RecReq) : Rec :=
  { code := r.code, source := r.source % 256, opms := s.opms, pwrcyc := s.rd TMR_PWRCYC_Cnt, seq := s.rd ONX_NEXT_SEQ_Seq,
    flags := recSeverity r.code + 4 * b2n s.afterGasp + 8 * b2n r.inj + 16 * b2n r.shelf,
    p0 := r.p0 % 2 ^ 32, p1 := r.p1 % 2 ^ 32, p2 := r.p2 % 2 ^ 32 }

/-- A reset of the logic die with a cause (R475, R477): held in reset, the cause shown, the reset counted; every other register of the
logic die at its reset value; queues, engines and commands in flight gone; flash and OTP kept. -/
def ResetTo (s t : State) (cause : Nat) : Prop :=
  t.pwr.phase = .held ∧ t.rd PWR_RST_CAUSE_Cause = cause ∧ t.rd PWR_RST_CNT_Cnt = (s.rd PWR_RST_CNT_Cnt + 1) % 2 ^ 32 ∧
  t.fwu = { nv := s.fwu.nv } ∧ t.hif = {} ∧ t.pnt = {} ∧ t.frm = {} ∧ t.sense = {} ∧ t.seq = {} ∧ t.cap = {} ∧ t.tl = {} ∧ t.red = {} ∧
  t.shadow = [] ∧ t.onx.staging = [] ∧ t.onx.fifo = [] ∧
  ∀ f : Fld, f.plain → f.off ∉ [PWR_RST_CAUSE, PWR_RST_CNT, EF_HELD, EF_VHV_LOSS_CNT] ++ (List.range 16).map EF_STAT →
    t.rd f = State.reset.rd f

/-- A link message passes the receiver's checks and continues its sender's sequence (R377, R379, R395). -/
def LinkTaken (s : State) (h : LinkHdr) : Prop :=
  s.portUp h.port ∧ h.src.val ≠ s.me ∧ s.on (TL_GEN_SEEN_Valid h.src) ∧ s.rd (TL_GEN_SEEN_Gen h.src) = h.gen.toNat ∧
  (h.bcast → ∀ n, assoc s.tl.rxBcast h.src = some n → seqAfter n h.seq.toNat) ∧
  (h.bcast = false → h.dest.val = s.me ∧
    (s.redState = 3 → h.src.val = s.peerPos → ∀ n, s.red.takeSeq = some n → (n + 1) % 2 ^ 32 = h.seq.toNat))

/-- The messages other than HELLO, with their contents. -/
def linkMessages (h : LinkHdr) (b : List Byte) (reps : List FeedRep) (m : BitVec 8) (pol : BitVec 24) (sg : BitVec 32)
    (gs : List (Fin 256)) (acts : List ActEntry) (es : List (Fin 4 × Fin 256 × BitVec 16)) : List Instr :=
  [.heartbeat h b, .surrender h b, .throttle h b, .mirror h b, .take h es, .handback h, .feedReport h reps, .capAlloc h m pol sg,
   .wsShed h gs, .gasp h, .actTable h acts, .subscribe h b, .subNack h b, .fwd h b, .pwrite h b, .pwriteAck h b, .updMan h b,
   .updData h b, .updAck h b, .updPrepare h b, .updReady h b, .updCommit h b, .updDone h b, .updRevert h b, .updConfirm h b]

/-! ### The invariant -/

/-- The registers, the shadows and the record stores are in canonical form, no new alert cause is left over, and TW0_ALERT_N is low only
while its drive is enabled. -/
def State.canonical (s : State) : Bool :=
  s.regs.wf && s.shadow.wf && rising s.onx.mram && rising s.onx.archive && !s.flt.alertNew &&
    (!s.bus.tgt.alertLow || s.on TW_TGT_CFG_AlertDrv)

/-- Every status field shows what it is a function of. -/
def State.shown (s : State) : Prop := ∀ e ∈ s.status, s.rd e.1 = e.2 % e.1.size

end Sys2Proof.Machine
end

