-- ==== Sys2Proof/Certificates/Slice0/Obligations.lean ====
section
/-!
DEFINITION. The statements for the provers.
-/
open Sys2Proof Sys2Proof.Machine

/-- With a command at the front of its queue, a step is that command executed on the state with the rest of the queue. -/
def Obligations.StepRunsTheFrontCommand : Prop :=
  ∀ (c : Instr) (rest : List Instr) (s : State), step { s with pending := c :: rest } = exec c { s with pending := rest }

/-- With an empty queue the block idles (log entry 1: the model's choice, not a rule of the spec). -/
def Obligations.EmptyQueueIdles : Prop := ∀ s : State, s.pending = [] → step s = .next s

/-- Every command answers a next state, and no effect of a command reaches the queue of waiting commands. -/
def Obligations.EveryCommandLeavesTheQueue : Prop := ∀ (i : Instr) (s : State), Answers (exec i s) fun t => t.pending = s.pending

/-- The state after reset is canonical, shows its status fields and has an empty queue. -/
def Obligations.ResetIsCanonical : Prop := State.reset.canonical = true ∧ State.reset.shown ∧ State.reset.pending = []

/-- Every step keeps registers, shadows and record stores in canonical form, and TW0_ALERT_N released while its drive is disabled. -/
def Obligations.StepKeepsTheCanonicalForm : Prop :=
  ∀ s t : State, s.canonical = true → step s = .next t → t.canonical = true

/-- After every step the status fields show what they are functions of: levels that the host reads never lag behind the state. -/
def Obligations.StepKeepsTheStatusShown : Prop := ∀ s t : State, s.shown → step s = .next t → t.shown

/-- COMPILE, COMPILE_FINISH, APPLY and ABANDON. A compile request takes a snapshot of every shadow, reads BUSY and clears Dirty, and has no
effect while a compile runs or an applied table waits. A compile that ends shows OK and keeps its table, or shows its first failure and
drops the snapshot. Apply makes a compiled table wait for its boundary, and has no effect without one. Abandon drops snapshot and table and
returns every shadow to the value in force. Beside the fields named nothing else changes. -/
def Obligations.CompileApplyAbandon : Prop := ∀ s : State,
  (s.on FRM_STAT_Compiling = false → s.on FRM_STAT_Pending = false →
    Answers (exec .compile s) fun t => t.snap = some s.shadow ∧ t.frm.compiled = none ∧ t.rd FRM_COMPILE_STAT_Result = 0xF ∧
      t.on FRM_STAT_Compiling ∧ t.on GLB_SHADOW_Snap ∧ t.on GLB_SHADOW_Dirty = false ∧ t.rd FRM_STAT_Running = s.rd FRM_STAT_Running ∧
      Frame s t [FRM_STAT_Compiling, GLB_SHADOW_Snap, GLB_SHADOW_Dirty, ⟨FRM_COMPILE_STAT, 31, 0⟩] [.snap, .frm]) ∧
  (s.on FRM_STAT_Compiling ∨ s.on FRM_STAT_Pending → Answers (exec .compile s) fun t => Frame s t [] []) ∧
  (∀ placement vioLow snap, s.on FRM_STAT_Compiling → s.frm.coreRst = false → s.snap = some snap → s.frm.own = false →
    firstBad (s.tabulate (s.trial snap) placement vioLow.toNat).bads = none →
    Answers (exec (.compileFinish placement vioLow) s) fun t => t.on FRM_STAT_Compiling = false ∧ t.rd FRM_COMPILE_STAT_Result = 0 ∧
      t.snap = some snap ∧ t.frm.compiled.isSome) ∧
  (∀ placement vioLow snap e, s.on FRM_STAT_Compiling → s.frm.coreRst = false → s.snap = some snap → s.frm.own = false →
    firstBad (s.tabulate (s.trial snap) placement vioLow.toNat).bads = some e →
    Answers (exec (.compileFinish placement vioLow) s) fun t => t.on FRM_STAT_Compiling = false ∧
      t.rd FRM_COMPILE_STAT_Result = e.code % 16 ∧ t.rd FRM_COMPILE_STAT_Item = e.item % FRM_COMPILE_STAT_Item.size ∧
      t.snap = none ∧ t.on GLB_SHADOW_Snap = false) ∧
  (s.frm.compiled.isSome → s.rd FRM_COMPILE_STAT_Result = 0 →
    Answers (exec .apply s) fun t => t.on FRM_STAT_Pending ∧ Frame s t [FRM_STAT_Pending] []) ∧
  (s.frm.compiled = none ∨ s.rd FRM_COMPILE_STAT_Result ≠ 0 → Answers (exec .apply s) fun t => Frame s t [] []) ∧
  Answers (exec .abandon s) fun t => t.snap = none ∧ t.frm.compiled = none ∧ t.on FRM_STAT_Compiling = false ∧
    t.on FRM_STAT_Pending = false ∧ t.on GLB_SHADOW_Snap = false ∧ t.on GLB_SHADOW_Dirty = false ∧
    ∀ o, t.shadow.get o = (shadowsOf s.regs).get o

/-- SYNC_LOCK_DECLARED, SYNC_LOST, SYNC_IN_RETURN, FRAME_MARKER, MARKER_LOSS and TIMING_MASTER_TAKEOVER. After 64 frames near phase lock is
declared, and the first lock sets FRM_SET_OFF to the set frame number minus FRAME_CNT (0 on SYNC_IN). A lost SYNC_IN, and the loss of the
last marker, set Holdover and SyncLost and clear Locked; the loss of one of two markers goes over to the other port. A marker of a device
other than this one ends holdover and, on the timing master, only a lower position's counts. The lowest live device takes over after 4
frames without a marker. None of them moves FRAME_CNT. -/
def Obligations.FrameLock : Prop := ∀ s : State,
  (64 ≤ s.frm.lockRun → s.rd FRM_STAT_SyncSrc ≠ 0 → s.on FRM_STAT_Locked = false → s.on FRM_STAT_Holdover = false →
    s.frm.setDelta < 2 ^ 64 →
    Answers (exec .syncLockDeclared s) fun t => t.on FRM_STAT_Locked ∧ t.frame = s.frame ∧ t.frm.everLock ∧
      (s.frm.everLock = false → t.rd FRM_SET_OFF_LO_Lo + 2 ^ 32 * t.rd FRM_SET_OFF_HI_Hi =
        if s.rd FRM_STAT_SyncSrc = 1 then 0 else s.frm.setDelta) ∧
      (s.frm.everLock → t.rd FRM_SET_OFF_LO_Lo = s.rd FRM_SET_OFF_LO_Lo ∧ t.rd FRM_SET_OFF_HI_Hi = s.rd FRM_SET_OFF_HI_Hi) ∧
      Frame s t [FRM_STAT_Locked, FRM_SET_OFF_LO_Lo, FRM_SET_OFF_HI_Hi] [.frm]) ∧
  (s.rd FRM_STAT_SyncSrc = 1 → s.on FRM_STAT_Holdover = false →
    Answers (exec .syncLost s) fun t => t.on FRM_STAT_Holdover ∧ t.on FRM_STAT_SyncLost ∧ t.on FRM_STAT_Locked = false ∧
      t.frame = s.frame ∧ t.frm.lockRun = 0 ∧
      FrameFault s t [FRM_STAT_Holdover, FRM_STAT_SyncLost, FRM_STAT_Locked] [.frm]) ∧
  (s.rd FRM_STAT_SyncSrc = 1 →
    Answers (exec .syncInReturn s) fun t => t.on FRM_STAT_Holdover = false ∧ t.frm.lockRun = 0 ∧
      Frame s t [FRM_STAT_Holdover] [.frm]) ∧
  (∀ port src setFrame, s.on TL_CFG_En → src.val ≠ s.me → (s.on FRM_STAT_TimingMaster = false ∨ src.val < s.me) →
    Answers (exec (.frameMarker port src setFrame) s) fun t => t.on FRM_STAT_TimingMaster = false ∧ t.on FRM_STAT_Holdover = false ∧
      t.frm.tmPos = src.val ∧ t.tl.noMarker = 0 ∧ 2 ≤ t.rd FRM_STAT_SyncSrc ∧ t.frame = s.frame) ∧
  (∀ port, s.frm.markers = 3 → 2 ≤ s.rd FRM_STAT_SyncSrc →
    Answers (exec (.markerLoss port) s) fun t => t.frm.markers = 3 - 2 ^ port.val ∧ t.rd FRM_STAT_SyncSrc = 2 + (1 - port.val) ∧
      t.on FRM_STAT_Holdover = s.on FRM_STAT_Holdover) ∧
  (∀ port : Fin 2, s.frm.markers = 2 ^ port.val → 2 ≤ s.rd FRM_STAT_SyncSrc →
    Answers (exec (.markerLoss port) s) fun t => t.frm.markers = 0 ∧ t.on FRM_STAT_Holdover ∧ t.on FRM_STAT_SyncLost) ∧
  (4 ≤ s.tl.noMarker → s.lowestLive → s.on FRM_STAT_TimingMaster = false →
    Answers (exec .timingMasterTakeover s) fun t => t.on FRM_STAT_TimingMaster ∧ t.on FRM_STAT_Holdover = false ∧ t.frame = s.frame)

/-- FIRST_FRAME and FRAME_BOUNDARY. The first frame of a booted device sets Running and FRAME_CNT 0; a boundary of a running device with no
reset due counts exactly one frame; before the first frame neither does anything (log entry 1: the order of the rows is the
environment's). -/
def Obligations.FramesCount : Prop := ∀ s : State,
  (∀ us gateGood, s.pwr.phase = .booted → s.on GLB_STAT_CfgValid = false →
    Answers (exec (.firstFrame us gateGood) s) fun t => t.pwr.phase = .running ∧ t.frame = 0 ∧ t.on GLB_STAT_Running ∧
      t.on FRM_STAT_Running ∧ t.rd PWR_BOOT_TIME_Us = us.toNat) ∧
  (∀ inp, s.pwr.phase = .running → s.resetDue = none →
    Answers (exec (.frameBoundary inp) s) fun t => t.frame = (s.frame + 1) % 2 ^ 64) ∧
  (∀ inp, s.pwr.phase ≠ .running → Answers (exec (.frameBoundary inp) s) fun t => Frame s t [] []) ∧
  (∀ us gateGood, s.pwr.phase ≠ .booted → Answers (exec (.firstFrame us gateGood) s) fun t => Frame s t [] [])

/-- REGISTER_WRITE of a live register that no chapter gives a further effect: every bit that is no status bit reads the written one where the
access code is RW, 0 where it is W1C and a 1 is written, and as before otherwise (read-only, reserved, locked, read-to-clear). Fields of
other registers stay, and nothing beside the registers changes. -/
def Obligations.RegisterWriteByAccessCode : Prop :=
  ∀ (s : State) (offset : BitVec 18) (value : BitVec 32) (r : RegSpec) (i j : Nat),
    offset.toNat % 4 = 0 → regAt offset.toNat = some (r, i, j) → r.shadowed = false →
    s.writeAct r offset.toNat value.toNat false = none →
    Answers (exec (.registerWrite offset value 15) s) fun t =>
      (∀ b, b < 32 → (⟨offset.toNat, b, b⟩ : Fld).plain →
        t.on ⟨offset.toNat, b, b⟩ = if r.rw.testBit b then value.toNat.testBit b
          else s.on ⟨offset.toNat, b, b⟩ && !(r.w1c.testBit b && value.toNat.testBit b)) ∧
      Frame s t [⟨offset.toNat, 31, 0⟩] []

/-- REGISTER_WRITE of a shadowed register without W1C bits: the shadow holds the written value in the bits a shadow holds and its reset
value elsewhere, Dirty sets, other shadows stay, and the register in force does not change until an apply. -/
def Obligations.ShadowedWriteWaitsForApply : Prop :=
  ∀ (s : State) (offset : BitVec 18) (value : BitVec 32) (r : RegSpec) (i j : Nat),
    offset.toNat % 4 = 0 → regAt offset.toNat = some (r, i, j) → r.shadowed = true → r.w1c = 0 →
    Answers (exec (.registerWrite offset value 15) s) fun t =>
      (∀ b, b < 32 → (t.shadow.get offset.toNat).toNat.testBit b =
        if r.rw.testBit b then value.toNat.testBit b else (resetWord offset.toNat).toNat.testBit b) ∧
      (∀ p, p ≠ offset.toNat → t.shadow.get p = s.shadow.get p) ∧ t.on GLB_SHADOW_Dirty ∧
      Frame s t [GLB_SHADOW_Dirty] [.shadow]

/-- REGISTER_WRITE with fewer than four byte enables set, or at an offset that is not a multiple of four, changes nothing. A read of an RC
register, LTn_LAT_MAX, returns the whole word and clears the field: it takes no byte enables, so every read does. -/
def Obligations.AccessesAreWholeWords : Prop :=
  ∀ (s : State) (offset : BitVec 18) (value : BitVec 32) (be : BitVec 4), (be ≠ 15 ∨ offset.toNat % 4 ≠ 0 →
    Answers (exec (.registerWrite offset value be) s) fun t => Frame s t [] []) ∧
  ∀ n : Fin 24, Answers (exec (.latMaxRead n) s) fun t =>
    t.out = .readData (LT_LAT_MAX n) (s.word (LT_LAT_MAX n)) :: s.out ∧ t.rd (LT_LAT_MAX_LatMax n) = 0

/-- GLB_SCRATCH_WRITE, DBG_LOCK_WRITE, DBG_CTL_WRITE and LAT_MAX_READ. The scratch register holds what is written. The first write of the
debug lock since the reset fixes it, and a set lock disarms an injection; a later write does nothing. The latency test is written only
while the lock is clear, else source 247 is raised. A read of LTn_LAT_MAX returns the word and clears the largest latency. -/
def Obligations.DebugRegisters : Prop := ∀ s : State,
  (∀ value, Answers (exec (.glbScratchWrite value) s) fun t => t.rd GLB_SCRATCH_Scratch = value.toNat ∧ Frame s t [GLB_SCRATCH_Scratch] []) ∧
  (∀ lock, s.pwr.lockSet = false → s.on DBG_LOCK_PermLock = false →
    Answers (exec (.dbgLockWrite lock) s) fun t => t.on DBG_LOCK_Lock = lock ∧ t.pwr.lockSet ∧
      (lock → t.flt.armed = none ∧ t.on FLT_INJ_Armed = false) ∧ Frame s t [DBG_LOCK_Lock, FLT_INJ_Armed] [.pwr, .flt]) ∧
  (∀ lock, s.pwr.lockSet ∨ s.on DBG_LOCK_PermLock → Answers (exec (.dbgLockWrite lock) s) fun t => Frame s t [] []) ∧
  (∀ b, s.on DBG_LOCK_Lock = false →
    Answers (exec (.dbgCtlWrite b) s) fun t => t.on DBG_CTL_LatTest = b ∧ Frame s t [DBG_CTL_LatTest] []) ∧
  (∀ b, s.on DBG_LOCK_Lock → Answers (exec (.dbgCtlWrite b) s) fun t => t.on DBG_CTL_LatTest = s.on DBG_CTL_LatTest ∧ FrameFault s t [] []) ∧
  ∀ n : Fin 24, Answers (exec (.latMaxRead n) s) fun t =>
    t.out = .readData (LT_LAT_MAX n) (s.word (LT_LAT_MAX n)) :: s.out ∧ t.rd (LT_LAT_MAX_LatMax n) = 0 ∧
      t.rd (LT_LAT_MAX_LatLast n) = s.rd (LT_LAT_MAX_LatLast n) ∧ Frame s t [LT_LAT_MAX_LatMax n] [.out]

/-- CAPABILITY, STATUS_BYTE, STATUS_WORD, STATUS_CML, PMBUS_REVISION, MFR_ID, MFR_MODEL, MFR_REVISION, MFR_SERIAL and the read of WIN_ADDR.
While a transfer addressed to the enabled target is in progress each returns its bytes and ends the transfer; otherwise it changes nothing
at all. A block read carries its count first. No read changes a register. -/
def Obligations.TargetReads : Prop := ∀ s : State,
  (s.bus.tgt.addressed → s.on TW_TGT_CFG_En → ∀ (c : Instr) (data : List Byte),
    (c, data) ∈ [(.capability, [0xD0]), (.statusByte, leBytes 1 s.statusWord), (.statusWord, leBytes 2 s.statusWord),
      (.statusCml, leBytes 1 (s.rd TW_TGT_STAT_Cml)), (.pmbusRevision, [0x44]),
      (.mfrId, [7, 0x4D, 0x45, 0x48, 0x52, 0x41, 0x4C, 0x45]), (.mfrModel, [6, 0x4A, 0x44, 0x37, 0x38, 0x34, 0x30]),
      (.mfrRevision, [2, 0x42, 0x30]), (.mfrSerial, 8 :: leBytes 8 Config.serialNumber.toNat),
      (.winAddr none none, leBytes 2 s.bus.tgt.win)] →
    Answers (exec c s) fun t => t.out = .targetData data :: s.out ∧ t.bus.tgt.addressed = false ∧ t.bus.tgt.win = s.bus.tgt.win ∧
      t.bus.tgt.staged = s.bus.tgt.staged ∧ Frame s t [] [.out, .bus]) ∧
  (s.bus.tgt.addressed = false ∨ s.on TW_TGT_CFG_En = false → ∀ c ∈ ([.capability, .statusByte, .statusWord, .statusCml, .pmbusRevision,
      .mfrId, .mfrModel, .mfrRevision, .mfrSerial, .winAddr none none] : List Instr),
    Answers (exec c s) fun t => Frame s t [] [])

/-- TW0_TARGET_ADDRESSED, CLEAR_FAULTS, WIN_ADDR, WIN_LO_READ, WIN_HI_READ, WIN_LO_WRITE, WIN_HI_WRITE, TW0_UNSUPPORTED_COMMAND and
TW0_ARA_RESPONSE. A write with a bad check byte, or with none where PecReq asks for it, sets STATUS_CML bit 5 and does nothing else; an
unsupported command sets bit 7 and a read of it returns FFh; a refused window write sets bit 6; a write of the high half without a staged
low half sets bit 6. The low half is staged; the high half writes the word. The device answers the alert response while it drives the line
and releases it when it wins. -/
def Obligations.TargetWrites : Prop := ∀ s : State,
  (s.pwr.phase ≠ .held → s.pwr.vio.testBit 0 → s.on TW_TGT_CFG_En →
    Answers (exec .tw0TargetAddressed s) fun t => t.bus.tgt.addressed ∧ t.rd TW_TGT_CNT_Cnt = (s.rd TW_TGT_CNT_Cnt + 1) % 2 ^ 32 ∧
      Frame s t [TW_TGT_CNT_Cnt] [.bus]) ∧
  (s.bus.tgt.addressed → s.on TW_TGT_CFG_En →
    (∀ pec, (pec = some true ∨ (pec = none ∧ s.on TW_TGT_CFG_PecReq = false)) →
      (Answers (exec (.clearFaults pec) s) fun t => t.rd TW_TGT_STAT_Cml = 0 ∧ Frame s t [TW_TGT_STAT_Cml] [.bus]) ∧
      (∀ a, Answers (exec (.winAddr (some a) pec) s) fun t => t.bus.tgt.win = a.toNat ∧ Frame s t [] [.bus]) ∧
      (∀ v, s.winRefuses = false →
        Answers (exec (.winLoWrite v pec) s) fun t => t.bus.tgt.staged = some v.toNat ∧ Frame s t [] [.bus]) ∧
      (∀ v, s.winRefuses → Answers (exec (.winLoWrite v pec) s) fun t => (t.rd TW_TGT_STAT_Cml).testBit 6 ∧
        t.bus.tgt.staged = s.bus.tgt.staged ∧ Frame s t [TW_TGT_STAT_Cml] [.bus, .flt]) ∧
      (∀ v, s.bus.tgt.staged = none → Answers (exec (.winHiWrite v pec) s) fun t => (t.rd TW_TGT_STAT_Cml).testBit 6 ∧
        Frame s t [TW_TGT_STAT_Cml] [.bus, .flt]) ∧
      (∀ v lo, s.bus.tgt.staged = some lo → lo < 2 ^ 16 → s.winRefuses = false → s.winOfs = GLB_SCRATCH →
        Answers (exec (.winHiWrite v pec) s) fun t => t.rd GLB_SCRATCH_Scratch = 65536 * v.toNat + lo ∧ t.bus.tgt.staged = none)) ∧
    (∀ v pec, (pec = some false ∨ (pec = none ∧ s.on TW_TGT_CFG_PecReq)) → ∀ c ∈ ([.clearFaults pec, .winAddr (some v) pec,
        .winLoWrite v pec, .winHiWrite v pec] : List Instr),
      Answers (exec c s) fun t => (t.rd TW_TGT_STAT_Cml).testBit 5 ∧ t.bus.tgt.win = s.bus.tgt.win ∧ t.bus.tgt.staged = s.bus.tgt.staged ∧
        Frame s t [TW_TGT_STAT_Cml] [.bus, .flt]) ∧
    (s.on TW_TGT_CFG_WinRd → s.winOfs = GLB_SCRATCH → s.booting = false →
      (Answers (exec .winLoRead s) fun t => t.out = .targetData (leBytes 2 ((s.word GLB_SCRATCH).toNat % 65536)) :: s.out ∧
        Frame s t [] [.out, .bus]) ∧
      (Answers (exec .winHiRead s) fun t => t.out = .targetData (leBytes 2 ((s.word GLB_SCRATCH).toNat / 65536)) :: s.out ∧
        Frame s t [] [.out, .bus])) ∧
    (∀ count, Answers (exec (.tw0UnsupportedCommand true count) s) fun t => (t.rd TW_TGT_STAT_Cml).testBit 7 ∧
      t.out = .targetData (List.replicate count.val 0xFF) :: s.out ∧ Frame s t [TW_TGT_STAT_Cml] [.out, .bus, .flt])) ∧
  (s.bus.tgt.alertLow → s.on TW_TGT_CFG_AlertDrv → s.flt.alertNew = false →
    (Answers (exec (.tw0AraResponse true) s) fun t => t.out = .targetData (leBytes 1 (2 * s.rd TW_TGT_STAT_Addr)) :: s.out ∧
      t.bus.tgt.alertLow = false ∧ Frame s t [] [.out]) ∧
    (Answers (exec (.tw0AraResponse false) s) fun t => t.out = .targetData (leBytes 1 (2 * s.rd TW_TGT_STAT_Addr)) :: s.out ∧
      t.bus.tgt.alertLow ∧ Frame s t [] [.out])) ∧
  (s.bus.tgt.alertLow = false → ∀ won, Answers (exec (.tw0AraResponse won) s) fun t => Frame s t [] [])

/-- TW_XFER, TW_TRANSACTION_START, TW_TRANSACTION_END, TW_STRETCH_TIMEOUT, TW_ARB_LOST and TW_BUS_ERROR. TW_XFER completes REFUSED_STATE with a
bad payload, DISABLED on a disabled port, and else waits for its start slot. A start on a free Ready port that may send takes the port,
sets BusBusy and counts a transfer. A read of one byte without a check byte completes OK with that byte; NACK, a clock stretched too
long, lost arbitration and a bus error complete with their status, and set and count what the registers show. -/
def Obligations.TwoWireTransactions : Prop := ∀ (s : State) (p : Fin 12),
  (∀ tag c, s.ready tag.val 0x20 = some c →
    (s.xferBad c.payload → Answers (exec (.twXfer tag) s) fun t => Completes s t c .refusedState 0) ∧
    (s.xferBad c.payload = false → s.on (TW_PORT_CTL_En (numAt c.payload 0 1)) = false →
      Answers (exec (.twXfer tag) s) fun t => Completes s t c .disabled 0) ∧
    (s.xferBad c.payload = false → s.on (TW_PORT_CTL_En (numAt c.payload 0 1)) →
      Answers (exec (.twXfer tag) s) fun t => t.findCmd tag.val = some (c.ran [.start]) ∧ Frame s t [] [.rings])) ∧
  (∀ use r, s.busWork use = some r → s.twPortOf r = some p.val → (s.twp p).run = none → s.twMaster p → s.on (TW_PORT_STAT_Ready p) →
    Answers (exec (.twTransactionStart p use false) s) fun t => (∃ pg, (t.twp p).run = some { r with page := pg }) ∧
      t.on (TW_PORT_STAT_BusBusy p) ∧ t.rd (TW_PORT_XFER_CNT_Cnt p) = (s.rd (TW_PORT_XFER_CNT_Cnt p) + 1) % 2 ^ 32 ∧
      ∃ bytes, t.out = .busStart p bytes :: s.out) ∧
  (∀ c, XferOn s p c →
    (∀ rx pecOk, numAt c.payload 2 1 = 5 → numAt c.payload 3 1 = 0 →
      Answers (exec (.twTransactionEnd p rx false pecOk) s) fun t => Completes s t c .ok (leNat (padTo 1 rx)) ∧ (t.twp p).run = none ∧
        t.on (TW_PORT_STAT_BusBusy p) = false) ∧
    (∀ rx pecOk, Answers (exec (.twTransactionEnd p rx true pecOk) s) fun t => Completes s t c .nack 0 ∧ (t.twp p).run = none ∧
      t.rd (TW_PORT_NACK_CNT_Cnt p) = (s.rd (TW_PORT_NACK_CNT_Cnt p) + 1) % (TW_PORT_NACK_CNT_Cnt p).size) ∧
    (Answers (exec (.twStretchTimeout p) s) fun t => Completes s t c .timeout 0 ∧ (t.twp p).run = none ∧ t.on (TW_PORT_STAT_Timeout p) ∧
      t.rd (TW_PORT_ERR_CNT_Cnt p) = (s.rd (TW_PORT_ERR_CNT_Cnt p) + 1) % (TW_PORT_ERR_CNT_Cnt p).size) ∧
    (Answers (exec (.twArbLost p false) s) fun t => Completes s t c .arbLost 0 ∧ (t.twp p).run = none ∧ t.on (TW_PORT_STAT_ArbLost p) ∧
      t.rd (TW_PORT_ERR_CNT_Cnt p) = (s.rd (TW_PORT_ERR_CNT_Cnt p) + 1) % (TW_PORT_ERR_CNT_Cnt p).size) ∧
    (s.on (FLT_SRC_CFG_Assigned 194) → Answers (exec (.twBusError p false) s) fun t => Completes s t c .busError 0 ∧
      (t.twp p).run = none ∧ t.on (TW_PORT_STAT_BusErr p) ∧ Raised t 194 p)) ∧
  ((s.twp p).run = none → ∀ c ∈ ([.twStretchTimeout p, .twArbLost p false, .twBusError p false, .twTransactionEnd p [] false true] :
      List Instr), Answers (exec c s) fun t => Frame s t [] [])

/-- TW_PORT_ENABLE, TW_PORT_CLEAR, TW_BUS_CLEAR, TW_SCL_STUCK, TW_SCL_RECOVER, TW_ALERT_INPUT, TW_ARA_READ and TW_ALERT_LOG_READ. Enabling makes
a port Ready unless SCL is held or a clear runs; a disable waits for the boundary. A clear on an idle enabled port counts, reads Clearing
and takes Ready away; its end frees the port or raises source 192. SCL held low takes Ready away and raises 193 until it rises. The alert
level shows with AlertEn; an answered alert read logs the address and posts TW_ALERT, an unanswered one counts NACK; a read of the log
returns and removes its oldest entry. -/
def Obligations.TwoWirePorts : Prop := ∀ (s : State) (p : Fin 12),
  (s.on (TW_PORT_CTL_En p) = false → Answers (exec (.twPortEnable p true) s) fun t => t.on (TW_PORT_CTL_En p) ∧
    t.on (TW_PORT_STAT_Ready p) = (!(s.twp p).sclHeld && !s.on (TW_PORT_STAT_Clearing p)) ∧ (t.twp p).disPend = false ∧
    Frame s t [TW_PORT_CTL_En p, TW_PORT_STAT_Ready p] [.bus]) ∧
  (s.on (TW_PORT_CTL_En p) → Answers (exec (.twPortEnable p false) s) fun t => t.on (TW_PORT_CTL_En p) = false ∧ (t.twp p).disPend ∧
    Frame s t [TW_PORT_CTL_En p] [.bus]) ∧
  (s.on (TW_PORT_CTL_En p) → s.on (TW_PORT_STAT_Clearing p) = false → (s.twp p).run = none →
    ∀ i ∈ ([.twPortClear p, .twBusClear p none] : List Instr), Answers (exec i s) fun t => t.on (TW_PORT_STAT_Clearing p) ∧
      t.on (TW_PORT_STAT_Ready p) = false ∧ t.rd (TW_PORT_CLR_CNT_Cnt p) = (s.rd (TW_PORT_CLR_CNT_Cnt p) + 1) % (TW_PORT_CLR_CNT_Cnt p).size ∧
      Frame s t [TW_PORT_STAT_Clearing p, TW_PORT_STAT_Ready p, TW_PORT_CLR_CNT_Cnt p] []) ∧
  (s.on (TW_PORT_STAT_Clearing p) →
    (Answers (exec (.twBusClear p (some true)) s) fun t => t.on (TW_PORT_STAT_Clearing p) = false ∧ t.on (TW_PORT_STAT_SdaStuck p) = false ∧
      t.on (TW_PORT_STAT_Ready p) ∧ Frame s t [TW_PORT_STAT_Clearing p, TW_PORT_STAT_SdaStuck p, TW_PORT_STAT_Ready p] []) ∧
    (s.on (FLT_SRC_CFG_Assigned 192) → Answers (exec (.twBusClear p (some false)) s) fun t => t.on (TW_PORT_STAT_Clearing p) = false ∧
      t.on (TW_PORT_STAT_SdaStuck p) ∧ t.on (TW_PORT_STAT_Ready p) = s.on (TW_PORT_STAT_Ready p) ∧ Raised t 192 p ∧
      FrameFault s t [TW_PORT_STAT_Clearing p, TW_PORT_STAT_SdaStuck p] [])) ∧
  ((s.twp p).sclHeld = false → (s.twp p).run = none → s.on (FLT_SRC_CFG_Assigned 193) →
    Answers (exec (.twSclStuck p) s) fun t => (t.twp p).sclHeld ∧ t.on (TW_PORT_STAT_SclStuck p) ∧ t.on (TW_PORT_STAT_Ready p) = false ∧
      t.on (TW_PORT_STAT_Clearing p) = false ∧ Raised t 193 p ∧
      FrameFault s t [TW_PORT_STAT_SclStuck p, TW_PORT_STAT_Ready p, TW_PORT_STAT_Clearing p] [.bus]) ∧
  ((s.twp p).sclHeld → s.on (TW_PORT_CTL_En p) →
    (Answers (exec (.twSclRecover p false) s) fun t => (t.twp p).sclHeld = false ∧ t.on (TW_PORT_STAT_Ready p) ∧
      Frame s t [TW_PORT_STAT_Ready p] [.bus]) ∧
    (Answers (exec (.twSclRecover p true) s) fun t => (t.twp p).sclHeld = false ∧ t.on (TW_PORT_STAT_Clearing p) ∧
      t.on (TW_PORT_STAT_Ready p) = false)) ∧
  (∀ low, s.on (TW_PORT_CFG_AlertEn p) → Answers (exec (.twAlertInput p low) s) fun t => t.on (TW_PORT_STAT_Alert p) = low ∧
    Frame s t [TW_PORT_STAT_Alert p] []) ∧
  (s.on (TW_PORT_CFG_AlertEn p) → s.on (TW_PORT_ARA_AraEn p) → s.on (TW_PORT_STAT_Alert p) → s.on (TW_PORT_STAT_Ready p) →
    (s.twp p).run = none → s.twMaster p →
    (∀ pecOk, Answers (exec (.twAraRead p none pecOk) s) fun t => t.out = .busStart p [0x19] :: s.out ∧
      t.rd (TW_PORT_NACK_CNT_Cnt p) = (s.rd (TW_PORT_NACK_CNT_Cnt p) + 1) % (TW_PORT_NACK_CNT_Cnt p).size ∧
      Frame s t [TW_PORT_XFER_CNT_Cnt p, TW_PORT_NACK_CNT_Cnt p] [.out]) ∧
    (∀ b pecOk, s.rd (TW_PORT_CFG_Proto p) ≠ 2 → (s.twp p).log.length < 8 → s.hif.events.length < 256 →
      Answers (exec (.twAraRead p (some b) pecOk) s) fun t => (t.twp p).log = (s.twp p).log ++ [b.toNat / 2] ∧
        Posts s t { code := 0x0400, unit := p, p0 := b.toNat / 2 } ∧ t.on (TW_PORT_ALERT_LOG_Valid p))) ∧
  (∀ a rest, (s.twp p).log = a :: rest → Answers (exec (.twAlertLogRead p) s) fun t => (t.twp p).log = rest ∧
    t.out = .readData (TW_PORT_ALERT_LOG p) (s.word (TW_PORT_ALERT_LOG p)) :: s.out ∧
    t.on (TW_PORT_ALERT_LOG_Valid p) = !rest.isEmpty ∧
    Frame s t [TW_PORT_ALERT_LOG_Valid p, TW_PORT_ALERT_LOG_Addr p] [.bus, .out])

/-- CAN_XFER, CAN_FRAME_START, CAN_FRAME_DONE, CAN_RECEIVE, CAN_ERROR_STATE_CHANGE, CAN_BUS_OFF_RECOVERY, CAN_RECOVER, CAN_TX_DOMINANT and
CAN_XCVR_FAULT. CAN_XFER completes REFUSED_STATE with a bad payload, DISABLED on a disabled controller, else waits for its start slot. A
frame starts on a free enabled controller that is neither restricted nor bus-off; sent, it completes OK with attempts and error counters
and counts; a filtered frame counts and, where a filter asks for it, posts CAN_RX; one past 64 in a frame is lost. A change to
error-passive shows, posts CAN_STATE and raises 198; bus-off ends with recovery where AutoRecover or software allows it. -/
def Obligations.CanControllers : Prop := ∀ (s : State) (k : Fin 4),
  (∀ tag c, s.ready tag.val 0x21 = some c →
    (s.canBad c.payload → Answers (exec (.canXfer tag) s) fun t => Completes s t c .refusedState 0) ∧
    (s.canBad c.payload = false → s.on (CAN_CTL_En (numAt c.payload 0 1)) = false →
      Answers (exec (.canXfer tag) s) fun t => Completes s t c .disabled 0) ∧
    (s.canBad c.payload = false → s.on (CAN_CTL_En (numAt c.payload 0 1)) →
      Answers (exec (.canXfer tag) s) fun t => t.findCmd tag.val = some (c.ran [.start]) ∧ Frame s t [] [.rings])) ∧
  (∀ use r idle, s.busWork use = some r → s.canOf r = some k.val → (s.canc k).run = none → s.canRestricted k = false →
    s.on (CAN_CTL_En k) → s.rd (CAN_STAT_ErrState k) ≠ 2 →
    Answers (exec (.canFrameStart k use idle) s) fun t => (t.canc k).run = some r ∧ t.on (CAN_STAT_Idle k) = false ∧
      ∃ id data, t.out = .canStart k id data :: s.out) ∧
  (∀ c (attempts : Fin 5) (tec rxe : BitVec 8), CanXferOn s k c → attempts.val ≤ 1 + s.rd (CAN_CFG_Retry k) →
    Answers (exec (.canFrameDone k attempts 0 tec rxe) s) fun t =>
      Completes s t c .ok (attempts.val + 256 * tec.toNat + 65536 * rxe.toNat) ∧ (t.canc k).run = none ∧ t.on (CAN_STAT_Idle k) ∧
      t.rd (CAN_TX_CNT_Cnt k) = (s.rd (CAN_TX_CNT_Cnt k) + 1) % 2 ^ 32 ∧ t.rd (CAN_ERR_CNT_Tec k) = tec.toNat ∧
      t.rd (CAN_ERR_CNT_Rec k) = rxe.toNat) ∧
  (∀ ide id fd dlc data, s.on (CAN_CTL_En k) → s.canPins k ide (if ide then id.toNat else id.toNat % 2 ^ 11) = [] →
    (List.range 32).any (fun j => s.canPass k j ide (if ide then id.toNat else id.toNat % 2 ^ 11)) → (s.canc k).taken < 64 →
    (List.range 32).all (fun j => !s.on (CAN_FLT_ID_ToEq k j)) →
    Answers (exec (.canReceive k ide id fd dlc data) s) fun t => t.rd (CAN_RX_CNT_Cnt k) = (s.rd (CAN_RX_CNT_Cnt k) + 1) % 2 ^ 32 ∧
      (t.canc k).taken = (s.canc k).taken + 1 ∧ Frame s t [CAN_RX_CNT_Cnt k] [.bus]) ∧
  (∀ ide id fd dlc data, s.on (CAN_CTL_En k) →
    (List.range 32).any (fun j => s.canPass k j ide (if ide then id.toNat else id.toNat % 2 ^ 11)) → 64 ≤ (s.canc k).taken →
    s.on (FLT_SRC_CFG_Assigned 200) →
    Answers (exec (.canReceive k ide id fd dlc data) s) fun t => t.rd (CAN_LOST_CNT_Cnt k) = (s.rd (CAN_LOST_CNT_Cnt k) + 1) % 2 ^ 32 ∧
      Raised t 200 k ∧ FrameFault s t [CAN_LOST_CNT_Cnt k] []) ∧
  (∀ tec rxe, s.rd (CAN_STAT_ErrState k) = 0 → s.hif.events.length < 256 → s.on (FLT_SRC_CFG_Assigned 198) →
    Answers (exec (.canErrorStateChange k 1 tec rxe) s) fun t => t.rd (CAN_STAT_ErrState k) = 1 ∧ t.rd (CAN_ERR_CNT_Tec k) = tec.toNat ∧
      t.rd (CAN_ERR_CNT_Rec k) = rxe.toNat ∧ Posts s t { code := 0x0402, unit := k, p0 := 1 } ∧ Raised t 198 k) ∧
  (s.rd (CAN_STAT_ErrState k) = 2 → s.on (CAN_CFG_AutoRecover k) ∨ (s.canc k).recover → s.hif.events.length < 256 →
    Answers (exec (.canBusOffRecovery k) s) fun t => t.rd (CAN_STAT_ErrState k) = 0 ∧ t.rd (CAN_ERR_CNT_Tec k) = 0 ∧
      t.rd (CAN_ERR_CNT_Rec k) = 0 ∧ (t.canc k).recover = false ∧ Posts s t { code := 0x0402, unit := k, p0 := 0 }) ∧
  (s.rd (CAN_STAT_ErrState k) = 2 → Answers (exec (.canRecover k) s) fun t => (t.canc k).recover ∧ Frame s t [] [.bus]) ∧
  (s.on (CAN_CFG_XcvrEn k) → s.on (FLT_SRC_CFG_Assigned 199) →
    Answers (exec (.canTxDominant k) s) fun t => Raised t 199 k ∧ FrameFault s t [] []) ∧
  ∀ thermal, s.on (FLT_SRC_CFG_Assigned 201) → Answers (exec (.canXcvrFault k thermal) s) fun t => t.on (CAN_STAT_XcvrFault k) ∧
    Raised t 201 (k + 4 * b2n thermal) ∧ FrameFault s t [CAN_STAT_XcvrFault k] []

/-- FC_CODE_READY, MC_CONVERSION_DONE and PEAK_CLR. A code of a disabled converter has no effect. A checked code of a sequence entry that one
channel takes enters that channel's window; one that fails its parity raises 64 and counts no sample. A checked result of a job shows in
AFE_MC_RESj; while the converter is unavailable nothing happens; a time-out raises 66, a failed parity 65, a reference outside its limits
67, a readback outside DacTol 68. PEAK_CLR makes the extremes of its channel restart at the next boundary. -/
def Obligations.Converters : Prop := ∀ s : State,
  (∀ (k : Fin 24) cycle code par, s.on (AFE_FC_CFG_En k) = false → Answers (exec (.fcCodeReady k cycle code par) s) fun t => Frame s t [] []) ∧
  (∀ (k : Fin 24) (cycle : Fin 200) code par use ch, s.on (AFE_FC_CFG_En k) → s.flt.armed = none →
    s.sense.fcPlan.find? (fun e => e.1 == k.val && e.2.1 == cycle.val) = some (k.val, cycle.val, use) → use < 8 →
    s.tmOfSeq k use = [ch] → (∀ j < 4, s.on (CAPU_CFG_En j) = false) → (∀ e < 16, s.on (EF_CTL_En e) = false) →
    (∀ p < 256, s.rd (AFE_TM_CFG_SrcType p) ≠ 2) →
    (par.toNat = parity12 code.toNat → satS 32 (s.tmValue ch code.toNat 0) = s.tmValue ch code.toNat 0 → code ≠ 0 → code ≠ 0xFFF →
      Answers (exec (.fcCodeReady k cycle code par) s) fun t =>
        t.sense = (s.modTm ch fun c => { c with
          latest := s.tmValue ch code.toNat 0,
          cur := { c.cur with sum := c.cur.sum + code.toNat, n := c.cur.n + 1,
                              mn := if c.cur.n = 0 then s.tmValue ch code.toNat 0 else min c.cur.mn (s.tmValue ch code.toNat 0),
                              mx := if c.cur.n = 0 then s.tmValue ch code.toNat 0 else max c.cur.mx (s.tmValue ch code.toNat 0) } }).sense ∧
        Frame s t [] [.sense]) ∧
    (par.toNat ≠ parity12 code.toNat → s.on (FLT_SRC_CFG_Assigned 64) → Answers (exec (.fcCodeReady k cycle code par) s) fun t =>
      t.on (AFE_TM_STAT_Par ch) ∧ t.sense = (s.tmDrop ch).sense ∧ Raised t 64 (k.val + 32 * s.cycleMux k use + 128 * (0x100 + ch)) ∧
      FrameFault s t [AFE_TM_STAT_Par ch] [.sense])) ∧
  (∀ idx (j : Fin 32) src code par, s.mcAvail → s.flt.armed = none → par.toNat = parity16 code.toNat → s.tmOfJob j = [] →
    Answers (exec (.mcConversionDone idx (.job j) src code par false) s) fun t =>
      t.rd (AFE_MC_RES_Res j) = code.toNat ∧ t.on (AFE_MC_RES_Valid j) ∧ Frame s t [AFE_MC_RES_Res j, AFE_MC_RES_Valid j] []) ∧
  (∀ use idx src code par, use ∈ [McUse.reference, .readback, .tempScan, .core] →
    (s.mcAvail = false → ∀ late, Answers (exec (.mcConversionDone idx use src code par late) s) fun t => Frame s t [] []) ∧
    (s.mcAvail → s.on (FLT_SRC_CFG_Assigned 66) →
      Answers (exec (.mcConversionDone idx use src code par true) s) fun t => Raised t 66 idx ∧ FrameFault s t [] []) ∧
    (s.mcAvail → s.flt.armed = none → par.toNat ≠ parity16 code.toNat → s.on (FLT_SRC_CFG_Assigned 65) →
      Answers (exec (.mcConversionDone idx use src code par false) s) fun t => Raised t 65 src.toNat ∧ FrameFault s t [] [])) ∧
  (∀ idx code par, s.mcAvail → s.flt.armed = none → par.toNat = parity16 code.toNat → s.on (FLT_SRC_CFG_Assigned 67) →
    (0x8000 + 164 < code.toNat ∨ code.toNat < 0x8000 - 164 →
      Answers (exec (.mcConversionDone idx .reference 0xEA code par false) s) fun t => Raised t 67 0 ∧ FrameFault s t [] []) ∧
    (0x8000 - 164 ≤ code.toNat → code.toNat ≤ 0x8000 + 164 →
      Answers (exec (.mcConversionDone idx .reference 0xEA code par false) s) fun t => Frame s t [] [])) ∧
  (∀ idx (n : Fin 64) code par, s.mcAvail → s.flt.armed = none → par.toNat = parity16 code.toNat → s.on (FLT_SRC_CFG_Assigned 68) →
    s.on AFE_ST_CFG_RbEn → s.on (CMP_CFG_StEn n) → (s.cmp n).voidHi = false →
    64 * s.rd (CMP_THR_Hi n) + 64 * s.rd AFE_ST_CFG_DacTol < code.toNat →
    Answers (exec (.mcConversionDone idx .readback (BitVec.ofNat 8 (0x60 + 2 * n + 1)) code par false) s) fun t =>
      Raised t 68 (n + 64) ∧ FrameFault s t [] []) ∧
  ∀ k : Fin 256, Answers (exec (.peakClr k) s) fun t => t.sense = (s.modTm k fun c => { c with pkClr := true }).sense ∧ Frame s t [] [.sense]

/-- COMPARATOR_EVENT, BLANKING_END, SWAP_TEST, TIE_TEST, CMP_UNTESTED, CMP_THR_WRITE and CMP_LATCH_CLEAR. An event of an enabled half shows
in the raw word and, unless blanked, sets its latch and counts once; of a disabled half it has no effect; its release clears the raw bit
alone. Blanking that ends lets a standing event latch. A passed swap or tie test covers the comparator; a failed swap test asks for a tie
test; a failed tie test raises 69; MaxAge frames without cover raise 70. Thresholds take effect at once. A latch written 1 clears unless
its event stands unblanked. -/
def Obligations.Comparators : Prop := ∀ (s : State) (n : Fin 64) (high : Bool),
  (s.on (if high then CMP_CFG_HiEn n else CMP_CFG_LoEn n) = false →
    Answers (exec (.comparatorEvent n high true) s) fun t => Frame s t [] []) ∧
  (s.on (if high then CMP_CFG_HiEn n else CMP_CFG_LoEn n) → s.blanked n → Answers (exec (.comparatorEvent n high true) s) fun t =>
    t.rawEvent n high ∧ Frame s t [CMP_RAW_Raw (cmpWord n high)] []) ∧
  (s.on (if high then CMP_CFG_HiEn n else CMP_CFG_LoEn n) → s.blanked n = false → s.latched n high = false →
    Answers (exec (.comparatorEvent n high true) s) fun t =>
      t.rawEvent n high ∧ t.latched n high ∧ t.rd (CMP_CNT_Cnt n) = (s.rd (CMP_CNT_Cnt n) + 1) % (CMP_CNT_Cnt n).size ∧
      ((∀ l < 16, ∀ m < 4, s.rd (CMP_TRIP_MASK_Mask l m) = 0) → s.sense.trips = 0 → s.on (CMP_CFG_Irq n) = false →
        (∀ e < 16, s.feedsFuse e n high = false) →
        Frame s t [CMP_RAW_Raw (cmpWord n high), CMP_LATCH_Latch (cmpWord n high), CMP_CNT_Cnt n] [])) ∧
  (Answers (exec (.comparatorEvent n high false) s) fun t => t.rawEvent n high = false ∧ Frame s t [CMP_RAW_Raw (cmpWord n high)] []) ∧
  (s.blanked n = false → Answers (exec (.blankingEnd n) s) fun t => Frame s t [] []) ∧
  (s.blanked n → s.rawEvent n true = false → s.rawEvent n false = false → Answers (exec (.blankingEnd n) s) fun t =>
    t.sense = (s.modCmp n fun c => { c with blank := false }).sense ∧ Frame s t [] [.sense]) ∧
  (s.blanked n → s.rawEvent n high → Answers (exec (.blankingEnd n) s) fun t => t.blanked n = false ∧ t.latched n high) ∧
  (s.testable n = false → ∀ hi lo, Answers (exec (.swapTest n hi lo) s) fun t => Frame s t [] []) ∧
  (s.testable n → s.rawEvent n true = false → s.rawEvent n false = false → (s.cmp n).tieNext = false →
    (Answers (exec (.swapTest n true true) s) fun t =>
      (t.rd (if n.val < 32 then AFE_ST_COV0_Cov else AFE_ST_COV1_Cov)).testBit (n.val % 32) ∧
      t.sense = (s.modCmp n fun c => { c with lastTest := some s.frame, tieNext := false, lastPass := s.frame, raised := false }).sense ∧
      Frame s t [if n.val < 32 then AFE_ST_COV0_Cov else AFE_ST_COV1_Cov] [.sense]) ∧
    ∀ hi lo, (hi && lo) = false → Answers (exec (.swapTest n hi lo) s) fun t =>
      t.sense = (s.modCmp n fun c => { c with lastTest := some s.frame, tieNext := true }).sense ∧ Frame s t [] [.sense]) ∧
  ((s.cmp n).tieNext → s.blanked n →
    (Answers (exec (.tieTest n true true) s) fun t =>
      (t.rd (if n.val < 32 then AFE_ST_COV0_Cov else AFE_ST_COV1_Cov)).testBit (n.val % 32) ∧ (t.cmp n).tieNext = false ∧
      Frame s t [if n.val < 32 then AFE_ST_COV0_Cov else AFE_ST_COV1_Cov] [.sense]) ∧
    (8 ≤ s.rd (CMP_THR_Lo n) → s.on (FLT_SRC_CFG_Assigned 69) → Answers (exec (.tieTest n false true) s) fun t =>
      Raised t 69 (n + 64) ∧ (t.cmp n).tieNext = false ∧ FrameFault s t [] [.sense]) ∧
    (s.rd (CMP_THR_Hi n) ≤ 1015 → s.on (FLT_SRC_CFG_Assigned 69) → Answers (exec (.tieTest n true false) s) fun t =>
      Raised t 69 (n + 128) ∧ (t.cmp n).tieNext = false ∧ FrameFault s t [] [.sense])) ∧
  (∀ m, s.maxAge = some m → s.on (CMP_CFG_StEn n) → (s.cmp n).raised = false → (s.cmp n).lastPass + m ≤ s.frame →
    s.on (FLT_SRC_CFG_Assigned 70) → Answers (exec (.cmpUntested n) s) fun t =>
      Raised t 70 n ∧ (t.rd (if n.val < 32 then AFE_ST_COV0_Cov else AFE_ST_COV1_Cov)).testBit (n.val % 32) = false ∧
      FrameFault s t [if n.val < 32 then AFE_ST_COV0_Cov else AFE_ST_COV1_Cov] [.sense]) ∧
  (∀ hi lo, Answers (exec (.cmpThrWrite n hi lo) s) fun t => t.rd (CMP_THR_Hi n) = hi.toNat ∧ t.rd (CMP_THR_Lo n) = lo.toNat ∧
    t.sense = (s.modCmp n fun c => { c with voidHi := c.voidHi || hi.toNat != s.rd (CMP_THR_Hi n),
                                            voidLo := c.voidLo || lo.toNat != s.rd (CMP_THR_Lo n) }).sense ∧
    Frame s t [CMP_THR_Hi n, CMP_THR_Lo n] [.sense]) ∧
  ∀ (i : Fin 4) (mask : BitVec 32), Answers (exec (.cmpLatchClear i mask) s) fun t =>
    (∀ b < 32, (t.rd (CMP_LATCH_Latch i)).testBit b = ((s.rd (CMP_LATCH_Latch i)).testBit b &&
      !(mask.toNat.testBit b && !(s.rawEvent (32 * (i % 2) + b) (decide (i.val < 2)) && !s.blanked (32 * (i % 2) + b))))) ∧
    ((∀ l < 16, ∀ m < 4, s.rd (CMP_TRIP_MASK_Mask l m) = 0) → s.sense.trips = 0 → Frame s t [CMP_LATCH_Latch i] [])

/-- PERIOD_START and PULSE_EDGE, of a channel no comparator refers to and no trip acts on. A channel that neither runs nor starts only takes
the period's length. A channel that starts or goes on takes the length and places its edges from its newest duty within its limits, or its
edge pair; it shows Run and not Safe, with the idle outputs and IdleSt while Idle is set, else with H off. A channel that stops goes to its
safe outputs. A rise or fall of a live period drives the outputs of its mode; elsewhere an edge has no effect; a second read-back mismatch
in a row raises 98. -/
def Obligations.PulsePeriods : Prop := ∀ (s : State) (n : Fin 48),
  (s.referred n = [] → (∀ l < 16, ∀ m < 4, s.rd (CMP_TRIP_MASK_Mask l m) = 0) → s.sense.trips = 0 →
    s.rd (PG_GRP_STAT_TripLatch (n / 4)) = 0 → ∀ j : Fin 20,
    (s.on (PG_CH_STAT_Run n) = false → (s.pg n).armed = false → (s.pg n).stopping = false →
      Answers (exec (.periodStart n j) s) fun t => (t.pg n).len = periodLen (s.rd (PG_GRP_CFG_Mul (n / 4))) j ∧
        (t.pg n).outH = (s.pg n).outH ∧ (t.pg n).outL = (s.pg n).outL ∧ Frame s t [] [.sense]) ∧
    ((s.pg n).stopping → Answers (exec (.periodStart n j) s) fun t => t.on (PG_CH_STAT_Run n) = false ∧ t.on (PG_CH_STAT_Safe n) ∧
      ((t.pg n).outH, (t.pg n).outL) = s.safeOut n) ∧
    (s.on (PG_CH_STAT_Run n) ∨ (s.pg n).armed → s.pgMayRun n → (s.pg n).stopping = false →
      (s.rd (PG_CH_CFG_Align n) < 3 → Answers (exec (.periodStart n j) s) fun t =>
        let len := periodLen (s.rd (PG_GRP_CFG_Mul (n / 4))) j
        let d := (limitDuty (s.pg n).duty len (s.rd (PG_CH_LIMIT_MinOn n)) (s.rd (PG_CH_LIMIT_MaxOn n))).1
        (t.pg n).len = len ∧ (t.pg n).dutyNow = d ∧ ((t.pg n).rise, (t.pg n).fall) = edgesOf (s.rd (PG_CH_CFG_Align n)) d len ∧
          (t.pg n).pulse = decide (d ≠ 0)) ∧
      (s.rd (PG_CH_CFG_Align n) = 3 → Answers (exec (.periodStart n j) s) fun t =>
        let len := periodLen (s.rd (PG_GRP_CFG_Mul (n / 4))) j
        (t.pg n).len = len ∧ (t.pg n).rise = (s.pg n).duty % 65536 ∧ (t.pg n).fall = min ((s.pg n).duty / 65536) len ∧
          (t.pg n).pulse = decide ((s.pg n).duty % 65536 < (s.pg n).duty / 65536 ∧ (s.pg n).duty % 65536 < len)) ∧
      (Answers (exec (.periodStart n j) s) fun t => t.on (PG_CH_STAT_Run n) ∧ t.on (PG_CH_STAT_Safe n) = false ∧
        (t.pg n).riseDone = false ∧ (t.pg n).fallDone = false ∧ t.rd (PG_CH_STAT_Trip n) = 0 ∧
        (s.on (PG_CH_CTL_Idle n) → t.on (PG_CH_STAT_IdleSt n) ∧ ((t.pg n).outH, (t.pg n).outL) = s.idleOut n) ∧
        (s.on (PG_CH_CTL_Idle n) = false → (s.pg n).relAt ≠ some s.frame →
          t.on (PG_CH_STAT_IdleSt n) = false ∧ ((t.pg n).outH, (t.pg n).outL) = s.offOut n) ∧
        Frame s t [PG_CH_STAT_Run n, PG_CH_STAT_Safe n, PG_CH_STAT_Trip n, PG_CH_STAT_IdleSt n, PG_CH_STAT_Skip n,
          PG_CH_STAT_Clamp n, PG_CH_SKIP_CNT_Cnt n, PG_CH_CLAMP_CNT_Cnt n] [.sense, .lt]))) ∧
  (∀ rise readH readL, (s.on (PG_CH_STAT_Run n) = false ∨ s.on (PG_CH_STAT_IdleSt n) ∨ (s.pg n).pulse = false ∨ (s.pg n).held ∨
      (s.pg n).cycEnd) → Answers (exec (.pulseEdge n rise readH readL) s) fun t => Frame s t [] []) ∧
  (s.on (PG_CH_STAT_Run n) → s.on (PG_CH_STAT_IdleSt n) = false → (s.pg n).pulse → (s.pg n).held = false → (s.pg n).cycEnd = false →
    s.referred n = [] →
    (∀ readH readL, s.on (PG_CH_CFG_RbEn n) = false → (s.pg n).riseDone = false → s.chanAct n ≠ 1 →
      Answers (exec (.pulseEdge n true readH readL) s) fun t =>
        t.sense = (s.modPg n fun c => { c with riseDone := true, outH := (s.onOut n).1, outL := (s.onOut n).2 }).sense ∧
        Frame s t [] [.sense]) ∧
    (∀ readH readL, s.on (PG_CH_CFG_RbEn n) = false → (s.pg n).riseDone → (s.pg n).fallDone = false →
      Answers (exec (.pulseEdge n false readH readL) s) fun t =>
        t.sense = (s.modPg n fun c => { c with fallDone := true, outH := (s.offOut n).1, outL := (s.offOut n).2 }).sense ∧
        Frame s t [] [.sense]) ∧
    (s.on (PG_CH_CFG_RbEn n) → (s.pg n).riseDone = false → s.chanAct n ≠ 1 → s.rd (PG_CH_CFG_OutMode n) = 0 →
      (s.pg n).outH = .low → (s.pg n).outL = .high → (s.pg n).misH = 1 → s.on (FLT_SRC_CFG_Assigned 98) →
      Answers (exec (.pulseEdge n true false false) s) fun t => t.on (PG_CH_STAT_Mismatch n) ∧ Raised t 98 n ∧
        (t.pg n).outH = .high ∧ (t.pg n).misH = 2 ∧ FrameFault s t [PG_CH_STAT_Mismatch n] [.sense]))

/-- Every latch of a comparator in cycle mode whose reference channel starts a period clears, unless its event stands unblanked. -/
def Obligations.PeriodStartClearsCycleLatches : Prop := ∀ (s : State) (n : Fin 48) (j : Fin 20) (c : Nat) (high : Bool),
  c ∈ s.referred n → s.on (CMP_CFG_Latch c) = false → s.rawEvent c high = false →
    Answers (exec (.periodStart n j) s) fun t => t.latched c high = false

/-- PG_ENABLE_WRITE, PG_IDLE_WRITE, IMM_DIS, IMM_DIS_ALL, OFS_LOAD, PG_DUTY_WRITE, PAR_OFF_CLEAR and TRIP_LATCH_CLEAR. An enable or
disable waits for its boundary; Idle is written unless a tile owns it; an immediate disable puts the channel, or the four of a group, into
the safe state with En and Run clear; an offset load waits; a duty or edge word is taken only with Src = 1, and by the channel only where
its alignment uses that word; ParOff cleared on an enabled channel waits for its boundary; a TripLatch bit clears unless its line still
asserts with the latch action. -/
def Obligations.PulseControls : Prop := ∀ (s : State) (n : Fin 48) (g : Fin 12),
  (Answers (exec (.pgEnableWrite n true) s) fun t => t.on (PG_CH_CTL_En n) ∧
    t.sense = (if s.on (PG_CH_CTL_En n) then s else s.modPg n fun c => { c with startPend := true, stopPend := false }).sense ∧
    Frame s t [PG_CH_CTL_En n] [.sense]) ∧
  (Answers (exec (.pgEnableWrite n false) s) fun t => t.on (PG_CH_CTL_En n) = false ∧
    t.sense = (s.modPg n fun c => { c with startPend := false, armed := false, stopPend := true }).sense ∧
    Frame s t [PG_CH_CTL_En n] [.sense]) ∧
  (∀ idle, s.on (PG_CH_CFG_Src n) → Answers (exec (.pgIdleWrite n idle) s) fun t => t.on (PG_CH_CTL_Idle n) = idle ∧
    Frame s t [PG_CH_CTL_Idle n] []) ∧
  (∀ idle, s.on (PG_CH_CFG_Src n) = false → Answers (exec (.pgIdleWrite n idle) s) fun t => Frame s t [] []) ∧
  (Answers (exec (.immDis n) s) fun t => t.on (PG_CH_STAT_Run n) = false ∧ t.on (PG_CH_STAT_Safe n) ∧
    t.on (PG_CH_STAT_IdleSt n) = false ∧ t.on (PG_CH_CTL_En n) = false ∧ ((t.pg n).outH, (t.pg n).outL) = s.safeOut n ∧
    (∀ m ≠ n.val, t.pg m = s.pg m) ∧
    Frame s t [PG_CH_STAT_Run n, PG_CH_STAT_Safe n, PG_CH_STAT_IdleSt n, PG_CH_CTL_En n] [.sense]) ∧
  (Answers (exec (.immDisAll g) s) fun t => ∀ i < 4, t.on (PG_CH_STAT_Run (4 * g + i)) = false ∧ t.on (PG_CH_STAT_Safe (4 * g + i)) ∧
    t.on (PG_CH_CTL_En (4 * g + i)) = false ∧ ((t.pg (4 * g + i)).outH, (t.pg (4 * g + i)).outL) = s.safeOut (4 * g + i)) ∧
  (Answers (exec (.ofsLoad g) s) fun t => t.on (PG_GRP_STAT_OfsPend g) ∧ Frame s t [PG_GRP_STAT_OfsPend g] []) ∧
  (∀ edge value tick, s.on (PG_CH_CFG_Src n) = false → Answers (exec (.pgDutyWrite n edge value tick) s) fun t => Frame s t [] []) ∧
  (∀ value tick, s.on (PG_CH_CFG_Src n) → s.rd (PG_CH_CFG_Align n) = 3 →
    (Answers (exec (.pgDutyWrite n false value tick) s) fun t => t.rd (PG_CH_DUTY_Duty n) = value.toNat % 65536 ∧
      Frame s t [PG_CH_DUTY_Duty n] []) ∧
    (s.on (PG_CH_CFG_Upd n) → Answers (exec (.pgDutyWrite n true value tick) s) fun t => t.word (PG_CH_EDGE n) = value ∧
      t.sense = (s.modPg n fun c => { c with duty := value.toNat }).sense ∧ Frame s t [⟨PG_CH_EDGE n, 31, 0⟩] [.sense])) ∧
  (∀ value tick, s.on (PG_CH_CFG_Src n) → s.rd (PG_CH_CFG_Align n) < 3 →
    (Answers (exec (.pgDutyWrite n true value tick) s) fun t => t.word (PG_CH_EDGE n) = value ∧ Frame s t [⟨PG_CH_EDGE n, 31, 0⟩] []) ∧
    (s.on (PG_CH_CFG_Upd n) → Answers (exec (.pgDutyWrite n false value tick) s) fun t =>
      t.rd (PG_CH_DUTY_Duty n) = value.toNat % 65536 ∧
      t.sense = (s.modPg n fun c => { c with duty := value.toNat % 65536 }).sense ∧ Frame s t [PG_CH_DUTY_Duty n] [.sense]) ∧
    (s.on (PG_CH_CFG_Upd n) = false → s.on (PG_CH_STAT_Run n) → (s.pg n).trans = false → (s.pg n).cycEnd = false →
      (s.pg n).held = false → (s.pg n).riseDone → (s.pg n).fallDone = false →
      Answers (exec (.pgDutyWrite n false value tick) s) fun t =>
        let d := (limitDuty (value.toNat % 65536) (s.pg n).len (s.rd (PG_CH_LIMIT_MinOn n)) (s.rd (PG_CH_LIMIT_MaxOn n))).1
        let f := (edgesOf (s.rd (PG_CH_CFG_Align n)) d (s.pg n).len).2
        let now := s.inPeriod n tick.toNat
        (t.pg n).fall = (if f ≤ now then (now / 8 + 1) * 8 else f) ∧ (t.pg n).rise = (s.pg n).rise ∧
          t.rd (PG_CH_LATE_CNT_Cnt n) = (s.rd (PG_CH_LATE_CNT_Cnt n) + if f ≤ now then 1 else 0) % (PG_CH_LATE_CNT_Cnt n).size)) ∧
  (s.on (PG_CH_STAT_ParOff n) → Answers (exec (.parOffClear n) s) fun t => t.on (PG_CH_STAT_ParOff n) = false ∧
    t.sense = (if s.on (PG_CH_CTL_En n) then s.modPg n fun c => { c with parPend := true } else s).sense ∧
    Frame s t [PG_CH_STAT_ParOff n] [.sense]) ∧
  (s.on (PG_CH_STAT_ParOff n) = false → Answers (exec (.parOffClear n) s) fun t => Frame s t [] []) ∧
  ∀ mask : BitVec 16, Answers (exec (.tripLatchClear g mask) s) fun t =>
    (∀ b < 16, (t.rd (PG_GRP_STAT_TripLatch g)).testBit b = ((s.rd (PG_GRP_STAT_TripLatch g)).testBit b &&
      !(mask.toNat.testBit b && !(s.sense.trips.testBit b && s.tripAct g b == 3)))) ∧
    Frame s t [PG_GRP_STAT_TripLatch g, PG_CH_STAT_Trip (4 * g), PG_CH_STAT_Trip (4 * g + 1), PG_CH_STAT_Trip (4 * g + 2),
      PG_CH_STAT_Trip (4 * g + 3)] []

/-- LT_SAMPLE. A disabled tile, and one in Off, RetryWait or Fault, uses no sample. In Measure a good sample is averaged alone. In Manual
every channel of the mask takes the clamped manual duty; in Start and Auto every channel takes pre minus G times the code, rounded and
clamped, the first state is the error R minus c, and u is kept. Each counts one update and its latency. A sample that fails its parity is
counted as missed; the MissMax-th in a row puts the tile into Fault and raises 106. -/
def Obligations.TileUpdate : Prop := ∀ (s : State) (n : Fin 24) (upd : Fin 4) (x : TileSample),
  (s.on (LT_CTL_En n) = false ∨ s.ltMode n = 0 ∨ 5 ≤ s.ltMode n → Answers (exec (.ltSample n upd x) s) fun t => Frame s t [] []) ∧
  (s.on (LT_CTL_En n) → s.sense.badCode = none → s.flt.armed = none → x.par.toNat = parity12 x.code.toNat →
    (s.ltMode n = 1 → Answers (exec (.ltSample n upd x) s) fun t =>
      t.lt = (s.modLt n fun c => { c with misses := 0, sumC := c.sumC + x.code.toNat, sumR := c.sumR + s.ltRef n, cnt := c.cnt + 1 }).lt ∧
      Frame s t [] [.lt]) ∧
    (x.ecc = none → s.on (LT_CFG_Multi n) = false →
      (s.ltMode n = 4 → Answers (exec (.ltSample n upd x) s) fun t =>
        t.rd (LT_UPD_CNT_Cnt n) = (s.rd (LT_UPD_CNT_Cnt n) + 1) % 2 ^ 32 ∧ t.rd (LT_LAT_MAX_LatLast n) = x.lat.toNat ∧
        t.rd (LT_LAT_MAX_LatMax n) = max (s.rd (LT_LAT_MAX_LatMax n)) x.lat.toNat ∧
        ∀ ch ∈ s.ltChans n, s.on (PG_CH_CFG_Src ch) = false →
          (t.pg ch).duty = s.ltClampDuty n (s.rd (LT_MAN_DUTY_Duty n))) ∧
      (s.ltMode n = 2 ∨ s.ltMode n = 3 → Answers (exec (.ltSample n upd x) s) fun t =>
        t.rd (LT_UPD_CNT_Cnt n) = (s.rd (LT_UPD_CNT_Cnt n) + 1) % 2 ^ 32 ∧ t.rd (LT_LAT_MAX_LatLast n) = x.lat.toNat ∧
        t.rdS (LT_STATE_V n 0) = satS 32 (s.ltRef n - (x.code.toNat : Int) * 4096) ∧
        t.rdS (LT_STATE_V n 7) = satS 32 (divRnd (s.ltDuty n (s.ltX n 6) x.code.toNat).1
          (2 ^ ((s.ltDuty n (s.ltX n 6) x.code.toNat).2 - 15))) ∧
        ∀ ch pre, (ch, pre) ∈ (s.ltChans n).zip (s.ltc n).pre → s.on (PG_CH_CFG_Src ch) = false →
          (t.pg ch).duty = s.ltClampDuty n (divRnd (s.ltDuty n pre x.code.toNat).1 (2 ^ (s.ltDuty n pre x.code.toNat).2))))) ∧
  (s.on (LT_CTL_En n) → s.sense.badCode = none → s.flt.armed = none → x.par.toNat ≠ parity12 x.code.toNat → x.ecc = none →
    1 ≤ s.ltMode n → s.ltMode n ≤ 4 → s.on (LT_CFG_IlimEn n) = false →
    ((s.ltc n).misses + 1 < max 1 (s.rd (LT_CFG_MissMax n)) → s.on (FLT_SRC_CFG_Assigned 64) →
      Answers (exec (.ltSample n upd x) s) fun t =>
        t.rd (LT_MISS_CNT_Cnt n) = (s.rd (LT_MISS_CNT_Cnt n) + 1) % 2 ^ 32 ∧ t.on (LT_STAT_Miss n) ∧
        (t.ltc n).misses = (s.ltc n).misses + 1 ∧
        Raised t 64 (s.rd (LT_SAMPLE_SRC_Conv n) + 32 * s.rd (LT_SAMPLE_SRC_Mux n) + 128 * n)) ∧
    (max 1 (s.rd (LT_CFG_MissMax n)) ≤ (s.ltc n).misses + 1 → s.on (FLT_SRC_CFG_Assigned 106) →
      Answers (exec (.ltSample n upd x) s) fun t => t.ltMode n = 6 ∧ Raised t 106 n ∧ (t.ltc n).failRep ∧
        ∀ ch ∈ s.ltChans n, t.on (PG_CH_STAT_Run ch) = false ∧ t.on (PG_CH_CTL_En ch) = false))

/-- LT_RETRY_EXPIRY, LT_ILIM_LONG, LT_RETRY_BUDGET_RESTORE, LT_EN_WRITE, LT_CLR, SETPOINT_SLEW and LOOP_MODE of a tile. A retry interval
that has passed asks for the restart; a limit as long as MaxFrames raises 109 once; the budget returns to Count. Clr takes Fault to Off
and restores the budget. SETPOINT_SLEW of an owned target or with reserved bytes is REFUSED_STATE; on a tile that runs no precompute it
stores the clamped target and completes OK with the previous one; else it waits for the next precompute. LOOP_MODE to an unknown mode, to
Off of a railed tile, or to Auto or Manual from elsewhere is REFUSED_STATE; else it waits for the boundary. -/
def Obligations.TileCommands : Prop := ∀ (s : State) (n : Fin 24),
  (s.ltRetryDue n → Answers (exec (.ltRetryExpiry n) s) fun t =>
    t.lt = (s.modLt n fun c => { c with restartReq := true }).lt ∧ Frame s t [] [.lt]) ∧
  (s.ltRetryDue n = false → Answers (exec (.ltRetryExpiry n) s) fun t => Frame s t [] []) ∧
  (∀ k, (s.ltc n).ilFrames = some k → s.rd (LT_ILIM_CFG_MaxFrames n) ≠ 0 → s.rd (LT_ILIM_CFG_MaxFrames n) ≤ k →
    (s.ltc n).ilRaised = false → s.on (FLT_SRC_CFG_Assigned 109) → Answers (exec (.ltIlimLong n) s) fun t =>
      Raised t 109 n ∧ t.lt = (s.modLt n fun c => { c with ilRaised := true }).lt ∧ FrameFault s t [] [.lt]) ∧
  (s.rd (LT_ILIM_CFG_MaxFrames n) = 0 ∨ (s.ltc n).ilRaised ∨ (s.ltc n).ilFrames = none →
    Answers (exec (.ltIlimLong n) s) fun t => Frame s t [] []) ∧
  (s.ltMode n = 3 → 100000 ≤ (s.ltc n).autoCnt → Answers (exec (.ltRetryBudgetRestore n) s) fun t =>
    t.rd (LT_STAT_RetryLeft n) = (if s.rd (LT_RETRY_Mode n) = 1 then s.rd (LT_RETRY_Count n) else 0) ∧
    Frame s t [LT_STAT_RetryLeft n] [.lt]) ∧
  (s.ltMode n ≠ 3 ∨ (s.ltc n).autoCnt < 100000 → Answers (exec (.ltRetryBudgetRestore n) s) fun t => Frame s t [] []) ∧
  (∀ en, Answers (exec (.ltEnWrite n en) s) fun t => t.on (LT_CTL_En n) = en ∧ (t.ltc n).disPend = !en ∧
    (∀ k ≠ n.val, t.ltc k = s.ltc k) ∧ Frame s t [LT_CTL_En n] [.lt]) ∧
  (s.ltMode n = 6 → Answers (exec (.ltClr n) s) fun t => t.ltMode n = 0 ∧
    t.rd (LT_STAT_RetryLeft n) = if s.rd (LT_RETRY_Mode n) = 1 then s.rd (LT_RETRY_Count n) else 0) ∧
  (s.ltMode n ≠ 6 → Answers (exec (.ltClr n) s) fun t =>
    t.rd (LT_STAT_RetryLeft n) = (if s.rd (LT_RETRY_Mode n) = 1 then s.rd (LT_RETRY_Count n) else 0) ∧
    Frame s t [LT_STAT_RetryLeft n] [.lt]) ∧
  (∀ tag c, s.ready tag.val 0x12 = some c → c.point = 0x4000 + 32 * n.val →
    (zeroAt c.payload 8 32 = false ∨ s.slOwns c.point → Answers (exec (.setpointSlew tag) s) fun t =>
      Completes s t c .refusedState (unsigned 32 (s.ltc n).tgtV)) ∧
    (zeroAt c.payload 8 32 → s.slOwns c.point = false →
      (s.ltMode n = 0 ∨ s.ltMode n = 1 ∨ 5 ≤ s.ltMode n → Answers (exec (.setpointSlew tag) s) fun t =>
        Completes s t c .ok (unsigned 32 (s.ltc n).tgtV) ∧
        (t.ltc n).tgtV = clampI (s.rdS (LT_REF_MIN_V n)) (s.rdS (LT_REF_MAX_V n)) (signed 32 (numAt c.payload 0 4)) ∧
        t.rdS (LT_REF_TGT_R n) = s.ltCode n (clampI (s.rdS (LT_REF_MIN_V n)) (s.rdS (LT_REF_MAX_V n)) (signed 32 (numAt c.payload 0 4)))) ∧
      (2 ≤ s.ltMode n → s.ltMode n ≤ 4 → Answers (exec (.setpointSlew tag) s) fun t =>
        t.findCmd tag.val = some (c.ran [.start]) ∧ (∃ w : Slew, (t.ltc n).waiting = (s.ltc n).waiting ++ [w] ∧ w.tag = tag.val ∧
          w.prev = (s.ltc n).tgtV) ∧ Frame s t [LT_STAT_RefClamp n] [.rings, .lt]))) ∧
  ∀ tag c, s.ready tag.val 0x13 = some c → c.point = 0x4004 + 32 * n.val →
    (zeroAt c.payload 1 39 = false ∨ numAt c.payload 0 1 ∉ [0, 3, 4] ∨ (numAt c.payload 0 1 = 0 ∧ s.ltRailed n) ∨
        (numAt c.payload 0 1 ≠ 0 ∧ s.ltMode n ≠ 3 ∧ s.ltMode n ≠ 4) →
      Answers (exec (.loopMode tag) s) fun t => Completes s t c .refusedState (s.ltMode n)) ∧
    (zeroAt c.payload 1 39 → (numAt c.payload 0 1 = 0 ∧ s.ltRailed n = false) ∨
        (numAt c.payload 0 1 ∈ [3, 4] ∧ (s.ltMode n = 3 ∨ s.ltMode n = 4)) →
      Answers (exec (.loopMode tag) s) fun t => t.findCmd tag.val = some (c.ran [.start]) ∧
        t.lt = (s.modLt n fun l => { l with modePend := l.modePend ++ [(tag.val, numAt c.payload 0 1)] }).lt ∧
        Frame s t [] [.rings, .lt])

/-- SHELF_LOOP_RUN, SL_INPUT_LOST and SL_MEMBER_LOST. A loop that is disabled, not due, in Off or Standby does not run, and no loop runs
while the cores restart. A run with a BAD input counts as skipped and changes no output; MissMax skips raise 184 once. A run in Auto of a
constant loop that nothing claims and that has no members moves u_int by the law's step, within its output range. A member at MissMax
misses is Lost, its trim 0, and raises 185. -/
def Obligations.ShelfLoopRuns : Prop := ∀ (s : State) (m : Fin 16),
  (s.frm.coreRst ∨ s.on (SL_CTL_En m) = false ∨ s.slDue m = false ∨ s.slMode m = 0 ∨ s.slMode m = 4 →
    Answers (exec (.shelfLoopRun m) s) fun t => Frame s t [] []) ∧
  (s.frm.coreRst = false → s.on (SL_CTL_En m) → s.slDue m → s.slMode m ∈ [1, 2, 3] →
    ((s.slInput m).2 = true → (s.slc m).skips + 1 < max 1 (s.rd (SL_MEMS_CFG_MissMax m)) → s.on (SL_STAT_InLost m) = false →
      Answers (exec (.shelfLoopRun m) s) fun t => t.rd (SL_RUN_CNT_Cnt m) = (s.rd (SL_RUN_CNT_Cnt m) + 1) % 2 ^ 32 ∧
        t.rd (SL_SKIP_CNT_Cnt m) = (s.rd (SL_SKIP_CNT_Cnt m) + 1) % 2 ^ 32 ∧
        t.sl = (s.modSl m fun c => { c with skips := c.skips + 1 }).sl ∧
        Frame s t [SL_RUN_CNT_Cnt m, SL_SKIP_CNT_Cnt m, SL_STAT_RcActive m] [.sl]) ∧
    ((s.slInput m).2 = true → max 1 (s.rd (SL_MEMS_CFG_MissMax m)) ≤ (s.slc m).skips + 1 → s.on (SL_STAT_InLost m) = false →
      s.on (FLT_SRC_CFG_Assigned 184) → s.slMembers m = [] → Answers (exec (.shelfLoopRun m) s) fun t =>
        t.on (SL_STAT_InLost m) ∧ Raised t 184 m ∧
        FrameFault s t [SL_RUN_CNT_Cnt m, SL_SKIP_CNT_Cnt m, SL_STAT_RcActive m, SL_STAT_InLost m] [.sl]) ∧
    ((s.slInput m).2 = false → s.pointKnown (s.rd (SL_IN_Id m)) → s.slMode m = 2 → s.slBattery m = false → s.slMembers m = [] → (s.slc m).claim = none →
      (s.slc m).wasClaimed = false → s.on (SL_RC_CFG_En m) = false → Answers (exec (.shelfLoopRun m) s) fun t =>
        let law := hiLaw (s.rdS (SL_TARGET_V m) - (s.slInput m).1) (s.slLaw m) (s.on (SL_STAT_Hold m))
        let u := clampI (s.rdS (SL_OUT_MIN_V m)) (s.rdS (SL_OUT_MAX_V m)) (s.rdS (SL_U_INT_V m) + law.1)
        t.rd (SL_RUN_CNT_Cnt m) = (s.rd (SL_RUN_CNT_Cnt m) + 1) % 2 ^ 32 ∧ t.rdS (SL_U_INT_V m) = satS 32 u ∧
        (t.slc m).u = satS 32 u ∧ t.on (SL_STAT_Hold m) = law.2.1 ∧ t.on (SL_STAT_Fast m) = law.2.2 ∧
        t.on (SL_STAT_OutSat m) = (u != s.rdS (SL_U_INT_V m) + law.1) ∧
        Frame s t [SL_RUN_CNT_Cnt m, SL_STAT_InLost m, SL_STAT_Claimed m, SL_FF_V m, SL_STAT_Hold m, SL_STAT_Fast m, SL_STAT_OutSat m,
          SL_U_INT_V m, SL_STAT_RcActive m] [.sl])) ∧
  (max 1 (s.rd (SL_MEMS_CFG_MissMax m)) ≤ (s.slc m).skips → s.on (SL_STAT_InLost m) = false → s.on (FLT_SRC_CFG_Assigned 184) →
    Answers (exec (.slInputLost m) s) fun t => t.on (SL_STAT_InLost m) ∧ Raised t 184 m ∧ FrameFault s t [SL_STAT_InLost m] []) ∧
  (s.on (SL_STAT_InLost m) → Answers (exec (.slInputLost m) s) fun t => Frame s t [] []) ∧
  ∀ k : Fin 8, (s.rd (SL_MEM_STAT_Miss m k) = max 1 (s.rd (SL_MEMS_CFG_MissMax m)) → s.on (SL_MEM_STAT_Lost m k) = false →
      s.on (FLT_SRC_CFG_Assigned 185) → Answers (exec (.slMemberLost m k) s) fun t =>
        t.on (SL_MEM_STAT_Lost m k) ∧ t.on (SL_MEM_STAT_Present m k) = false ∧ t.rd (SL_MEM_TRIM_V m k) = 0 ∧ Raised t 185 (m + 16 * k) ∧
        FrameFault s t [SL_MEM_STAT_Lost m k, SL_MEM_STAT_Present m k, SL_MEM_TRIM_V m k] []) ∧
    (s.on (SL_MEM_STAT_Lost m k) → Answers (exec (.slMemberLost m k) s) fun t => Frame s t [] [])

/-- SL_EN_WRITE, SL_CLR, RC_CLR, RC_DATA_WRITE, SL_TARGET_WRITE, SOC_WRITE and LOOP_MODE of a shelf loop. A disable waits for the boundary;
Clr takes a battery loop from Fault to Rest and InitMode, and has no effect elsewhere; a table clear waits for the boundary; a data write
sets the addressed bin; a target write leaves u_int; a state-of-charge write sets the accumulator with lower bits 0 and SocValid. A
LOOP_MODE that R191 refuses is REFUSED_STATE; another waits for the boundary. -/
def Obligations.ShelfLoopControls : Prop := ∀ (s : State) (m : Fin 16),
  (∀ en, Answers (exec (.slEnWrite m en) s) fun t => t.on (SL_CTL_En m) = en ∧
    t.sl = (s.modSl m fun c => { c with disPend := !en }).sl ∧ Frame s t [SL_CTL_En m] [.sl]) ∧
  (s.slBattery m → (s.slc m).mode = 5 → Answers (exec (.slClr m) s) fun t =>
    t.rd (SL_STAT_Stage m) = 0 ∧ (t.slc m).mode = s.rd (SL_CFG_InitMode m) ∧
    (s.rd (SL_CFG_InitMode m) ≤ 1 → Frame s t [SL_STAT_Stage m, SL_U_INT_V m] [.sl])) ∧
  (s.slBattery m = false ∨ (s.slc m).mode ≠ 5 → Answers (exec (.slClr m) s) fun t => Frame s t [] []) ∧
  (Answers (exec (.rcClr m) s) fun t => t.sl = (s.modSl m fun c => { c with rcClr := true }).sl ∧ Frame s t [] [.sl]) ∧
  (∀ value, Answers (exec (.rcDataWrite m value) s) fun t => t.rcAt m (s.rd (SL_RC_ADDR_Bin m)) = value.toInt ∧
    (∀ b ≠ s.rd (SL_RC_ADDR_Bin m), t.rcAt m b = s.rcAt m b) ∧ t.rd (SL_RC_DATA_V m) = value.toNat ∧
    Frame s t [SL_RC_DATA_V m] [.sl]) ∧
  (∀ value, Answers (exec (.slTargetWrite m value) s) fun t => t.rd (SL_TARGET_V m) = value.toNat ∧ Frame s t [SL_TARGET_V m] []) ∧
  (∀ value, Answers (exec (.socWrite m value) s) fun t => t.rd (SL_BAT_SOC_V m) = value.toNat ∧ t.on (SL_STAT_SocValid m) ∧
    (t.slc m).soc = (max 0 value.toInt).toNat * 2 ^ 32 ∧ Frame s t [SL_BAT_SOC_V m, SL_STAT_SocValid m] [.sl]) ∧
  ∀ tag c, s.ready tag.val 0x13 = some c → c.point = 0x5005 + 32 * m.val →
    (zeroAt c.payload 1 39 = false ∨ 4 ≤ numAt c.payload 0 1 ∨ s.slMode m = 4 ∨ (numAt c.payload 0 1 = 2 ∧ s.on (SL_STAT_InLost m)) ∨
        (s.slMode m = 5 ∧ numAt c.payload 0 1 ≠ 0) →
      Answers (exec (.loopMode tag) s) fun t => Completes s t c .refusedState (s.slMode m)) ∧
    (zeroAt c.payload 1 39 → numAt c.payload 0 1 < 4 → s.slMode m ≠ 4 →
        (numAt c.payload 0 1 = 2 → s.on (SL_STAT_InLost m) = false) → (s.slMode m = 5 → numAt c.payload 0 1 = 0) →
      Answers (exec (.loopMode tag) s) fun t => t.findCmd tag.val = some (c.ran [.start]) ∧
        t.sl = (s.modSl m fun l => { l with modePend := l.modePend ++ [(tag.val, numAt c.payload 0 1)] }).sl ∧ Frame s t [] [.rings, .sl])

/-- EF_FAST_TRIP, EF_INSERT_COMPLETE, EF_INRUSH_TIMEOUT, EF_RETRY_EXPIRY, EF_RETRY_BUDGET_RESTORE, EF_TD_MEASURE and EF_LIMITER_CHANGE. A
latched fast trip trips a channel in Off to On with cause FAST and only leaves the gate latch elsewhere; an inrush limit that has passed
trips with cause 5; a complete insertion enters Inrush with the gate charging unless its latch is set. A retry that is due asks the
sequencer for a rail-bound channel, and starts another one that is in demand, counted. A diode outside its range raises 136. The limiter
shows in Inrush and On only where it is enabled. -/
def Obligations.FuseEvents : Prop := ∀ (s : State) (e : Fin 16),
  ((s.efc e).fastPend → 1 ≤ s.efState e → s.efState e ≤ 5 → s.on (FLT_SRC_CFG_Assigned 128) →
    Answers (exec (.efFastTrip e) s) fun t => Trips s t e 1 (e + 16 * s.rd (CMP_EF_SRC_Cmp e))) ∧
  ((s.efc e).fastPend → s.efState e = 0 ∨ s.efState e = 6 ∨ s.efState e = 7 → Answers (exec (.efFastTrip e) s) fun t =>
    t.ef = (s.modEf e fun c => { c with fastPend := false }).ef ∧ Frame s t [] [.ef]) ∧
  ((s.efc e).fastPend = false → Answers (exec (.efFastTrip e) s) fun t => Frame s t [] []) ∧
  (s.efInsDone e → Answers (exec (.efInsertComplete e) s) fun t => t.efState e = 4 ∧ (t.efc e).gate = !(s.efc e).latch ∧
    Frame s t [EF_STAT_State e, EF_STAT_Pg e, HIF_EQ_LOST_CNT_Cnt] [.ef, .rings]) ∧
  (s.efInsDone e = false → Answers (exec (.efInsertComplete e) s) fun t => Frame s t [] []) ∧
  (s.efInrushLate e → s.on (FLT_SRC_CFG_Assigned 132) → Answers (exec (.efInrushTimeout e) s) fun t => Trips s t e 5 e) ∧
  (s.efInrushLate e = false → Answers (exec (.efInrushTimeout e) s) fun t => Frame s t [] []) ∧
  (s.efRetryDue e → s.on (EF_CFG_RailEn e) → Answers (exec (.efRetryExpiry e) s) fun t =>
    t.ef = (s.modEf e fun c => { c with restartReq := true }).ef ∧ Frame s t [] [.ef]) ∧
  (s.efRetryDue e → s.on (EF_CFG_RailEn e) = false → s.rd (CMP_EF_SRC_Sel e) = 0 → (s.efc e).budgetSet →
    (s.efDemand e → Answers (exec (.efRetryExpiry e) s) fun t => t.efState e = (if s.on (EF_STAT_WinOk e) then 3 else 2) ∧
      t.rd (EF_RETRY_CNT_Cnt e) = (s.rd (EF_RETRY_CNT_Cnt e) + 1) % 2 ^ 32 ∧ (t.efc e).latch = false ∧
      (s.rd (EF_RETRY_Mode e) = 1 → 0 < s.rd (EF_STAT_RetryLeft e) →
        t.rd (EF_STAT_RetryLeft e) = s.rd (EF_STAT_RetryLeft e) - 1)) ∧
    (s.efDemand e = false → Answers (exec (.efRetryExpiry e) s) fun t => t.efState e = 1 ∧ (t.efc e).latch = false ∧
      t.rd (EF_RETRY_CNT_Cnt e) = s.rd (EF_RETRY_CNT_Cnt e))) ∧
  (s.efRetryDue e = false → Answers (exec (.efRetryExpiry e) s) fun t => Frame s t [] []) ∧
  (s.efState e = 5 → 100000 ≤ (s.efc e).onCnt → Answers (exec (.efRetryBudgetRestore e) s) fun t =>
    t.rd (EF_STAT_RetryLeft e) = (if s.rd (EF_RETRY_Mode e) = 1 then s.rd (EF_RETRY_Count e) else 0) ∧
    Frame s t [EF_STAT_RetryLeft e] [.ef]) ∧
  (∀ tj, 2 ≤ s.rd (EF_CFG_TMode e) →
    (-55 * 65536 ≤ tj.toInt → tj.toInt ≤ 200 * 65536 → Answers (exec (.efTdMeasure e tj) s) fun t =>
      t.rd (EF_TJ_MEAS_V e) = tj.toNat ∧ Frame s t [EF_TJ_MEAS_V e] []) ∧
    (tj.toInt < -55 * 65536 ∨ 200 * 65536 < tj.toInt → s.on (FLT_SRC_CFG_Assigned 136) →
      Answers (exec (.efTdMeasure e tj) s) fun t => t.rd (EF_TJ_MEAS_V e) = tj.toNat ∧ t.on (EF_STAT_TdFault e) ∧ Raised t 136 e ∧
        FrameFault s t [EF_TJ_MEAS_V e, EF_STAT_TdFault e] [])) ∧
  (∀ tj, s.rd (EF_CFG_TMode e) < 2 → Answers (exec (.efTdMeasure e tj) s) fun t => Frame s t [] []) ∧
  ∀ limiting, Answers (exec (.efLimiterChange e limiting) s) fun t =>
    t.on (EF_STAT_Limiting e) = (limiting && ((s.efState e == 4 && s.on (EF_INRUSH_LimEn e)) ||
      (s.efState e == 5 && s.on (EF_CFG_OnLim e)))) ∧ Frame s t [EF_STAT_Limiting e] []

/-- EF_EN_WRITE, EF_ON_WRITE and EF_CLR_WRITE. Enabling a disabled channel takes it to Off with its budget; a disable waits for the
boundary. On is stored; where that ends the demand of a channel in Wait, Insert, Inrush or On, its gate turns off and it enters Off. Clear
takes Tripped or Latched to Off with the budget restored, and asks the sequencer for a rail-bound channel; it has no effect elsewhere. -/
def Obligations.FuseControls : Prop := ∀ (s : State) (e : Fin 16),
  (s.efState e = 0 → (s.efc e).latch = false → Answers (exec (.efEnWrite e true) s) fun t => t.on (EF_CTL_En e) ∧ t.efState e = 1 ∧
    t.rd (EF_STAT_RetryLeft e) = (if s.rd (EF_RETRY_Mode e) = 1 then s.rd (EF_RETRY_Count e) else 0) ∧
    Frame s t [EF_CTL_En e, EF_STAT_State e, EF_STAT_RetryLeft e, EF_STAT_Pg e, HIF_EQ_LOST_CNT_Cnt] [.ef, .rings]) ∧
  (s.efState e ≠ 0 → Answers (exec (.efEnWrite e true) s) fun t => t.on (EF_CTL_En e) ∧
    t.ef = (s.modEf e fun c => { c with disPend := false }).ef ∧ Frame s t [EF_CTL_En e] [.ef]) ∧
  (Answers (exec (.efEnWrite e false) s) fun t => t.on (EF_CTL_En e) = false ∧
    t.ef = (s.modEf e fun c => { c with disPend := true }).ef ∧ Frame s t [EF_CTL_En e] [.ef]) ∧
  (s.on (EF_CFG_RailEn e) = false → 2 ≤ s.efState e → s.efState e ≤ 5 → Answers (exec (.efOnWrite e false) s) fun t =>
    t.on (EF_CTL_On e) = false ∧ t.efState e = 1 ∧ (s.efState e ≠ 2 → (t.efc e).gate = false ∧ (t.efc e).softOff = s.on (EF_CFG_SoftOff e)) ∧
    Frame s t [EF_CTL_On e, EF_STAT_State e, EF_STAT_GateGood e, EF_STAT_Limiting e, EF_STAT_Pg e, HIF_EQ_LOST_CNT_Cnt] [.ef, .rings]) ∧
  (s.efState e < 2 ∨ 5 < s.efState e → ∀ on, Answers (exec (.efOnWrite e on) s) fun t => t.on (EF_CTL_On e) = on ∧
    Frame s t [EF_CTL_On e] []) ∧
  (s.on (EF_CFG_RailEn e) = false → s.on (EF_STAT_ShedOff e) = false → s.on (EF_STAT_HuOff e) = false →
    Answers (exec (.efOnWrite e true) s) fun t => t.on (EF_CTL_On e) ∧ Frame s t [EF_CTL_On e] []) ∧
  (s.on (EF_CFG_RailEn e) → s.efDemand e → ∀ on, Answers (exec (.efOnWrite e on) s) fun t => t.on (EF_CTL_On e) = on ∧
    Frame s t [EF_CTL_On e] []) ∧
  (s.efState e = 6 ∨ s.efState e = 7 → s.rd (CMP_EF_SRC_Sel e) = 0 → Answers (exec (.efClrWrite e) s) fun t => t.efState e = 1 ∧
    t.rd (EF_STAT_RetryLeft e) = (if s.rd (EF_RETRY_Mode e) = 1 then s.rd (EF_RETRY_Count e) else 0) ∧ (t.efc e).latch = false ∧
    (t.efc e).restartReq = s.on (EF_CFG_RailEn e)) ∧
  (s.efState e ≠ 6 → s.efState e ≠ 7 → Answers (exec (.efClrWrite e) s) fun t => Frame s t [] [])

/-- EFUSE_OFF, EFUSE_ON, EFUSE_CLEAR and EFUSE_READ. A command that the table of R259 refuses completes with that status and the state word
of the 16 channels, and has no other effect. Off clears On of the named channels and takes those in Wait to On into Off; On sets On; Clear
takes tripped and latched channels to Off, or completes FAULTED with those Latched whose comparator latch stays set; Read returns the
state word alone. The result is the state word after the command. -/
def Obligations.FuseCommands : Prop := ∀ (s : State) (tag : Fin 256) (c : Cmd), s.ready tag.val 0x14 = some c →
  (∀ st, s.efuseCheck c.payload = some st →
    (numAt c.payload 2 1 = 0 → Answers (exec (.efuseOff tag) s) fun t => CompletesAlone s t c st s.efStates) ∧
    (numAt c.payload 2 1 = 1 → Answers (exec (.efuseOn tag) s) fun t => CompletesAlone s t c st s.efStates) ∧
    (numAt c.payload 2 1 = 2 → Answers (exec (.efuseClear tag) s) fun t => CompletesAlone s t c st s.efStates) ∧
    (3 ≤ numAt c.payload 2 1 → Answers (exec (.efuseRead tag) s) fun t => CompletesAlone s t c st s.efStates)) ∧
  (s.efuseCheck c.payload = none →
    (numAt c.payload 2 1 = 0 → Answers (exec (.efuseOff tag) s) fun t => Completes s t c .ok t.efStates ∧
      ∀ e < 16, if (numAt c.payload 0 2).testBit e
        then t.on (EF_CTL_On e) = false ∧ t.efState e = (if 2 ≤ s.efState e ∧ s.efState e ≤ 5 then 1 else s.efState e)
        else t.on (EF_CTL_On e) = s.on (EF_CTL_On e) ∧ t.efState e = s.efState e) ∧
    (numAt c.payload 2 1 = 1 → Answers (exec (.efuseOn tag) s) fun t => Completes s t c .ok s.efStates ∧
      ∀ e < 16, t.on (EF_CTL_On e) = (s.on (EF_CTL_On e) || (numAt c.payload 0 2).testBit e) ∧ t.efState e = s.efState e) ∧
    (numAt c.payload 2 1 = 2 →
      ((∀ e < 16, (numAt c.payload 0 2).testBit e → s.efWouldStick e = false) →
        Answers (exec (.efuseClear tag) s) fun t => Completes s t c .ok t.efStates ∧
          ∀ e < 16, t.efState e = if (numAt c.payload 0 2).testBit e ∧ (s.efState e = 6 ∨ s.efState e = 7) then 1 else s.efState e) ∧
      (∀ e < 16, (numAt c.payload 0 2).testBit e → s.efWouldStick e →
        Answers (exec (.efuseClear tag) s) fun t => Completes s t c .faulted t.efStates ∧ t.efState e = 7)) ∧
    (numAt c.payload 2 1 = 3 → Answers (exec (.efuseRead tag) s) fun t => CompletesAlone s t c .ok s.efStates))

/-- FEED_ESTIMATOR_STAGE, ENERGY_PREDICTOR, FEED_PAIR_RETURN, FEED_GROUP_RETURN, PERT_TOGGLE and EST_RESTART. No stage runs while the cores
restart. The estimator stage of a lone home declares a group lost whose latch has set, raising 162 with no power drawn, and otherwise
forms the power drawn from the averages; it writes nothing but the group's registers. The predictor judges the input, counts its valid
frames and forms the energy of the capacitor. A returning pair is present again with R scaled by its share; a returning group restarts the
estimator; the wave toggles when its half-period is over; a restart waits for the stage. -/
def Obligations.FeedStages : Prop := ∀ (s : State) (g p : Fin 8),
  (s.frm.coreRst → (Answers (exec .feedEstimatorStage s) fun t => Frame s t [] []) ∧
    (Answers (exec .energyPredictor s) fun t => Frame s t [] [])) ∧
  (s.frm.coreRst = false → s.groups = [g.val] → s.rd TL_CFG_SetSize ≤ 1 →
    (Answers (exec .feedEstimatorStage s) fun t => FrameFault s t (regsFrom (0x24400 + 0x100 * g) 64) [.cap]) ∧
    (s.on (FG_STAT_Lost g) = false → (s.fgc g).latch → s.on (FLT_SRC_CFG_Assigned 162) →
      Answers (exec .feedEstimatorStage s) fun t => t.on (FG_STAT_Lost g) ∧ Raised t 162 g ∧ t.rd (FG_PDRAW_V g) = 0 ∧
        (t.fgc g).latch = false) ∧
    (s.on (FG_STAT_Lost g) = false → (s.fgc g).latch = false → s.fgPresent g = s.fgPairs g → s.fgPairs g ≠ [] → s.pairsGone g = [] →
      (∀ v, s.tmLatest (s.rd (FG_CFG_VrCh g)) = some v → s.rdS (FG_VIN_LOSS_V g) ≤ v) →
      Answers (exec .feedEstimatorStage s) fun t => t.on (FG_STAT_Lost g) = false ∧
        t.rdS (FG_PDRAW_V g) = satS 32 (divRnd ((s.tmAvg (s.rd (FG_CFG_VrCh g))).int *
          (s.fgPresent g).foldl (fun a p => a + (s.tmAvg (s.fgPairCh g p)).int) 0) 65536))) ∧
  (s.frm.coreRst = false → s.rd HU_CFG_InMask = 0 → s.on HU_CFG_BusCheck = false → s.rd HU_CFG_Store = 0 →
    ∀ e, s.eCap = (e, false, false) → Answers (exec .energyPredictor s) fun t => t.on HU_STAT_InValid ∧
      t.rd HU_STAT_ValidCnt = min 65535 (s.rd HU_STAT_ValidCnt + 1) ∧ t.rdS HU_EAVAIL_V = jQ16 e ∧ t.cap.eAvail = e ∧
      t.cap.inLost = false ∧ Frame s t [HU_STAT_InValid, HU_STAT_ValidCnt, HU_EAVAIL_V, HU_ENEED_V, HU_ALLOW_V] [.cap]) ∧
  (s.pairBackDue g p → Answers (exec (.feedPairReturn g p) s) fun t =>
    t.rd (FG_STAT_PairPresent g) = setBit (s.rd (FG_STAT_PairPresent g)) p true ∧
    (t.fgc g).r = fmul (s.fgc g).r (f32Round (((2 ^ 24 : Nat) : Int) - (s.fgc g).shares.getD p 0) 1 (-24)) ∧
    t.rd (FG_RESTART_CNT_Cnt g) = (s.rd (FG_RESTART_CNT_Cnt g) + 1) % 2 ^ 32 ∧
    Frame s t [FG_STAT_PairPresent g, FG_STAT_Scaled g, FG_RESTART_CNT_Cnt g] [.cap]) ∧
  (s.pairBackDue g p = false → Answers (exec (.feedPairReturn g p) s) fun t => Frame s t [] []) ∧
  (s.groupBackDue g → Answers (exec (.feedGroupReturn g) s) fun t => t.on (FG_STAT_Lost g) = false ∧ (t.fgc g).used = 0 ∧
    t.rd (FG_RESTART_CNT_Cnt g) = (s.rd (FG_RESTART_CNT_Cnt g) + 1) % 2 ^ 32 ∧
    Frame s t [FG_STAT_Lost g, FG_RESTART_CNT_Cnt g] [.cap]) ∧
  (s.groupBackDue g = false → Answers (exec (.feedGroupReturn g) s) fun t => Frame s t [] []) ∧
  (s.pertDue g → Answers (exec (.pertToggle g) s) fun t =>
    t.cap = (s.modFg g fun c => { c with pertFor := 0, pertHigh := !c.pertHigh }).cap ∧ Frame s t [] [.cap]) ∧
  (s.pertDue g = false → Answers (exec (.pertToggle g) s) fun t => Frame s t [] []) ∧
  Answers (exec (.estRestart g) s) fun t => t.cap = (s.modFg g fun c => { c with estReq := true }).cap ∧ Frame s t [] [.cap]

/-- HOLD_UP_STAGE, HU_RETURN_NORMAL, HU_SHUT_LONG, HU_EN_WRITE and HU_RESTART_WRITE. A disabled manager does nothing. From Normal a lost
input leads to RideThrough, counted and raised as 167; from RideThrough energy that no longer suffices leads to last gasp, counted and
raised as 168, and an input valid long enough back to Normal; Shutdown becomes Down once the sequencer is off, and raises 171 after 10,000
frames. En is cleared in Normal alone; a restart is asked for in Down alone. -/
def Obligations.HoldUp : Prop := ∀ s : State,
  (s.frm.coreRst ∨ (s.on HU_CTL_En = false ∧ s.cap.huRel = false) → Answers (exec .holdUpStage s) fun t => Frame s t [] []) ∧
  (s.frm.coreRst = false → s.on HU_CTL_En → s.cap.huRel = false → (s.cap.gaspIn && s.on HU_CFG_SetGasp) = false →
    (s.rd HU_STAT_State = 0 → s.cap.inLost = false → Answers (exec .holdUpStage s) fun t => t.rd HU_STAT_State = 0 ∧
      t.cap.wasValid = s.on HU_STAT_InValid ∧ Frame s t [HU_STAT_RestartPend] [.cap]) ∧
    (s.rd HU_STAT_State = 0 → s.cap.inLost → s.gaspDue = false → s.on (FLT_SRC_CFG_Assigned 167) →
      Answers (exec .holdUpStage s) fun t => t.rd HU_STAT_State = 1 ∧ Raised t 167 s.cap.lostMask ∧
        t.rd HU_INPUT_LOSS_CNT_Cnt = (s.rd HU_INPUT_LOSS_CNT_Cnt + 1) % 2 ^ 32) ∧
    (s.rd HU_STAT_State = 1 → s.gaspDue → s.on (FLT_SRC_CFG_Assigned 168) →
      Answers (exec .holdUpStage s) fun t => t.rd HU_STAT_State = 2 ∧ Raised t 168 0 ∧ t.rbt.gasp ∧
        t.rd HU_GASP_CNT_Cnt = (s.rd HU_GASP_CNT_Cnt + 1) % 2 ^ 32) ∧
    (s.rd HU_STAT_State = 1 → s.gaspDue = false → s.huBack → Answers (exec .holdUpStage s) fun t => t.rd HU_STAT_State = 0 ∧
      t.cap.huThr = 0) ∧
    (s.rd HU_STAT_State = 2 → s.rd SEQ_STAT_State = 0 → s.huBack = false → Answers (exec .holdUpStage s) fun t =>
      t.rd HU_STAT_State = 3 ∧ Frame s t [HU_STAT_State, HU_STAT_RestartPend] [.cap, .records])) ∧
  (s.on HU_CTL_En → s.rd HU_STAT_State = 1 → s.huBack → s.gaspDue = false → Answers (exec .huReturnNormal s) fun t =>
    t.rd HU_STAT_State = 0 ∧ t.rbt.gasp = false) ∧
  (s.on HU_CTL_En = false ∨ s.rd HU_STAT_State ≠ 1 ∨ s.huBack = false ∨ s.gaspDue → Answers (exec .huReturnNormal s) fun t =>
    Frame s t [] []) ∧
  (s.rd HU_STAT_State = 2 → 10000 < s.cap.shutFor → s.cap.shutLong = false → s.on (FLT_SRC_CFG_Assigned 171) →
    Answers (exec .huShutLong s) fun t => Raised t 171 0 ∧ t.cap = { s.cap with shutLong := true } ∧ FrameFault s t [] [.cap]) ∧
  (s.rd HU_STAT_State ≠ 2 ∨ s.cap.shutFor ≤ 10000 ∨ s.cap.shutLong → Answers (exec .huShutLong s) fun t => Frame s t [] []) ∧
  (∀ en : Bool, en ∨ s.rd HU_STAT_State = 0 → Answers (exec (.huEnWrite en) s) fun t => t.on HU_CTL_En = en ∧ Frame s t [HU_CTL_En] []) ∧
  (s.rd HU_STAT_State ≠ 0 → Answers (exec (.huEnWrite false) s) fun t => Frame s t [] []) ∧
  (s.rd HU_STAT_State = 3 → Answers (exec .huRestartWrite s) fun t => t.cap = { s.cap with restartReq := true } ∧ Frame s t [] [.cap]) ∧
  (s.rd HU_STAT_State ≠ 3 → Answers (exec .huRestartWrite s) fun t => Frame s t [] [])

/-- CAPPING_STAGE, WRONG_SIDE_CLEAR, CAP_EN_WRITE and CAP_SET. With capping disabled the stage only shows severity and wrong sides; enabled
on the master, a group over its budget with no actuator is exhausted and raises 164, its demand held at 0. WrongSide clears after WsClear
clear frames. A disable waits for the boundary. CAP_SET with a bad payload or on a device without the role is REFUSED_STATE; else it stores
the values its Sel names, for one group or all, and completes OK with the values that were in force. -/
def Obligations.Capping : Prop := ∀ s : State,
  (s.frm.coreRst → Answers (exec .cappingStage s) fun t => Frame s t [] []) ∧
  (s.frm.coreRst = false → s.on CAP_CTL_En = false → Answers (exec .cappingStage s) fun t =>
    (∀ g < 8, (t.rd CAP_STAT_WrongSide).testBit g = s.on (FG_STAT_WrongSide g)) ∧
    Frame s t (CAP_STAT_Severity :: CAP_STAT_WrongSide :: (List.range 8).map FG_STAT_Severity) []) ∧
  (∀ g : Fin 8, s.frm.coreRst = false → s.on CAP_CTL_En → s.on GLB_STAT_ShelfMaster → s.groups = [g.val] → s.on (FG_STAT_Lost g) = false →
    s.on (FG_STAT_WrongSide g) = false → s.on CAP_CTL_WsEn = false → s.tl.reports = [] → s.rd CAP_SET_PLIM_V = 0 →
    s.walkList s.me g s.shaveCap.1 = [] → 0 ≤ (s.demOf s.me g).d → s.on (FG_STAT_Exhausted g) = false →
    (s.wrS (FG_PMAX_V g) (s.fgPmax g)).fgLocal g < s.rdS (FG_PDRAW_V g) → s.on (FLT_SRC_CFG_Assigned 164) →
    Answers (exec .cappingStage s) fun t => t.on (FG_STAT_Exhausted g) ∧ Raised t 164 g ∧ t.rd (FG_DEMAND_V g) = 0) ∧
  (∀ g : Fin 8, (s.wsClearDue g → Answers (exec (.wrongSideClear g) s) fun t => t.on (FG_STAT_WrongSide g) = false ∧ (t.fgc g).wsClr = 0 ∧
      Frame s t [FG_STAT_WrongSide g] [.cap]) ∧
    (s.wsClearDue g = false → Answers (exec (.wrongSideClear g) s) fun t => Frame s t [] [])) ∧
  (∀ en, Answers (exec (.capEnWrite en) s) fun t => t.on CAP_CTL_En = en ∧
    t.cap = { s.cap with disPend := if en then false else s.cap.disPend || s.on CAP_CTL_En } ∧ Frame s t [CAP_CTL_En] [.cap]) ∧
  ∀ tag c, s.ready tag.val 0x16 = some c →
    (capSetBad c.payload ∨ s.on GLB_STAT_ShelfMaster = false → Answers (exec (.capSet tag) s) fun t => CompletesAlone s t c .refusedState 0) ∧
    (capSetBad c.payload = false → s.on GLB_STAT_ShelfMaster → Answers (exec (.capSet tag) s) fun t =>
      let g := numAt c.payload 0 1
      let sel := numAt c.payload 1 1
      (∀ k < 8, t.rd (FG_CFG_K k) = (if sel.testBit 0 ∧ (g = 255 ∨ g = k) then numAt c.payload 4 2 else s.rd (FG_CFG_K k)) ∧
        t.rd (FG_PLIM_V k) = (if sel.testBit 1 ∧ (g = 255 ∨ g = k) then numAt c.payload 8 4 else s.rd (FG_PLIM_V k))) ∧
      t.rd CAP_SET_PLIM_V = (if sel.testBit 2 then numAt c.payload 12 4 else s.rd CAP_SET_PLIM_V) ∧
      Completes s t c .ok (if sel = 4 then 2 ^ 32 * s.rd CAP_SET_PLIM_V
        else s.rd (FG_CFG_K (if g = 255 then 0 else g)) + 2 ^ 32 * s.rd (FG_PLIM_V (if g = 255 then 0 else g))) ∧
      Frame s t (HIF_TAG_State c.tag :: FLT_INJ_Armed :: CAP_SET_PLIM_V :: (List.range 8).map FG_CFG_K ++ (List.range 8).map FG_PLIM_V)
        [.rings, .flt])

/-- SEQUENCER_STEP. No step runs while the cores restart or before the first apply, and a disabled sequencer drops its requests and moves no
rail. With one rail of kind None in use: a power-up request from Idle takes the sequencer to PowerUp and its demanded rail from Off to
Wait; without a delay Wait leads to a granted Ramp; a monitor at UP_THR leads to Up with the ramp's length; and once no rail is on its way
the sequencer is Up. -/
def Obligations.SequencerSteps : Prop := ∀ (s : State) (r : Fin 32),
  (s.frm.coreRst ∨ s.sense.applied = false → ∀ line, Answers (exec (.sequencerStep line) s) fun t => Frame s t [] []) ∧
  (s.frm.coreRst = false → s.sense.applied → s.on SEQ_CTL_En = false → s.seq.drive = 0 →
    Answers (exec (.sequencerStep false) s) fun t => t.seq.reqs = [] ∧ t.on SEQ_STAT_FltLevel = false ∧
      t.seq.rails = s.seq.rails ∧ Frame s t [SEQ_STAT_FltLevel] [.seq]) ∧
  (SeqQuiet s r → ∀ m, s.seq.reqs = [.on m] → m ≠ 0 → (s.closePre m).testBit r → s.rd SEQ_STAT_State = 0 → s.railState r = 0 →
    s.rd SEQ_TIMING_RestartDelay ≤ s.seq.idleFor → Answers (exec (.sequencerStep false) s) fun t =>
      t.rd SEQ_STAT_State = 1 ∧ t.railDemand r ∧ t.railState r = 1 ∧ t.seq.reqs = []) ∧
  (SeqQuiet s r → s.seq.reqs = [] → s.rd SEQ_STAT_State = 1 → s.railDemand r →
    (s.railState r = 1 → s.rd (SEQ_RAIL_DELAY_OnDelay r) = 0 → Answers (exec (.sequencerStep false) s) fun t =>
      t.railState r = 3 ∧ t.railGrant r ∧ t.rd SEQ_STAT_State = 1) ∧
    (s.railState r = 3 → s.monAbove r → Answers (exec (.sequencerStep false) s) fun t => t.railState r = 4 ∧
      t.rd (SEQ_RAIL_RAMP_LAST_Frames r) = min 65535 ((s.rail r).age + 1) ∧ t.rd SEQ_STAT_State = 1) ∧
    (s.railState r = 4 → s.monAbove r → s.rdS (SEQ_RAIL_DROP_THR_V r) ≤ s.rdS (SEQ_RAIL_UP_THR_V r) →
      Answers (exec (.sequencerStep false) s) fun t => t.railState r = 4 ∧ t.rd SEQ_STAT_State = 2))

/-- RAIL_ONDELAY_EXPIRY, RAIL_OFFDELAY_EXPIRY, RAIL_RAMP_TIMEOUT, RAIL_FALL_TIMEOUT, RAIL_DROPOUT, RESTART_DELAY_EXPIRY, SEQ_FLT_IN,
SEQ_FLT_RELEASE and SEQ_FLT_LINE_HIGH. A delay that has passed grants the rail into Ramp, or withdraws it into Fall; a ramp or an
undervoltage that has lasted too long fails the rail, counted, withdrawn and raised as 144 or 145; a fall too long leaves it Off and Stuck
with 148; the restart delay starts the stored power-up. An external low raises 149 and is counted; the drive ends; a line high long enough
takes LINE-failed rails to Off. None acts before it is due. -/
def Obligations.SequencerEvents : Prop := ∀ (s : State) (r : Fin 32),
  (s.railOnDue r → Answers (exec (.railOndelayExpiry r) s) fun t => t.railState r = 3 ∧ t.railGrant r ∧
    (s.railKind r = 0 → Frame s t [SEQ_RAIL_STAT_Grant r, SEQ_RAIL_STAT_State r, SEQ_RAIL_STAT_Frames r, HIF_EQ_LOST_CNT_Cnt]
      [.seq, .rings])) ∧
  (s.railOnDue r = false → Answers (exec (.railOndelayExpiry r) s) fun t => Frame s t [] []) ∧
  (s.railOffDue r → Answers (exec (.railOffdelayExpiry r) s) fun t => t.railState r = 6 ∧ t.railGrant r = false ∧
    (s.railKind r = 0 → Frame s t [SEQ_RAIL_STAT_Grant r, SEQ_RAIL_STAT_State r, SEQ_RAIL_STAT_Frames r, HIF_EQ_LOST_CNT_Cnt]
      [.seq, .rings])) ∧
  (s.railOffDue r = false → Answers (exec (.railOffdelayExpiry r) s) fun t => Frame s t [] []) ∧
  (s.railRampLate r → s.on (FLT_SRC_CFG_Assigned 144) → Answers (exec (.railRampTimeout r) s) fun t => t.railState r = 7 ∧
    t.rd (SEQ_RAIL_STAT_Cause r) = 1 ∧ t.railGrant r = false ∧ Raised t 144 r ∧
    t.rd (SEQ_RAIL_FAIL_CNT_Cnt r) = (s.rd (SEQ_RAIL_FAIL_CNT_Cnt r) + 1) % 2 ^ 32) ∧
  (s.railRampLate r = false → Answers (exec (.railRampTimeout r) s) fun t => Frame s t [] []) ∧
  (s.railDropped r → s.on (FLT_SRC_CFG_Assigned 145) → Answers (exec (.railDropout r) s) fun t => t.railState r = 7 ∧
    t.rd (SEQ_RAIL_STAT_Cause r) = 2 ∧ t.railGrant r = false ∧ Raised t 145 r ∧
    t.rd (SEQ_RAIL_FAIL_CNT_Cnt r) = (s.rd (SEQ_RAIL_FAIL_CNT_Cnt r) + 1) % 2 ^ 32) ∧
  (s.railDropped r = false → Answers (exec (.railDropout r) s) fun t => Frame s t [] []) ∧
  (s.railFallLate r → s.on (FLT_SRC_CFG_Assigned 148) → Answers (exec (.railFallTimeout r) s) fun t => t.railState r = 0 ∧
    t.on (SEQ_RAIL_STAT_Stuck r) ∧ Raised t 148 r ∧
    FrameFault s t [SEQ_RAIL_STAT_Stuck r, SEQ_RAIL_STAT_State r, SEQ_RAIL_STAT_Frames r, HIF_EQ_LOST_CNT_Cnt] [.seq, .rings]) ∧
  (s.railFallLate r = false → Answers (exec (.railFallTimeout r) s) fun t => Frame s t [] []) ∧
  (s.rd SEQ_STAT_State = 4 → s.seq.fresh = false → s.rd SEQ_TIMING_RestartDelay ≤ s.seq.idleFor →
    Answers (exec .restartDelayExpiry s) fun t => t.rd SEQ_STAT_State = 1 ∧ t.on SEQ_STAT_OnPending = false ∧
      (∀ d < 32, t.railDemand d = (s.closePre s.seq.stored).testBit d) ∧
      Frame s t (SEQ_STAT_State :: SEQ_STAT_OnPending :: (List.range 32).map SEQ_RAIL_STAT_Demand) [.seq]) ∧
  (s.rd SEQ_STAT_State ≠ 4 ∨ s.seq.fresh ∨ s.seq.idleFor < s.rd SEQ_TIMING_RestartDelay →
    Answers (exec .restartDelayExpiry s) fun t => Frame s t [] []) ∧
  (s.seq.drive = 0 → s.on (FLT_SRC_CFG_Assigned 149) → Answers (exec .seqFltIn s) fun t => t.on SEQ_STAT_FltLevel ∧ t.on SEQ_STAT_FltIn ∧
    t.rd SEQ_FLT_LOW_CNT_Cnt = (s.rd SEQ_FLT_LOW_CNT_Cnt + 1) % 2 ^ 32 ∧ Raised t 149 0 ∧ t.seq.extLow ∧
    FrameFault s t [SEQ_STAT_FltLevel, SEQ_STAT_FltIn, SEQ_FLT_LOW_CNT_Cnt] [.seq]) ∧
  (s.seq.drive ≠ 0 → Answers (exec .seqFltIn s) fun t => t.on SEQ_STAT_FltLevel ∧ Frame s t [SEQ_STAT_FltLevel] []) ∧
  (s.seqDriveDone → Answers (exec .seqFltRelease s) fun t => t.on SEQ_STAT_FltDrive = false ∧ t.on SEQ_STAT_FltLevel = s.seq.extLow ∧
    t.seq = { s.seq with drive := 0 } ∧ Frame s t [SEQ_STAT_FltDrive, SEQ_STAT_FltLevel] [.seq]) ∧
  (s.seqDriveDone = false → Answers (exec .seqFltRelease s) fun t => Frame s t [] []) ∧
  (s.seq.highFor < max 1 (s.rd SEQ_FLT_CFG_RelFrames) → Answers (exec .seqFltLineHigh s) fun t => Frame s t [] []) ∧
  (max 1 (s.rd SEQ_FLT_CFG_RelFrames) ≤ s.seq.highFor → Answers (exec .seqFltLineHigh s) fun t => t.seq.lineDown = false ∧
    ∀ d < 32, t.railState d = if s.railUse d ∧ s.railState d = 7 ∧ s.rd (SEQ_RAIL_STAT_Cause d) = 5 then 0 else s.railState d)

/-- SEQ_POWER_UP, SEQ_POWER_DOWN, SEQ_RAIL_ON, SEQ_RAIL_OFF, SEQ_CLEAR, SEQ_READ, SEQ_EN_WRITE and SEQ_RAIL_CLR. A command that the table of
R288 refuses completes with that status and has no other effect. Any other takes its request in this slot and completes OK with the masks of
rails Up and Failed; a read takes none. En is cleared in Idle alone; a rail's Clr is a request of its own. -/
def Obligations.SequencerCommands : Prop := ∀ s : State,
  (∀ (tag : Fin 256) (c : Cmd), s.ready tag.val 0x15 = some c → ∀ i act,
    (i, act) ∈ [(Instr.seqPowerUp tag, 0), (.seqPowerDown tag, 1), (.seqRailOn tag, 2), (.seqRailOff tag, 3), (.seqClear tag, 4),
      (.seqRead tag, 5)] → min (numAt c.payload 0 1) 5 = act →
    (s.seqCheck c.payload ≠ .ok → Answers (exec i s) fun t => CompletesAlone s t c (s.seqCheck c.payload) s.seqResult) ∧
    (s.seqCheck c.payload = .ok → Answers (exec i s) fun t => Completes s t c .ok s.seqResult ∧
      t.seq.reqs = s.seq.reqs ++ (match act with
        | 0 => [.on (numAt c.payload 4 4)] | 1 => [.off] | 2 => [.railOn (numAt c.payload 4 4)] | 3 => [.railOff (numAt c.payload 4 4)]
        | 4 => [.clear (numAt c.payload 4 4)] | _ => []) ∧
      Frame s t [HIF_TAG_State c.tag, FLT_INJ_Armed] [.rings, .flt, .seq])) ∧
  (∀ en : Bool, en ∨ s.rd SEQ_STAT_State = 0 → Answers (exec (.seqEnWrite en) s) fun t => t.on SEQ_CTL_En = en ∧ Frame s t [SEQ_CTL_En] []) ∧
  (s.rd SEQ_STAT_State ≠ 0 → Answers (exec (.seqEnWrite false) s) fun t => Frame s t [] []) ∧
  ∀ r : Fin 32, Answers (exec (.seqRailClr r) s) fun t => t.seq = { s.seq with reqs := s.seq.reqs ++ [.clear (2 ^ r.val)] } ∧
    Frame s t [] [.seq]

/-- PAIR_ATTACH, PAIR_DETACH, EQ_CTL_WRITE, TS_CTL_WRITE, SQ_TAIL_DOORBELL and CQ_HEAD_DOORBELL. En and Resume are stored at once; a change
of En waits for the boundary. A doorbell of a ring that is not attached has no effect; of a passive pair it is only recorded. A tail within
the ring, or a head within what was posted, is taken, and a CQ head frees the tags of the completions it passes; one beyond raises 33 with
the doorbell's number and moves nothing. -/
def Obligations.RingsAndDoorbells : Prop := ∀ s : State,
  (∀ (n : Fin 4) resume, Answers (exec (.pairAttach n resume) s) fun t => t.on (HIF_SQ_CTL_En n) ∧ t.on (HIF_SQ_CTL_Resume n) = resume ∧
    t.hif = (if s.on (HIF_SQ_CTL_En n) then s.hif
      else { s.hif with attachReq := s.hif.attachReq.filter (fun e => e.1 != n.val) ++ [(n.val, resume)] }) ∧
    Frame s t [HIF_SQ_CTL_En n, HIF_SQ_CTL_Resume n] [.rings]) ∧
  (∀ n : Fin 4, Answers (exec (.pairDetach n) s) fun t => t.on (HIF_SQ_CTL_En n) = false ∧
    t.hif = (if s.on (HIF_SQ_CTL_En n) then { s.hif with attachReq := s.hif.attachReq.filter (fun e => e.1 != n.val),
                                                         detachReq := n.val :: s.hif.detachReq.filter (fun e => e != n.val) } else s.hif) ∧
    Frame s t [HIF_SQ_CTL_En n] [.rings]) ∧
  (∀ value, Answers (exec (.eqCtlWrite value) s) fun t => t.on HIF_EQ_CTL_En = value.toNat.testBit 0 ∧
    t.on HIF_EQ_CTL_Resume = value.toNat.testBit 1 ∧ t.hif.attached = s.hif.attached ∧
    (value.toNat.testBit 0 → s.on HIF_EQ_CTL_En = false → (8, value.toNat.testBit 1) ∈ t.hif.attachReq) ∧
    (value.toNat.testBit 0 = false → s.on HIF_EQ_CTL_En → 8 ∈ t.hif.detachReq) ∧
    Frame s t [HIF_EQ_CTL_En, HIF_EQ_CTL_Resume] [.rings]) ∧
  (∀ (k : Fin 8) value, Answers (exec (.tsCtlWrite k value) s) fun t => t.on (HIF_TS_CTL_En k) = value.toNat.testBit 0 ∧
    t.on (HIF_TS_CTL_Resume k) = value.toNat.testBit 1 ∧ t.hif.attached = s.hif.attached ∧
    (value.toNat.testBit 0 → s.on (HIF_TS_CTL_En k) = false → (16 + k.val, value.toNat.testBit 1) ∈ t.hif.attachReq) ∧
    (value.toNat.testBit 0 = false → s.on (HIF_TS_CTL_En k) → 16 + k.val ∈ t.hif.detachReq) ∧
    Frame s t [HIF_TS_CTL_En k, HIF_TS_CTL_Resume k] [.rings]) ∧
  (∀ (n : Fin 4) value,
    (s.hif.attached.contains n.val = false → Answers (exec (.sqTailDoorbell n value) s) fun t => Frame s t [] []) ∧
    (s.hif.attached.contains n.val → s.passive ∨
        seqDist (seqAdd (s.rd (HIF_SQ_ACCEPTED_SEQ_Seq n)) 1) value.toNat ≤ 2 ^ s.rd (HIF_SQ_CFG_SizeLog2 n) →
      Answers (exec (.sqTailDoorbell n value) s) fun t => t.rd (HIF_SQ_TAIL_Seq n) = value.toNat ∧ Frame s t [HIF_SQ_TAIL_Seq n] []) ∧
    (s.hif.attached.contains n.val → s.passive = false →
        2 ^ s.rd (HIF_SQ_CFG_SizeLog2 n) < seqDist (seqAdd (s.rd (HIF_SQ_ACCEPTED_SEQ_Seq n)) 1) value.toNat →
        s.on (FLT_SRC_CFG_Assigned 33) →
      Answers (exec (.sqTailDoorbell n value) s) fun t => t.on (HIF_SQ_STAT_DbErr n) ∧ Raised t 33 n ∧
        FrameFault s t [HIF_SQ_STAT_DbErr n] [])) ∧
  (∀ (n : Fin 4) value,
    (s.hif.attached.contains n.val = false → Answers (exec (.cqHeadDoorbell (.cq n) value) s) fun t => Frame s t [] []) ∧
    (s.hif.attached.contains n.val → s.passive → Answers (exec (.cqHeadDoorbell (.cq n) value) s) fun t =>
      t.rd (HIF_CQ_HEAD_Seq n) = value.toNat ∧ Frame s t [HIF_CQ_HEAD_Seq n] []) ∧
    (s.hif.attached.contains n.val → s.passive = false → seqDist (s.rd (HIF_CQ_HEAD_Seq n)) value.toNat ≤ s.ringUsed (cqRegs n) →
        (∀ e ∈ s.hif.posted, e.2.2 < 256) →
      Answers (exec (.cqHeadDoorbell (.cq n) value) s) fun t => t.rd (HIF_CQ_HEAD_Seq n) = value.toNat ∧
        t.hif.posted = s.hif.posted.filter (fun e => !(e.1 == n.val && seqAfter e.2.1 value.toNat)) ∧
        (∀ e ∈ s.hif.posted, e.1 = n.val → seqAfter e.2.1 value.toNat → t.rd (HIF_TAG_State e.2.2) = 0) ∧
        Frame s t (HIF_CQ_HEAD_Seq n :: s.hif.posted.map (fun e => HIF_TAG_State e.2.2)) [.rings]) ∧
    (s.hif.attached.contains n.val → s.passive = false → s.ringUsed (cqRegs n) < seqDist (s.rd (HIF_CQ_HEAD_Seq n)) value.toNat →
        s.on (FLT_SRC_CFG_Assigned 33) →
      Answers (exec (.cqHeadDoorbell (.cq n) value) s) fun t => t.on (HIF_SQ_STAT_DbErr n) ∧ Raised t 33 (4 + n) ∧
        FrameFault s t [HIF_SQ_STAT_DbErr n] [])) ∧
  (∀ value, s.hif.attached.contains 8 → seqDist (s.rd HIF_EQ_HEAD_Seq) value.toNat ≤ s.ringUsed eqRegs →
    Answers (exec (.cqHeadDoorbell .eq value) s) fun t => t.rd HIF_EQ_HEAD_Seq = value.toNat ∧ Frame s t [HIF_EQ_HEAD_Seq] []) ∧
  ∀ (k : Fin 8) value, s.hif.attached.contains (16 + k.val) → seqDist (s.rd (HIF_TS_HEAD_Seq k)) value.toNat ≤ s.ringUsed (tsRegs k) →
    Answers (exec (.cqHeadDoorbell (.ts k) value) s) fun t => t.rd (HIF_TS_HEAD_Seq k) = value.toNat ∧ Frame s t [HIF_TS_HEAD_Seq k] []

/-- DESCRIPTOR_FETCH, COMPLETION_POST, EVENT_POST and STREAM_RECORD_WRITE. A fetch buffers the descriptors that arrived, as far as there is
room; a third failed read in a row raises 37 and disables the pair. A completion, an event or a stream record goes to the next slot of its
ring with its sequence number and CRC, and its interrupt cause counts; a completion's tag is then Posted; a completion owed to an earlier
attachment is dropped and counted; losses of events are told first. Without room, attachment or DMA nothing posts, and a stream record is
dropped and counted. -/
def Obligations.RingTraffic : Prop := ∀ (s : State) (n : Fin 4),
  (s.pairOpen n = false ∨ s.passive ∨ s.dmaOk = false ∨ s.fetchRoom n = 0 →
    ∀ data, Answers (exec (.descriptorFetch n data) s) fun t => Frame s t [] []) ∧
  (s.pairOpen n → s.passive = false → s.dmaOk → s.fetchRoom n ≠ 0 →
    (∀ b, Answers (exec (.descriptorFetch n (some b)) s) fun t =>
      t.hif.fetch = s.hif.fetch ++ (List.range (min (b.length / 64) (s.fetchRoom n))).map
        (fun i => { pair := n, bytes := slice b (64 * i) 64 }) ∧
      nth t.hif.dmaFails n = 0 ∧ nth t.hif.fetchSeq n = seqAdd (nth s.hif.fetchSeq n) (min (b.length / 64) (s.fetchRoom n)) ∧
      Frame s t [] [.rings]) ∧
    (nth s.hif.dmaFails n < 2 → Answers (exec (.descriptorFetch n none) s) fun t =>
      t.hif = { s.hif with dmaFails := upd s.hif.dmaFails n (· + 1) } ∧ Frame s t [] [.rings]) ∧
    (2 ≤ nth s.hif.dmaFails n → s.on (FLT_SRC_CFG_Assigned 37) → Answers (exec (.descriptorFetch n none) s) fun t =>
      t.on (HIF_SQ_CTL_En n) = false ∧ t.on (HIF_SQ_STAT_DmaErr n) ∧ Raised t 37 n ∧
      FrameFault s t [HIF_SQ_CTL_En n, HIF_SQ_STAT_DmaErr n] [.rings])) ∧
  (s.canPost n = false ∨ s.pairComps n = [] → Answers (exec (.completionPost n) s) fun t => Frame s t [] []) ∧
  (∀ c, s.canPost n → nextComp (s.pairComps n) = some c → c.tag < 256 →
    (c.dropped = false → c.inv = 0 → c.hasTag → c.noIrq = false → Answers (exec (.completionPost n) s) fun t =>
      let q := seqAdd (s.rd (HIF_CQ_POSTED_SEQ_Seq n)) 1
      t.out = .dmaWrite (s.ringBase (cqRegs n) + q % s.ringSize (cqRegs n) * 32) (sealCrc (leBytes 4 q ++ compBytes c)) :: s.out ∧
      t.rd (HIF_CQ_POSTED_SEQ_Seq n) = q ∧ t.rd (HIF_TAG_State c.tag) = 3 ∧
      t.hif = { s.hif with comps := s.hif.comps.erase c, posted := s.hif.posted ++ [(n.val, q, c.tag)],
                           vecs := bumpVec s.hif.vecs (s.rd (HIF_MSIX_MAP_Vec (8 + n))) s.frame } ∧
      Frame s t [HIF_CQ_POSTED_SEQ_Seq n, HIF_TAG_State c.tag] [.rings, .irq, .out]) ∧
    (c.dropped → c.hasTag → Answers (exec (.completionPost n) s) fun t => t.rd (HIF_TAG_State c.tag) = 0 ∧
      t.rd HIF_DROP_CNT_Cnt = (s.rd HIF_DROP_CNT_Cnt + 1) % HIF_DROP_CNT_Cnt.size ∧ t.hif.comps = s.hif.comps.erase c ∧
      Frame s t [HIF_TAG_State c.tag, HIF_DROP_CNT_Cnt] [.rings])) ∧
  (s.hif.attached.contains 8 = false ∨ s.on HIF_EQ_CTL_En = false ∨ s.dmaOk = false ∨ s.ringSize eqRegs ≤ s.ringUsed eqRegs + 1 ∨
      (s.hif.events = [] ∧ s.hif.evLost = 0) → Answers (exec .eventPost s) fun t => Frame s t [] []) ∧
  (s.hif.attached.contains 8 → s.on HIF_EQ_CTL_En → s.dmaOk → s.ringUsed eqRegs + 1 < s.ringSize eqRegs →
    let q := seqAdd (s.rd HIF_EQ_POSTED_SEQ_Seq) 1
    let at_ := s.ringBase eqRegs + q % s.ringSize eqRegs * 32
    (∀ e rest, s.hif.evLost = 0 → s.hif.events = e :: rest → Answers (exec .eventPost s) fun t =>
      t.out = .dmaWrite at_ (sealCrc (leBytes 4 q ++ eventBytes e)) :: s.out ∧ t.rd HIF_EQ_POSTED_SEQ_Seq = q ∧
      t.hif = { s.hif with events := rest, vecs := bumpVec s.hif.vecs (s.rd (HIF_MSIX_MAP_Vec 12)) s.frame } ∧
      Frame s t [HIF_EQ_POSTED_SEQ_Seq] [.rings, .irq, .out]) ∧
    (0 < s.hif.evLost → Answers (exec .eventPost s) fun t =>
      t.out = .dmaWrite at_ (sealCrc (leBytes 4 q ++ eventBytes { code := 1, p0 := s.hif.evLost, p1 := s.hif.evLostAt, frame := s.frame32 })) ::
        s.out ∧ t.hif.evLost = 0 ∧ t.hif.events = s.hif.events ∧ Frame s t [HIF_EQ_POSTED_SEQ_Seq] [.rings, .irq, .out])) ∧
  ∀ k : Fin 8, (s.pnt.recs.find? (fun e => e.1 == k.val) = none → Answers (exec (.streamRecordWrite k) s) fun t => Frame s t [] []) ∧
    ∀ e, s.pnt.recs.find? (fun e => e.1 == k.val) = some e →
      (s.hif.attached.contains (16 + k.val) → s.on (HIF_TS_CTL_En k) → s.dmaOk → s.ringUsed (tsRegs k) < s.ringSize (tsRegs k) →
        Answers (exec (.streamRecordWrite k) s) fun t =>
          let q := seqAdd (s.rd (HIF_TS_POSTED_SEQ_Seq k)) 1
          t.out = .dmaWrite (s.ringBase (tsRegs k) + q % s.ringSize (tsRegs k) * 64) (sealCrc (leBytes 4 q ++ e.2)) :: s.out ∧
          t.rd (PNT_TS_REC_CNT_Cnt k) = (s.rd (PNT_TS_REC_CNT_Cnt k) + 1) % (PNT_TS_REC_CNT_Cnt k).size ∧
          t.pnt = { s.pnt with recs := s.pnt.recs.erase e } ∧
          Frame s t [HIF_TS_POSTED_SEQ_Seq k, PNT_TS_REC_CNT_Cnt k] [.pnt, .irq, .out]) ∧
      (s.hif.attached.contains (16 + k.val) = false ∨ s.on (HIF_TS_CTL_En k) = false ∨ s.dmaOk = false ∨
          s.ringSize (tsRegs k) ≤ s.ringUsed (tsRegs k) → Answers (exec (.streamRecordWrite k) s) fun t =>
        t.rd (HIF_TS_DROP_CNT_Cnt k) = (s.rd (HIF_TS_DROP_CNT_Cnt k) + 1) % (HIF_TS_DROP_CNT_Cnt k).size ∧
        t.pnt = { s.pnt with recs := s.pnt.recs.erase e } ∧ Frame s t [HIF_TS_DROP_CNT_Cnt k] [.pnt])

/-- MSIX_MESSAGE, MSIX_MAP_WRITE, PCIE_RESET, PCIE_LINK_UP, BUS_MASTER_ENABLE_WRITE and AER_ERROR_LOGGED. A vector that is due sends its
message, or sets its PBA bit where it is masked or no DMA is possible; one kept in the PBA goes out once unmasked. A map or moderation
write waits for the boundary where the register may change. A PCIe reset detaches every ring, clears the MSI-X table and bus mastering,
counts, and raises 34; link up shows rate and width and sets the stream divisor; clearing Bus Master Enable stops DMA; a logged error raises
35 or 36. -/
def Obligations.InterruptsAndPcie : Prop := ∀ s : State,
  (∀ (v : Fin 32) p, s.hif.vecs.find? (fun p => p.vec == v.val) = some p → s.vecDue p →
    (s.masked v = false → s.dmaOk → Answers (exec (.msixMessage v) s) fun t => t.out = .msix v :: s.out ∧
      t.hif = { s.hif with vecs := s.hif.vecs.filter (fun x => x.vec != v.val), pba := setBit s.hif.pba v false } ∧
      Frame s t [] [.irq, .out]) ∧
    (s.masked v ∨ s.dmaOk = false → Answers (exec (.msixMessage v) s) fun t =>
      t.hif = { s.hif with vecs := s.hif.vecs.filter (fun x => x.vec != v.val), pba := s.hif.pba ||| 2 ^ v.val } ∧
      Frame s t [] [.irq])) ∧
  (∀ v : Fin 32, s.hif.vecs.find? (fun p => p.vec == v.val) = none →
    (s.hif.pba.testBit v → s.masked v = false → s.dmaOk → Answers (exec (.msixMessage v) s) fun t => t.out = .msix v :: s.out ∧
      t.hif.pba.testBit v = false ∧ Frame s t [] [.irq, .out]) ∧
    (s.hif.pba.testBit v = false ∨ s.masked v ∨ s.dmaOk = false → Answers (exec (.msixMessage v) s) fun t => Frame s t [] [])) ∧
  (∀ (i : Fin 32) (value : BitVec 32),
    (8 ≤ i.val → Answers (exec (.msixMapWrite true i value) s) fun t =>
      t.hif = { s.hif with mapPend := s.hif.mapPend ++ [(HIF_MSIX_MOD i, value.toNat % 2 ^ 24)] } ∧ Frame s t [] [.rings]) ∧
    (8 ≤ i.val → i.val ≤ 24 → 8 ≤ value.toNat % 32 → Answers (exec (.msixMapWrite false i value) s) fun t =>
      t.hif = { s.hif with mapPend := s.hif.mapPend ++ [(HIF_MSIX_MAP i, value.toNat % 32)] } ∧ Frame s t [] [.rings]) ∧
    (i.val < 8 ∨ 24 < i.val ∨ value.toNat % 32 < 8 → Answers (exec (.msixMapWrite false i value) s) fun t => Frame s t [] [])) ∧
  (∀ cause : Fin 5, s.on (FLT_SRC_CFG_Assigned 34) → Answers (exec (.pcieReset cause) s) fun t => Raised t 34 cause ∧
    (∀ n < 4, t.on (HIF_SQ_CTL_En n) = false) ∧ t.on HIF_EQ_CTL_En = false ∧ (∀ k < 8, t.on (HIF_TS_CTL_En k) = false) ∧
    t.hif.msixTable = [] ∧ t.on HIF_STAT_BusMaster = false ∧ t.on HIF_STAT_D3 = (cause.val == 4) ∧
    (cause.val < 3 → t.on HIF_STAT_LinkUp = false) ∧
    t.rd HIF_LINKDOWN_CNT_Cnt = (s.rd HIF_LINKDOWN_CNT_Cnt + 1) % HIF_LINKDOWN_CNT_Cnt.size ∧
    FrameFault s t ([HIF_EQ_CTL_En, HIF_STAT_BusMaster, HIF_STAT_L1, HIF_STAT_D3, HIF_STAT_LinkUp, HIF_STAT_Width, HIF_STAT_Rate,
      HIF_LINKDOWN_CNT_Cnt] ++ (List.range 4).map HIF_SQ_CTL_En ++ (List.range 8).map HIF_TS_CTL_En) [.rings]) ∧
  (∀ (rate : Fin 3) x2, Answers (exec (.pcieLinkUp rate x2) s) fun t => t.on HIF_STAT_LinkUp ∧ t.rd HIF_STAT_Rate = rate ∧
    t.rd HIF_STAT_Width = 1 + b2n x2 ∧ t.on HIF_STAT_D3 = false ∧ t.on HIF_STAT_BusMaster ∧ t.dmaOk ∧
    t.rd HIF_STAT_StreamDiv = max 1 ((s.frm.dmaBooked + t.dmaCap - 1) / t.dmaCap) % HIF_STAT_StreamDiv.size ∧
    Frame s t [HIF_STAT_LinkUp, HIF_STAT_Rate, HIF_STAT_Width, HIF_STAT_D3, HIF_STAT_BusMaster, HIF_STAT_StreamDiv] []) ∧
  (Answers (exec .busMasterEnableWrite s) fun t => t.on HIF_STAT_BusMaster = false ∧ t.dmaOk = false ∧ Frame s t [HIF_STAT_BusMaster] []) ∧
  (∀ b, s.on (FLT_SRC_CFG_Assigned 35) → Answers (exec (.aerErrorLogged false b) s) fun t => Raised t 35 b.toNat ∧ FrameFault s t [] []) ∧
  ∀ b, s.on (FLT_SRC_CFG_Assigned 36) → Answers (exec (.aerErrorLogged true b) s) fun t => Raised t 36 b.toNat ∧ FrameFault s t [] []

/-- ADMISSION_STAGE, limited to one descriptor. It takes nothing while the cores restart or where no pair has a fetched descriptor and room.
A descriptor with a bad CRC or sequence number completes BAD_CRC, counted and raised as 32; one with a tag in use or its old generation
completes BAD_TAG, counted and raised as 39; one that is malformed completes REFUSED_STATE. Another enters the table of commands in flight
under its tag, which is InFlight with its pair and generation; a lookup or update with a deadline is refused NOT_ADMITTED. The pair's
ACCEPTED_SEQ counts every descriptor. -/
def Obligations.AdmissionTakes : Prop := ∀ s : State,
  (s.frm.coreRst ∨ (s.nextFetched = none ∧ s.red.takes = []) → Answers (exec .admissionStage s) fun t => Frame s t [] []) ∧
  ∀ d, s.frm.coreRst = false → s.rd FRM_CTL_AdmitMax = 1 → s.nextFetched = some d → s.flt.armed = none → s.redState = 0 →
    s.red.takes = [] →
    let b := padTo 64 d.bytes
    let q := seqAdd (s.rd (HIF_SQ_ACCEPTED_SEQ_Seq d.pair)) 1
    let tag := numAt b 5 1
    (crcGood b = false ∨ numAt b 0 4 ≠ q → s.on (FLT_SRC_CFG_Assigned 32) → Answers (exec .admissionStage s) fun t =>
      t.rd (HIF_SQ_ACCEPTED_SEQ_Seq d.pair) = q ∧ t.rd HIF_BADCRC_CNT_Cnt = (s.rd HIF_BADCRC_CNT_Cnt + 1) % HIF_BADCRC_CNT_Cnt.size ∧
      Raised t 32 (d.pair + 4 * (b2n (!crcGood b) + 2 * b2n (numAt b 0 4 != q))) ∧ t.hif.cmds = s.hif.cmds ∧
      (∃ c : Comp, t.hif.comps = s.hif.comps ++ [c] ∧ c.status = 6 ∧ c.tag = tag ∧ c.hasTag = false) ∧
      FrameFault s t [HIF_SQ_ACCEPTED_SEQ_Seq d.pair, HIF_BADCRC_CNT_Cnt] [.rings]) ∧
    (crcGood b → numAt b 0 4 = q → s.rd (HIF_TAG_State tag) ≠ 0 ∨ s.rd (HIF_TAG_Gen tag) = numAt b 6 2 →
      s.on (FLT_SRC_CFG_Assigned 39) → Answers (exec .admissionStage s) fun t =>
        t.rd (HIF_SQ_ACCEPTED_SEQ_Seq d.pair) = q ∧ t.rd HIF_BADTAG_CNT_Cnt = (s.rd HIF_BADTAG_CNT_Cnt + 1) % HIF_BADTAG_CNT_Cnt.size ∧
        Raised t 39 tag ∧ t.hif.cmds = s.hif.cmds ∧
        (∃ c : Comp, t.hif.comps = s.hif.comps ++ [c] ∧ c.status = 7 ∧ c.tag = tag ∧ c.hasTag = false) ∧
        FrameFault s t [HIF_SQ_ACCEPTED_SEQ_Seq d.pair, HIF_BADTAG_CNT_Cnt] [.rings]) ∧
    (crcGood b → numAt b 0 4 = q → s.rd (HIF_TAG_State tag) = 0 → s.rd (HIF_TAG_Gen tag) ≠ numAt b 6 2 →
      (descBad (numAt b 4 1) (numAt b 10 2) (numAt b 12 4) b → Answers (exec .admissionStage s) fun t =>
        (∃ c : Comp, t.hif.comps = s.hif.comps ++ [c] ∧ c.status = 8 ∧ c.tag = tag ∧ c.hasTag = false) ∧ t.hif.cmds = s.hif.cmds ∧
        t.rd (HIF_SQ_ACCEPTED_SEQ_Seq d.pair) = q ∧ Frame s t [HIF_SQ_ACCEPTED_SEQ_Seq d.pair] [.rings]) ∧
      (descBad (numAt b 4 1) (numAt b 10 2) (numAt b 12 4) b = false → takesPoint (numAt b 4 1) = false →
        s.takeDisabled (numAt b 4 1) (numAt b 12 4 % 2 ^ 20) (slice b 16 40) = false →
        (numAt b 8 2 = 0 → Answers (exec .admissionStage s) fun t => t.rd (HIF_SQ_ACCEPTED_SEQ_Seq d.pair) = q ∧
          t.hif.cmds = s.hif.cmds ++ [{ pair := d.pair, sqSeq := q, tag := tag, gen := numAt b 6 2, opcode := numAt b 4 1, arrival := s.frame,
                                        point := numAt b 12 4 % 2 ^ 20, payload := slice b 16 40,
                                        noIrq := bit (numAt b 10 2) 0 }] ∧
          t.rd (HIF_TAG_State tag) = 1 ∧ t.rd (HIF_TAG_Pair tag) = d.pair % 4 ∧ t.rd (HIF_TAG_Gen tag) = numAt b 6 2 ∧
          Frame s t [HIF_SQ_ACCEPTED_SEQ_Seq d.pair, HIF_TAG_State tag, HIF_TAG_Pair tag, HIF_TAG_Gen tag] [.rings]) ∧
        (numAt b 8 2 ≠ 0 → numAt b 4 1 = 0x31 ∨ numAt b 4 1 = 0x40 ∨ numAt b 4 1 = 0x41 → Answers (exec .admissionStage s) fun t =>
          (∃ c : Comp, t.hif.comps = s.hif.comps ++ [c] ∧ c.status = 1 ∧ c.tag = tag ∧ c.hasTag) ∧
          t.rd FRM_REFUSED_CNT_Cnt = min (s.rd FRM_REFUSED_CNT_Cnt + 1) (2 ^ 32 - 1) ∧ t.rd (HIF_TAG_State tag) = 2)))

/-- NOP, FENCE, ABORT and COMPLETION_SEAL. NOP completes OK, or REFUSED_STATE with reserved bytes set. FENCE completes OK where no earlier
command of its ring is in flight, and else waits; the seal completes it with the last of them. ABORT completes in its slot with the outcome
of its boundary. The seal ends best-effort commands older than BeLimit with TIMEOUT and sends the vectors that are due; with nothing to do,
and while the cores restart, it changes nothing. -/
def Obligations.QueueCommands : Prop := ∀ (s : State) (tag : Fin 256) (c : Cmd),
  (s.ready tag.val 0x00 = some c →
    (zeroAt c.payload 0 40 → Answers (exec (.nop tag) s) fun t => CompletesAlone s t c .ok 0) ∧
    (zeroAt c.payload 0 40 = false → Answers (exec (.nop tag) s) fun t => CompletesAlone s t c .refusedState 0)) ∧
  (s.ready tag.val 0x00 = none → Answers (exec (.nop tag) s) fun t => Frame s t [] []) ∧
  (s.ready tag.val 0x01 = some c →
    (zeroAt c.payload 0 40 = false → Answers (exec (.fence tag) s) fun t => CompletesAlone s t c .refusedState 0) ∧
    (zeroAt c.payload 0 40 → s.fenceHeld c = false → Answers (exec (.fence tag) s) fun t => CompletesAlone s t c .ok 0) ∧
    (zeroAt c.payload 0 40 → s.fenceHeld c → Answers (exec (.fence tag) s) fun t => t.findCmd tag.val = some (c.ran [.start]) ∧
      Frame s t [] [.rings])) ∧
  (s.ready tag.val 0x02 = some c →
    (∀ st, c.commit → Status.ofCode c.result = some st → st ≠ .notAdmitted → Answers (exec (.abort tag) s) fun t =>
      CompletesAlone s t c st 0) ∧
    (c.commit = false → Answers (exec (.abort tag) s) fun t => Frame s t [] [])) ∧
  (s.frm.coreRst ∨ (s.hif.cmds = [] ∧ s.hif.vecs = []) → Answers (exec .completionSeal s) fun t => Frame s t [] []) ∧
  (s.frm.coreRst = false → s.hif.cmds = [c] → s.hif.vecs = [] → c.opcode = 1 → c.begun → c.tag < 256 → s.rd FRM_CTL_BeLimit = 0 →
    Answers (exec .completionSeal s) fun t => CompletesAlone s t c .ok 0) ∧
  (s.frm.coreRst = false → s.hif.cmds = [c] → s.hif.vecs = [] → c.opcode = 0 → c.tag < 256 → c.deadline = 0 →
    s.rd FRM_CTL_BeLimit ≠ 0 → c.arrival + s.rd FRM_CTL_BeLimit ≤ s.frame →
    Answers (exec .completionSeal s) fun t => Completes s t c .timeout 0) ∧
  ∀ p, s.frm.coreRst = false → s.hif.cmds = [] → s.hif.vecs = [p] → s.vecDue p → s.masked p.vec = false → s.dmaOk →
    Answers (exec .completionSeal s) fun t => t.out = .msix p.vec :: s.out ∧ t.hif.vecs = [] ∧ Frame s t [] [.irq, .out]

/-- POINT_READ and POINT_WRITE. A read with a payload is REFUSED_STATE; a pinned point answers value, quality and age; an unpinned one is
resolved through the directory, or POINT_UNKNOWN where the directory is off or its domain has no entries; a miss counts and waits. A write with
reserved bytes set, or to a point that is read only or owned, is REFUSED_STATE with the value in force. The manual duty of a loop is
written in its slot, a settable domain-4 point in the next slot 0; a two-wire or CAN point waits for its bus, DISABLED where that is off; a
domain-3 point goes to its peer. -/
def Obligations.PointAccess : Prop := ∀ (s : State) (tag : Fin 256) (c : Cmd),
  (s.ready tag.val 0x10 = some c →
    (zeroAt c.payload 0 40 = false → Answers (exec (.pointRead tag) s) fun t => CompletesAlone s t c .refusedState 0) ∧
    (zeroAt c.payload 0 40 → s.pinned c.point → Answers (exec (.pointRead tag) s) fun t =>
      CompletesAlone s t c .ok (s.readResult (s.pointVal c.point))) ∧
    (zeroAt c.payload 0 40 → s.pinned c.point = false →
      (s.on PNT_DIR_CTL_En = false ∨ domainOf c.point = 0 ∨ 4 ≤ domainOf c.point → Answers (exec (.pointRead tag) s) fun t =>
        CompletesAlone s t c .pointUnknown 0) ∧
      (s.on PNT_DIR_CTL_En → domainOf c.point ∈ [1, 2, 3] → s.pnt.resolved.find? (fun r => r.point == c.point) = none →
        Answers (exec (.pointRead tag) s) fun t => t.pnt = { s.pnt with pending := s.pnt.pending ++ [tag.val] } ∧
          t.rd PNT_DIRMISS_CNT_Cnt = (s.rd PNT_DIRMISS_CNT_Cnt + 1) % 2 ^ 32 ∧ t.findCmd tag.val = some (c.ran [.start]) ∧
          Frame s t [PNT_DIRMISS_CNT_Cnt] [.rings, .pnt]) ∧
      (∀ r, s.on PNT_DIR_CTL_En → domainOf c.point = 1 → s.pnt.resolved.find? (fun r => r.point == c.point) = some r →
        s.on (TW_PORT_CTL_En (r.binding % 16)) → Answers (exec (.pointRead tag) s) fun t =>
          t.findCmd tag.val = some { c.ran [.start] with head := r.head, d2 := r.binding % 2 ^ 32, d3 := r.binding / 2 ^ 32 } ∧
          Frame s t [] [.rings]))) ∧
  (s.ready tag.val 0x11 = some c →
    (zeroAt c.payload 4 36 = false → Answers (exec (.pointWrite tag) s) fun t =>
      CompletesAlone s t c .refusedState (writeResult (s.pointVal c.point))) ∧
    (zeroAt c.payload 4 36 → s.pinned c.point →
      (domainOf c.point = 0 → s.ownRefuses c.point ∨ s.railOwns c.point → Answers (exec (.pointWrite tag) s) fun t =>
        CompletesAlone s t c .refusedState (writeResult (s.pointVal c.point))) ∧
      (∀ n : Fin 24, c.point = 0x4002 + 32 * n → s.ownRefuses c.point = false → s.railOwns c.point = false →
        Answers (exec (.pointWrite tag) s) fun t => Completes s t c .ok (writeResult (s.pointVal c.point)) ∧
          t.rd (LT_MAN_DUTY_Duty n) = min (numAt c.payload 0 4) 65535 ∧
          Frame s t [HIF_TAG_State c.tag, FLT_INJ_Armed, LT_MAN_DUTY_Duty n] [.rings, .flt]) ∧
      (∀ i : Fin 128, c.point = 0x40000 + i →
        (s.rd (PNT_DRV_CFG_Op i) ≠ 0 → Answers (exec (.pointWrite tag) s) fun t =>
          CompletesAlone s t c .refusedState (writeResult (s.pointVal c.point))) ∧
        (s.rd (PNT_DRV_CFG_Op i) = 0 → Answers (exec (.pointWrite tag) s) fun t =>
          Completes s t c .ok (writeResult (s.pointVal c.point)) ∧
          t.pnt = { s.pnt with arrivals := s.pnt.arrivals ++ [(c.point, some (mkVal (numAt c.payload 0 4) false s.frame32))] } ∧
          Frame s t [HIF_TAG_State c.tag, FLT_INJ_Armed] [.rings, .flt, .pnt])) ∧
      (∀ i, s.pinOf c.point = some i → domainOf c.point ∈ [1, 2, 3] →
        (headWritable (s.pin i 0) = false ∨ s.slOwns c.point ∨ s.railOwns c.point → Answers (exec (.pointWrite tag) s) fun t =>
          CompletesAlone s t c .refusedState (writeResult (s.cached c.point))) ∧
        (headWritable (s.pin i 0) → s.slOwns c.point = false → s.railOwns c.point = false →
          (s.bindOn (domainOf c.point) (s.pin i 2) = false → Answers (exec (.pointWrite tag) s) fun t =>
            CompletesAlone s t c .disabled (writeResult (s.cached c.point))) ∧
          (domainOf c.point ≠ 3 → s.bindOn (domainOf c.point) (s.pin i 2) → Answers (exec (.pointWrite tag) s) fun t =>
            t.findCmd tag.val = some { c.ran [.start] with head := s.pin i 0, d2 := s.pin i 2, d3 := s.pin i 3 } ∧
            Frame s t [] [.rings]) ∧
          (domainOf c.point = 3 → Answers (exec (.pointWrite tag) s) fun t =>
            t.tl.pwrites = s.tl.pwrites ++ [(s.tl.pwNext, s.pin i 2 % 8, .cmd tag.val)] ∧
            t.findCmd tag.val = some { c.ran [.start] with commit := true, result := writeResult (s.cached c.point) } ∧
            Frame s t [TL_PORT_TX_CNT_Cnt 0, TL_PORT_TX_CNT_Cnt 1, FLT_INJ_Armed] [.rings, .flt, .tl, .out])))))

/-- DIRECTORY_RESOLVE, DIR_FLUSH, POINT_STALE and SNAPSHOT_STREAM_ASSEMBLY. A resolution whose read fails ends TIMEOUT; a bad CRC counts,
raises 20 and ends POINT_UNKNOWN with result 1; an ID outside the table, or an entry that is not the point's, ends POINT_UNKNOWN; a good entry
is kept and a read waits for its bus. A flush waits for the boundary. A pinned point older than its limit turns STALE, counts and raises 21. A snapshot of at
most 10 values becomes one record, marked as the last. -/
def Obligations.DirectoryAndStreams : Prop := ∀ s : State,
  (∀ (tag : Fin 256) (c : Cmd) (d : DirReply), s.pnt.pending.contains tag.val → s.findCmd tag.val = some c →
    let dom := domainOf c.point
    let left := s.pnt.pending.filter (· != tag.val)
    (s.pnt.descs.find? (fun e => e.1 == dom) = none →
      (d.descOk = false → Answers (exec (.directoryResolve tag d) s) fun t => Completes s t c .timeout 0 ∧
        t.pnt = { s.pnt with pending := left }) ∧
      (d.descOk → crcGood (padTo 16 d.desc) = false → s.on (FLT_SRC_CFG_Assigned 20) →
        Answers (exec (.directoryResolve tag d) s) fun t => Completes s t c .pointUnknown 1 ∧ Raised t 20 (dom + 16) ∧
          t.rd PNT_DIRCRC_CNT_Cnt = (s.rd PNT_DIRCRC_CNT_Cnt + 1) % 2 ^ 32 ∧ t.pnt = { s.pnt with pending := left })) ∧
    (∀ e, s.pnt.descs.find? (fun e => e.1 == dom) = some e →
      (e.2.2 ≤ c.point % 65536 → Answers (exec (.directoryResolve tag d) s) fun t => Completes s t c .pointUnknown 0 ∧
        t.pnt = { s.pnt with pending := left }) ∧
      (c.point % 65536 < e.2.2 →
        (d.entryOk = false → Answers (exec (.directoryResolve tag d) s) fun t => Completes s t c .timeout 0) ∧
        (d.entryOk → crcGood (padTo 16 d.entry) = false → s.on (FLT_SRC_CFG_Assigned 20) →
          Answers (exec (.directoryResolve tag d) s) fun t => Completes s t c .pointUnknown 1 ∧ Raised t 20 dom ∧
            t.rd PNT_DIRCRC_CNT_Cnt = (s.rd PNT_DIRCRC_CNT_Cnt + 1) % 2 ^ 32) ∧
        (d.entryOk → crcGood (padTo 16 d.entry) →
          let h := numAt (padTo 16 d.entry) 0 4
          let d2 := numAt (padTo 16 d.entry) 4 4
          let d3 := numAt (padTo 16 d.entry) 8 4
          (h.testBit 31 = false ∨ h % 2 ^ 20 ≠ c.point ∨ 2 < headType h ∨ bindBad s.regs dom d2 d3 →
            Answers (exec (.directoryResolve tag d) s) fun t => Completes s t c .pointUnknown 0 ∧ t.pnt = { s.pnt with pending := left }) ∧
          (h.testBit 31 → h % 2 ^ 20 = c.point → headType h ≤ 2 → bindBad s.regs dom d2 d3 = false → dom = 1 → c.opcode = 0x10 →
            s.on (TW_PORT_CTL_En (d2 % 16)) → Answers (exec (.directoryResolve tag d) s) fun t =>
              t.findCmd tag.val = some { c with head := h, d2 := d2, d3 := d3 } ∧
              t.pnt = { s.pnt with pending := left, resolved := keepResolved s.pnt.resolved
                                                                  { point := c.point, head := h, binding := d2 + 2 ^ 32 * d3 } } ∧
              Frame s t [] [.rings, .pnt]))))) ∧
  (∀ (tag : Fin 256) d, s.pnt.pending.contains tag.val = false → Answers (exec (.directoryResolve tag d) s) fun t => Frame s t [] []) ∧
  (Answers (exec .dirFlush s) fun t => t.pnt = { s.pnt with flush := true } ∧ Frame s t [] [.pnt]) ∧
  (∀ (id : BitVec 20) i, s.pinOf id.toNat = some i →
    (s.staleDue i → s.on (FLT_SRC_CFG_Assigned 21) → Answers (exec (.pointStale id) s) fun t =>
      let k := s.pin i 0 % 2 ^ 20
      t.cached k = { s.cached k with q := (s.cached k).q / 4 * 4 + 2 } ∧ Raised t 21 i ∧
      t.rd PNT_STALE_CNT_Cnt = (s.rd PNT_STALE_CNT_Cnt + 1) % 2 ^ 32 ∧ FrameFault s t [PNT_STALE_CNT_Cnt] [.pnt]) ∧
    (s.staleDue i = false → Answers (exec (.pointStale id) s) fun t => Frame s t [] [])) ∧
  (∀ id : BitVec 20, s.pinOf id.toNat = none → Answers (exec (.pointStale id) s) fun t => Frame s t [] []) ∧
  (∀ k vs, s.pnt.snaps = [(k, vs)] → 0 < vs.length → vs.length ≤ 10 → Answers (exec .snapshotStreamAssembly s) fun t =>
    t.pnt = { s.pnt with snaps := [], recs := s.pnt.recs ++ [(k, snapRec s.frame32 0 vs.length true vs)] } ∧ Frame s t [] [.pnt]) ∧
  (s.pnt.snaps = [] → Answers (exec .snapshotStreamAssembly s) fun t => Frame s t [] [])

/-- CAP_ARM, CAPTURE_TRIGGER, CAP_SW_TRIG and CAPTURE_DRAIN_DONE. Arming an enabled triggered unit that does not drain empties its buffer. An
armed unit drains from the frame whose trigger condition holds: a trip line records its cycle, an unacknowledged source, the trigger frame and
software record cycle 0. In any other state a trigger changes nothing. A drain is done once the last frame is written. -/
def Obligations.Capture : Prop := ∀ (s : State) (j : Fin 4) (cycle : Fin 200),
  (s.on (CAPU_CFG_En j) → s.on (CAPU_CFG_Mode j) → s.rd (CAPU_STAT_State j) ≠ 2 → Answers (exec (.capArm j) s) fun t =>
    t.rd (CAPU_STAT_State j) = 1 ∧ t.capu j = { s.capu j with frames := [], kept := 0 } ∧ Frame s t [CAPU_STAT_State j] [.pnt]) ∧
  (s.on (CAPU_CFG_En j) = false ∨ s.on (CAPU_CFG_Mode j) = false ∨ s.rd (CAPU_STAT_State j) = 2 →
    Answers (exec (.capArm j) s) fun t => Frame s t [] []) ∧
  (s.rd (CAPU_STAT_State j) = 1 → s.on (CAPU_CFG_En j) →
    let drains (t : State) (at_ : Nat) : Prop := t.rd (CAPU_STAT_State j) = 2 ∧ t.rd (CAPU_STAT_Cycle j) = at_ ∧
      t.rd (CAPU_TRIG_FRAME_Frame j) = s.frame32 ∧ (t.capu j).tframe = s.frame ∧ (t.capu j).last = s.frame + s.rd (CAPU_CFG_Post j) ∧
      (t.capu j).frames = (s.capu j).frames ∧ Frame s t [CAPU_STAT_State j, CAPU_STAT_Cycle j, CAPU_TRIG_FRAME_Frame j] [.pnt]
    (s.rd (CAPU_TRIG_Kind j) = 0 → Answers (exec (.capSwTrig j) s) fun t => drains t 0) ∧
    (s.rd (CAPU_TRIG_Kind j) = 1 → s.sense.trips.testBit (s.rd (CAPU_TRIG_Line j)) →
      Answers (exec (.captureTrigger j cycle) s) fun t => drains t cycle) ∧
    (s.rd (CAPU_TRIG_Kind j) = 2 → s.unacked (s.rd (CAPU_TRIG_Line j)) → Answers (exec (.captureTrigger j cycle) s) fun t => drains t 0) ∧
    (s.rd (CAPU_TRIG_Kind j) = 3 → s.rd (CAPU_TFRAME_Frame j) = s.frame32 →
      Answers (exec (.captureTrigger j cycle) s) fun t => drains t 0)) ∧
  (s.rd (CAPU_STAT_State j) ≠ 1 → Answers (exec (.captureTrigger j cycle) s) fun t => Frame s t [] []) ∧
  (s.rd (CAPU_STAT_State j) ≠ 1 ∨ s.rd (CAPU_TRIG_Kind j) ≠ 0 → Answers (exec (.capSwTrig j) s) fun t => Frame s t [] []) ∧
  (s.rd (CAPU_STAT_State j) = 2 → (s.capu j).last < (s.capu j).next → Answers (exec (.captureDrainDone j) s) fun t =>
    t.rd (CAPU_STAT_State j) = 3 ∧ t.capu j = { s.capu j with frames := [] } ∧ Frame s t [CAPU_STAT_State j] [.pnt]) ∧
  (s.rd (CAPU_STAT_State j) ≠ 2 ∨ (s.capu j).next ≤ (s.capu j).last → Answers (exec (.captureDrainDone j) s) fun t => Frame s t [] [])

/-- TL_PORT_TRAINED, TL_PORT_DOWN, TL_TRANSIT_FORWARD, LINK_MESSAGE_DROPPED, TL_LIVENESS_EXPIRY and HELLO_PERIODIC. A trained port shows its
neighbour and its latency and is up; a neighbour's report sets the generation once; wrong wiring raises 50. A port that goes down counts and
raises 48. A message in transit leaves the other port unchanged, where both ports are up. A dropped message counts and raises 49. A position is
forgotten once it is not live. HELLO goes out every 1,000 frames. -/
def Obligations.LinkPorts : Prop := ∀ (s : State) (p : Fin 2),
  let tx : List Fld := [TL_PORT_TX_CNT_Cnt 0, TL_PORT_TX_CNT_Cnt 1, FLT_INJ_Armed]
  let stat : List Fld := [TL_PORT_STAT_NbrPos p, TL_PORT_STAT_NbrSetSize p, TL_PORT_STAT_Trained p, TL_PORT_STAT_Lane0Up p,
    TL_PORT_STAT_Lane1Up p, TL_PORT_STAT_Up p]
  (∀ pos size rep lat, s.on TL_CFG_En = false → Answers (exec (.tlPortTrained p pos size rep lat) s) fun t => Frame s t [] []) ∧
  (∀ (pos : Fin 8) (size : BitVec 4) rep (lat : BitVec 16), s.on TL_CFG_En →
    (pos.val = s.nbrOf p → size.toNat = s.rd TL_CFG_SetSize → pos.val ≠ s.me →
      Answers (exec (.tlPortTrained p pos size rep lat) s) fun t => t.rd (TL_PORT_STAT_NbrPos p) = pos ∧
        t.rd (TL_PORT_STAT_NbrSetSize p) = size.toNat ∧ t.portUp p ∧ t.rd (TL_PORT_HOPLAT_Lat p) = lat.toNat ∧
        t.rd TL_GEN_Gen = (match rep with | some g => if s.tl.genSet then s.rd TL_GEN_Gen else (g.toNat + 1) % 2 ^ 16
                                          | none => s.rd TL_GEN_Gen) ∧
        t.tl.helloAt = s.frame ∧ Frame s t (TL_GEN_Gen :: TL_PORT_HOPLAT_Lat p :: stat ++ tx) [.tl, .flt, .out]) ∧
    (pos.val ≠ s.nbrOf p → s.on (FLT_SRC_CFG_Assigned 50) → Answers (exec (.tlPortTrained p pos size rep lat) s) fun t =>
      t.on (TL_PORT_STAT_Up p) ∧ Raised t 50 (p + 2 * pos))) ∧
  (s.on (TL_PORT_STAT_Up p) → s.on (FLT_SRC_CFG_Assigned 48) → Answers (exec (.tlPortDown p) s) fun t =>
    t.on (TL_PORT_STAT_Up p) = false ∧ t.on (TL_PORT_STAT_Trained p) = false ∧ Raised t 48 p ∧
    t.rd (TL_PORT_DOWN_CNT_Cnt p) = (s.rd (TL_PORT_DOWN_CNT_Cnt p) + 1) % 2 ^ 32) ∧
  (s.on (TL_PORT_STAT_Up p) = false → Answers (exec (.tlPortDown p) s) fun t => Frame s t [] []) ∧
  (∀ body, s.portUp p → s.portUp (1 - p.val) → Answers (exec (.tlTransitForward p body) s) fun t =>
    t.out = .forward (1 - p.val) body :: s.out ∧
    t.rd (TL_PORT_TX_CNT_Cnt (1 - p.val)) = (s.rd (TL_PORT_TX_CNT_Cnt (1 - p.val)) + 1) % 2 ^ 32 ∧
    Frame s t [TL_PORT_TX_CNT_Cnt (1 - p.val)] [.out]) ∧
  (∀ body, s.portUp p = false ∨ s.portUp (1 - p.val) = false → Answers (exec (.tlTransitForward p body) s) fun t => Frame s t [] []) ∧
  (∀ u, s.on (FLT_SRC_CFG_Assigned 49) → Answers (exec (.linkMessageDropped p u) s) fun t => Raised t 49 p ∧
    t.rd (TL_PORT_CRC_CNT_Cnt p) = (s.rd (TL_PORT_CRC_CNT_Cnt p) + 1) % 2 ^ 32 ∧ FrameFault s t [TL_PORT_CRC_CNT_Cnt p] []) ∧
  (∀ q : Fin 8, (s.isLive q → Answers (exec (.tlLivenessExpiry q) s) fun t => Frame s t [] []) ∧
    (s.isLive q = false → Answers (exec (.tlLivenessExpiry q) s) fun t => t.tl = { s.tl with heard := assocDel s.tl.heard q } ∧
      Frame s t [] [.tl])) ∧
  (s.tl.helloAt + 1000 ≤ s.frame → Answers (exec .helloPeriodic s) fun t => t.tl.helloAt = s.frame ∧ Frame s t tx [.tl, .flt, .out]) ∧
  (s.frame < s.tl.helloAt + 1000 → Answers (exec .helloPeriodic s) fun t => Frame s t [] [])

/-- Every message but HELLO, and HELLO. A message on a port that is down, from the device's own position, or for another position changes
nothing. One of another generation than its sender's last is counted as received and as stale and has no other effect; so is a broadcast
that is not newer than the last one taken, without the stale count. A HELLO that says its generation is new sets the generation seen. -/
def Obligations.LinkAcceptance : Prop := ∀ (s : State) (h : LinkHdr) b reps m pol sg gs acts es,
  (∀ i ∈ .hello h b :: linkMessages h b reps m pol sg gs acts es,
    (s.portUp h.port = false ∨ h.src.val = s.me ∨ (h.bcast = false ∧ h.dest.val ≠ s.me) → Answers (exec i s) fun t => Frame s t [] []) ∧
    (s.portUp h.port → h.src.val ≠ s.me → h.bcast → s.on (TL_GEN_SEEN_Valid h.src) → s.rd (TL_GEN_SEEN_Gen h.src) = h.gen.toNat →
      (∃ n, assoc s.tl.rxBcast h.src = some n ∧ seqAfter n h.seq.toNat = false) → Answers (exec i s) fun t =>
        t.rd (TL_PORT_RX_CNT_Cnt h.port) = (s.rd (TL_PORT_RX_CNT_Cnt h.port) + 1) % 2 ^ 32 ∧
        Frame s t [TL_PORT_RX_CNT_Cnt h.port] [])) ∧
  (∀ i ∈ linkMessages h b reps m pol sg gs acts es, s.portUp h.port → h.src.val ≠ s.me → (h.bcast ∨ h.dest.val = s.me) →
    (s.on (TL_GEN_SEEN_Valid h.src) = false ∨ s.rd (TL_GEN_SEEN_Gen h.src) ≠ h.gen.toNat) → Answers (exec i s) fun t =>
      t.rd (TL_PORT_STALE_CNT_Cnt h.port) = (s.rd (TL_PORT_STALE_CNT_Cnt h.port) + 1) % 2 ^ 32 ∧
      t.rd (TL_PORT_RX_CNT_Cnt h.port) = (s.rd (TL_PORT_RX_CNT_Cnt h.port) + 1) % 2 ^ 32 ∧
      Frame s t [TL_PORT_RX_CNT_Cnt h.port, TL_PORT_STALE_CNT_Cnt h.port] []) ∧
  ((numAt b 2 1).testBit 2 → s.portUp h.port → h.src.val ≠ s.me → h.bcast → s.pairOn → h.src.val ≠ s.peerPos →
    (s.on (TL_GEN_SEEN_Valid h.src) = false ∨ s.rd (TL_GEN_SEEN_Gen h.src) ≠ h.gen.toNat) → Answers (exec (.hello h b) s) fun t =>
      t.rd (TL_GEN_SEEN_Gen h.src) = h.gen.toNat ∧ t.on (TL_GEN_SEEN_Valid h.src) ∧
      assoc t.tl.heard h.src = some s.frame ∧ assoc t.tl.rxBcast h.src = some h.seq.toNat ∧
      Frame s t [TL_PORT_RX_CNT_Cnt h.port, TL_GEN_SEEN_Gen h.src, TL_GEN_SEEN_Valid h.src] [.tl])

/-- HELLO, HEARTBEAT, SURRENDER, THROTTLE, MIRROR, TAKE and HANDBACK that pass the checks. A HELLO is heard; the peer's shows whether the roles
conflict, and a new conflict raises 230. A HEARTBEAT is heard; the peer's is kept and ends the link's silence; it makes a starting secondary Standby,
and a take-over stand back where the peer still holds the role. A SURRENDER starts the take-over and raises 224; THROTTLE is followed by the standby;
MIRROR records are kept, a gap takes the mirror out of sync and raises 229 once; a TAKE adds its descriptor; a HANDBACK is a surrender
cause. -/
def Obligations.PairMessages : Prop := ∀ (s : State) (h : LinkHdr) (b : List Byte), LinkTaken s h →
  let rx := TL_PORT_RX_CNT_Cnt h.port
  (s.pairOn → h.src.val = s.peerPos →
    let same := (numAt b 2 1).testBit 0 == !s.on GLB_STAT_Role
    let other := !(numAt b 2 1).testBit 1 || numAt b 3 1 % 8 != s.me
    Answers (exec (.hello h b) s) (fun t => t.on RED_STAT_RoleConflict = (same || other) ∧ assoc t.tl.heard h.src = some s.frame ∧
      t.red.hello = some (numAt b 3 1 % 8, (numAt b 2 1).testBit 1, (numAt b 2 1).testBit 0)) ∧
    (same || other → s.on RED_STAT_RoleConflict = false → s.on (FLT_SRC_CFG_Assigned 230) → Answers (exec (.hello h b) s) fun t =>
      Raised t 230 (b2n same + 2 * b2n other))) ∧
  (s.fromPeer h = false →
    (Answers (exec (.heartbeat h b) s) fun t => assoc t.tl.heard h.src = some s.frame ∧
      t.tl.master = (if (numAt b 1 1).testBit 0 then h.src.val else s.tl.master) ∧ Frame s t [rx] [.tl, .red]) ∧
    (∀ i ∈ ([.surrender h b, .throttle h b, .mirror h b, .handback h, .take h []] : List Instr),
      Answers (exec i s) fun t => Frame s t [rx] [.tl, .red])) ∧
  (s.fromPeer h →
    Answers (exec (.heartbeat h b) s) (fun t => t.red.hbSeen ∧ t.on RED_STAT_LinkSilent = false ∧
      t.red.peer = some { state := numAt b 0 1, master := (numAt b 1 1).testBit 0, sync := (numAt b 1 1).testBit 1, thr := numAt b 2 1,
                          digest := numAt b 4 4, mirSeq := numAt b 8 4, frame := s.frame } ∧
      t.redState = (if s.redState = 1 ∧ s.primary = false then 3 else if s.redState = 4 ∧ (numAt b 1 1).testBit 0 then 3 else s.redState)) ∧
    (s.redState = 3 →
      (s.on (FLT_SRC_CFG_Assigned 224) → Answers (exec (.surrender h b) s) fun t => t.redState = 4 ∧ t.red.detect = some s.frame ∧
        Raised t 224 (1 + 2 * (numAt b 0 1 % 4)) ∧ FrameFault s t [rx, RED_STAT_State] [.tl, .red]) ∧
      (s.on GLB_STAT_Active = false → Answers (exec (.throttle h b) s) fun t => t.cap = { s.cap with mirThr := numAt b 0 1 } ∧
        t.rd CAP_STAT_ThrDrive = t.thrDrive % CAP_STAT_ThrDrive.size ∧ Frame s t [rx, CAP_STAT_ThrDrive] [.tl, .red, .cap]) ∧
      ((∀ q, s.red.rxSeq = some q → (q + 1) % 2 ^ 32 = numAt b 0 4) → (numAt b 4 1).testBit 0 = false →
        Answers (exec (.mirror h b) s) fun t => t.red.rxSeq = some (numAt b 0 4) ∧
          t.red.recs = (s.mirrorRecs b).foldl (fun l e => assocPut l e.1 e.2) s.red.recs ∧ Frame s t [rx] [.tl, .red]) ∧
      (∀ q, s.red.rxSeq = some q → (q + 1) % 2 ^ 32 ≠ numAt b 0 4 → (numAt b 4 1).testBit 0 = false → s.red.lost = false →
        s.on (FLT_SRC_CFG_Assigned 229) → Answers (exec (.mirror h b) s) fun t => t.rd RED_MIRROR_STAT_InSync = 0 ∧
          t.rd RED_MIRROR_GAP_CNT_Cnt = (s.rd RED_MIRROR_GAP_CNT_Cnt + 1) % RED_MIRROR_GAP_CNT_Cnt.size ∧
          Raised t 229 (s.rd RED_MIRROR_MASK_Mask)) ∧
      (∀ (n : Fin 4) (tag : Fin 256) (gen : BitVec 16), Answers (exec (.take h [(n, tag, gen)]) s) fun t =>
        let seq := ((assoc s.red.recs (mirKey 5 (HIF_SQ_ACCEPTED_SEQ n / 4))).getD 0 + 1) % 2 ^ 32
        t.red.taken = s.red.taken.filter (fun x => x.2.2 != tag.val) ++ [(n.val, seq, tag.val)] ∧
        assoc t.red.recs (mirKey 5 (HIF_TAG tag / 4)) = some (65536 * gen.toNat + 256 * n + 1) ∧ Frame s t [rx] [.tl, .red])) ∧
    (s.rd HU_STAT_State = 0 → s.rd UPD_STAT_State ≠ 3 → s.redState = 2 → s.red.surDue = none → Answers (exec (.handback h) s) fun t =>
      t.red.surDue = some 2 ∧ Frame s t [rx] [.tl, .red]) ∧
    (s.rd HU_STAT_State ≠ 0 ∨ s.rd UPD_STAT_State = 3 ∨ s.redState ≠ 2 → Answers (exec (.handback h) s) fun t =>
      t.red.surDue = s.red.surDue ∧ Frame s t [rx] [.tl, .red]))

/-- FEED_REPORT, CAP_ALLOC, WS_SHED, GASP, ACT_TABLE, SUBSCRIBE, SUB_NACK, FWD, PWRITE and PWRITE_ACK that pass the checks, and PWRITE_TIMEOUT. A
report and an actuator table replace their sender's last one; an allocation is followed by every device but the master; a wrong-side shed
names this device's groups; GASP waits for slot 3. A subscribed point is added within the messages booked, or refused; a refusal returns the
entry to Init and raises 53; a forwarded value arrives in this device's frames. A remote write acts, or is refused, and its status waits to be
answered; the acknowledgement completes the command with its status and the value that was in force. A window without a reply ends TIMEOUT. -/
def Obligations.SetMessages : Prop := ∀ s : State,
  (∀ (h : LinkHdr) (b : List Byte), LinkTaken s h →
    let rx := TL_PORT_RX_CNT_Cnt h.port
    (∀ r : FeedRep, Answers (exec (.feedReport h [r]) s) fun t => Frame s t [rx] [.tl, .red] ∧
      t.tl.reports = s.tl.reports.filter (fun x => !(x.1 == h.src.val && x.2.2.group == r.group)) ++ [(h.src.val, h.setFrame.toNat, r)]) ∧
    (∀ thr pol sg, s.on GLB_STAT_ShelfMaster → Answers (exec (.capAlloc h thr pol sg) s) fun t => Frame s t [rx] [.tl, .red]) ∧
    (∀ (thr : BitVec 8) (pol : BitVec 24) (sg : BitVec 32), s.on GLB_STAT_ShelfMaster = false →
      Answers (exec (.capAlloc h thr pol sg) s) fun t => t.cap.alloc = (bitsOf 8 thr.toNat).map (fun k => 128 * s.me + k) ++
        (bitsOf 24 pol.toNat).map (fun k => 128 * s.me + 8 + k) ++ (bitsOf 32 sg.toNat).map (fun k => 128 * s.me + 64 + k)) ∧
    (∀ g : Fin 32, s.on GLB_STAT_ShelfMaster = false → s.cap.wsEng.contains (128 * s.me + 64 + g) = false →
      ∀ x : Fin 256, x.val = 32 * s.me + g → Answers (exec (.wsShed h [x]) s) fun t =>
        t.cap.wsEng = s.cap.wsEng ++ [128 * s.me + 64 + g]) ∧
    (Answers (exec (.gasp h) s) fun t => t.cap = { s.cap with gaspIn := true } ∧ Frame s t [rx] [.tl, .red, .cap]) ∧
    (∀ l, Answers (exec (.actTable h l) s) fun t => assoc t.tl.actTables h.src = some l ∧ Frame s t [rx] [.tl, .red]) ∧
    (b.length = 6 → numAt b 4 2 ≠ 0 →
      let id := numAt b 0 4 % 2 ^ 20
      let rest := s.tl.subs.filter (fun x => !(x.1 == h.src.val && x.2.1 == id))
      (s.pinned id → rest.length < 4 * s.rd TL_CFG_FwdMsgs → Answers (exec (.subscribe h b) s) fun t =>
        t.tl.subs = rest ++ [(h.src.val, id, numAt b 4 2)] ∧ Frame s t [rx] [.tl, .red]) ∧
      (s.pinned id = false ∨ 4 * s.rd TL_CFG_FwdMsgs ≤ rest.length → Answers (exec (.subscribe h b) s) fun t =>
        t.tl.subs = s.tl.subs ∧ Frame s t [rx, TL_PORT_TX_CNT_Cnt 0, TL_PORT_TX_CNT_Cnt 1, FLT_INJ_Armed] [.tl, .red, .flt, .out])) ∧
    (∀ e, b.length = 4 → s.pinsOfPeer h.src (numAt b 0 4 % 2 ^ 20) = [e] → s.on (FLT_SRC_CFG_Assigned 53) →
      Answers (exec (.subNack h b) s) fun t => t.cached (e.2 % 2 ^ 20) = {} ∧ Raised t 53 e.1) ∧
    (∀ e, b.length = 12 → s.pinsOfPeer h.src (numAt b 0 4 % 2 ^ 20) = [e] → Answers (exec (.fwd h b) s) fun t =>
      t.pnt = { s.pnt with arrivals := s.pnt.arrivals ++ [(e.2 % 2 ^ 20, some
        { v := BitVec.ofNat 32 (numAt b 4 4), q := numAt b 0 4 / 2 ^ 24,
          stamp := (numAt b 8 4 + 2 ^ 32 - s.rd FRM_SET_OFF_LO_Lo) % 2 ^ 32 })] } ∧ Frame s t [rx] [.tl, .red, .pnt]) ∧
    (s.pointKnown (numAt b 0 4 % 2 ^ 20) = false → Answers (exec (.pwrite h b) s) fun t =>
      t.tl.pwIn = s.tl.pwIn ++ [(h.src.val, numAt b 8 4, 15)] ∧ Frame s t [rx] [.tl, .red]) ∧
    (∀ n : Fin 24, numAt b 0 4 % 2 ^ 20 = 0x4002 + 32 * n → s.pinOf (0x4002 + 32 * n) = none → s.ownRefuses (0x4002 + 32 * n) = false →
      s.railOwns (0x4002 + 32 * n) = false → Answers (exec (.pwrite h b) s) fun t =>
        t.rd (LT_MAN_DUTY_Duty n) = min (numAt b 4 4) 65535 ∧ t.tl.pwIn = s.tl.pwIn ++ [(h.src.val, numAt b 8 4, 0)] ∧
        Frame s t [rx, LT_MAN_DUTY_Duty n] [.tl, .red]) ∧
    (∀ (tag : Fin 256) c st, s.tl.pwrites = [(numAt b 0 4, h.src.val, .cmd tag.val)] → s.findCmd tag.val = some c →
      Status.ofCode (numAt b 4 1) = some st → st ≠ .notAdmitted → Answers (exec (.pwriteAck h b) s) fun t =>
        Completes s t c st c.result ∧ t.tl.pwrites = [] ∧
        Frame s t [rx, HIF_TAG_State c.tag, FLT_INJ_Armed] [.tl, .red, .rings, .flt]) ∧
    (s.tl.pwrites = [] → Answers (exec (.pwriteAck h b) s) fun t => Frame s t [rx] [.tl, .red])) ∧
  ∀ (tag : Fin 256) c, s.findCmd tag.val = some c →
    (s.tl.pwrites.any (fun x => x.2.2 == .cmd tag.val) → c.deadline ≠ 0 → c.arrival + min c.deadline 1024 ≤ s.frame →
      Answers (exec (.pwriteTimeout tag) s) fun t => Completes s t c .timeout c.result ∧
        t.tl = { s.tl with pwrites := s.tl.pwrites.filter (fun x => x.2.2 != .cmd tag.val) } ∧
        Frame s t [HIF_TAG_State c.tag, FLT_INJ_Armed] [.tl, .rings, .flt]) ∧
    (s.tl.pwrites.any (fun x => x.2.2 == .cmd tag.val) = false ∨ c.deadline = 0 ∨ s.frame < c.arrival + min c.deadline 1024 →
      Answers (exec (.pwriteTimeout tag) s) fun t => Frame s t [] [])

/-- PAIR_START_ROLE, SECONDARY_START_TIMEOUT, HB_TOGGLE_MISSED, HB_TOGGLE_RETURN, PEER_FAILED, HB_PATH_SILENT, MST_HELD, ACTIVE_SURRENDER and
RED_SURRENDER_WRITE. A starting primary becomes Standby where MST_N is low and takes the role after two free frames; the secondary takes it once
its wait is over. The toggle path shows its silence. A standby that has heard nothing for Thb frames starts the take-over and raises 224; one silent
path raises 228 once; MST_N held three frames after detection raises 227 once. A surrender cause makes the active Standby: it releases MST_N and the
role, has SURRENDER and a final mirror to send, and raises 226 unless it hands back. -/
def Obligations.PairStates : Prop := ∀ s : State,
  let taken (t : State) : Prop := t.redState = 2 ∧ t.on RED_STAT_MstDrive ∧ t.on RED_STAT_MstIn ∧ t.on GLB_STAT_ShelfMaster ∧
    t.on GLB_STAT_Active ∧ t.red.first ∧ t.red.sent = [] ∧ t.red.passAt = s.frame
  (s.redState = 1 → s.primary →
    (s.on RED_STAT_MstIn → Answers (exec .pairStartRole s) fun t => t.redState = 3 ∧ t.rd RED_MIRROR_STAT_InSync = 0 ∧
      t.rd RED_HEALTHY_Cnt = 0 ∧ Frame s t [RED_STAT_State, RED_MIRROR_STAT_InSync, RED_HEALTHY_Cnt] [.red, .irq, .out]) ∧
    (s.on RED_STAT_MstIn = false → 2 ≤ s.red.mstFree → Answers (exec .pairStartRole s) taken) ∧
    (s.on RED_STAT_MstIn = false → s.red.mstFree < 2 → Answers (exec .pairStartRole s) fun t => Frame s t [] [])) ∧
  (s.redState ≠ 1 ∨ s.primary = false → Answers (exec .pairStartRole s) fun t => Frame s t [] []) ∧
  (s.redState = 1 → s.primary = false → 2 ≤ s.red.mstFree → 10000 * max 1 (s.rd RED_TIMING_StartWait) ≤ s.red.startFor →
    Answers (exec .secondaryStartTimeout s) taken) ∧
  (s.redState ≠ 1 ∨ s.primary ∨ s.red.mstFree < 2 ∨ s.red.startFor < 10000 * max 1 (s.rd RED_TIMING_StartWait) →
    Answers (exec .secondaryStartTimeout s) fun t => Frame s t [] []) ∧
  (s.on RED_CFG_ToggleEn → s.pairOn →
    (Answers (exec .hbToggleMissed s) fun t => t.on RED_STAT_ToggleSilent ∧ Frame s t [RED_STAT_ToggleSilent] []) ∧
    (Answers (exec .hbToggleReturn s) fun t => t.on RED_STAT_ToggleSilent = false ∧ t.red = { s.red with togSeen := true } ∧
      Frame s t [RED_STAT_ToggleSilent] [.red])) ∧
  (s.on RED_CFG_ToggleEn = false ∨ s.pairOn = false → ∀ i ∈ ([.hbToggleMissed, .hbToggleReturn] : List Instr),
    Answers (exec i s) fun t => Frame s t [] []) ∧
  (s.redState = 3 → s.rd RED_TIMING_Thb ≤ s.rd RED_STAT_Silent → s.on (FLT_SRC_CFG_Assigned 224) → Answers (exec .peerFailed s) fun t =>
    t.redState = 4 ∧ t.red.detect = some s.frame ∧ Raised t 224 0 ∧ FrameFault s t [RED_STAT_State] [.red]) ∧
  (s.redState ≠ 3 ∨ s.rd RED_STAT_Silent < s.rd RED_TIMING_Thb → Answers (exec .peerFailed s) fun t => Frame s t [] []) ∧
  (∀ link : Bool, s.redState = 3 → s.red.pathRaised = false → s.on (FLT_SRC_CFG_Assigned 228) → 0 < s.rd RED_TIMING_Thb →
    (if link then s.rd RED_TIMING_Thb ≤ s.red.linkFor ∧ s.red.togFor = 0 else s.rd RED_TIMING_Thb ≤ s.red.togFor ∧ s.red.linkFor = 0) →
    Answers (exec .hbPathSilent s) fun t => Raised t 228 (if link then 1 else 2) ∧ t.red = { s.red with pathRaised := true } ∧
      FrameFault s t [] [.red]) ∧
  (s.red.pathRaised = false → s.red.linkFor = 0 → s.red.togFor = 0 → 0 < s.rd RED_TIMING_Thb → Answers (exec .hbPathSilent s) fun t =>
    Frame s t [] []) ∧
  (∀ d, s.red.detect = some d → s.redState = 4 → d + 3 ≤ s.frame → s.on RED_STAT_MstIn → s.red.mstRaised = false →
    s.on (FLT_SRC_CFG_Assigned 227) → Answers (exec .mstHeld s) fun t => Raised t 227 0 ∧ t.red = { s.red with mstRaised := true } ∧
      FrameFault s t [] [.red]) ∧
  (s.red.detect = none ∨ s.on RED_STAT_MstIn = false ∨ s.red.mstRaised → Answers (exec .mstHeld s) fun t => Frame s t [] []) ∧
  (∀ why, s.red.surDue = some why → s.redState = 2 → Answers (exec .activeSurrender s) fun t => t.redState = 3 ∧
    t.on RED_STAT_MstDrive = false ∧ t.on GLB_STAT_ShelfMaster = false ∧ t.on GLB_STAT_Active = false ∧ t.red.surSend = some why ∧
    t.red.finalMir ∧ t.red.surDue = none ∧ (why ≠ 2 → s.on (FLT_SRC_CFG_Assigned 226) → Raised t 226 why)) ∧
  (s.red.surDue = none → Answers (exec .activeSurrender s) fun t => Frame s t [] []) ∧
  (s.redState = 2 → s.red.surDue = none → Answers (exec .redSurrenderWrite s) fun t => t.red = { s.red with surDue := some 0 } ∧
    Frame s t [] [.red]) ∧
  (s.redState ≠ 2 ∨ s.red.surDue ≠ none → Answers (exec .redSurrenderWrite s) fun t => Frame s t [] [])

/-- ROLE_TAKE, RED_RESYNC, HANDBACK_SEND, HEARTBEAT_BUILD and MIRROR_SEND. The standby takes the role in a frame after its detection, with MST_N free
for two frames: it drives MST_N, is shelf master, counts the take-over, records the frames since the last heartbeat and raises 225. A
resynchronisation clears InSync and counts a loss once. HANDBACK is sent when due. The heartbeat is broadcast with the payload of R386; MIRROR_SEND
sends what was built. -/
def Obligations.RoleAndMirror : Prop := ∀ s : State,
  let tx : List Fld := [TL_PORT_TX_CNT_Cnt 0, TL_PORT_TX_CNT_Cnt 1, FLT_INJ_Armed]
  (∀ cq, s.red.detect = none ∨ s.redState ≠ 4 ∨ s.red.mstFree < 2 ∨ s.red.detect = some s.frame →
    Answers (exec (.roleTake cq) s) fun t => Frame s t [] []) ∧
  (∀ cq d, s.red.detect = some d → s.redState = 4 → d < s.frame → 2 ≤ s.red.mstFree → s.on (FLT_SRC_CFG_Assigned 225) →
    (∀ e ∈ s.red.recs, e.1 / 65536 = 3 ∨ (mirrorRegs (e.1 / 65536)).contains (4 * (e.1 % 65536))) →
    Answers (exec (.roleTake cq) s) fun t =>
      let gap := match s.red.peer with | some p => min 65535 (s.frame - p.frame) | none => 65535
      t.redState = 2 ∧ t.on RED_STAT_MstDrive ∧ t.on GLB_STAT_ShelfMaster ∧ t.on GLB_STAT_Active ∧ t.on RED_STAT_RevertPend = false ∧
      t.rd RED_TAKEOVER_CNT_Cnt = (s.rd RED_TAKEOVER_CNT_Cnt + 1) % RED_TAKEOVER_CNT_Cnt.size ∧ t.rd RED_LAST_GAP_Frames = gap ∧
      t.rd RED_MIRROR_STAT_InSync = 0 ∧ t.red.detect = none ∧ t.red.recs = [] ∧ t.cap.mirThr = 0 ∧ Raised t 225 (min 255 gap)) ∧
  (s.red.lost = false → s.on (FLT_SRC_CFG_Assigned 229) → Answers (exec .redResync s) fun t => t.rd RED_MIRROR_STAT_InSync = 0 ∧
    t.rd RED_MIRROR_GAP_CNT_Cnt = (s.rd RED_MIRROR_GAP_CNT_Cnt + 1) % RED_MIRROR_GAP_CNT_Cnt.size ∧ Raised t 229 (s.rd RED_MIRROR_MASK_Mask) ∧
    t.red = { s.red with passOk := false, lost := true } ∧ FrameFault s t [RED_MIRROR_STAT_InSync, RED_MIRROR_GAP_CNT_Cnt] [.red]) ∧
  (s.red.lost → Answers (exec .redResync s) fun t => t.rd RED_MIRROR_STAT_InSync = 0 ∧ t.red = { s.red with passOk := false } ∧
    Frame s t [RED_MIRROR_STAT_InSync] [.red]) ∧
  (s.handbackDue → Answers (exec .handbackSend s) fun t => t.on RED_STAT_RevertPend ∧ t.red = { s.red with handAt := some s.frame } ∧
    Frame s t (RED_STAT_RevertPend :: tx) [.red, .tl, .flt, .out]) ∧
  (s.handbackDue = false → Answers (exec .handbackSend s) fun t => Frame s t [] []) ∧
  (s.frm.coreRst → ∀ i ∈ ([.heartbeatBuild, .mirrorSend] : List Instr), Answers (exec i s) fun t => Frame s t [] []) ∧
  (s.frm.coreRst = false → s.red.finalMir = false → s.redState ≠ 2 → s.handbackDue = false →
    Answers (exec .heartbeatBuild s) (fun t => t.red = { s.red with built := true, surSend := none,
                                                                     hbTx := s.red.hbTx || (s.pairOn && s.on RED_CFG_ToggleEn) } ∧
      Frame s t tx [.red, .tl, .flt, .out]) ∧
    (s.pairOn = false → s.red.surSend = none → 1 < s.rd TL_CFG_SetSize → s.portUp 0 → s.portUp 1 = false → s.flt.armed = none →
      Answers (exec .heartbeatBuild s) fun t => t.out = .link 0 8 (s.rd TL_GEN_Gen) (s.tl.txSeq.getD 8 0) (s.setFrameNo % 2 ^ 32)
          (.bytes 0x02 s.hbBytes) false :: s.out ∧
        t.rd (TL_PORT_TX_CNT_Cnt 0) = (s.rd (TL_PORT_TX_CNT_Cnt 0) + 1) % 2 ^ 32)) ∧
  (s.frm.coreRst = false → s.redState = 2 → s.red.finalMir = false → Answers (exec .heartbeatBuild s) fun t => t.red.built ∧
    t.red.surSend = none ∧ t.red.mirror.length ≤ s.rd RED_MIRROR_CFG_MaxMsgs) ∧
  ∀ m, s.frm.coreRst = false → s.red.mirror = [m] → Answers (exec .mirrorSend s) fun t =>
    t.red = { s.red with mirror := [], mirSeq := leNat (m.take 4) } ∧ Frame s t tx [.red, .tl, .flt, .out]

/-- RATE_LIMIT_TOKEN, ONYX_RECORD_BUILD, MARK_RECORD, ONYX_COMMIT, ARCHIVE_PROGRAM and ARCHIVE_ERASE_DONE. A token returns at each boundary that the period
divides, once. A request of an earlier frame becomes a record of the next sequence number; without a token it is suppressed and counted; without an
allowance it is refused, and raises 238 once; without space it is lost. A MARK that is due carries the low-water mark. A commit writes the oldest staged
record to its slot, and counts and raises 234 for an unarchived record there. Eight committed records are archived into an erased sector, which is erased
first. -/
def Obligations.Recorder : Prop := ∀ s : State,
  (∀ c : Fin 256, 2 ≤ c.val → s.rd (ONX_RL_CFG_Period c) ≠ 0 → s.frame % s.rd (ONX_RL_CFG_Period c) = 0 →
    assoc s.onx.tokenAt c ≠ some s.frame → Answers (exec (.rateLimitToken c) s) fun t =>
      (assoc t.onx.short c).getD 0 = (assoc s.onx.short c).getD 0 - 1 ∧ assoc t.onx.tokenAt c = some s.frame ∧ Frame s t [] [.records]) ∧
  (∀ c : Fin 256, c.val < 2 ∨ s.rd (ONX_RL_CFG_Period c) = 0 ∨ s.frame % s.rd (ONX_RL_CFG_Period c) ≠ 0 ∨
    assoc s.onx.tokenAt c = some s.frame → Answers (exec (.rateLimitToken c) s) fun t => Frame s t [] []) ∧
  (s.frm.coreRst ∨ s.on ONX_STAT_Ready = false → Answers (exec .onyxRecordBuild s) fun t => Frame s t [] []) ∧
  (∀ r, s.frm.coreRst = false → s.on ONX_STAT_Ready → s.onx.fifo = [r] → r.frame < s.frame → r.clear = none → r.force = false →
    s.onx.lostPend = 0 → s.onx.refPend = 0 → s.onx.archLost = 0 → s.onx.huReqs = [] → s.flt.armed = none →
    s.onx.sinceMark + 1 < 65536 → s.opms < s.onx.markOpms + 60000 * max 1 (s.rd ONX_CFG_MarkMin) →
    (s.rd HU_STAT_State = 0 → s.limited r = false → s.onx.staging.length < 1920 → Answers (exec .onyxRecordBuild s) fun t =>
      t.onx.staging = s.onx.staging ++ [s.recOf r] ∧ t.onx.fifo = [] ∧ t.rd ONX_NEXT_SEQ_Seq = (s.rd ONX_NEXT_SEQ_Seq + 1) % 2 ^ 32 ∧
      Frame s t [ONX_NEXT_SEQ_Seq] [.records, .requests]) ∧
    (s.limited r → s.tokens (r.code / 256) = 0 → r.code < 65536 → Answers (exec .onyxRecordBuild s) fun t =>
      t.onx.staging = s.onx.staging ∧ t.onx.fifo = [] ∧ t.rd ONX_SUPP_CNT_Cnt = (s.rd ONX_SUPP_CNT_Cnt + 1) % 2 ^ 32 ∧
      t.rd (ONX_RL_SUPP_Cnt (r.code / 256)) = min (s.rd (ONX_RL_SUPP_Cnt (r.code / 256)) + 1) ((ONX_RL_SUPP_Cnt 0).size - 1)) ∧
    (s.rd HU_STAT_State = 1 → s.rdS HU_ALLOW_V ≤ 0 → s.limited r = false → s.onx.refused1 = false → s.on (FLT_SRC_CFG_Assigned 238) →
      Answers (exec .onyxRecordBuild s) fun t => t.onx.staging = s.onx.staging ∧ Raised t 238 0 ∧
        t.rd ONX_REFUSED_CNT_Cnt = (s.rd ONX_REFUSED_CNT_Cnt + 1) % 2 ^ 32) ∧
    (s.rd HU_STAT_State = 0 → s.limited r = false → 2048 ≤ s.onx.staging.length → s.onx.lossSeen → Answers (exec .onyxRecordBuild s) fun t =>
      t.onx.staging = s.onx.staging ∧ t.onx.lostPend = 1 ∧ t.rd ONX_LOST_CNT_Cnt = (s.rd ONX_LOST_CNT_Cnt + 1) % 2 ^ 32)) ∧
  (s.markDue = false → Answers (exec .markRecord s) fun t => Frame s t [] []) ∧
  (s.markDue → (∀ c < 256, s.rd (ONX_RL_SUPP_Cnt c) = 0) → s.flt.armed = none → Answers (exec .markRecord s) fun t =>
    t.onx.staging = s.onx.staging ++ [s.recOf { code := 2, p0 := s.rd ONX_LOW_WATER_Seq, p1 := s.onx.sinceMark }] ∧
    t.onx.sinceMark = 0 ∧ t.onx.markOpms = s.opms ∧ Frame s t [ONX_NEXT_SEQ_Seq] [.records]) ∧
  (s.on ONX_STAT_Ready = false → Answers (exec .onyxCommit s) fun t => Frame s t [] []) ∧
  (∀ r, s.on ONX_STAT_Ready → s.onx.staging = [r] → s.nvmOpen → s.flt.armed = none →
    (assoc s.onx.mram (r.seq % 131072) = none → Answers (exec .onyxCommit s) fun t => assoc t.onx.mram (r.seq % 131072) = some r ∧
      t.onx.staging = [] ∧ t.rd ONX_COMMIT_SEQ_Seq = r.seq % 2 ^ 32 ∧ Frame s t [ONX_COMMIT_SEQ_Seq] [.records, .requests]) ∧
    (∀ o, assoc s.onx.mram (r.seq % 131072) = some o → s.unarchived o.seq → s.on (FLT_SRC_CFG_Assigned 234) →
      Answers (exec .onyxCommit s) fun t => assoc t.onx.mram (r.seq % 131072) = some r ∧ Raised t 234 0 ∧
        t.onx.archLost = s.onx.archLost + 1 ∧ t.rd ONX_ARCH_LOST_CNT_Cnt = (s.rd ONX_ARCH_LOST_CNT_Cnt + 1) % 2 ^ 32)) ∧
  (∀ ok, s.on ONX_CFG_ArchEn = false ∨ s.on ONX_STAT_Ready = false ∨ s.onx.erasing ≠ none ∨ s.archPage.length < 8 →
    Answers (exec (.archiveProgram ok) s) fun t => Frame s t [] []) ∧
  (s.on ONX_CFG_ArchEn → s.on ONX_STAT_Ready → s.onx.erasing = none → s.nvmOpen → s.archPage.length = 8 → s.flt.armed = none →
    let secs := s.archPage.map (fun r => r.seq % 524288 / 2048)
    (∀ x ok, secs.find? (fun x => !s.onx.erased.contains x) = some x → Answers (exec (.archiveProgram ok) s) fun t =>
      t.onx.erasing = some x ∧ Frame s t [] [.records]) ∧
    (secs.find? (fun x => !s.onx.erased.contains x) = none →
      (Answers (exec (.archiveProgram true) s) fun t => (∀ r ∈ s.archPage, assoc t.onx.archive (r.seq % 524288) = some r) ∧
        t.onx.anyArch ∧ t.rd ONX_ARCH_SEQ_Seq = s.archPage.foldl (fun _ r => r.seq) 0 % 2 ^ 32 ∧ Frame s t [ONX_ARCH_SEQ_Seq] [.records]) ∧
      (s.on (FLT_SRC_CFG_Assigned 235) → Answers (exec (.archiveProgram false) s) fun t => Raised t 235 (secs.headD 0) ∧
        FrameFault s t [] []))) ∧
  (∀ ok, s.onx.erasing = none → Answers (exec (.archiveEraseDone ok) s) fun t => Frame s t [] []) ∧
  ∀ x, s.onx.erasing = some x →
    (Answers (exec (.archiveEraseDone true) s) fun t => t.onx.erasing = none ∧ t.onx.erased = s.onx.erased ++ [x] ∧ Frame s t [] [.records]) ∧
    (s.on (FLT_SRC_CFG_Assigned 235) → Answers (exec (.archiveEraseDone false) s) fun t => t.onx.erasing = none ∧
      t.onx.erased = s.onx.erased ∧ Raised t 235 x ∧ FrameFault s t [] [.records])

/-- TIME_ANCHOR, ONYX_QUERY and ONYX_CLEAR. An anchor with reserved bytes set is REFUSED_STATE; one that is accepted completes with its sequence number and
OPMS; one that finds no space or no allowance completes REFUSED_STATE with 2 or 1. A bad query is REFUSED_STATE; one waits while requester 0 holds the port;
a query for one committed record writes its 32 bytes to host memory and completes with the next number and one record. A clear with a bad payload is
REFUSED_STATE; without an owner key it is NOT_AUTHORISED and raises 237; an authorised one requests its CLEARED record. -/
def Obligations.OnyxCommands : Prop := ∀ (s : State) (tag : Fin 256) (c : Cmd),
  (s.ready tag.val 0x32 = some c →
    let p := c.payload
    let e := s.recOf { code := 7, p0 := numAt p 0 4, p1 := numAt p 4 4, p2 := numAt p 8 2 }
    (zeroAt p 10 30 = false → Answers (exec (.timeAnchor tag) s) fun t => CompletesAlone s t c .refusedState 0) ∧
    (zeroAt p 10 30 → s.allowed → s.staged 0 → s.flt.armed = none → Answers (exec (.timeAnchor tag) s) fun t =>
      Completes s t c .ok (s.rd ONX_NEXT_SEQ_Seq + 2 ^ 32 * (s.opms % 2 ^ 32)) ∧ t.onx.staging = s.onx.staging ++ [e] ∧
      t.rd ONX_NEXT_SEQ_Seq = (s.rd ONX_NEXT_SEQ_Seq + 1) % 2 ^ 32 ∧
      Frame s t [HIF_TAG_State c.tag, ONX_NEXT_SEQ_Seq] [.rings, .records]) ∧
    (zeroAt p 10 30 → s.allowed → s.staged 0 = false → Answers (exec (.timeAnchor tag) s) fun t => Completes s t c .refusedState 2 ∧
      t.rd ONX_LOST_CNT_Cnt = (s.rd ONX_LOST_CNT_Cnt + 1) % 2 ^ 32) ∧
    (zeroAt p 10 30 → s.allowed = false → Answers (exec (.timeAnchor tag) s) fun t => Completes s t c .refusedState 1 ∧
      t.rd ONX_REFUSED_CNT_Cnt = (s.rd ONX_REFUSED_CNT_Cnt + 1) % 2 ^ 32)) ∧
  (s.ready tag.val 0x30 = some c →
    let p := c.payload
    let q := numAt p 0 4
    (s.queryBad p → Answers (exec (.onyxQuery tag) s) fun t => CompletesAlone s t c .refusedState 0) ∧
    (s.queryBad p = false → s.nvmOpen = false → Answers (exec (.onyxQuery tag) s) fun t => Frame s t [] []) ∧
    (s.queryBad p = false → s.nvmOpen → s.onx.anyCommit = false → Answers (exec (.onyxQuery tag) s) fun t => CompletesAlone s t c .ok q) ∧
    (∀ r, s.queryBad p = false → s.nvmOpen → s.onx.anyCommit → numAt p 4 2 = 1 → numAt p 6 1 = 0 →
      seqAfter (s.rd ONX_COMMIT_SEQ_Seq) q = false → seqAfter q (s.rd ONX_OLDEST_SEQ_Seq) = false →
      assoc s.onx.mram (q % 131072) = some r → r.seq = q → r.bad = 0 →
      (s.dmaOk → Answers (exec (.onyxQuery tag) s) fun t => t.out = .dmaWrite (numAt p 16 8) r.bytes :: s.out ∧
        Completes s t c .ok ((q + 1) % 2 ^ 32 + 2 ^ 32) ∧ Frame s t [HIF_TAG_State c.tag, FLT_INJ_Armed] [.rings, .flt, .out]) ∧
      (s.dmaOk = false → Answers (exec (.onyxQuery tag) s) fun t => CompletesAlone s t c .timeout q))) ∧
  (s.ready tag.val 0x31 = some c →
    let p := c.payload
    (∀ token, numAt p 0 8 % 8 ≠ 0 ∨ zeroAt p 8 32 = false ∨ s.rd HU_STAT_State ≠ 0 →
      Answers (exec (.onyxClear tag token) s) fun t => CompletesAlone s t c .refusedState 0) ∧
    (numAt p 0 8 % 8 = 0 → zeroAt p 8 32 → s.rd HU_STAT_State = 0 →
      (s.fwu.nv.keyHash = none → s.on (FLT_SRC_CFG_Assigned 237) → Answers (exec (.onyxClear tag none) s) fun t =>
        Raised t 237 0 ∧ Completes s t c .notAuthorised 0) ∧
      (s.fwu.nv.keyHash ≠ none → Answers (exec (.onyxClear tag none) s) fun t => CompletesAlone s t c .timeout 0) ∧
      (∀ b : List Byte, b.length = 232 → numAt b 0 2 = 1 → zeroAt b 2 2 → zeroAt b 20 12 → zeroAt b 225 7 →
        numAt b 12 4 = s.rd ONX_LOW_WATER_Seq → seqAfter (numAt b 16 4) (numAt b 12 4) = false →
        seqAfter (numAt b 16 4) (s.rd ONX_NEXT_SEQ_Seq) → s.onx.fifo.length < 256 → s.on (FLT_SRC_CFG_Assigned 237) →
        Answers (exec (.onyxClear tag (some b)) s) fun t =>
          (∀ why, s.clearRefused (some b) = some why → Raised t 237 why ∧ Completes s t c .notAuthorised 0) ∧
          (s.clearRefused (some b) = none → t.findCmd tag.val = some (c.ran [.start]) ∧
            (∃ d, t.onx.fifo = s.onx.fifo ++ [{ code := 3, p0 := numAt b 12 4, p1 := numAt b 16 4, p2 := d, clear := some (tag.val, c.gen),
                                                frame := s.frame }]) ∧ Frame s t [] [.rings, .requests])))) ∧
  ∀ op ∈ [(0x30, Instr.onyxQuery tag), (0x31, .onyxClear tag none), (0x32, .timeAnchor tag)], s.ready tag.val op.1 = none →
    Answers (exec op.2 s) fun t => Frame s t [] []

/-- INJECT_FORCE, INJECT_CHECK_BITS, FAULT_ACK, FIRST_ERROR_RELEASE and NMI_SERVICE. A forced raise takes the class FLT_INJ names on an acknowledged source
and one above the class held on an unacknowledged one, which counts as an escalation; the first error is captured with its Injected flag. With the
debug lock set neither injection acts, InjRefused sets and 247 is raised. Check bits are armed for one target and instance. An acknowledgement clears its
bits and what they held. The NMI services faults of earlier frames: a corrected MRAM word is rewritten, and a second error raises its source again. -/
def Obligations.FaultCommands : Prop := ∀ s : State,
  (s.on DBG_LOCK_Lock → s.on (FLT_SRC_CFG_Assigned 247) → ∀ i ∈ ([.injectForce, .injectCheckBits] : List Instr),
    Answers (exec i s) fun t => t.on FLT_STAT_InjRefused ∧ Raised t 247 0 ∧ FrameFault s t [] []) ∧
  (s.on DBG_LOCK_Lock = false → s.rd FLT_INJ_Mode ≠ 2 ∨ s.rd FLT_INJ_Class = 3 → Answers (exec .injectForce s) fun t => Frame s t [] []) ∧
  (s.on DBG_LOCK_Lock = false → s.rd FLT_INJ_Mode = 2 → s.rd FLT_INJ_Class ≠ 3 → s.on (FLT_SRC_CFG_Assigned (s.rd FLT_INJ_Src)) →
    s.onx.lostPend = 0 → s.onx.fifo.length < 256 →
    let src := s.rd FLT_INJ_Src
    let cls := if s.unacked src then min 2 (s.heldClass src + 1) else s.rd FLT_INJ_Class
    (s.unacked src = false → Answers (exec .injectForce s) fun t => Raised t src (s.rd FLT_INJ_SYN_Syn) ∧
      assoc t.flt.held src = some cls ∧ t.rd FLT_ESC_CNT_Cnt = s.rd FLT_ESC_CNT_Cnt ∧
      (s.on FLT_FIRST_SRC_Valid = false → t.rd FLT_FIRST_SRC_Src = src ∧ t.rd FLT_FIRST_SRC_Class = cls ∧ t.on FLT_FIRST_SRC_Injected ∧
        t.on FLT_FIRST_SRC_Valid ∧ t.rd FLT_FIRST_FRAME_Frame = s.frame32 ∧ t.rd FLT_FIRST_SYN_Syn = s.rd FLT_INJ_SYN_Syn) ∧
      (s.on FLT_FIRST_SRC_Valid → t.on FLT_STAT_Ovf ∧ t.rd FLT_FIRST_SRC_Src = s.rd FLT_FIRST_SRC_Src)) ∧
    (s.unacked src → neverEscalates src = false → Answers (exec .injectForce s) fun t => Raised t src (s.rd FLT_INJ_SYN_Syn) ∧
      assoc t.flt.held src = some cls ∧ t.rd FLT_ESC_CNT_Cnt = (s.rd FLT_ESC_CNT_Cnt + 1) % 2 ^ 32) ∧
    (s.unacked src → neverEscalates src → Answers (exec .injectForce s) fun t =>
      t.rd (FLT_SRC_CNT_Raises src) = min (s.rd (FLT_SRC_CNT_Raises src) + 1) 65535 ∧
      t.rd (FLT_SRC_CNT_Syn src) = s.rd FLT_INJ_SYN_Syn ∧ Frame s t [FLT_SRC_CNT_Raises src, FLT_SRC_CNT_Syn src] [])) ∧
  (s.on DBG_LOCK_Lock = false →
    let n := injInst (s.rd FLT_INJ_Target)
    let bad := s.rd FLT_INJ_Mode ≠ 1 ∨ s.rd FLT_INJ_InvMask = 0 ∨ 0xA < s.rd FLT_INJ_Target ∨ (n ≠ 0 ∧ n ≤ s.rd FLT_INJ_Inst)
    (bad → Answers (exec .injectCheckBits s) fun t => Frame s t [] []) ∧
    (¬bad → Answers (exec .injectCheckBits s) fun t => t.on FLT_INJ_Armed ∧ Frame s t [FLT_INJ_Armed] [.flt] ∧
      t.flt.armed = some (s.rd FLT_INJ_Target, if n = 0 then 0 else s.rd FLT_INJ_Inst, s.rd FLT_INJ_InvMask))) ∧
  (∀ (g : Fin 8) (mask : BitVec 32), Answers (exec (.faultAck g mask) s) fun t =>
    (∀ src < 256, t.unacked src = (s.unacked src && !(src / 32 == g.val && mask.toNat.testBit (src % 32)))) ∧
    (∀ src, assoc t.flt.held src = if src / 32 = g.val ∧ mask.toNat.testBit (src % 32) then none else assoc s.flt.held src) ∧
    Frame s t [FLT_GRP_STAT_Bits g] [.flt]) ∧
  (Answers (exec .firstErrorRelease s) fun t => t.on FLT_FIRST_SRC_Valid = false ∧ Frame s t [FLT_FIRST_SRC_Valid] []) ∧
  (∀ second, s.frm.coreRst ∨ s.flt.nmi = [] → Answers (exec (.nmiService second) s) fun t => Frame s t [] []) ∧
  ∀ src syn f, s.frm.coreRst = false → s.flt.nmi = [(src, syn, f)] →
    (∀ second, s.frame ≤ f → Answers (exec (.nmiService second) s) fun t => Frame s t [] []) ∧
    (f < s.frame →
      (src ≠ 2 → Answers (exec (.nmiService false) s) fun t => t.flt.nmi = [] ∧ Frame s t [] [.flt]) ∧
      (src = 2 → Answers (exec (.nmiService false) s) fun t => t.flt.nmi = [] ∧ Frame s t [] [.flt, .records] ∧
        ∀ k, assoc t.onx.mram k = (assoc s.onx.mram k).map (fun r => if k / 2 = syn ∧ r.bad = 1 then { r with bad := 0 } else r)) ∧
      (src = 0 ∨ src = 2 ∨ src = 4 → s.on (FLT_SRC_CFG_Assigned src) → Answers (exec (.nmiService true) s) fun t => Raised t src syn))

/-- TMR_START, TMR_STOP, TMR_SYNC_START, TMR_CMP_WRITE, TMR_MATCH and RBT_ROUND_GRANT. A start runs the timer from 0, and fires at once on a compare value of
0; a stop stops it; a synchronised start arms it. A compare value at or below the count of a running timer fires at once, with CmpLate; a count that reaches
the value matches: it stops a one-shot timer, counts and posts the event. A booked round goes to its owner, a free one to the enabled requester of highest
priority, whose wait ends; the others wait one longer; a round with no work parks. Last gasp takes the NVM port. -/
def Obligations.TimersAndRounds : Prop := ∀ s : State,
  (∀ (i : Fin 16) (clk : Fin 1000), s.rd (TMR_STAT_State i) ≠ 2 →
    (s.rd (TMR_CMP_Cmp i) ≠ 0 → Answers (exec (.tmrStart i clk) s) fun t => t.rd (TMR_CNT_Cnt i) = 0 ∧ t.rd (TMR_STAT_State i) = 2 ∧
      t.timer i = { pre := s.rd (TMR_CFG_Pre i) + 1, mode := s.on (TMR_CFG_Mode i), evEn := s.on (TMR_CFG_EvEn i),
                    clk := max (s.timer i).clk clk } ∧ Frame s t [TMR_CNT_Cnt i, TMR_STAT_State i] [.timers]) ∧
    (s.rd (TMR_CMP_Cmp i) = 0 → s.on (TMR_CFG_Mode i) = false → Answers (exec (.tmrStart i clk) s) fun t => t.rd (TMR_CNT_Cnt i) = 0 ∧
      t.on (TMR_STAT_Match i) ∧ t.on (TMR_STAT_CmpLate i) ∧ t.rd (TMR_STAT_State i) = 3 ∧
      t.rd (TMR_MATCH_CNT_Cnt i) = (s.rd (TMR_MATCH_CNT_Cnt i) + 1) % 2 ^ 32) ∧
    (∀ v, Answers (exec (.tmrCmpWrite i clk v) s) fun t => t.rd (TMR_CMP_Cmp i) = v.toNat ∧ Frame s t [TMR_CMP_Cmp i] [.timers]) ∧
    (Answers (exec (.tmrMatch i clk) s) fun t => Frame s t [] [.timers])) ∧
  (∀ (i : Fin 16) (clk : Fin 1000), Answers (exec (.tmrStop i clk) s) fun t => t.rd (TMR_STAT_State i) = 0) ∧
  (∀ i : Fin 16, Answers (exec (.tmrSyncStart i) s) fun t => t.rd (TMR_STAT_State i) = 1 ∧ t.rd (TMR_CNT_Cnt i) = 0 ∧
    Frame s t [TMR_STAT_State i, TMR_CNT_Cnt i] [.timers]) ∧
  (∀ (i : Fin 16) (clk : Fin 1000), s.rd (TMR_STAT_State i) = 2 →
    (∀ v : BitVec 32, clk.val ≤ (s.timer i).clk →
      (s.rd (TMR_CNT_Cnt i) < v.toNat → Answers (exec (.tmrCmpWrite i clk v) s) fun t => t.rd (TMR_CMP_Cmp i) = v.toNat ∧
        Frame s t [TMR_CMP_Cmp i] [.timers]) ∧
      (v.toNat ≤ s.rd (TMR_CNT_Cnt i) → Answers (exec (.tmrCmpWrite i clk v) s) fun t => t.rd (TMR_CMP_Cmp i) = v.toNat ∧
        t.on (TMR_STAT_Match i) ∧ t.on (TMR_STAT_CmpLate i) ∧
        t.rd (TMR_MATCH_CNT_Cnt i) = (s.rd (TMR_MATCH_CNT_Cnt i) + 1) % 2 ^ 32)) ∧
    (clk.val = (s.timer i).clk + 1 → (s.timer i).pre ≤ (s.timer i).frac + 1 → (s.timer i).wrap = false → s.rd (TMR_CNT_Cnt i) + 1 < 2 ^ 32 →
      (s.rd (TMR_CNT_Cnt i) + 1 ≠ s.rd (TMR_CMP_Cmp i) → Answers (exec (.tmrMatch i clk) s) fun t =>
        t.rd (TMR_CNT_Cnt i) = s.rd (TMR_CNT_Cnt i) + 1 ∧ Frame s t [TMR_CNT_Cnt i] [.timers]) ∧
      (s.rd (TMR_CNT_Cnt i) + 1 = s.rd (TMR_CMP_Cmp i) → Answers (exec (.tmrMatch i clk) s) fun t =>
        t.rd (TMR_CNT_Cnt i) = s.rd (TMR_CMP_Cmp i) ∧ t.on (TMR_STAT_Match i) ∧
        t.rd (TMR_MATCH_CNT_Cnt i) = (s.rd (TMR_MATCH_CNT_Cnt i) + 1) % 2 ^ 32 ∧
        t.rd (TMR_STAT_State i) = (if (s.timer i).mode then 2 else 3) ∧ ((s.timer i).evEn → s.hif.events.length < 256 →
          Posts s t { code := 0x0500, unit := i, p0 := s.rd (TMR_CMP_Cmp i), p1 := s.rd (TMR_STAT_CmpLate i) })))) ∧
  (∀ mc : Bool, (mc ∨ (s.nvmOpen ∧ s.on RBT_NVM_STAT_Gasp = false)) →
    let n := if mc then 4 else 6
    let wait := rbtF mc RBT_NVM_REQ_STAT_Wait RBT_MC_REQ_STAT_Wait
    let grants := rbtF mc RBT_NVM_REQ_GRANT_CNT_Cnt RBT_MC_REQ_GRANT_CNT_Cnt
    let owner := if mc then RBT_MC_STAT_Owner else RBT_NVM_STAT_Owner
    let busy := if mc then RBT_MC_STAT_Busy else RBT_NVM_STAT_Busy
    let parked := if mc then RBT_MC_STAT_Parked else RBT_NVM_STAT_Parked
    let won (r : Nat) (t : State) : Prop := t.rd (wait r) = 0 ∧ t.rd (grants r) = (s.rd (grants r) + 1) % 2 ^ 32 ∧ t.rd owner = r ∧
      t.on busy ∧ t.on parked = false
    (∀ o, Answers (exec (.rbtRoundGrant mc o 0) s) fun t => t.on busy = false ∧ t.on parked ∧ (∀ r < n, t.rd (wait r) = s.rd (wait r))) ∧
    (∀ (r : Fin 6) (work : BitVec 6), r.val < n → work.toNat.testBit r → Answers (exec (.rbtRoundGrant mc (some r) work) s) fun t =>
      won r t ∧ ∀ q < n, q ≠ r → t.rd (wait q) = s.rd (wait q)) ∧
    (∀ (r : Fin 6) (work : BitVec 6), work.toNat = 2 ^ r.val → r.val < n → s.rbtOn mc r →
      Answers (exec (.rbtRoundGrant mc none work) s) (won r)) ∧
    ∀ (a b : Fin 6) (work : BitVec 6), work.toNat = 2 ^ a.val + 2 ^ b.val → a.val < n → b.val < n → a ≠ b → s.rbtOn mc a → s.rbtOn mc b →
      (∀ r ∈ [a.val, b.val], s.rbtWait mc r + 1 < (
        let wm := s.rd (if mc then RBT_MC_CFG_WaitMax else RBT_NVM_CFG_WaitMax)
        if wm = 0 then 255 else wm)) →
      s.rbtPrio mc b < s.rbtPrio mc a → Answers (exec (.rbtRoundGrant mc none work) s) fun t => won a t ∧
        t.rd (wait b) = s.rd (wait b) + 1) ∧
  ∀ o work, s.nvmOpen = false → s.on RBT_NVM_STAT_Gasp = false → s.hif.cmds = [] → Answers (exec (.rbtRoundGrant false o work) s) fun t =>
    t.on RBT_NVM_STAT_Gasp ∧ t.rd RBT_NVM_PREEMPT_CNT_Cnt = (s.rd RBT_NVM_PREEMPT_CNT_Cnt + 1) % 2 ^ 32 ∧ t.rd RBT_NVM_STAT_Owner = 0 ∧
    t.on RBT_NVM_STAT_Busy

/-- UPDATE_STAGE_MANIFEST, UPDATE_STAGE_BLOCKS, UPD_BLOCK_PROGRAM, UPD_PART_VERIFY, UPD_PART_READY, UPD_MAN, UPD_DATA and UPD_ACK. A manifest is refused with the
cause of R454, 7 while a session runs, 8 where it is malformed; one that fails its authorisation is NOT_AUTHORISED and raises 241; one that names
on-chip parts alone opens the session. Blocks are refused outside an Open session, wait for room, and are BAD_CRC with their index where their CRC fails.
A programmed part whose digest matches is Ready on chip and Delivering elsewhere; one that fails is Failed and raises 242. A peer gathers the
chunks of the manifest and of the blocks; the coordinator takes their acknowledgements. -/
def Obligations.UpdateStaging : Prop := ∀ s : State,
  (∀ (tag : Fin 256) c, s.ready tag.val 0x40 = some c → numAt c.payload 8 1 ≠ 1 →
    (s.updRefused ≠ 0 → ∀ m, Answers (exec (.updateStageManifest tag m) s) fun t => CompletesAlone s t c .refusedState s.updRefused) ∧
    (s.updRefused = 0 → s.rd UPD_STAT_State ∈ [3, 4, 5] → ∀ m, Answers (exec (.updateStageManifest tag m) s) fun t =>
      CompletesAlone s t c .refusedState 7) ∧
    (s.updRefused = 0 → s.rd UPD_STAT_State ∉ [3, 4, 5] →
      (stageBad c.payload 0 → ∀ m, Answers (exec (.updateStageManifest tag m) s) fun t => CompletesAlone s t c .refusedState 8) ∧
      (stageBad c.payload 0 = false → Answers (exec (.updateStageManifest tag none) s) fun t => CompletesAlone s t c .timeout 0) ∧
      (∀ m : List Byte, stageBad c.payload 0 = false →
        (m.length ≠ numAt c.payload 12 4 ∨ manOk m = false → Answers (exec (.updateStageManifest tag (some m)) s) fun t =>
          CompletesAlone s t c .refusedState 8) ∧
        (m.length = numAt c.payload 12 4 → manOk m → (∀ p ∈ manParts m, p.onChip) → s.on (FLT_SRC_CFG_Assigned 241) →
          Answers (exec (.updateStageManifest tag (some m)) s) fun t =>
            if s.manAuth m ≠ 0 then Completes s t c .notAuthorised (s.manAuth m) ∧ Raised t 241 (s.manAuth m)
            else Completes s t c .ok (manResult m) ∧ t.rd UPD_STAT_State = 1 ∧ t.rd UPD_BUNDLE_ID_Id = numAt m 12 4 ∧
              t.fwu.parts = manParts m ∧ ∀ k < (manParts m).length, t.rd (UPD_PART_STAT_State k) = 1)))) ∧
  (∀ (tag : Fin 256) c, s.ready tag.val 0x40 = some c → numAt c.payload 8 1 = 1 →
    let n := numAt c.payload 12 4
    let i := numAt c.payload 16 2
    let bad := stageBad c.payload 1 || s.rd UPD_STAT_State != 1 || s.fwu.coord.isSome || decide (s.fwu.parts.foldl (fun a p => a + p.count) 0 < i + n)
    (bad → ∀ d, Answers (exec (.updateStageBlocks tag d) s) fun t => CompletesAlone s t c .refusedState 0) ∧
    (bad = false → s.bufFree < n → ∀ d, Answers (exec (.updateStageBlocks tag d) s) fun t => Frame s t [] []) ∧
    (bad = false → n ≤ s.bufFree → Answers (exec (.updateStageBlocks tag none) s) fun t => CompletesAlone s t c .timeout 0) ∧
    (∀ b : List Byte, bad = false → n = 1 → 1 ≤ s.bufFree → b.length = 4096 →
      (crcGood b = false → s.on (FLT_SRC_CFG_Assigned 240) → Answers (exec (.updateStageBlocks tag (some b)) s) fun t =>
        Completes s t c .badCrc i ∧ Raised t 240 i) ∧
      (crcGood b → s.blockFits i b = false → Answers (exec (.updateStageBlocks tag (some b)) s) fun t => CompletesAlone s t c .refusedState i) ∧
      (∀ k : Fin 16, crcGood b → s.blockFits i b → s.partOf i = some k.val → s.rd (UPD_PART_STAT_State k) ≠ 5 →
        Answers (exec (.updateStageBlocks tag (some b)) s) fun t => Completes s t c .ok 0 ∧
          t.fwu = { s.fwu with buf := s.fwu.buf ++ [(i, slice b 8 (s.blockLen i))] } ∧ t.rd UPD_STAT_BufFree = t.bufFree ∧
          Frame s t [UPD_STAT_BufFree, HIF_TAG_State c.tag, FLT_INJ_Armed] [.fwu, .rings, .flt]))) ∧
  (s.fwu.buf = [] ∨ s.rbt.gasp → Answers (exec .updBlockProgram s) fun t => Frame s t [] []) ∧
  (∀ i d (k : Fin 16), s.fwu.buf = [(i, d)] → s.rbt.gasp = false → s.partOf i = some k.val → s.fwu.blkIn = [] →
    Answers (exec .updBlockProgram s) fun t => t.fwu.buf = [] ∧ assoc t.fwu.prog i = some d ∧ t.rd UPD_STAT_BufFree = 64 ∧
      Frame s t [UPD_PART_STAT_Blocks k, UPD_STAT_BufFree] [.fwu]) ∧
  (∀ (k : Fin 16) l,
    let p := nth s.fwu.parts k
    let have_ := (List.range p.count).all (fun j => (assoc s.fwu.prog (p.first + j)).isSome)
    let image := (List.range p.count).foldl (fun a j => a ++ (assoc s.fwu.prog (p.first + j)).getD []) []
    (s.fwu.parts.length ≤ k ∨ s.rd (UPD_PART_STAT_State k) ≠ 1 ∨ have_ = false → Answers (exec (.updPartVerify k l) s) fun t => Frame s t [] []) ∧
    (k.val < s.fwu.parts.length → s.rd (UPD_PART_STAT_State k) = 1 → have_ → s.on (FLT_SRC_CFG_Assigned 242) →
      Answers (exec (.updPartVerify k l) s) fun t =>
        if digestIs p.digest image then t.rd (UPD_PART_STAT_State k) = (if (s.ownKind p).isSome then 4 else 3) ∧
          ((s.ownKind p) = none → p.rectifier → assoc t.fwu.rect k = some .start)
        else t.rd (UPD_PART_STAT_State k) = 5 ∧ Raised t 242 k)) ∧
  (∀ k : Fin 16,
    let p := nth s.fwu.parts k
    let due := s.rd (UPD_PART_STAT_State k) = 3 ∧ p.peer ∧ p.count ≤ (s.fwu.acked.filter (fun e => e.1 == k.val)).length
    (due → Answers (exec (.updPartReady k true) s) fun t => t.rd (UPD_PART_STAT_State k) = 4) ∧
    (due → s.on (FLT_SRC_CFG_Assigned 242) → Answers (exec (.updPartReady k false) s) fun t => t.rd (UPD_PART_STAT_State k) = 5 ∧
      Raised t 242 k) ∧
    (¬due → ∀ ok, Answers (exec (.updPartReady k ok) s) fun t => Frame s t [] [])) ∧
  ∀ (h : LinkHdr) (b : List Byte), LinkTaken s h →
    let rx := TL_PORT_RX_CNT_Cnt h.port
    let i := numAt b 0 2
    (let len := numAt b 2 2
     let next := assocPut (if i = 0 ∨ s.fwu.manLen ≠ len then [] else s.fwu.manIn) i (padTo 40 (b.drop 4))
     let m := (next.foldl (fun a e => a ++ e.2) []).take len
     (next.length < (len + 39) / 40 → Answers (exec (.updMan h b) s) fun t => t.fwu = { s.fwu with manLen := len, manIn := next } ∧
       Frame s t [rx] [.tl, .red, .fwu]) ∧
     ((len + 39) / 40 ≤ next.length → s.updRefused ≠ 0 → Answers (exec (.updMan h b) s) fun t =>
       t.fwu = { s.fwu with manLen := len, manIn := [] } ∧
       Frame s t [rx, TL_PORT_TX_CNT_Cnt 0, TL_PORT_TX_CNT_Cnt 1, FLT_INJ_Armed] [.tl, .red, .fwu, .flt, .out]) ∧
     ((len + 39) / 40 ≤ next.length → s.updRefused = 0 → s.rd UPD_STAT_State ∉ [3, 4, 5] → manOk m → s.on (FLT_SRC_CFG_Assigned 241) →
       Answers (exec (.updMan h b) s) fun t =>
         if s.manAuth m ≠ 0 then Raised t 241 (s.manAuth m)
         else t.rd UPD_STAT_State = 1 ∧ t.fwu.coord = some h.src.val ∧ t.fwu.parts = manParts m)) ∧
    (let j := numAt b 2 1
     let next := s.fwu.blkIn.filter (fun e => !(e.1 == i && e.2.1 == j)) ++ [(i, j, padTo 40 (b.drop 4))]
     (s.fwu.coord ≠ some h.src.val ∨ 102 < j → Answers (exec (.updData h b) s) fun t => Frame s t [rx] [.tl, .red]) ∧
     (s.fwu.coord = some h.src.val → j ≤ 102 → (next.filter (fun e => e.1 == i)).length < 103 → Answers (exec (.updData h b) s) fun t =>
       t.fwu = { s.fwu with blkIn := next } ∧ Frame s t [rx] [.tl, .red, .fwu])) ∧
    (∀ (tag : Fin 256) c m, i = 0xFFFF → s.fwu.check = some (tag.val, m, [h.src.val]) → s.findCmd tag.val = some c →
      (numAt b 2 1 = 0 → s.fwu.rect.any (fun e => decide (16 ≤ e.1)) = false → Answers (exec (.updAck h b) s) fun t =>
        Completes s t c .ok (manResult m) ∧ t.rd UPD_STAT_State = 1) ∧
      (numAt b 2 1 ≠ 0 → Answers (exec (.updAck h b) s) fun t => Completes s t c .timeout 0)) ∧
    (∀ k : Fin 16, i ≠ 0xFFFF → s.partOf i = some k.val →
      let p := nth s.fwu.parts k
      p.peer → p.target = h.src.val → s.fwu.coord = none → s.fwu.sent.contains (k.val, i) → s.rd (UPD_PART_STAT_State k) = 3 →
      (numAt b 2 1 = 0 → i + 1 = p.first + p.count → Answers (exec (.updAck h b) s) fun t => t.fwu.acked.contains (k.val, i) ∧
        Frame s t [rx] [.tl, .red, .fwu]) ∧
      (numAt b 2 1 = 2 → s.on (FLT_SRC_CFG_Assigned 242) → Answers (exec (.updAck h b) s) fun t => t.rd (UPD_PART_STAT_State k) = 5 ∧
        Raised t 242 k))

/-- UPDATE_ACTIVATE, UPD_PREP_TIMEOUT, UPD_SWITCH_TIMEOUT, UPD_PREPARE, UPD_READY, UPD_COMMIT, UPD_DONE and UPD_REVERT. An activation with reserved bytes set, of
another bundle or outside Ready is REFUSED_STATE. With on-chip parts alone it commits at once: the deadline is set and the switch begins; with
peers or rectifiers it waits for their answers, and completes FAULTED where they refuse or stay silent. A switch that lasts too long fails the
activation and raises 243. A peer answers UPD_PREPARE, switches on UPD_COMMIT with the window that remains, and returns on UPD_REVERT; the coordinator
takes UPD_READY and UPD_DONE. -/
def Obligations.UpdateActivation : Prop := ∀ s : State,
  (∀ (tag : Fin 256) c, s.ready tag.val 0x41 = some c →
    let p := c.payload
    let w := if numAt p 4 2 = 0 then max 1 (s.rd UPD_CFG_Window) else numAt p 4 2
    let dl := (s.opms + 1000 * w) % 2 ^ 48
    let bad := s.rd UPD_STAT_State ≠ 2 ∨ s.fwu.coord ≠ none ∨ numAt p 0 4 ≠ s.rd UPD_BUNDLE_ID_Id
    (zeroAt p 6 34 = false → Answers (exec (.updateActivate tag) s) fun t => CompletesAlone s t c .refusedState 0) ∧
    (zeroAt p 6 34 → bad → Answers (exec (.updateActivate tag) s) fun t => CompletesAlone s t c .refusedState 7) ∧
    (zeroAt p 6 34 → ¬bad → s.updRefused ≠ 0 → Answers (exec (.updateActivate tag) s) fun t => CompletesAlone s t c .refusedState s.updRefused) ∧
    (zeroAt p 6 34 → ¬bad → s.updRefused = 0 → (∀ q ∈ s.fwu.parts, q.onChip) → Answers (exec (.updateActivate tag) s) fun t =>
      Completes s t c .ok 0 ∧ t.rd UPD_STAT_State = 3 ∧ t.fwu.tag = none ∧ t.fwu.order = s.switchOrder ∧
      t.fwu.nv.act = some { bundle := s.rd UPD_BUNDLE_ID_Id, secVer := s.rd UPD_SECVER_Session, window := w, deadline := dl,
                            kinds := s.fwu.parts.filterMap s.ownKind, parts := s.fwu.parts } ∧
      t.rd UPD_DEADLINE_LO_Lo = dl % 2 ^ 32 ∧ t.rd UPD_DEADLINE_HI_Hi = dl / 2 ^ 32) ∧
    (zeroAt p 6 34 → ¬bad → s.updRefused = 0 → (∃ e ∈ s.switchOrder, e < 24) → Answers (exec (.updateActivate tag) s) fun t =>
      t.rd UPD_STAT_State = 3 ∧ t.fwu.tag = some tag.val ∧ t.fwu.armed = [] ∧ t.fwu.since = s.frame ∧
      t.findCmd tag.val = some (c.ran [.start]))) ∧
  (∀ (tag : Fin 256) c, s.fwu.tag = some tag.val → s.findCmd tag.val = some c → max 1 (s.rd UPD_CFG_PrepFrames) < s.frame - s.fwu.since →
    let e := ((s.switchOrder.filter (fun e => decide (e < 24) && !s.fwu.armed.contains e)).head?).getD 0
    Answers (exec .updPrepTimeout s) fun t => Completes s t c .faulted (((s.orderParts e).head?).getD 0) ∧ t.fwu.tag = none ∧
      t.rd UPD_STAT_State = if t.fwu.rect.isEmpty then 0 else 5) ∧
  (s.fwu.tag = none ∨ s.frame - s.fwu.since ≤ max 1 (s.rd UPD_CFG_PrepFrames) → Answers (exec .updPrepTimeout s) fun t => Frame s t [] []) ∧
  (∀ t0 e l a, s.fwu.toldAt = some t0 → s.fwu.order = e :: l → s.fwu.coord = none → s.rd UPD_RUN_LIMIT_Frames < s.frame - t0 →
    s.fwu.nv.act = some a → s.on (FLT_SRC_CFG_Assigned 243) → Answers (exec .updSwitchTimeout s) fun t => t.fwu.nv.act = none ∧
      Raised t 243 (((s.orderParts e).head?).getD 0)) ∧
  (s.fwu.toldAt = none ∨ s.fwu.order = [] ∨ s.fwu.coord ≠ none ∨ (∃ t0, s.fwu.toldAt = some t0 ∧ s.frame - t0 ≤ s.rd UPD_RUN_LIMIT_Frames) →
    Answers (exec .updSwitchTimeout s) fun t => Frame s t [] []) ∧
  ∀ (h : LinkHdr) (b : List Byte), LinkTaken s h →
    let rx := TL_PORT_RX_CNT_Cnt h.port
    let tx : List Fld := [rx, TL_PORT_TX_CNT_Cnt 0, TL_PORT_TX_CNT_Cnt 1, FLT_INJ_Armed]
    let src := h.src.val
    let mine := numAt b 0 4 = s.rd UPD_BUNDLE_ID_Id
    (s.fwu.coord = some src → s.rd UPD_STAT_State = 2 → mine → s.updRefused = 0 → Answers (exec (.updPrepare h b) s) fun t =>
      t.rd UPD_STAT_State = 3 ∧ t.fwu = s.fwu) ∧
    (s.fwu.coord ≠ some src ∨ s.rd UPD_STAT_State ≠ 2 ∨ ¬mine ∨ s.updRefused ≠ 0 → Answers (exec (.updPrepare h b) s) fun t =>
      Frame s t tx [.tl, .red, .flt, .out]) ∧
    (s.fwu.tag = none ∨ ¬mine ∨ (peersOf s.fwu.parts).contains src = false → Answers (exec (.updReady h b) s) fun t =>
      Frame s t [rx] [.tl, .red]) ∧
    (∀ (tag : Fin 256) c, s.fwu.tag = some tag.val → mine → (peersOf s.fwu.parts).contains src → s.findCmd tag.val = some c →
      (numAt b 4 1 ≠ 0 → Answers (exec (.updReady h b) s) fun t =>
        Completes s t c .faulted (((s.orderParts (16 + src)).head?).getD 0) ∧ t.fwu.tag = none) ∧
      (numAt b 4 1 = 0 → s.fwu.armed.contains (16 + src) = false →
        (∃ e ∈ s.switchOrder, e < 24 ∧ e ≠ 16 + src ∧ s.fwu.armed.contains e = false) → Answers (exec (.updReady h b) s) fun t =>
          t.fwu = { s.fwu with armed := s.fwu.armed ++ [16 + src] } ∧ Frame s t [rx] [.tl, .red, .fwu]) ∧
      (numAt b 4 1 = 0 → (∀ e ∈ s.switchOrder, e < 24 → e = 16 + src ∨ s.fwu.armed.contains e) → Answers (exec (.updReady h b) s) fun t =>
        Completes s t c .ok 0 ∧ t.fwu.tag = none ∧ t.fwu.order = s.switchOrder)) ∧
    (s.fwu.coord = some src → s.rd UPD_STAT_State = 3 → mine → s.fwu.nv.act = none → Answers (exec (.updCommit h b) s) fun t =>
      let dl := (s.opms + 1000 * numAt b 4 4) % 2 ^ 48
      (∃ a, t.fwu.nv.act = some a ∧ a.deadline = dl ∧ a.coord = some src ∧ a.parts = s.fwu.parts) ∧
      t.rd UPD_DEADLINE_LO_Lo = dl % 2 ^ 32 ∧ t.rd UPD_DEADLINE_HI_Hi = dl / 2 ^ 32) ∧
    (s.fwu.coord ≠ some src ∨ s.rd UPD_STAT_State ≠ 3 ∨ ¬mine ∨ s.fwu.nv.act ≠ none → Answers (exec (.updCommit h b) s) fun t =>
      Frame s t [rx] [.tl, .red]) ∧
    (∀ l, s.fwu.order = (16 + src) :: l → s.fwu.toldAt ≠ none → mine →
      (numAt b 4 1 = 0 → Answers (exec (.updDone h b) s) fun t => t.fwu.order = l ∧ t.fwu.toldAt = none ∧
        t.rd UPD_STAT_State = if l = [] then 4 else s.rd UPD_STAT_State) ∧
      (∀ a, numAt b 4 1 ≠ 0 → s.fwu.nv.act = some a → s.on (FLT_SRC_CFG_Assigned 243) → Answers (exec (.updDone h b) s) fun t =>
        t.fwu.nv.act = none ∧ Raised t 243 (((s.orderParts (16 + src)).head?).getD 0))) ∧
    (s.fwu.order.head? ≠ some (16 + src) ∨ s.fwu.toldAt = none ∨ ¬mine → Answers (exec (.updDone h b) s) fun t => Frame s t [rx] [.tl, .red]) ∧
    (s.fwu.coord = some src → mine → Answers (exec (.updRevert h b) s) fun t => t.fwu.nv.act = none ∧ t.fwu.coord = none ∧
      t.rd UPD_STAT_State = 0 ∧ t.fwu.buf = []) ∧
    (s.fwu.coord ≠ some src ∨ ¬mine → Answers (exec (.updRevert h b) s) fun t => Frame s t [rx] [.tl, .red])

/-- UPDATE_CONFIRM, UPD_CONFIRM, UPD_CONFIRM_EXPIRED, PROVISION, LOCK_OP and UPD_ABANDON. A confirmation of the pending bundle before its deadline makes it
permanent and raises the counter to its security version; any other is REFUSED_STATE. A deadline that passes is shown and raises 244 once, and asks
for a core restart where ExpireAct says so. The owner key is written once, from a point of the curve, with the debug lock clear. A token signed by the
owner that carries the next count sets the lock; any other sets LockErr and raises 241. An Open or Ready session can be abandoned. -/
def Obligations.UpdateConfirmation : Prop := ∀ s : State,
  (∀ (tag : Fin 256) c, s.ready tag.val 0x42 = some c →
    (s.fwu.nv.act = none → Answers (exec (.updateConfirm tag) s) fun t => CompletesAlone s t c .refusedState 0) ∧
    (∀ a, s.fwu.nv.act = some a →
      let bad := !zeroAt c.payload 4 36 || s.rd UPD_STAT_State != 4 || numAt c.payload 0 4 != a.bundle || s.updExpired || s.fwu.coord.isSome
      (bad → Answers (exec (.updateConfirm tag) s) fun t => CompletesAlone s t c .refusedState 0) ∧
      (bad = false → Answers (exec (.updateConfirm tag) s) fun t => Completes s t c .ok 0 ∧ t.fwu.nv.act = none ∧
        t.fwu.nv.counter = max s.fwu.nv.counter a.secVer ∧ t.rd UPD_SECVER_Counter = max s.fwu.nv.counter a.secVer % 256 ∧
        t.rd UPD_STAT_State = 0))) ∧
  (∀ (h : LinkHdr) (b : List Byte), LinkTaken s h →
    (∀ a, s.fwu.nv.act = some a → a.coord = some h.src.val → numAt b 0 4 = a.bundle → s.rd UPD_STAT_State = 4 →
      Answers (exec (.updConfirm h b) s) fun t => t.fwu.nv.act = none ∧ t.fwu.nv.counter = max s.fwu.nv.counter a.secVer ∧
        t.rd UPD_STAT_State = 0) ∧
    (s.fwu.nv.act = none ∨ s.rd UPD_STAT_State ≠ 4 → Answers (exec (.updConfirm h b) s) fun t =>
      Frame s t [TL_PORT_RX_CNT_Cnt h.port] [.tl, .red])) ∧
  (s.updExpired → s.on UPD_STAT_Expired = false → s.fwu.restart = false → s.on (FLT_SRC_CFG_Assigned 244) →
    Answers (exec .updConfirmExpired s) fun t => t.on UPD_STAT_Expired ∧ Raised t 244 0 ∧ t.fwu.restart = s.on UPD_CFG_ExpireAct ∧
      FrameFault s t [UPD_STAT_Expired] [.fwu]) ∧
  (s.updExpired = false ∨ s.on UPD_STAT_Expired ∨ s.fwu.restart → Answers (exec .updConfirmExpired s) fun t => Frame s t [] []) ∧
  (∀ co key, s.on DBG_LOCK_Lock → s.on (FLT_SRC_CFG_Assigned 247) → Answers (exec (.provision co key) s) fun t => t.on UPD_STAT_ProvErr ∧
    Raised t 247 0 ∧ FrameFault s t [UPD_STAT_ProvErr] []) ∧
  (∀ co key, s.on DBG_LOCK_Lock = false → s.fwu.nv.keyHash ≠ none ∨ key = none → Answers (exec (.provision co key) s) fun t =>
    t.on UPD_STAT_ProvErr ∧ Frame s t [UPD_STAT_ProvErr] []) ∧
  (∀ (co : Bool) (key : List Byte), s.on DBG_LOCK_Lock = false → s.fwu.nv.keyHash = none → key.length = 97 →
    Answers (exec (.provision co (some key)) s) fun t =>
      if Config.onP384 key then t.fwu = { s.fwu with nv := { s.fwu.nv with keyHash := some (Config.sha384 key), coSignReq := co } } ∧
        t.on UPD_LOCK_KeyProvisioned ∧ t.on UPD_LOCK_CoSignReq = co
      else t.on UPD_STAT_ProvErr ∧ Frame s t [UPD_STAT_ProvErr] []) ∧
  (∀ b : List Byte, b.length = 232 → s.on (FLT_SRC_CFG_Assigned 241) →
    let form := numAt b 0 2 == 2 && zeroAt b 2 2 && zeroAt b 20 12 && zeroAt b 225 7 && decide (numAt b 12 4 ≤ 1) &&
      numAt b 16 4 == s.fwu.nv.lockCnt + 1
    Answers (exec (.lockOp (some b)) s) fun t =>
      if form && s.tokenAuth b then t.on UPD_LOCK_OwnerLock = (numAt b 12 4 == 1) ∧ t.rd UPD_LOCK_LockCnt = numAt b 16 4 % 2 ^ 16 ∧
        t.fwu = { s.fwu with nv := { s.fwu.nv with ownerLock := numAt b 12 4 == 1, lockCnt := numAt b 16 4 } }
      else t.on UPD_STAT_LockErr ∧ t.fwu = s.fwu ∧ ∃ v, Raised t 241 v) ∧
  (s.on (FLT_SRC_CFG_Assigned 241) → Answers (exec (.lockOp none) s) fun t => t.on UPD_STAT_LockErr ∧ t.fwu = s.fwu ∧ ∃ v, Raised t 241 v) ∧
  (s.rd UPD_STAT_State = 1 ∨ s.rd UPD_STAT_State = 2 → Answers (exec .updAbandon s) fun t => t.rd UPD_STAT_State = 0 ∧ t.fwu.buf = [] ∧
    t.fwu.prog = [] ∧ t.fwu.rect = [] ∧ t.fwu.coord = none ∧ ∀ k : Fin 16, k.val ∈ s.updMine → t.rd (UPD_PART_STAT_State k) = 0) ∧
  (s.rd UPD_STAT_State ≠ 1 → s.rd UPD_STAT_State ≠ 2 → Answers (exec .updAbandon s) fun t => Frame s t [] [])

/-- VSYS_POWER_ON, VSYS_BROWN_OUT, CORE_UV, VHV_UVLO_FALL, VHV_UVLO_RISE, STROBE_LOSS, PLL_LOCK_LOSS, RESET_N_ASSERT, SOFTWARE_RESET, FAULT_CHIP_RESET,
PIN_GUARDIAN_ACTION and LOGIC_RESET_RELEASE. Each cause resets the logic die with its code; a die already in reset keeps the cause it has. RESET_N and
software wait, while the die runs, for the commit and the boundary. A chip reset of the fault collector waits for its record. Power-on starts the reset
count anew; loss of VHV turns every gate off and is counted. The guardian holds or turns off the gates, makes every pulse output Hi-Z and releases
MST_N. The die leaves reset only with VHV and VIO0 good; a boot with good images ends ready for its first frame. -/
def Obligations.Resets : Prop := ∀ s : State,
  Answers (exec .vsysPowerOn s) (fun t => t.pwr.phase = .held ∧ t.rd PWR_RST_CAUSE_Cause = 1 ∧ t.rd PWR_RST_CNT_Cnt = 0 ∧
    t.rd EF_VHV_LOSS_CNT_Cnt = 0 ∧ t.rd EF_HELD_Held = 0 ∧ ∀ e < 16, (t.efc e).gate = false) ∧
  (Answers (exec .vsysBrownOut s) fun t => ResetTo s t 2) ∧
  (∀ i ∈ [(Instr.coreUv, 3), (.strobeLoss, 8), (.pllLockLoss, 9)],
    (s.pwr.phase ≠ .held → Answers (exec i.1 s) fun t => ResetTo s t i.2) ∧
    (s.pwr.phase = .held → Answers (exec i.1 s) fun t => Frame s t [] [])) ∧
  (s.pwr.vhv → Answers (exec .vhvUvloFall s) fun t => t.pwr.vhv = false ∧ (∀ e < 16, (t.efc e).gate = false) ∧ t.rd EF_HELD_Held = 0 ∧
    t.rd EF_VHV_LOSS_CNT_Cnt = (s.rd EF_VHV_LOSS_CNT_Cnt + 1) % 2 ^ 32 ∧ (s.pwr.phase ≠ .held → ResetTo s t 4)) ∧
  (s.pwr.vhv = false → Answers (exec .vhvUvloFall s) fun t => Frame s t [] []) ∧
  (Answers (exec .vhvUvloRise s) fun t => t.pwr = { s.pwr with vhv := true } ∧ Frame s t [] [.pwr]) ∧
  (∀ i ∈ [(Instr.resetNAssert, 5), (.softwareReset, 7)],
    (s.pwr.phase = .running → Answers (exec i.1 s) fun t =>
      t.pwr.pend = some (match s.pwr.pend with | some c => min c i.2 | none => i.2) ∧ t.rbt = { s.rbt with preReset := true } ∧
      Frame s t [] [.pwr, .rbt]) ∧
    (s.pwr.phase = .held → Answers (exec i.1 s) fun t => Frame s t [] []) ∧
    (s.pwr.phase = .booted → Answers (exec i.1 s) fun t => ResetTo s t i.2)) ∧
  (∀ r, s.flt.chipReset = some r → (s.frm.coreRst ∨ ∀ q ∈ s.onx.fifo, q.force = false) → s.rd HU_STAT_State ≠ 2 →
    Answers (exec .faultChipReset s) fun t => ResetTo s t 6 ∧ t.flt.cause = some r) ∧
  (s.flt.chipReset = none ∨ s.rd HU_STAT_State = 2 → Answers (exec .faultChipReset s) fun t => Frame s t [] []) ∧
  Answers (exec .pinGuardianAction s) (fun t => t.pwr.guard ∧ t.pwr.seqLow = (s.pwr.seqLow || s.on SEQ_FLT_CFG_GuardLow) ∧
    t.on RED_STAT_MstDrive = false ∧ (∀ n < 48, (t.pg n).outH = .hiz ∧ (t.pg n).outL = .hiz) ∧
    ∀ e < 16, (t.rd EF_HELD_Held).testBit e = s.efHolds e ∧ (t.efc e).gate = (s.efHolds e && (s.efc e).gate)) ∧
  (∀ p b, s.pwr.vhv = false ∨ s.pwr.vio.testBit 0 = false ∨ s.pwr.phase = .booted ∨ s.pwr.phase = .running →
    Answers (exec (.logicResetRelease p b) s) fun t => Frame s t [] []) ∧
  (∀ p : Straps, s.pwr.vhv → s.pwr.vio.testBit 0 → s.pwr.phase = .held → Answers (exec (.logicResetRelease p none) s) fun t =>
    t.pwr.phase = .boot ∧ t.on GLB_STAT_Role = p.role ∧ t.rd GLB_STAT_Pos = p.pos.toNat ∧ t.rd TW_TGT_STAT_Addr = 0x40 + p.addr.toNat ∧
    t.rd PWR_STAT_VioOk = s.pwr.vio % 16 ∧ Frame s t [GLB_STAT_Role, GLB_STAT_Pos, TW_TGT_STAT_Addr, HIF_STAT_Sris, PWR_STAT_VioOk] [.pwr]) ∧
  ∀ (p : Straps) (b : BootIn), s.pwr.vhv → s.pwr.vio.testBit 0 → s.pwr.phase = .held →
    (b.loaderOk = false → Answers (exec (.logicResetRelease p (some b)) s) fun t => t.pwr.phase = .held) ∧
    (b.loaderOk → (∀ k < 6, b.imagesOk.toNat.testBit k) → s.fwu.nv.act = none → (∀ k < 6, s.fwu.nv.counter ≤ s.fwu.nv.secVers.getD k 0) →
      s.fwu.nv.banks = [0, 0, 0] → Answers (exec (.logicResetRelease p (some b)) s) fun t =>
        t.pwr.phase = .booted ∧ t.on ONX_STAT_Ready ∧ t.on GLB_STAT_CfgValid ∧ t.rd GLB_CFG_ID_CfgId = b.cfgId.toNat ∧
        t.rd GLB_STAT_StartMode = b.startMode.toNat)

/-- VIO_GOOD_RISE, VIO_GOOD_FALL, CORE_REG_ERROR, VHV_WARN, OSC_REF_CHECK, OSC_GUARDIAN_MISMATCH, CORE_RESTART and CORE_RESTART_END. A bank is shown; one that falls raises 251
with the banks below threshold. A core regulator at its limit or outside its window raises 252. VHV below its warning level raises 253 once, and again
only after 100 frames at or above it. An oscillator outside RefTol, or one the guardian finds wrong, is not good and raises 254. A core restart that is
due begins once no reservation is left, with cause 0Ah, and ends with a BOOT record. -/
def Obligations.SuppliesAndRestart : Prop := ∀ s : State,
  (∀ n : Fin 4, s.pwr.phase ≠ .held →
    (Answers (exec (.vioGoodRise n) s) fun t => t.pwr = { s.pwr with vio := setBit s.pwr.vio n true } ∧
      t.rd PWR_STAT_VioOk = setBit s.pwr.vio n true % 16 ∧ Frame s t [PWR_STAT_VioOk] [.pwr]) ∧
    (s.on (FLT_SRC_CFG_Assigned 251) → Answers (exec (.vioGoodFall n) s) fun t => t.pwr = { s.pwr with vio := setBit s.pwr.vio n false } ∧
      t.rd PWR_STAT_VioOk = setBit s.pwr.vio n false % 16 ∧ Raised t 251 (15 - setBit s.pwr.vio n false % 16) ∧
      FrameFault s t [PWR_STAT_VioOk] [.pwr])) ∧
  (∀ n : Fin 4, s.pwr.phase = .held →
    (Answers (exec (.vioGoodRise n) s) fun t => t.pwr = { s.pwr with vio := setBit s.pwr.vio n true } ∧ Frame s t [] [.pwr]) ∧
    (Answers (exec (.vioGoodFall n) s) fun t => t.pwr = { s.pwr with vio := setBit s.pwr.vio n false } ∧ Frame s t [] [.pwr])) ∧
  (∀ lim win : Bool, lim ∨ win → s.on (FLT_SRC_CFG_Assigned 252) → Answers (exec (.coreRegError lim win) s) fun t =>
    Raised t 252 (b2n lim + 2 * b2n win) ∧ t.on PWR_STAT_CoreLim = (lim || s.on PWR_STAT_CoreLim) ∧ FrameFault s t [PWR_STAT_CoreLim] []) ∧
  (Answers (exec (.coreRegError false false) s) fun t => Frame s t [] []) ∧
  (∀ v : BitVec 32,
    (v.toInt < s.rdS PWR_VHV_WARN_V → s.on PWR_STAT_VhvWarn = false → s.pwr.warned = false ∨ s.pwr.warnAt + 100 ≤ s.frame →
      s.on (FLT_SRC_CFG_Assigned 253) → Answers (exec (.vhvWarn v) s) fun t => t.on PWR_STAT_VhvWarn ∧
        Raised t 253 (min 65535 (divRnd (v.toInt * 100) 65536).toNat) ∧ t.pwr = { s.pwr with warned := true } ∧
        FrameFault s t [PWR_STAT_VhvWarn] [.pwr]) ∧
    (v.toInt < s.rdS PWR_VHV_WARN_V → s.on PWR_STAT_VhvWarn = false → s.pwr.warned → s.frame < s.pwr.warnAt + 100 →
      Answers (exec (.vhvWarn v) s) fun t => t.on PWR_STAT_VhvWarn ∧ Frame s t [PWR_STAT_VhvWarn] []) ∧
    (s.rdS PWR_VHV_WARN_V ≤ v.toInt → s.on PWR_STAT_VhvWarn → Answers (exec (.vhvWarn v) s) fun t => t.on PWR_STAT_VhvWarn = false ∧
      t.pwr = { s.pwr with warnAt := s.frame } ∧ Frame s t [PWR_STAT_VhvWarn] [.pwr]) ∧
    (s.on PWR_STAT_VhvWarn = decide (v.toInt < s.rdS PWR_VHV_WARN_V) → Answers (exec (.vhvWarn v) s) fun t => Frame s t [] [])) ∧
  (∀ (present : Bool) (err : BitVec 16),
    let e := satS 16 (signed 16 err.toNat - s.rdS CLK_TRIM_Trim)
    let bad := decide (1000 * max 1 (s.rd CLK_CHECK_CFG_RefTol) < e.natAbs)
    (present = false ∨ s.on CLK_CHECK_CFG_RefEn = false → Answers (exec (.oscRefCheck present err) s) fun t =>
      t.on CLK_STAT_RefclkOk = present ∧ Frame s t [CLK_STAT_RefclkOk] []) ∧
    (present → s.on CLK_CHECK_CFG_RefEn →
      (bad = false → Answers (exec (.oscRefCheck present err) s) fun t => t.on CLK_STAT_RefclkOk ∧ t.on CLK_STAT_OscOk ∧ t.rdS CLK_OSC_ERR_Err = e ∧
        Frame s t [CLK_STAT_RefclkOk, CLK_STAT_OscOk, CLK_OSC_ERR_Err] []) ∧
      (bad → s.on (FLT_SRC_CFG_Assigned 254) → Answers (exec (.oscRefCheck present err) s) fun t => t.on CLK_STAT_RefErr ∧
        t.on CLK_STAT_OscOk = false ∧ t.rdS CLK_OSC_ERR_Err = e ∧ Raised t 254 (2 * min 32767 (e.natAbs / 2)) ∧
        FrameFault s t [CLK_STAT_RefclkOk, CLK_STAT_RefErr, CLK_STAT_OscOk, CLK_OSC_ERR_Err] []))) ∧
  (s.on (FLT_SRC_CFG_Assigned 254) → Answers (exec .oscGuardianMismatch s) fun t => t.on CLK_STAT_GuardErr ∧ t.on CLK_STAT_OscOk = false ∧
    Raised t 254 0xFFFF ∧ FrameFault s t [CLK_STAT_GuardErr, CLK_STAT_OscOk] []) ∧
  (s.fwu.restart → s.plans = [] → s.frm.coreRst = false → s.pwr.phase = .running → Answers (exec .coreRestart s) fun t =>
    t.rd PWR_RST_CAUSE_Cause = 0x0A ∧ t.frm = { s.frm with coreRst := true } ∧ Frame s t [PWR_RST_CAUSE_Cause] [.frm]) ∧
  (s.fwu.restart = false ∨ s.plans ≠ [] ∨ s.frm.coreRst ∨ s.pwr.phase ≠ .running → Answers (exec .coreRestart s) fun t => Frame s t [] []) ∧
  (∀ l, s.frm.coreRst = false → Answers (exec (.coreRestartEnd l) s) fun t => Frame s t [] []) ∧
  ∀ l, s.frm.coreRst → s.fwu.nv.act = none → s.onx.lostPend = 0 → s.onx.fifo.length < 256 → Answers (exec (.coreRestartEnd l) s) fun t =>
    t.frm = { s.frm with coreRst := false } ∧ t.fwu = { s.fwu with restart := false } ∧
    (∃ p, t.onx.fifo = s.onx.fifo ++ [{ code := 1, p0 := p, frame := s.frame }])

/-- With the debug lock set, both injections (a write of 1 to Go) arm nothing, raise nothing of what FLT_INJ names and set InjRefused; only the source
for refused debug accesses, 247, is raised. The write that sets the lock disarms a pending injection. -/
def Obligations.DebugLockRefusesInjection : Prop := ∀ s : State,
  (s.on DBG_LOCK_Lock → ∀ i ∈ ([.injectForce, .injectCheckBits] : List Instr), Answers (exec i s) fun t => t.on FLT_STAT_InjRefused ∧
    t.flt.armed = s.flt.armed ∧ t.on FLT_INJ_Armed = s.on FLT_INJ_Armed ∧
    ∀ src < 256, src ≠ 247 → src ≠ 233 → t.unacked src = s.unacked src ∧ t.rd (FLT_SRC_CNT_Raises src) = s.rd (FLT_SRC_CNT_Raises src)) ∧
  (s.pwr.lockSet = false → s.on DBG_LOCK_PermLock = false → Answers (exec (.dbgLockWrite true) s) fun t => t.on DBG_LOCK_Lock ∧
    t.flt.armed = none ∧ t.on FLT_INJ_Armed = false)
end

