-- ==== Sys2Proof/Laws/Regs.lean ====
section
/-!
SUPPORT. What the list helpers, the register map and the field operations can do: reading after writing, writing elsewhere, and the
canonical forms.
-/
namespace Sys2Proof.Machine

/-! ### Lists of unit records and keyed lists -/

@[simp] theorem nth_nil {α : Type} [Inhabited α] (i : Nat) : nth ([] : List α) i = default := by simp [nth]
@[simp] theorem nth_cons_zero {α : Type} [Inhabited α] (a : α) (l : List α) : nth (a :: l) 0 = a := by simp [nth]
@[simp] theorem nth_cons_succ {α : Type} [Inhabited α] (a : α) (l : List α) (i : Nat) : nth (a :: l) (i + 1) = nth l i := by
  simp [nth]

theorem nth_upd {α : Type} [Inhabited α] (l : List α) (i j : Nat) (f : α → α) :
    nth (upd l i f) j = if j = i then f (nth l i) else nth l j := by
  induction l, i using upd.induct generalizing j with
  | case1 => cases j <;> simp [upd]
  | case2 i ih => cases j <;> simp [upd, ih]
  | case3 a l => cases j <;> simp [upd]
  | case4 a l i ih => cases j <;> simp [upd, ih]

@[simp] theorem nth_upd_same {α : Type} [Inhabited α] (l : List α) (i : Nat) (f : α → α) : nth (upd l i f) i = f (nth l i) := by
  simp [nth_upd]

theorem nth_upd_other {α : Type} [Inhabited α] (l : List α) {i j : Nat} (f : α → α) (h : j ≠ i) : nth (upd l i f) j = nth l j := by
  simp [nth_upd, h]

theorem assoc_assocPut {β : Type} (l : List (Nat × β)) (k j : Nat) (b : β) :
    assoc (assocPut l k b) j = if j = k then some b else assoc l j := by
  induction l with
  | nil => by_cases h : j = k
           · simp [assocPut, assoc, h]
           · simp [assocPut, assoc, h, Ne.symm h]
  | cons e t ih =>
    obtain ⟨i, c⟩ := e
    by_cases hj : j = k
    · subst hj; unfold assocPut; split_ifs with h1 h2 <;> simp_all [assoc]
      omega
    · unfold assocPut; split_ifs with h1 h2 <;> simp_all [assoc, eq_comm]

@[simp] theorem assoc_assocPut_same {β : Type} (l : List (Nat × β)) (k : Nat) (b : β) : assoc (assocPut l k b) k = some b := by
  simp [assoc_assocPut]

theorem assoc_assocPut_other {β : Type} (l : List (Nat × β)) {k j : Nat} (b : β) (h : j ≠ k) :
    assoc (assocPut l k b) j = assoc l j := by simp [assoc_assocPut, h]

theorem assoc_assocDel {β : Type} (l : List (Nat × β)) (k j : Nat) :
    assoc (assocDel l k) j = if j = k then none else assoc l j := by
  induction l with
  | nil => simp [assocDel, assoc]
  | cons e t ih =>
    obtain ⟨i, c⟩ := e
    by_cases h : i = k
    · subst h; by_cases hj : j = i
      · subst hj; simpa [assocDel] using ih
      · have := ih; simp [assocDel, assoc, hj, Ne.symm hj] at this ⊢; exact this
    · by_cases hj : j = k
      · subst hj; simp [assocDel, assoc, h] at ih ⊢; exact ih
      · simp [assocDel, assoc, h, hj] at ih ⊢; rw [ih]

/-! ### Rising keys -/

theorem rising_assocPut {β : Type} (l : List (Nat × β)) (k : Nat) (b : β) (h : rising l = true) : rising (assocPut l k b) = true := by
  have mem : ∀ (l : List (Nat × β)) (m : Nat), m < k → (∀ e ∈ l, m < e.1) → ∀ e ∈ assocPut l k b, m < e.1 := by
    intro l; induction l with
    | nil => intro m hm _ e he; simp [assocPut] at he; simpa [he] using hm
    | cons c t ih =>
      intro m hm hl e he
      simp only [assocPut] at he
      split_ifs at he with h1 h2
      · rcases List.mem_cons.1 he with h | h
        · simpa [h] using hm
        · exact hl e h
      · rcases List.mem_cons.1 he with h | h
        · simpa [h] using hm
        · exact hl e (List.mem_cons_of_mem _ h)
      · rcases List.mem_cons.1 he with h | h
        · exact hl e (by simp [h])
        · exact ih m hm (fun e he => hl e (List.mem_cons_of_mem _ he)) e h
  induction l with
  | nil => simp [assocPut, rising]
  | cons c t ih =>
    obtain ⟨i, c⟩ := c
    simp only [rising, Bool.and_eq_true, List.all_eq_true, decide_eq_true_eq] at h
    unfold assocPut
    split_ifs with h1 h2
    · simp only [rising, Bool.and_eq_true, List.all_eq_true, decide_eq_true_eq]
      refine ⟨fun e he => ?_, h⟩
      rcases List.mem_cons.1 he with h' | h'
      · simpa [h'] using h1
      · have := h.1 e h'; omega
    · simp only [rising, Bool.and_eq_true, List.all_eq_true, decide_eq_true_eq]
      exact ⟨fun e he => by have := h.1 e he; omega, h.2⟩
    · simp only [rising, Bool.and_eq_true, List.all_eq_true, decide_eq_true_eq]
      exact ⟨mem t i (by omega) h.1, ih h.2⟩

theorem rising_assocDel {β : Type} (l : List (Nat × β)) (k : Nat) (h : rising l = true) : rising (assocDel l k) = true := by
  induction l with
  | nil => simp [assocDel, rising]
  | cons c t ih =>
    simp only [rising, Bool.and_eq_true, List.all_eq_true, decide_eq_true_eq] at h
    have := ih h.2
    simp only [assocDel, List.filter_cons] at this ⊢
    split_ifs
    · simp only [rising, Bool.and_eq_true, List.all_eq_true, decide_eq_true_eq]
      exact ⟨fun e he => h.1 e (List.mem_of_mem_filter he), this⟩
    · exact this

theorem rising_canonList {β : Type} (l : List (Nat × β)) : rising (canonList l) = true := by
  unfold canonList
  split_ifs with h
  · exact h
  · have : ∀ l : List (Nat × β), rising (l.foldr (fun e m => assocPut m e.1 e.2) []) = true := by
      intro l; induction l with
      | nil => rfl
      | cons e t ih => exact rising_assocPut _ _ _ ih
    exact this l

/-! ### The register map -/

theorem RegFile.get_put (l : RegFile) (o p : Nat) (v : Word) : (l.put o v).get p = if p = o then v else l.get p := by
  unfold RegFile.get RegFile.put
  by_cases hv : v = resetWord o <;> by_cases hp : p = o <;> simp [hv, hp, assoc_assocPut, assoc_assocDel]

@[simp] theorem RegFile.get_put_same (l : RegFile) (o : Nat) (v : Word) : (l.put o v).get o = v := by simp [RegFile.get_put]

theorem RegFile.get_put_other (l : RegFile) {o p : Nat} (v : Word) (h : p ≠ o) : (l.put o v).get p = l.get p := by
  simp [RegFile.get_put, h]

theorem RegFile.wf_iff (l : RegFile) : l.wf = true ↔ rising l = true ∧ ∀ e ∈ l, e.2 ≠ resetWord e.1 := by
  induction l with
  | nil => simp [RegFile.wf, rising]
  | cons e t ih =>
    obtain ⟨i, w⟩ := e
    simp only [RegFile.wf, rising, Bool.and_eq_true, ih, List.mem_cons, forall_eq_or_imp, decide_eq_true_eq]
    tauto

theorem RegFile.put_wf (l : RegFile) (o : Nat) (v : Word) (h : l.wf = true) : (l.put o v).wf = true := by
  rw [RegFile.wf_iff] at h ⊢
  unfold RegFile.put
  split_ifs with hv
  · exact ⟨rising_assocDel _ _ h.1, fun e he => h.2 e (List.mem_of_mem_filter he)⟩
  · refine ⟨rising_assocPut _ _ _ h.1, ?_⟩
    have mem : ∀ (l : RegFile), (∀ e ∈ l, e.2 ≠ resetWord e.1) → ∀ e ∈ assocPut l o v, e.2 ≠ resetWord e.1 := by
      intro l; induction l with
      | nil => intro _ e he; simp [assocPut] at he; simpa [he] using hv
      | cons c t ih =>
        intro hl e he
        simp only [assocPut] at he
        split_ifs at he with h1 h2
        · rcases List.mem_cons.1 he with h | h
          · simpa [h] using hv
          · exact hl e h
        · rcases List.mem_cons.1 he with h | h
          · simpa [h] using hv
          · exact hl e (List.mem_cons_of_mem _ h)
        · rcases List.mem_cons.1 he with h | h
          · exact hl e (by simp [h])
          · exact ih (fun e he => hl e (List.mem_cons_of_mem _ he)) e h
    exact mem l h.2

theorem RegFile.canon_wf (l : RegFile) : l.canon.wf = true := by
  unfold RegFile.canon
  induction l with
  | nil => rfl
  | cons e t ih => exact RegFile.put_wf _ _ _ ih

theorem RegFile.norm_wf (l : RegFile) : l.norm.wf = true := by
  unfold RegFile.norm; split_ifs with h
  · exact h
  · exact RegFile.canon_wf l

theorem RegFile.get_canon (l : RegFile) (o : Nat) : l.canon.get o = l.get o := by
  unfold RegFile.canon
  induction l with
  | nil => rfl
  | cons e t ih =>
    obtain ⟨i, w⟩ := e
    simp only [List.foldr_cons, RegFile.get_put, ih]
    by_cases h : o = i
    · simp [RegFile.get, assoc, h]
    · simp [RegFile.get, assoc, h, Ne.symm h]

@[simp] theorem RegFile.get_norm (l : RegFile) (o : Nat) : l.norm.get o = l.get o := by
  unfold RegFile.norm; split_ifs
  · rfl
  · exact RegFile.get_canon l o

theorem RegFile.norm_of_wf (l : RegFile) (h : l.wf = true) : l.norm = l := by simp [RegFile.norm, h]

/-! ### Fields of a word -/

theorem Fld.of_lt (f : Fld) (w : Word) : f.of w < f.size := Nat.mod_lt _ (by simp [Fld.size])

/-- A word cut at a field: what lies above, the field, what lies below. -/
theorem Fld.split (f : Fld) (w : Word) :
    w.toNat = w.toNat / (2 ^ f.lo * f.size) * (2 ^ f.lo * f.size) + f.of w * 2 ^ f.lo + w.toNat % 2 ^ f.lo := by
  have h1 := Nat.div_add_mod w.toNat (2 ^ f.lo)
  have h2 := Nat.div_add_mod (w.toNat / 2 ^ f.lo) f.size
  rw [Nat.div_div_eq_div_mul] at h2
  show _ = _ + (w.toNat / 2 ^ f.lo) % f.size * 2 ^ f.lo + _
  generalize w.toNat / (2 ^ f.lo * f.size) = a at *
  generalize (w.toNat / 2 ^ f.lo) % f.size = b at *
  rw [← h2] at h1
  nlinarith [h1]

/-- The number a field write forms: what lies above and below stays. -/
theorem Fld.set_toNat (f : Fld) (w : Word) (v : Nat) (h : f.ok = true) :
    (f.set w v).toNat = w.toNat / (2 ^ f.lo * f.size) * (2 ^ f.lo * f.size) + v % f.size * 2 ^ f.lo + w.toNat % 2 ^ f.lo := by
  simp only [Fld.ok, Bool.and_eq_true, decide_eq_true_eq] at h
  have hs := Fld.split f w
  have hw : w.toNat < 2 ^ 32 := w.isLt
  have hsz : 2 ^ f.lo * f.size = 2 ^ (f.hi + 1) := by rw [Fld.size, ← pow_add]; congr 1; omega
  have hdvd : 2 ^ 32 = 2 ^ (31 - f.hi) * 2 ^ (f.hi + 1) := by rw [← pow_add]; congr 1; omega
  have ha : w.toNat / (2 ^ f.lo * f.size) < 2 ^ (31 - f.hi) := by
    rw [hsz]; exact Nat.div_lt_of_lt_mul (by rw [mul_comm, ← hdvd]; exact hw)
  have hv : v % f.size < f.size := Nat.mod_lt _ (by simp [Fld.size])
  have hc : w.toNat % 2 ^ f.lo < 2 ^ f.lo := Nat.mod_lt _ (by positivity)
  have hlt : w.toNat / (2 ^ f.lo * f.size) * (2 ^ f.lo * f.size) + v % f.size * 2 ^ f.lo + w.toNat % 2 ^ f.lo < 2 ^ 32 := by
    rw [hdvd, ← hsz]
    have h1 : (v % f.size + 1) * 2 ^ f.lo ≤ f.size * 2 ^ f.lo := Nat.mul_le_mul_right _ hv
    have h2 : (w.toNat / (2 ^ f.lo * f.size) + 1) * (2 ^ f.lo * f.size) ≤ 2 ^ (31 - f.hi) * (2 ^ f.lo * f.size) :=
      Nat.mul_le_mul_right _ ha
    nlinarith
  have he : w.toNat - f.of w * 2 ^ f.lo + v % 2 ^ (f.hi + 1 - f.lo) * 2 ^ f.lo =
      w.toNat / (2 ^ f.lo * f.size) * (2 ^ f.lo * f.size) + v % f.size * 2 ^ f.lo + w.toNat % 2 ^ f.lo := by
    show _ + v % f.size * 2 ^ f.lo = _
    omega
  rw [Fld.set, BitVec.toNat_ofNat, he, Nat.mod_eq_of_lt hlt]

/-- A field reads what was written, cut to its width. -/
theorem Fld.of_set_same (f : Fld) (w : Word) (v : Nat) (h : f.ok = true) : f.of (f.set w v) = v % f.size := by
  show ((f.set w v).toNat / 2 ^ f.lo) % f.size = _
  have hc : w.toNat % 2 ^ f.lo < 2 ^ f.lo := Nat.mod_lt _ (by positivity)
  rw [Fld.set_toNat f w v h, show w.toNat / (2 ^ f.lo * f.size) * (2 ^ f.lo * f.size) + v % f.size * 2 ^ f.lo + w.toNat % 2 ^ f.lo
    = w.toNat % 2 ^ f.lo + 2 ^ f.lo * (w.toNat / (2 ^ f.lo * f.size) * f.size + v % f.size) by ring,
    Nat.add_mul_div_left _ _ (by positivity), Nat.div_eq_of_lt hc, zero_add, Nat.add_comm,
    Nat.add_mul_mod_self_right, Nat.mod_mod]

/-- A field reads as before where a field without a common bit is written. -/
theorem Fld.of_set_apart (f g : Fld) (w : Word) (v : Nat) (hg : g.ok = true) (h : f.hi < g.lo ∨ g.hi < f.lo) :
    f.of (g.set w v) = f.of w := by
  have hn := Fld.set_toNat g w v hg
  simp only [Fld.ok, Bool.and_eq_true, decide_eq_true_eq] at hg
  have hsz : 2 ^ g.lo * g.size = 2 ^ (g.hi + 1) := by rw [Fld.size, ← pow_add]; congr 1; omega
  have hv : v % g.size < g.size := Nat.mod_lt _ (by simp [Fld.size])
  have hc : w.toNat % 2 ^ g.lo < 2 ^ g.lo := Nat.mod_lt _ (by positivity)
  rcases h with h | h
  · have low : (g.set w v).toNat % 2 ^ g.lo = w.toNat % 2 ^ g.lo := by
      rw [hn, show w.toNat / (2 ^ g.lo * g.size) * (2 ^ g.lo * g.size) + v % g.size * 2 ^ g.lo + w.toNat % 2 ^ g.lo
        = w.toNat % 2 ^ g.lo + 2 ^ g.lo * (w.toNat / (2 ^ g.lo * g.size) * g.size + v % g.size) by ring,
        Nat.add_mul_mod_self_left, Nat.mod_mod]
    by_cases hf : f.hi + 1 < f.lo
    · simp [Fld.of, bits, show f.hi + 1 - f.lo = 0 by omega, Nat.mod_one]
    · have key : ∀ n : Nat, n / 2 ^ f.lo % 2 ^ (f.hi + 1 - f.lo) = n % 2 ^ g.lo / 2 ^ f.lo % 2 ^ (f.hi + 1 - f.lo) := by
        intro n
        have e1 : ∀ m : Nat, m / 2 ^ f.lo % 2 ^ (f.hi + 1 - f.lo) = m % 2 ^ (f.hi + 1) / 2 ^ f.lo := by
          intro m
          rw [show f.hi + 1 = f.lo + (f.hi + 1 - f.lo) by omega, pow_add, Nat.mod_mul_right_div_self]
          congr 3; omega
        rw [e1, e1, Nat.mod_mod_of_dvd _ (pow_dvd_pow 2 (by omega))]
      show (g.set w v).toNat / 2 ^ f.lo % 2 ^ (f.hi + 1 - f.lo) = w.toNat / 2 ^ f.lo % 2 ^ (f.hi + 1 - f.lo)
      rw [key, low, ← key]
  · have hi : (g.set w v).toNat / 2 ^ (g.hi + 1) = w.toNat / 2 ^ (g.hi + 1) := by
      rw [hn, ← hsz]
      have hb : v % g.size * 2 ^ g.lo + w.toNat % 2 ^ g.lo < 2 ^ g.lo * g.size := by
        have h1 : (v % g.size + 1) * 2 ^ g.lo ≤ g.size * 2 ^ g.lo := Nat.mul_le_mul_right _ hv
        nlinarith
      rw [show w.toNat / (2 ^ g.lo * g.size) * (2 ^ g.lo * g.size) + v % g.size * 2 ^ g.lo + w.toNat % 2 ^ g.lo
        = (v % g.size * 2 ^ g.lo + w.toNat % 2 ^ g.lo) + 2 ^ g.lo * g.size * (w.toNat / (2 ^ g.lo * g.size)) by ring,
        Nat.add_mul_div_left _ _ (by simp [Fld.size]), Nat.div_eq_of_lt hb, zero_add]
    have key : ∀ n : Nat, n / 2 ^ f.lo = n / 2 ^ (g.hi + 1) / 2 ^ (f.lo - (g.hi + 1)) := by
      intro n; rw [Nat.div_div_eq_div_mul, ← pow_add]; congr 2; omega
    show (g.set w v).toNat / 2 ^ f.lo % 2 ^ (f.hi + 1 - f.lo) = w.toNat / 2 ^ f.lo % 2 ^ (f.hi + 1 - f.lo)
    rw [key, hi, ← key]

end Sys2Proof.Machine
end

