-- ==== Sys2Proof/Laws/State.lean ====
section
/-!
SUPPORT. What each elementary update of State leaves and sets, one lemma per part of the state, true by unfolding.
-/
namespace Sys2Proof.Machine

/-! ### State.wr -/

@[simp] theorem State.wr_pending (s : State) (f : Fld) (v : Nat) : (s.wr f v).pending = s.pending := by rfl
@[simp] theorem State.wr_regs (s : State) (f : Fld) (v : Nat) : (s.wr f v).regs = s.regs.putFld f v := by rfl
@[simp] theorem State.wr_shadow (s : State) (f : Fld) (v : Nat) : (s.wr f v).shadow = s.shadow := by rfl
@[simp] theorem State.wr_snap (s : State) (f : Fld) (v : Nat) : (s.wr f v).snap = s.snap := by rfl
@[simp] theorem State.wr_hif (s : State) (f : Fld) (v : Nat) : (s.wr f v).hif = s.hif := by rfl
@[simp] theorem State.wr_pnt (s : State) (f : Fld) (v : Nat) : (s.wr f v).pnt = s.pnt := by rfl
@[simp] theorem State.wr_onx (s : State) (f : Fld) (v : Nat) : (s.wr f v).onx = s.onx := by rfl
@[simp] theorem State.wr_flt (s : State) (f : Fld) (v : Nat) : (s.wr f v).flt = s.flt := by rfl
@[simp] theorem State.wr_frm (s : State) (f : Fld) (v : Nat) : (s.wr f v).frm = s.frm := by rfl
@[simp] theorem State.wr_sense (s : State) (f : Fld) (v : Nat) : (s.wr f v).sense = s.sense := by rfl
@[simp] theorem State.wr_ef (s : State) (f : Fld) (v : Nat) : (s.wr f v).ef = s.ef := by rfl
@[simp] theorem State.wr_lt (s : State) (f : Fld) (v : Nat) : (s.wr f v).lt = s.lt := by rfl
@[simp] theorem State.wr_sl (s : State) (f : Fld) (v : Nat) : (s.wr f v).sl = s.sl := by rfl
@[simp] theorem State.wr_seq (s : State) (f : Fld) (v : Nat) : (s.wr f v).seq = s.seq := by rfl
@[simp] theorem State.wr_cap (s : State) (f : Fld) (v : Nat) : (s.wr f v).cap = s.cap := by rfl
@[simp] theorem State.wr_bus (s : State) (f : Fld) (v : Nat) : (s.wr f v).bus = s.bus := by rfl
@[simp] theorem State.wr_tl (s : State) (f : Fld) (v : Nat) : (s.wr f v).tl = s.tl := by rfl
@[simp] theorem State.wr_red (s : State) (f : Fld) (v : Nat) : (s.wr f v).red = s.red := by rfl
@[simp] theorem State.wr_fwu (s : State) (f : Fld) (v : Nat) : (s.wr f v).fwu = s.fwu := by rfl
@[simp] theorem State.wr_timers (s : State) (f : Fld) (v : Nat) : (s.wr f v).timers = s.timers := by rfl
@[simp] theorem State.wr_rbt (s : State) (f : Fld) (v : Nat) : (s.wr f v).rbt = s.rbt := by rfl
@[simp] theorem State.wr_pwr (s : State) (f : Fld) (v : Nat) : (s.wr f v).pwr = s.pwr := by rfl
@[simp] theorem State.wr_out (s : State) (f : Fld) (v : Nat) : (s.wr f v).out = s.out := by rfl
@[simp] theorem State.wr_free (s : State) (f : Fld) (v : Nat) : (s.wr f v).free = s.free := by rfl

/-! ### State.setWord -/

@[simp] theorem State.setWord_pending (s : State) (o : Nat) (v : Word) : (s.setWord o v).pending = s.pending := by rfl
@[simp] theorem State.setWord_regs (s : State) (o : Nat) (v : Word) : (s.setWord o v).regs = s.regs.put o v := by rfl
@[simp] theorem State.setWord_shadow (s : State) (o : Nat) (v : Word) : (s.setWord o v).shadow = s.shadow := by rfl
@[simp] theorem State.setWord_snap (s : State) (o : Nat) (v : Word) : (s.setWord o v).snap = s.snap := by rfl
@[simp] theorem State.setWord_hif (s : State) (o : Nat) (v : Word) : (s.setWord o v).hif = s.hif := by rfl
@[simp] theorem State.setWord_pnt (s : State) (o : Nat) (v : Word) : (s.setWord o v).pnt = s.pnt := by rfl
@[simp] theorem State.setWord_onx (s : State) (o : Nat) (v : Word) : (s.setWord o v).onx = s.onx := by rfl
@[simp] theorem State.setWord_flt (s : State) (o : Nat) (v : Word) : (s.setWord o v).flt = s.flt := by rfl
@[simp] theorem State.setWord_frm (s : State) (o : Nat) (v : Word) : (s.setWord o v).frm = s.frm := by rfl
@[simp] theorem State.setWord_sense (s : State) (o : Nat) (v : Word) : (s.setWord o v).sense = s.sense := by rfl
@[simp] theorem State.setWord_ef (s : State) (o : Nat) (v : Word) : (s.setWord o v).ef = s.ef := by rfl
@[simp] theorem State.setWord_lt (s : State) (o : Nat) (v : Word) : (s.setWord o v).lt = s.lt := by rfl
@[simp] theorem State.setWord_sl (s : State) (o : Nat) (v : Word) : (s.setWord o v).sl = s.sl := by rfl
@[simp] theorem State.setWord_seq (s : State) (o : Nat) (v : Word) : (s.setWord o v).seq = s.seq := by rfl
@[simp] theorem State.setWord_cap (s : State) (o : Nat) (v : Word) : (s.setWord o v).cap = s.cap := by rfl
@[simp] theorem State.setWord_bus (s : State) (o : Nat) (v : Word) : (s.setWord o v).bus = s.bus := by rfl
@[simp] theorem State.setWord_tl (s : State) (o : Nat) (v : Word) : (s.setWord o v).tl = s.tl := by rfl
@[simp] theorem State.setWord_red (s : State) (o : Nat) (v : Word) : (s.setWord o v).red = s.red := by rfl
@[simp] theorem State.setWord_fwu (s : State) (o : Nat) (v : Word) : (s.setWord o v).fwu = s.fwu := by rfl
@[simp] theorem State.setWord_timers (s : State) (o : Nat) (v : Word) : (s.setWord o v).timers = s.timers := by rfl
@[simp] theorem State.setWord_rbt (s : State) (o : Nat) (v : Word) : (s.setWord o v).rbt = s.rbt := by rfl
@[simp] theorem State.setWord_pwr (s : State) (o : Nat) (v : Word) : (s.setWord o v).pwr = s.pwr := by rfl
@[simp] theorem State.setWord_out (s : State) (o : Nat) (v : Word) : (s.setWord o v).out = s.out := by rfl
@[simp] theorem State.setWord_free (s : State) (o : Nat) (v : Word) : (s.setWord o v).free = s.free := by rfl

/-! ### State.emit -/

@[simp] theorem State.emit_pending (s : State) (o : Output) : (s.emit o).pending = s.pending := by rfl
@[simp] theorem State.emit_regs (s : State) (o : Output) : (s.emit o).regs = s.regs := by rfl
@[simp] theorem State.emit_shadow (s : State) (o : Output) : (s.emit o).shadow = s.shadow := by rfl
@[simp] theorem State.emit_snap (s : State) (o : Output) : (s.emit o).snap = s.snap := by rfl
@[simp] theorem State.emit_hif (s : State) (o : Output) : (s.emit o).hif = s.hif := by rfl
@[simp] theorem State.emit_pnt (s : State) (o : Output) : (s.emit o).pnt = s.pnt := by rfl
@[simp] theorem State.emit_onx (s : State) (o : Output) : (s.emit o).onx = s.onx := by rfl
@[simp] theorem State.emit_flt (s : State) (o : Output) : (s.emit o).flt = s.flt := by rfl
@[simp] theorem State.emit_frm (s : State) (o : Output) : (s.emit o).frm = s.frm := by rfl
@[simp] theorem State.emit_sense (s : State) (o : Output) : (s.emit o).sense = s.sense := by rfl
@[simp] theorem State.emit_ef (s : State) (o : Output) : (s.emit o).ef = s.ef := by rfl
@[simp] theorem State.emit_lt (s : State) (o : Output) : (s.emit o).lt = s.lt := by rfl
@[simp] theorem State.emit_sl (s : State) (o : Output) : (s.emit o).sl = s.sl := by rfl
@[simp] theorem State.emit_seq (s : State) (o : Output) : (s.emit o).seq = s.seq := by rfl
@[simp] theorem State.emit_cap (s : State) (o : Output) : (s.emit o).cap = s.cap := by rfl
@[simp] theorem State.emit_bus (s : State) (o : Output) : (s.emit o).bus = s.bus := by rfl
@[simp] theorem State.emit_tl (s : State) (o : Output) : (s.emit o).tl = s.tl := by rfl
@[simp] theorem State.emit_red (s : State) (o : Output) : (s.emit o).red = s.red := by rfl
@[simp] theorem State.emit_fwu (s : State) (o : Output) : (s.emit o).fwu = s.fwu := by rfl
@[simp] theorem State.emit_timers (s : State) (o : Output) : (s.emit o).timers = s.timers := by rfl
@[simp] theorem State.emit_rbt (s : State) (o : Output) : (s.emit o).rbt = s.rbt := by rfl
@[simp] theorem State.emit_pwr (s : State) (o : Output) : (s.emit o).pwr = s.pwr := by rfl
@[simp] theorem State.emit_out (s : State) (o : Output) : (s.emit o).out = o :: s.out := by rfl
@[simp] theorem State.emit_free (s : State) (o : Output) : (s.emit o).free = s.free := by rfl
@[simp] theorem State.emit_rd (s : State) (o : Output) (r : Fld) : (s.emit o).rd r = s.rd r := by rfl
@[simp] theorem State.emit_word (s : State) (o : Output) (a : Nat) : (s.emit o).word a = s.word a := by rfl
@[simp] theorem State.emit_on (s : State) (o : Output) (r : Fld) : (s.emit o).on r = s.on r := by rfl

/-! ### State.requeue -/

@[simp] theorem State.requeue_pending (s : State) (q : List Instr) : (s.requeue q).pending = q := by rfl
@[simp] theorem State.requeue_regs (s : State) (q : List Instr) : (s.requeue q).regs = s.regs := by rfl
@[simp] theorem State.requeue_shadow (s : State) (q : List Instr) : (s.requeue q).shadow = s.shadow := by rfl
@[simp] theorem State.requeue_snap (s : State) (q : List Instr) : (s.requeue q).snap = s.snap := by rfl
@[simp] theorem State.requeue_hif (s : State) (q : List Instr) : (s.requeue q).hif = s.hif := by rfl
@[simp] theorem State.requeue_pnt (s : State) (q : List Instr) : (s.requeue q).pnt = s.pnt := by rfl
@[simp] theorem State.requeue_onx (s : State) (q : List Instr) : (s.requeue q).onx = s.onx := by rfl
@[simp] theorem State.requeue_flt (s : State) (q : List Instr) : (s.requeue q).flt = s.flt := by rfl
@[simp] theorem State.requeue_frm (s : State) (q : List Instr) : (s.requeue q).frm = s.frm := by rfl
@[simp] theorem State.requeue_sense (s : State) (q : List Instr) : (s.requeue q).sense = s.sense := by rfl
@[simp] theorem State.requeue_ef (s : State) (q : List Instr) : (s.requeue q).ef = s.ef := by rfl
@[simp] theorem State.requeue_lt (s : State) (q : List Instr) : (s.requeue q).lt = s.lt := by rfl
@[simp] theorem State.requeue_sl (s : State) (q : List Instr) : (s.requeue q).sl = s.sl := by rfl
@[simp] theorem State.requeue_seq (s : State) (q : List Instr) : (s.requeue q).seq = s.seq := by rfl
@[simp] theorem State.requeue_cap (s : State) (q : List Instr) : (s.requeue q).cap = s.cap := by rfl
@[simp] theorem State.requeue_bus (s : State) (q : List Instr) : (s.requeue q).bus = s.bus := by rfl
@[simp] theorem State.requeue_tl (s : State) (q : List Instr) : (s.requeue q).tl = s.tl := by rfl
@[simp] theorem State.requeue_red (s : State) (q : List Instr) : (s.requeue q).red = s.red := by rfl
@[simp] theorem State.requeue_fwu (s : State) (q : List Instr) : (s.requeue q).fwu = s.fwu := by rfl
@[simp] theorem State.requeue_timers (s : State) (q : List Instr) : (s.requeue q).timers = s.timers := by rfl
@[simp] theorem State.requeue_rbt (s : State) (q : List Instr) : (s.requeue q).rbt = s.rbt := by rfl
@[simp] theorem State.requeue_pwr (s : State) (q : List Instr) : (s.requeue q).pwr = s.pwr := by rfl
@[simp] theorem State.requeue_out (s : State) (q : List Instr) : (s.requeue q).out = s.out := by rfl
@[simp] theorem State.requeue_free (s : State) (q : List Instr) : (s.requeue q).free = s.free := by rfl
@[simp] theorem State.requeue_rd (s : State) (q : List Instr) (r : Fld) : (s.requeue q).rd r = s.rd r := by rfl
@[simp] theorem State.requeue_word (s : State) (q : List Instr) (a : Nat) : (s.requeue q).word a = s.word a := by rfl
@[simp] theorem State.requeue_on (s : State) (q : List Instr) (r : Fld) : (s.requeue q).on r = s.on r := by rfl

/-! ### State.modTm -/

@[simp] theorem State.modTm_pending (s : State) (k : Nat) (g : TmCh → TmCh) : (s.modTm k g).pending = s.pending := by rfl
@[simp] theorem State.modTm_regs (s : State) (k : Nat) (g : TmCh → TmCh) : (s.modTm k g).regs = s.regs := by rfl
@[simp] theorem State.modTm_shadow (s : State) (k : Nat) (g : TmCh → TmCh) : (s.modTm k g).shadow = s.shadow := by rfl
@[simp] theorem State.modTm_snap (s : State) (k : Nat) (g : TmCh → TmCh) : (s.modTm k g).snap = s.snap := by rfl
@[simp] theorem State.modTm_hif (s : State) (k : Nat) (g : TmCh → TmCh) : (s.modTm k g).hif = s.hif := by rfl
@[simp] theorem State.modTm_pnt (s : State) (k : Nat) (g : TmCh → TmCh) : (s.modTm k g).pnt = s.pnt := by rfl
@[simp] theorem State.modTm_onx (s : State) (k : Nat) (g : TmCh → TmCh) : (s.modTm k g).onx = s.onx := by rfl
@[simp] theorem State.modTm_flt (s : State) (k : Nat) (g : TmCh → TmCh) : (s.modTm k g).flt = s.flt := by rfl
@[simp] theorem State.modTm_frm (s : State) (k : Nat) (g : TmCh → TmCh) : (s.modTm k g).frm = s.frm := by rfl
@[simp] theorem State.modTm_sense (s : State) (k : Nat) (g : TmCh → TmCh) : (s.modTm k g).sense = { s.sense with tm := upd s.sense.tm k g } := by rfl
@[simp] theorem State.modTm_ef (s : State) (k : Nat) (g : TmCh → TmCh) : (s.modTm k g).ef = s.ef := by rfl
@[simp] theorem State.modTm_lt (s : State) (k : Nat) (g : TmCh → TmCh) : (s.modTm k g).lt = s.lt := by rfl
@[simp] theorem State.modTm_sl (s : State) (k : Nat) (g : TmCh → TmCh) : (s.modTm k g).sl = s.sl := by rfl
@[simp] theorem State.modTm_seq (s : State) (k : Nat) (g : TmCh → TmCh) : (s.modTm k g).seq = s.seq := by rfl
@[simp] theorem State.modTm_cap (s : State) (k : Nat) (g : TmCh → TmCh) : (s.modTm k g).cap = s.cap := by rfl
@[simp] theorem State.modTm_bus (s : State) (k : Nat) (g : TmCh → TmCh) : (s.modTm k g).bus = s.bus := by rfl
@[simp] theorem State.modTm_tl (s : State) (k : Nat) (g : TmCh → TmCh) : (s.modTm k g).tl = s.tl := by rfl
@[simp] theorem State.modTm_red (s : State) (k : Nat) (g : TmCh → TmCh) : (s.modTm k g).red = s.red := by rfl
@[simp] theorem State.modTm_fwu (s : State) (k : Nat) (g : TmCh → TmCh) : (s.modTm k g).fwu = s.fwu := by rfl
@[simp] theorem State.modTm_timers (s : State) (k : Nat) (g : TmCh → TmCh) : (s.modTm k g).timers = s.timers := by rfl
@[simp] theorem State.modTm_rbt (s : State) (k : Nat) (g : TmCh → TmCh) : (s.modTm k g).rbt = s.rbt := by rfl
@[simp] theorem State.modTm_pwr (s : State) (k : Nat) (g : TmCh → TmCh) : (s.modTm k g).pwr = s.pwr := by rfl
@[simp] theorem State.modTm_out (s : State) (k : Nat) (g : TmCh → TmCh) : (s.modTm k g).out = s.out := by rfl
@[simp] theorem State.modTm_free (s : State) (k : Nat) (g : TmCh → TmCh) : (s.modTm k g).free = s.free := by rfl
@[simp] theorem State.modTm_rd (s : State) (k : Nat) (g : TmCh → TmCh) (r : Fld) : (s.modTm k g).rd r = s.rd r := by rfl
@[simp] theorem State.modTm_word (s : State) (k : Nat) (g : TmCh → TmCh) (a : Nat) : (s.modTm k g).word a = s.word a := by rfl
@[simp] theorem State.modTm_on (s : State) (k : Nat) (g : TmCh → TmCh) (r : Fld) : (s.modTm k g).on r = s.on r := by rfl

/-! ### State.modCmp -/

@[simp] theorem State.modCmp_pending (s : State) (k : Nat) (g : CmpSt → CmpSt) : (s.modCmp k g).pending = s.pending := by rfl
@[simp] theorem State.modCmp_regs (s : State) (k : Nat) (g : CmpSt → CmpSt) : (s.modCmp k g).regs = s.regs := by rfl
@[simp] theorem State.modCmp_shadow (s : State) (k : Nat) (g : CmpSt → CmpSt) : (s.modCmp k g).shadow = s.shadow := by rfl
@[simp] theorem State.modCmp_snap (s : State) (k : Nat) (g : CmpSt → CmpSt) : (s.modCmp k g).snap = s.snap := by rfl
@[simp] theorem State.modCmp_hif (s : State) (k : Nat) (g : CmpSt → CmpSt) : (s.modCmp k g).hif = s.hif := by rfl
@[simp] theorem State.modCmp_pnt (s : State) (k : Nat) (g : CmpSt → CmpSt) : (s.modCmp k g).pnt = s.pnt := by rfl
@[simp] theorem State.modCmp_onx (s : State) (k : Nat) (g : CmpSt → CmpSt) : (s.modCmp k g).onx = s.onx := by rfl
@[simp] theorem State.modCmp_flt (s : State) (k : Nat) (g : CmpSt → CmpSt) : (s.modCmp k g).flt = s.flt := by rfl
@[simp] theorem State.modCmp_frm (s : State) (k : Nat) (g : CmpSt → CmpSt) : (s.modCmp k g).frm = s.frm := by rfl
@[simp] theorem State.modCmp_sense (s : State) (k : Nat) (g : CmpSt → CmpSt) : (s.modCmp k g).sense = { s.sense with cmp := upd s.sense.cmp k g } := by rfl
@[simp] theorem State.modCmp_ef (s : State) (k : Nat) (g : CmpSt → CmpSt) : (s.modCmp k g).ef = s.ef := by rfl
@[simp] theorem State.modCmp_lt (s : State) (k : Nat) (g : CmpSt → CmpSt) : (s.modCmp k g).lt = s.lt := by rfl
@[simp] theorem State.modCmp_sl (s : State) (k : Nat) (g : CmpSt → CmpSt) : (s.modCmp k g).sl = s.sl := by rfl
@[simp] theorem State.modCmp_seq (s : State) (k : Nat) (g : CmpSt → CmpSt) : (s.modCmp k g).seq = s.seq := by rfl
@[simp] theorem State.modCmp_cap (s : State) (k : Nat) (g : CmpSt → CmpSt) : (s.modCmp k g).cap = s.cap := by rfl
@[simp] theorem State.modCmp_bus (s : State) (k : Nat) (g : CmpSt → CmpSt) : (s.modCmp k g).bus = s.bus := by rfl
@[simp] theorem State.modCmp_tl (s : State) (k : Nat) (g : CmpSt → CmpSt) : (s.modCmp k g).tl = s.tl := by rfl
@[simp] theorem State.modCmp_red (s : State) (k : Nat) (g : CmpSt → CmpSt) : (s.modCmp k g).red = s.red := by rfl
@[simp] theorem State.modCmp_fwu (s : State) (k : Nat) (g : CmpSt → CmpSt) : (s.modCmp k g).fwu = s.fwu := by rfl
@[simp] theorem State.modCmp_timers (s : State) (k : Nat) (g : CmpSt → CmpSt) : (s.modCmp k g).timers = s.timers := by rfl
@[simp] theorem State.modCmp_rbt (s : State) (k : Nat) (g : CmpSt → CmpSt) : (s.modCmp k g).rbt = s.rbt := by rfl
@[simp] theorem State.modCmp_pwr (s : State) (k : Nat) (g : CmpSt → CmpSt) : (s.modCmp k g).pwr = s.pwr := by rfl
@[simp] theorem State.modCmp_out (s : State) (k : Nat) (g : CmpSt → CmpSt) : (s.modCmp k g).out = s.out := by rfl
@[simp] theorem State.modCmp_free (s : State) (k : Nat) (g : CmpSt → CmpSt) : (s.modCmp k g).free = s.free := by rfl
@[simp] theorem State.modCmp_rd (s : State) (k : Nat) (g : CmpSt → CmpSt) (r : Fld) : (s.modCmp k g).rd r = s.rd r := by rfl
@[simp] theorem State.modCmp_word (s : State) (k : Nat) (g : CmpSt → CmpSt) (a : Nat) : (s.modCmp k g).word a = s.word a := by rfl
@[simp] theorem State.modCmp_on (s : State) (k : Nat) (g : CmpSt → CmpSt) (r : Fld) : (s.modCmp k g).on r = s.on r := by rfl

/-! ### State.modPg -/

@[simp] theorem State.modPg_pending (s : State) (k : Nat) (g : PgCh → PgCh) : (s.modPg k g).pending = s.pending := by rfl
@[simp] theorem State.modPg_regs (s : State) (k : Nat) (g : PgCh → PgCh) : (s.modPg k g).regs = s.regs := by rfl
@[simp] theorem State.modPg_shadow (s : State) (k : Nat) (g : PgCh → PgCh) : (s.modPg k g).shadow = s.shadow := by rfl
@[simp] theorem State.modPg_snap (s : State) (k : Nat) (g : PgCh → PgCh) : (s.modPg k g).snap = s.snap := by rfl
@[simp] theorem State.modPg_hif (s : State) (k : Nat) (g : PgCh → PgCh) : (s.modPg k g).hif = s.hif := by rfl
@[simp] theorem State.modPg_pnt (s : State) (k : Nat) (g : PgCh → PgCh) : (s.modPg k g).pnt = s.pnt := by rfl
@[simp] theorem State.modPg_onx (s : State) (k : Nat) (g : PgCh → PgCh) : (s.modPg k g).onx = s.onx := by rfl
@[simp] theorem State.modPg_flt (s : State) (k : Nat) (g : PgCh → PgCh) : (s.modPg k g).flt = s.flt := by rfl
@[simp] theorem State.modPg_frm (s : State) (k : Nat) (g : PgCh → PgCh) : (s.modPg k g).frm = s.frm := by rfl
@[simp] theorem State.modPg_sense (s : State) (k : Nat) (g : PgCh → PgCh) : (s.modPg k g).sense = { s.sense with pg := upd s.sense.pg k g } := by rfl
@[simp] theorem State.modPg_ef (s : State) (k : Nat) (g : PgCh → PgCh) : (s.modPg k g).ef = s.ef := by rfl
@[simp] theorem State.modPg_lt (s : State) (k : Nat) (g : PgCh → PgCh) : (s.modPg k g).lt = s.lt := by rfl
@[simp] theorem State.modPg_sl (s : State) (k : Nat) (g : PgCh → PgCh) : (s.modPg k g).sl = s.sl := by rfl
@[simp] theorem State.modPg_seq (s : State) (k : Nat) (g : PgCh → PgCh) : (s.modPg k g).seq = s.seq := by rfl
@[simp] theorem State.modPg_cap (s : State) (k : Nat) (g : PgCh → PgCh) : (s.modPg k g).cap = s.cap := by rfl
@[simp] theorem State.modPg_bus (s : State) (k : Nat) (g : PgCh → PgCh) : (s.modPg k g).bus = s.bus := by rfl
@[simp] theorem State.modPg_tl (s : State) (k : Nat) (g : PgCh → PgCh) : (s.modPg k g).tl = s.tl := by rfl
@[simp] theorem State.modPg_red (s : State) (k : Nat) (g : PgCh → PgCh) : (s.modPg k g).red = s.red := by rfl
@[simp] theorem State.modPg_fwu (s : State) (k : Nat) (g : PgCh → PgCh) : (s.modPg k g).fwu = s.fwu := by rfl
@[simp] theorem State.modPg_timers (s : State) (k : Nat) (g : PgCh → PgCh) : (s.modPg k g).timers = s.timers := by rfl
@[simp] theorem State.modPg_rbt (s : State) (k : Nat) (g : PgCh → PgCh) : (s.modPg k g).rbt = s.rbt := by rfl
@[simp] theorem State.modPg_pwr (s : State) (k : Nat) (g : PgCh → PgCh) : (s.modPg k g).pwr = s.pwr := by rfl
@[simp] theorem State.modPg_out (s : State) (k : Nat) (g : PgCh → PgCh) : (s.modPg k g).out = s.out := by rfl
@[simp] theorem State.modPg_free (s : State) (k : Nat) (g : PgCh → PgCh) : (s.modPg k g).free = s.free := by rfl
@[simp] theorem State.modPg_rd (s : State) (k : Nat) (g : PgCh → PgCh) (r : Fld) : (s.modPg k g).rd r = s.rd r := by rfl
@[simp] theorem State.modPg_word (s : State) (k : Nat) (g : PgCh → PgCh) (a : Nat) : (s.modPg k g).word a = s.word a := by rfl
@[simp] theorem State.modPg_on (s : State) (k : Nat) (g : PgCh → PgCh) (r : Fld) : (s.modPg k g).on r = s.on r := by rfl

/-! ### State.modEf -/

@[simp] theorem State.modEf_pending (s : State) (k : Nat) (g : EfCh → EfCh) : (s.modEf k g).pending = s.pending := by rfl
@[simp] theorem State.modEf_regs (s : State) (k : Nat) (g : EfCh → EfCh) : (s.modEf k g).regs = s.regs := by rfl
@[simp] theorem State.modEf_shadow (s : State) (k : Nat) (g : EfCh → EfCh) : (s.modEf k g).shadow = s.shadow := by rfl
@[simp] theorem State.modEf_snap (s : State) (k : Nat) (g : EfCh → EfCh) : (s.modEf k g).snap = s.snap := by rfl
@[simp] theorem State.modEf_hif (s : State) (k : Nat) (g : EfCh → EfCh) : (s.modEf k g).hif = s.hif := by rfl
@[simp] theorem State.modEf_pnt (s : State) (k : Nat) (g : EfCh → EfCh) : (s.modEf k g).pnt = s.pnt := by rfl
@[simp] theorem State.modEf_onx (s : State) (k : Nat) (g : EfCh → EfCh) : (s.modEf k g).onx = s.onx := by rfl
@[simp] theorem State.modEf_flt (s : State) (k : Nat) (g : EfCh → EfCh) : (s.modEf k g).flt = s.flt := by rfl
@[simp] theorem State.modEf_frm (s : State) (k : Nat) (g : EfCh → EfCh) : (s.modEf k g).frm = s.frm := by rfl
@[simp] theorem State.modEf_sense (s : State) (k : Nat) (g : EfCh → EfCh) : (s.modEf k g).sense = s.sense := by rfl
@[simp] theorem State.modEf_ef (s : State) (k : Nat) (g : EfCh → EfCh) : (s.modEf k g).ef = upd s.ef k g := by rfl
@[simp] theorem State.modEf_lt (s : State) (k : Nat) (g : EfCh → EfCh) : (s.modEf k g).lt = s.lt := by rfl
@[simp] theorem State.modEf_sl (s : State) (k : Nat) (g : EfCh → EfCh) : (s.modEf k g).sl = s.sl := by rfl
@[simp] theorem State.modEf_seq (s : State) (k : Nat) (g : EfCh → EfCh) : (s.modEf k g).seq = s.seq := by rfl
@[simp] theorem State.modEf_cap (s : State) (k : Nat) (g : EfCh → EfCh) : (s.modEf k g).cap = s.cap := by rfl
@[simp] theorem State.modEf_bus (s : State) (k : Nat) (g : EfCh → EfCh) : (s.modEf k g).bus = s.bus := by rfl
@[simp] theorem State.modEf_tl (s : State) (k : Nat) (g : EfCh → EfCh) : (s.modEf k g).tl = s.tl := by rfl
@[simp] theorem State.modEf_red (s : State) (k : Nat) (g : EfCh → EfCh) : (s.modEf k g).red = s.red := by rfl
@[simp] theorem State.modEf_fwu (s : State) (k : Nat) (g : EfCh → EfCh) : (s.modEf k g).fwu = s.fwu := by rfl
@[simp] theorem State.modEf_timers (s : State) (k : Nat) (g : EfCh → EfCh) : (s.modEf k g).timers = s.timers := by rfl
@[simp] theorem State.modEf_rbt (s : State) (k : Nat) (g : EfCh → EfCh) : (s.modEf k g).rbt = s.rbt := by rfl
@[simp] theorem State.modEf_pwr (s : State) (k : Nat) (g : EfCh → EfCh) : (s.modEf k g).pwr = s.pwr := by rfl
@[simp] theorem State.modEf_out (s : State) (k : Nat) (g : EfCh → EfCh) : (s.modEf k g).out = s.out := by rfl
@[simp] theorem State.modEf_free (s : State) (k : Nat) (g : EfCh → EfCh) : (s.modEf k g).free = s.free := by rfl
@[simp] theorem State.modEf_rd (s : State) (k : Nat) (g : EfCh → EfCh) (r : Fld) : (s.modEf k g).rd r = s.rd r := by rfl
@[simp] theorem State.modEf_word (s : State) (k : Nat) (g : EfCh → EfCh) (a : Nat) : (s.modEf k g).word a = s.word a := by rfl
@[simp] theorem State.modEf_on (s : State) (k : Nat) (g : EfCh → EfCh) (r : Fld) : (s.modEf k g).on r = s.on r := by rfl

/-! ### State.modSl -/

@[simp] theorem State.modSl_pending (s : State) (k : Nat) (g : SlSt → SlSt) : (s.modSl k g).pending = s.pending := by rfl
@[simp] theorem State.modSl_regs (s : State) (k : Nat) (g : SlSt → SlSt) : (s.modSl k g).regs = s.regs := by rfl
@[simp] theorem State.modSl_shadow (s : State) (k : Nat) (g : SlSt → SlSt) : (s.modSl k g).shadow = s.shadow := by rfl
@[simp] theorem State.modSl_snap (s : State) (k : Nat) (g : SlSt → SlSt) : (s.modSl k g).snap = s.snap := by rfl
@[simp] theorem State.modSl_hif (s : State) (k : Nat) (g : SlSt → SlSt) : (s.modSl k g).hif = s.hif := by rfl
@[simp] theorem State.modSl_pnt (s : State) (k : Nat) (g : SlSt → SlSt) : (s.modSl k g).pnt = s.pnt := by rfl
@[simp] theorem State.modSl_onx (s : State) (k : Nat) (g : SlSt → SlSt) : (s.modSl k g).onx = s.onx := by rfl
@[simp] theorem State.modSl_flt (s : State) (k : Nat) (g : SlSt → SlSt) : (s.modSl k g).flt = s.flt := by rfl
@[simp] theorem State.modSl_frm (s : State) (k : Nat) (g : SlSt → SlSt) : (s.modSl k g).frm = s.frm := by rfl
@[simp] theorem State.modSl_sense (s : State) (k : Nat) (g : SlSt → SlSt) : (s.modSl k g).sense = s.sense := by rfl
@[simp] theorem State.modSl_ef (s : State) (k : Nat) (g : SlSt → SlSt) : (s.modSl k g).ef = s.ef := by rfl
@[simp] theorem State.modSl_lt (s : State) (k : Nat) (g : SlSt → SlSt) : (s.modSl k g).lt = s.lt := by rfl
@[simp] theorem State.modSl_sl (s : State) (k : Nat) (g : SlSt → SlSt) : (s.modSl k g).sl = upd s.sl k g := by rfl
@[simp] theorem State.modSl_seq (s : State) (k : Nat) (g : SlSt → SlSt) : (s.modSl k g).seq = s.seq := by rfl
@[simp] theorem State.modSl_cap (s : State) (k : Nat) (g : SlSt → SlSt) : (s.modSl k g).cap = s.cap := by rfl
@[simp] theorem State.modSl_bus (s : State) (k : Nat) (g : SlSt → SlSt) : (s.modSl k g).bus = s.bus := by rfl
@[simp] theorem State.modSl_tl (s : State) (k : Nat) (g : SlSt → SlSt) : (s.modSl k g).tl = s.tl := by rfl
@[simp] theorem State.modSl_red (s : State) (k : Nat) (g : SlSt → SlSt) : (s.modSl k g).red = s.red := by rfl
@[simp] theorem State.modSl_fwu (s : State) (k : Nat) (g : SlSt → SlSt) : (s.modSl k g).fwu = s.fwu := by rfl
@[simp] theorem State.modSl_timers (s : State) (k : Nat) (g : SlSt → SlSt) : (s.modSl k g).timers = s.timers := by rfl
@[simp] theorem State.modSl_rbt (s : State) (k : Nat) (g : SlSt → SlSt) : (s.modSl k g).rbt = s.rbt := by rfl
@[simp] theorem State.modSl_pwr (s : State) (k : Nat) (g : SlSt → SlSt) : (s.modSl k g).pwr = s.pwr := by rfl
@[simp] theorem State.modSl_out (s : State) (k : Nat) (g : SlSt → SlSt) : (s.modSl k g).out = s.out := by rfl
@[simp] theorem State.modSl_free (s : State) (k : Nat) (g : SlSt → SlSt) : (s.modSl k g).free = s.free := by rfl
@[simp] theorem State.modSl_rd (s : State) (k : Nat) (g : SlSt → SlSt) (r : Fld) : (s.modSl k g).rd r = s.rd r := by rfl
@[simp] theorem State.modSl_word (s : State) (k : Nat) (g : SlSt → SlSt) (a : Nat) : (s.modSl k g).word a = s.word a := by rfl
@[simp] theorem State.modSl_on (s : State) (k : Nat) (g : SlSt → SlSt) (r : Fld) : (s.modSl k g).on r = s.on r := by rfl

/-! ### State.modLt -/

@[simp] theorem State.modLt_pending (s : State) (k : Nat) (g : LtCh → LtCh) : (s.modLt k g).pending = s.pending := by rfl
@[simp] theorem State.modLt_regs (s : State) (k : Nat) (g : LtCh → LtCh) : (s.modLt k g).regs = s.regs := by rfl
@[simp] theorem State.modLt_shadow (s : State) (k : Nat) (g : LtCh → LtCh) : (s.modLt k g).shadow = s.shadow := by rfl
@[simp] theorem State.modLt_snap (s : State) (k : Nat) (g : LtCh → LtCh) : (s.modLt k g).snap = s.snap := by rfl
@[simp] theorem State.modLt_hif (s : State) (k : Nat) (g : LtCh → LtCh) : (s.modLt k g).hif = s.hif := by rfl
@[simp] theorem State.modLt_pnt (s : State) (k : Nat) (g : LtCh → LtCh) : (s.modLt k g).pnt = s.pnt := by rfl
@[simp] theorem State.modLt_onx (s : State) (k : Nat) (g : LtCh → LtCh) : (s.modLt k g).onx = s.onx := by rfl
@[simp] theorem State.modLt_flt (s : State) (k : Nat) (g : LtCh → LtCh) : (s.modLt k g).flt = s.flt := by rfl
@[simp] theorem State.modLt_frm (s : State) (k : Nat) (g : LtCh → LtCh) : (s.modLt k g).frm = s.frm := by rfl
@[simp] theorem State.modLt_sense (s : State) (k : Nat) (g : LtCh → LtCh) : (s.modLt k g).sense = s.sense := by rfl
@[simp] theorem State.modLt_ef (s : State) (k : Nat) (g : LtCh → LtCh) : (s.modLt k g).ef = s.ef := by rfl
@[simp] theorem State.modLt_lt (s : State) (k : Nat) (g : LtCh → LtCh) : (s.modLt k g).lt = upd s.lt k g := by rfl
@[simp] theorem State.modLt_sl (s : State) (k : Nat) (g : LtCh → LtCh) : (s.modLt k g).sl = s.sl := by rfl
@[simp] theorem State.modLt_seq (s : State) (k : Nat) (g : LtCh → LtCh) : (s.modLt k g).seq = s.seq := by rfl
@[simp] theorem State.modLt_cap (s : State) (k : Nat) (g : LtCh → LtCh) : (s.modLt k g).cap = s.cap := by rfl
@[simp] theorem State.modLt_bus (s : State) (k : Nat) (g : LtCh → LtCh) : (s.modLt k g).bus = s.bus := by rfl
@[simp] theorem State.modLt_tl (s : State) (k : Nat) (g : LtCh → LtCh) : (s.modLt k g).tl = s.tl := by rfl
@[simp] theorem State.modLt_red (s : State) (k : Nat) (g : LtCh → LtCh) : (s.modLt k g).red = s.red := by rfl
@[simp] theorem State.modLt_fwu (s : State) (k : Nat) (g : LtCh → LtCh) : (s.modLt k g).fwu = s.fwu := by rfl
@[simp] theorem State.modLt_timers (s : State) (k : Nat) (g : LtCh → LtCh) : (s.modLt k g).timers = s.timers := by rfl
@[simp] theorem State.modLt_rbt (s : State) (k : Nat) (g : LtCh → LtCh) : (s.modLt k g).rbt = s.rbt := by rfl
@[simp] theorem State.modLt_pwr (s : State) (k : Nat) (g : LtCh → LtCh) : (s.modLt k g).pwr = s.pwr := by rfl
@[simp] theorem State.modLt_out (s : State) (k : Nat) (g : LtCh → LtCh) : (s.modLt k g).out = s.out := by rfl
@[simp] theorem State.modLt_free (s : State) (k : Nat) (g : LtCh → LtCh) : (s.modLt k g).free = s.free := by rfl
@[simp] theorem State.modLt_rd (s : State) (k : Nat) (g : LtCh → LtCh) (r : Fld) : (s.modLt k g).rd r = s.rd r := by rfl
@[simp] theorem State.modLt_word (s : State) (k : Nat) (g : LtCh → LtCh) (a : Nat) : (s.modLt k g).word a = s.word a := by rfl
@[simp] theorem State.modLt_on (s : State) (k : Nat) (g : LtCh → LtCh) (r : Fld) : (s.modLt k g).on r = s.on r := by rfl

/-! ### State.modRail -/

@[simp] theorem State.modRail_pending (s : State) (k : Nat) (g : RailSt → RailSt) : (s.modRail k g).pending = s.pending := by rfl
@[simp] theorem State.modRail_regs (s : State) (k : Nat) (g : RailSt → RailSt) : (s.modRail k g).regs = s.regs := by rfl
@[simp] theorem State.modRail_shadow (s : State) (k : Nat) (g : RailSt → RailSt) : (s.modRail k g).shadow = s.shadow := by rfl
@[simp] theorem State.modRail_snap (s : State) (k : Nat) (g : RailSt → RailSt) : (s.modRail k g).snap = s.snap := by rfl
@[simp] theorem State.modRail_hif (s : State) (k : Nat) (g : RailSt → RailSt) : (s.modRail k g).hif = s.hif := by rfl
@[simp] theorem State.modRail_pnt (s : State) (k : Nat) (g : RailSt → RailSt) : (s.modRail k g).pnt = s.pnt := by rfl
@[simp] theorem State.modRail_onx (s : State) (k : Nat) (g : RailSt → RailSt) : (s.modRail k g).onx = s.onx := by rfl
@[simp] theorem State.modRail_flt (s : State) (k : Nat) (g : RailSt → RailSt) : (s.modRail k g).flt = s.flt := by rfl
@[simp] theorem State.modRail_frm (s : State) (k : Nat) (g : RailSt → RailSt) : (s.modRail k g).frm = s.frm := by rfl
@[simp] theorem State.modRail_sense (s : State) (k : Nat) (g : RailSt → RailSt) : (s.modRail k g).sense = s.sense := by rfl
@[simp] theorem State.modRail_ef (s : State) (k : Nat) (g : RailSt → RailSt) : (s.modRail k g).ef = s.ef := by rfl
@[simp] theorem State.modRail_lt (s : State) (k : Nat) (g : RailSt → RailSt) : (s.modRail k g).lt = s.lt := by rfl
@[simp] theorem State.modRail_sl (s : State) (k : Nat) (g : RailSt → RailSt) : (s.modRail k g).sl = s.sl := by rfl
@[simp] theorem State.modRail_seq (s : State) (k : Nat) (g : RailSt → RailSt) : (s.modRail k g).seq = { s.seq with rails := upd s.seq.rails k g } := by rfl
@[simp] theorem State.modRail_cap (s : State) (k : Nat) (g : RailSt → RailSt) : (s.modRail k g).cap = s.cap := by rfl
@[simp] theorem State.modRail_bus (s : State) (k : Nat) (g : RailSt → RailSt) : (s.modRail k g).bus = s.bus := by rfl
@[simp] theorem State.modRail_tl (s : State) (k : Nat) (g : RailSt → RailSt) : (s.modRail k g).tl = s.tl := by rfl
@[simp] theorem State.modRail_red (s : State) (k : Nat) (g : RailSt → RailSt) : (s.modRail k g).red = s.red := by rfl
@[simp] theorem State.modRail_fwu (s : State) (k : Nat) (g : RailSt → RailSt) : (s.modRail k g).fwu = s.fwu := by rfl
@[simp] theorem State.modRail_timers (s : State) (k : Nat) (g : RailSt → RailSt) : (s.modRail k g).timers = s.timers := by rfl
@[simp] theorem State.modRail_rbt (s : State) (k : Nat) (g : RailSt → RailSt) : (s.modRail k g).rbt = s.rbt := by rfl
@[simp] theorem State.modRail_pwr (s : State) (k : Nat) (g : RailSt → RailSt) : (s.modRail k g).pwr = s.pwr := by rfl
@[simp] theorem State.modRail_out (s : State) (k : Nat) (g : RailSt → RailSt) : (s.modRail k g).out = s.out := by rfl
@[simp] theorem State.modRail_free (s : State) (k : Nat) (g : RailSt → RailSt) : (s.modRail k g).free = s.free := by rfl
@[simp] theorem State.modRail_rd (s : State) (k : Nat) (g : RailSt → RailSt) (r : Fld) : (s.modRail k g).rd r = s.rd r := by rfl
@[simp] theorem State.modRail_word (s : State) (k : Nat) (g : RailSt → RailSt) (a : Nat) : (s.modRail k g).word a = s.word a := by rfl
@[simp] theorem State.modRail_on (s : State) (k : Nat) (g : RailSt → RailSt) (r : Fld) : (s.modRail k g).on r = s.on r := by rfl

/-! ### State.modTw -/

@[simp] theorem State.modTw_pending (s : State) (k : Nat) (g : TwPort → TwPort) : (s.modTw k g).pending = s.pending := by rfl
@[simp] theorem State.modTw_regs (s : State) (k : Nat) (g : TwPort → TwPort) : (s.modTw k g).regs = s.regs := by rfl
@[simp] theorem State.modTw_shadow (s : State) (k : Nat) (g : TwPort → TwPort) : (s.modTw k g).shadow = s.shadow := by rfl
@[simp] theorem State.modTw_snap (s : State) (k : Nat) (g : TwPort → TwPort) : (s.modTw k g).snap = s.snap := by rfl
@[simp] theorem State.modTw_hif (s : State) (k : Nat) (g : TwPort → TwPort) : (s.modTw k g).hif = s.hif := by rfl
@[simp] theorem State.modTw_pnt (s : State) (k : Nat) (g : TwPort → TwPort) : (s.modTw k g).pnt = s.pnt := by rfl
@[simp] theorem State.modTw_onx (s : State) (k : Nat) (g : TwPort → TwPort) : (s.modTw k g).onx = s.onx := by rfl
@[simp] theorem State.modTw_flt (s : State) (k : Nat) (g : TwPort → TwPort) : (s.modTw k g).flt = s.flt := by rfl
@[simp] theorem State.modTw_frm (s : State) (k : Nat) (g : TwPort → TwPort) : (s.modTw k g).frm = s.frm := by rfl
@[simp] theorem State.modTw_sense (s : State) (k : Nat) (g : TwPort → TwPort) : (s.modTw k g).sense = s.sense := by rfl
@[simp] theorem State.modTw_ef (s : State) (k : Nat) (g : TwPort → TwPort) : (s.modTw k g).ef = s.ef := by rfl
@[simp] theorem State.modTw_lt (s : State) (k : Nat) (g : TwPort → TwPort) : (s.modTw k g).lt = s.lt := by rfl
@[simp] theorem State.modTw_sl (s : State) (k : Nat) (g : TwPort → TwPort) : (s.modTw k g).sl = s.sl := by rfl
@[simp] theorem State.modTw_seq (s : State) (k : Nat) (g : TwPort → TwPort) : (s.modTw k g).seq = s.seq := by rfl
@[simp] theorem State.modTw_cap (s : State) (k : Nat) (g : TwPort → TwPort) : (s.modTw k g).cap = s.cap := by rfl
@[simp] theorem State.modTw_bus (s : State) (k : Nat) (g : TwPort → TwPort) : (s.modTw k g).bus = { s.bus with tw := upd s.bus.tw k g } := by rfl
@[simp] theorem State.modTw_tl (s : State) (k : Nat) (g : TwPort → TwPort) : (s.modTw k g).tl = s.tl := by rfl
@[simp] theorem State.modTw_red (s : State) (k : Nat) (g : TwPort → TwPort) : (s.modTw k g).red = s.red := by rfl
@[simp] theorem State.modTw_fwu (s : State) (k : Nat) (g : TwPort → TwPort) : (s.modTw k g).fwu = s.fwu := by rfl
@[simp] theorem State.modTw_timers (s : State) (k : Nat) (g : TwPort → TwPort) : (s.modTw k g).timers = s.timers := by rfl
@[simp] theorem State.modTw_rbt (s : State) (k : Nat) (g : TwPort → TwPort) : (s.modTw k g).rbt = s.rbt := by rfl
@[simp] theorem State.modTw_pwr (s : State) (k : Nat) (g : TwPort → TwPort) : (s.modTw k g).pwr = s.pwr := by rfl
@[simp] theorem State.modTw_out (s : State) (k : Nat) (g : TwPort → TwPort) : (s.modTw k g).out = s.out := by rfl
@[simp] theorem State.modTw_free (s : State) (k : Nat) (g : TwPort → TwPort) : (s.modTw k g).free = s.free := by rfl
@[simp] theorem State.modTw_rd (s : State) (k : Nat) (g : TwPort → TwPort) (r : Fld) : (s.modTw k g).rd r = s.rd r := by rfl
@[simp] theorem State.modTw_word (s : State) (k : Nat) (g : TwPort → TwPort) (a : Nat) : (s.modTw k g).word a = s.word a := by rfl
@[simp] theorem State.modTw_on (s : State) (k : Nat) (g : TwPort → TwPort) (r : Fld) : (s.modTw k g).on r = s.on r := by rfl

/-! ### State.modCan -/

@[simp] theorem State.modCan_pending (s : State) (k : Nat) (g : CanCtrl → CanCtrl) : (s.modCan k g).pending = s.pending := by rfl
@[simp] theorem State.modCan_regs (s : State) (k : Nat) (g : CanCtrl → CanCtrl) : (s.modCan k g).regs = s.regs := by rfl
@[simp] theorem State.modCan_shadow (s : State) (k : Nat) (g : CanCtrl → CanCtrl) : (s.modCan k g).shadow = s.shadow := by rfl
@[simp] theorem State.modCan_snap (s : State) (k : Nat) (g : CanCtrl → CanCtrl) : (s.modCan k g).snap = s.snap := by rfl
@[simp] theorem State.modCan_hif (s : State) (k : Nat) (g : CanCtrl → CanCtrl) : (s.modCan k g).hif = s.hif := by rfl
@[simp] theorem State.modCan_pnt (s : State) (k : Nat) (g : CanCtrl → CanCtrl) : (s.modCan k g).pnt = s.pnt := by rfl
@[simp] theorem State.modCan_onx (s : State) (k : Nat) (g : CanCtrl → CanCtrl) : (s.modCan k g).onx = s.onx := by rfl
@[simp] theorem State.modCan_flt (s : State) (k : Nat) (g : CanCtrl → CanCtrl) : (s.modCan k g).flt = s.flt := by rfl
@[simp] theorem State.modCan_frm (s : State) (k : Nat) (g : CanCtrl → CanCtrl) : (s.modCan k g).frm = s.frm := by rfl
@[simp] theorem State.modCan_sense (s : State) (k : Nat) (g : CanCtrl → CanCtrl) : (s.modCan k g).sense = s.sense := by rfl
@[simp] theorem State.modCan_ef (s : State) (k : Nat) (g : CanCtrl → CanCtrl) : (s.modCan k g).ef = s.ef := by rfl
@[simp] theorem State.modCan_lt (s : State) (k : Nat) (g : CanCtrl → CanCtrl) : (s.modCan k g).lt = s.lt := by rfl
@[simp] theorem State.modCan_sl (s : State) (k : Nat) (g : CanCtrl → CanCtrl) : (s.modCan k g).sl = s.sl := by rfl
@[simp] theorem State.modCan_seq (s : State) (k : Nat) (g : CanCtrl → CanCtrl) : (s.modCan k g).seq = s.seq := by rfl
@[simp] theorem State.modCan_cap (s : State) (k : Nat) (g : CanCtrl → CanCtrl) : (s.modCan k g).cap = s.cap := by rfl
@[simp] theorem State.modCan_bus (s : State) (k : Nat) (g : CanCtrl → CanCtrl) : (s.modCan k g).bus = { s.bus with can := upd s.bus.can k g } := by rfl
@[simp] theorem State.modCan_tl (s : State) (k : Nat) (g : CanCtrl → CanCtrl) : (s.modCan k g).tl = s.tl := by rfl
@[simp] theorem State.modCan_red (s : State) (k : Nat) (g : CanCtrl → CanCtrl) : (s.modCan k g).red = s.red := by rfl
@[simp] theorem State.modCan_fwu (s : State) (k : Nat) (g : CanCtrl → CanCtrl) : (s.modCan k g).fwu = s.fwu := by rfl
@[simp] theorem State.modCan_timers (s : State) (k : Nat) (g : CanCtrl → CanCtrl) : (s.modCan k g).timers = s.timers := by rfl
@[simp] theorem State.modCan_rbt (s : State) (k : Nat) (g : CanCtrl → CanCtrl) : (s.modCan k g).rbt = s.rbt := by rfl
@[simp] theorem State.modCan_pwr (s : State) (k : Nat) (g : CanCtrl → CanCtrl) : (s.modCan k g).pwr = s.pwr := by rfl
@[simp] theorem State.modCan_out (s : State) (k : Nat) (g : CanCtrl → CanCtrl) : (s.modCan k g).out = s.out := by rfl
@[simp] theorem State.modCan_free (s : State) (k : Nat) (g : CanCtrl → CanCtrl) : (s.modCan k g).free = s.free := by rfl
@[simp] theorem State.modCan_rd (s : State) (k : Nat) (g : CanCtrl → CanCtrl) (r : Fld) : (s.modCan k g).rd r = s.rd r := by rfl
@[simp] theorem State.modCan_word (s : State) (k : Nat) (g : CanCtrl → CanCtrl) (a : Nat) : (s.modCan k g).word a = s.word a := by rfl
@[simp] theorem State.modCan_on (s : State) (k : Nat) (g : CanCtrl → CanCtrl) (r : Fld) : (s.modCan k g).on r = s.on r := by rfl

/-! ### State.modTgt -/

@[simp] theorem State.modTgt_pending (s : State) (g : TgtSt → TgtSt) : (s.modTgt g).pending = s.pending := by rfl
@[simp] theorem State.modTgt_regs (s : State) (g : TgtSt → TgtSt) : (s.modTgt g).regs = s.regs := by rfl
@[simp] theorem State.modTgt_shadow (s : State) (g : TgtSt → TgtSt) : (s.modTgt g).shadow = s.shadow := by rfl
@[simp] theorem State.modTgt_snap (s : State) (g : TgtSt → TgtSt) : (s.modTgt g).snap = s.snap := by rfl
@[simp] theorem State.modTgt_hif (s : State) (g : TgtSt → TgtSt) : (s.modTgt g).hif = s.hif := by rfl
@[simp] theorem State.modTgt_pnt (s : State) (g : TgtSt → TgtSt) : (s.modTgt g).pnt = s.pnt := by rfl
@[simp] theorem State.modTgt_onx (s : State) (g : TgtSt → TgtSt) : (s.modTgt g).onx = s.onx := by rfl
@[simp] theorem State.modTgt_flt (s : State) (g : TgtSt → TgtSt) : (s.modTgt g).flt = s.flt := by rfl
@[simp] theorem State.modTgt_frm (s : State) (g : TgtSt → TgtSt) : (s.modTgt g).frm = s.frm := by rfl
@[simp] theorem State.modTgt_sense (s : State) (g : TgtSt → TgtSt) : (s.modTgt g).sense = s.sense := by rfl
@[simp] theorem State.modTgt_ef (s : State) (g : TgtSt → TgtSt) : (s.modTgt g).ef = s.ef := by rfl
@[simp] theorem State.modTgt_lt (s : State) (g : TgtSt → TgtSt) : (s.modTgt g).lt = s.lt := by rfl
@[simp] theorem State.modTgt_sl (s : State) (g : TgtSt → TgtSt) : (s.modTgt g).sl = s.sl := by rfl
@[simp] theorem State.modTgt_seq (s : State) (g : TgtSt → TgtSt) : (s.modTgt g).seq = s.seq := by rfl
@[simp] theorem State.modTgt_cap (s : State) (g : TgtSt → TgtSt) : (s.modTgt g).cap = s.cap := by rfl
@[simp] theorem State.modTgt_bus (s : State) (g : TgtSt → TgtSt) : (s.modTgt g).bus = { s.bus with tgt := g s.bus.tgt } := by rfl
@[simp] theorem State.modTgt_tl (s : State) (g : TgtSt → TgtSt) : (s.modTgt g).tl = s.tl := by rfl
@[simp] theorem State.modTgt_red (s : State) (g : TgtSt → TgtSt) : (s.modTgt g).red = s.red := by rfl
@[simp] theorem State.modTgt_fwu (s : State) (g : TgtSt → TgtSt) : (s.modTgt g).fwu = s.fwu := by rfl
@[simp] theorem State.modTgt_timers (s : State) (g : TgtSt → TgtSt) : (s.modTgt g).timers = s.timers := by rfl
@[simp] theorem State.modTgt_rbt (s : State) (g : TgtSt → TgtSt) : (s.modTgt g).rbt = s.rbt := by rfl
@[simp] theorem State.modTgt_pwr (s : State) (g : TgtSt → TgtSt) : (s.modTgt g).pwr = s.pwr := by rfl
@[simp] theorem State.modTgt_out (s : State) (g : TgtSt → TgtSt) : (s.modTgt g).out = s.out := by rfl
@[simp] theorem State.modTgt_free (s : State) (g : TgtSt → TgtSt) : (s.modTgt g).free = s.free := by rfl
@[simp] theorem State.modTgt_rd (s : State) (g : TgtSt → TgtSt) (r : Fld) : (s.modTgt g).rd r = s.rd r := by rfl
@[simp] theorem State.modTgt_word (s : State) (g : TgtSt → TgtSt) (a : Nat) : (s.modTgt g).word a = s.word a := by rfl
@[simp] theorem State.modTgt_on (s : State) (g : TgtSt → TgtSt) (r : Fld) : (s.modTgt g).on r = s.on r := by rfl

/-! ### State.modFg -/

@[simp] theorem State.modFg_pending (s : State) (k : Nat) (g : FgSt → FgSt) : (s.modFg k g).pending = s.pending := by rfl
@[simp] theorem State.modFg_regs (s : State) (k : Nat) (g : FgSt → FgSt) : (s.modFg k g).regs = s.regs := by rfl
@[simp] theorem State.modFg_shadow (s : State) (k : Nat) (g : FgSt → FgSt) : (s.modFg k g).shadow = s.shadow := by rfl
@[simp] theorem State.modFg_snap (s : State) (k : Nat) (g : FgSt → FgSt) : (s.modFg k g).snap = s.snap := by rfl
@[simp] theorem State.modFg_hif (s : State) (k : Nat) (g : FgSt → FgSt) : (s.modFg k g).hif = s.hif := by rfl
@[simp] theorem State.modFg_pnt (s : State) (k : Nat) (g : FgSt → FgSt) : (s.modFg k g).pnt = s.pnt := by rfl
@[simp] theorem State.modFg_onx (s : State) (k : Nat) (g : FgSt → FgSt) : (s.modFg k g).onx = s.onx := by rfl
@[simp] theorem State.modFg_flt (s : State) (k : Nat) (g : FgSt → FgSt) : (s.modFg k g).flt = s.flt := by rfl
@[simp] theorem State.modFg_frm (s : State) (k : Nat) (g : FgSt → FgSt) : (s.modFg k g).frm = s.frm := by rfl
@[simp] theorem State.modFg_sense (s : State) (k : Nat) (g : FgSt → FgSt) : (s.modFg k g).sense = s.sense := by rfl
@[simp] theorem State.modFg_ef (s : State) (k : Nat) (g : FgSt → FgSt) : (s.modFg k g).ef = s.ef := by rfl
@[simp] theorem State.modFg_lt (s : State) (k : Nat) (g : FgSt → FgSt) : (s.modFg k g).lt = s.lt := by rfl
@[simp] theorem State.modFg_sl (s : State) (k : Nat) (g : FgSt → FgSt) : (s.modFg k g).sl = s.sl := by rfl
@[simp] theorem State.modFg_seq (s : State) (k : Nat) (g : FgSt → FgSt) : (s.modFg k g).seq = s.seq := by rfl
@[simp] theorem State.modFg_cap (s : State) (k : Nat) (g : FgSt → FgSt) : (s.modFg k g).cap = { s.cap with fg := upd s.cap.fg k g } := by rfl
@[simp] theorem State.modFg_bus (s : State) (k : Nat) (g : FgSt → FgSt) : (s.modFg k g).bus = s.bus := by rfl
@[simp] theorem State.modFg_tl (s : State) (k : Nat) (g : FgSt → FgSt) : (s.modFg k g).tl = s.tl := by rfl
@[simp] theorem State.modFg_red (s : State) (k : Nat) (g : FgSt → FgSt) : (s.modFg k g).red = s.red := by rfl
@[simp] theorem State.modFg_fwu (s : State) (k : Nat) (g : FgSt → FgSt) : (s.modFg k g).fwu = s.fwu := by rfl
@[simp] theorem State.modFg_timers (s : State) (k : Nat) (g : FgSt → FgSt) : (s.modFg k g).timers = s.timers := by rfl
@[simp] theorem State.modFg_rbt (s : State) (k : Nat) (g : FgSt → FgSt) : (s.modFg k g).rbt = s.rbt := by rfl
@[simp] theorem State.modFg_pwr (s : State) (k : Nat) (g : FgSt → FgSt) : (s.modFg k g).pwr = s.pwr := by rfl
@[simp] theorem State.modFg_out (s : State) (k : Nat) (g : FgSt → FgSt) : (s.modFg k g).out = s.out := by rfl
@[simp] theorem State.modFg_free (s : State) (k : Nat) (g : FgSt → FgSt) : (s.modFg k g).free = s.free := by rfl
@[simp] theorem State.modFg_rd (s : State) (k : Nat) (g : FgSt → FgSt) (r : Fld) : (s.modFg k g).rd r = s.rd r := by rfl
@[simp] theorem State.modFg_word (s : State) (k : Nat) (g : FgSt → FgSt) (a : Nat) : (s.modFg k g).word a = s.word a := by rfl
@[simp] theorem State.modFg_on (s : State) (k : Nat) (g : FgSt → FgSt) (r : Fld) : (s.modFg k g).on r = s.on r := by rfl

/-! ### State.modCap -/

@[simp] theorem State.modCap_pending (s : State) (g : CapSt → CapSt) : (s.modCap g).pending = s.pending := by rfl
@[simp] theorem State.modCap_regs (s : State) (g : CapSt → CapSt) : (s.modCap g).regs = s.regs := by rfl
@[simp] theorem State.modCap_shadow (s : State) (g : CapSt → CapSt) : (s.modCap g).shadow = s.shadow := by rfl
@[simp] theorem State.modCap_snap (s : State) (g : CapSt → CapSt) : (s.modCap g).snap = s.snap := by rfl
@[simp] theorem State.modCap_hif (s : State) (g : CapSt → CapSt) : (s.modCap g).hif = s.hif := by rfl
@[simp] theorem State.modCap_pnt (s : State) (g : CapSt → CapSt) : (s.modCap g).pnt = s.pnt := by rfl
@[simp] theorem State.modCap_onx (s : State) (g : CapSt → CapSt) : (s.modCap g).onx = s.onx := by rfl
@[simp] theorem State.modCap_flt (s : State) (g : CapSt → CapSt) : (s.modCap g).flt = s.flt := by rfl
@[simp] theorem State.modCap_frm (s : State) (g : CapSt → CapSt) : (s.modCap g).frm = s.frm := by rfl
@[simp] theorem State.modCap_sense (s : State) (g : CapSt → CapSt) : (s.modCap g).sense = s.sense := by rfl
@[simp] theorem State.modCap_ef (s : State) (g : CapSt → CapSt) : (s.modCap g).ef = s.ef := by rfl
@[simp] theorem State.modCap_lt (s : State) (g : CapSt → CapSt) : (s.modCap g).lt = s.lt := by rfl
@[simp] theorem State.modCap_sl (s : State) (g : CapSt → CapSt) : (s.modCap g).sl = s.sl := by rfl
@[simp] theorem State.modCap_seq (s : State) (g : CapSt → CapSt) : (s.modCap g).seq = s.seq := by rfl
@[simp] theorem State.modCap_cap (s : State) (g : CapSt → CapSt) : (s.modCap g).cap = g s.cap := by rfl
@[simp] theorem State.modCap_bus (s : State) (g : CapSt → CapSt) : (s.modCap g).bus = s.bus := by rfl
@[simp] theorem State.modCap_tl (s : State) (g : CapSt → CapSt) : (s.modCap g).tl = s.tl := by rfl
@[simp] theorem State.modCap_red (s : State) (g : CapSt → CapSt) : (s.modCap g).red = s.red := by rfl
@[simp] theorem State.modCap_fwu (s : State) (g : CapSt → CapSt) : (s.modCap g).fwu = s.fwu := by rfl
@[simp] theorem State.modCap_timers (s : State) (g : CapSt → CapSt) : (s.modCap g).timers = s.timers := by rfl
@[simp] theorem State.modCap_rbt (s : State) (g : CapSt → CapSt) : (s.modCap g).rbt = s.rbt := by rfl
@[simp] theorem State.modCap_pwr (s : State) (g : CapSt → CapSt) : (s.modCap g).pwr = s.pwr := by rfl
@[simp] theorem State.modCap_out (s : State) (g : CapSt → CapSt) : (s.modCap g).out = s.out := by rfl
@[simp] theorem State.modCap_free (s : State) (g : CapSt → CapSt) : (s.modCap g).free = s.free := by rfl
@[simp] theorem State.modCap_rd (s : State) (g : CapSt → CapSt) (r : Fld) : (s.modCap g).rd r = s.rd r := by rfl
@[simp] theorem State.modCap_word (s : State) (g : CapSt → CapSt) (a : Nat) : (s.modCap g).word a = s.word a := by rfl
@[simp] theorem State.modCap_on (s : State) (g : CapSt → CapSt) (r : Fld) : (s.modCap g).on r = s.on r := by rfl

/-! ### State.modFrm -/

@[simp] theorem State.modFrm_pending (s : State) (g : FrmState → FrmState) : (s.modFrm g).pending = s.pending := by rfl
@[simp] theorem State.modFrm_regs (s : State) (g : FrmState → FrmState) : (s.modFrm g).regs = s.regs := by rfl
@[simp] theorem State.modFrm_shadow (s : State) (g : FrmState → FrmState) : (s.modFrm g).shadow = s.shadow := by rfl
@[simp] theorem State.modFrm_snap (s : State) (g : FrmState → FrmState) : (s.modFrm g).snap = s.snap := by rfl
@[simp] theorem State.modFrm_hif (s : State) (g : FrmState → FrmState) : (s.modFrm g).hif = s.hif := by rfl
@[simp] theorem State.modFrm_pnt (s : State) (g : FrmState → FrmState) : (s.modFrm g).pnt = s.pnt := by rfl
@[simp] theorem State.modFrm_onx (s : State) (g : FrmState → FrmState) : (s.modFrm g).onx = s.onx := by rfl
@[simp] theorem State.modFrm_flt (s : State) (g : FrmState → FrmState) : (s.modFrm g).flt = s.flt := by rfl
@[simp] theorem State.modFrm_frm (s : State) (g : FrmState → FrmState) : (s.modFrm g).frm = g s.frm := by rfl
@[simp] theorem State.modFrm_sense (s : State) (g : FrmState → FrmState) : (s.modFrm g).sense = s.sense := by rfl
@[simp] theorem State.modFrm_ef (s : State) (g : FrmState → FrmState) : (s.modFrm g).ef = s.ef := by rfl
@[simp] theorem State.modFrm_lt (s : State) (g : FrmState → FrmState) : (s.modFrm g).lt = s.lt := by rfl
@[simp] theorem State.modFrm_sl (s : State) (g : FrmState → FrmState) : (s.modFrm g).sl = s.sl := by rfl
@[simp] theorem State.modFrm_seq (s : State) (g : FrmState → FrmState) : (s.modFrm g).seq = s.seq := by rfl
@[simp] theorem State.modFrm_cap (s : State) (g : FrmState → FrmState) : (s.modFrm g).cap = s.cap := by rfl
@[simp] theorem State.modFrm_bus (s : State) (g : FrmState → FrmState) : (s.modFrm g).bus = s.bus := by rfl
@[simp] theorem State.modFrm_tl (s : State) (g : FrmState → FrmState) : (s.modFrm g).tl = s.tl := by rfl
@[simp] theorem State.modFrm_red (s : State) (g : FrmState → FrmState) : (s.modFrm g).red = s.red := by rfl
@[simp] theorem State.modFrm_fwu (s : State) (g : FrmState → FrmState) : (s.modFrm g).fwu = s.fwu := by rfl
@[simp] theorem State.modFrm_timers (s : State) (g : FrmState → FrmState) : (s.modFrm g).timers = s.timers := by rfl
@[simp] theorem State.modFrm_rbt (s : State) (g : FrmState → FrmState) : (s.modFrm g).rbt = s.rbt := by rfl
@[simp] theorem State.modFrm_pwr (s : State) (g : FrmState → FrmState) : (s.modFrm g).pwr = s.pwr := by rfl
@[simp] theorem State.modFrm_out (s : State) (g : FrmState → FrmState) : (s.modFrm g).out = s.out := by rfl
@[simp] theorem State.modFrm_free (s : State) (g : FrmState → FrmState) : (s.modFrm g).free = s.free := by rfl
@[simp] theorem State.modFrm_rd (s : State) (g : FrmState → FrmState) (r : Fld) : (s.modFrm g).rd r = s.rd r := by rfl
@[simp] theorem State.modFrm_word (s : State) (g : FrmState → FrmState) (a : Nat) : (s.modFrm g).word a = s.word a := by rfl
@[simp] theorem State.modFrm_on (s : State) (g : FrmState → FrmState) (r : Fld) : (s.modFrm g).on r = s.on r := by rfl

/-! ### State.modHif -/

@[simp] theorem State.modHif_pending (s : State) (g : HifState → HifState) : (s.modHif g).pending = s.pending := by rfl
@[simp] theorem State.modHif_regs (s : State) (g : HifState → HifState) : (s.modHif g).regs = s.regs := by rfl
@[simp] theorem State.modHif_shadow (s : State) (g : HifState → HifState) : (s.modHif g).shadow = s.shadow := by rfl
@[simp] theorem State.modHif_snap (s : State) (g : HifState → HifState) : (s.modHif g).snap = s.snap := by rfl
@[simp] theorem State.modHif_hif (s : State) (g : HifState → HifState) : (s.modHif g).hif = g s.hif := by rfl
@[simp] theorem State.modHif_pnt (s : State) (g : HifState → HifState) : (s.modHif g).pnt = s.pnt := by rfl
@[simp] theorem State.modHif_onx (s : State) (g : HifState → HifState) : (s.modHif g).onx = s.onx := by rfl
@[simp] theorem State.modHif_flt (s : State) (g : HifState → HifState) : (s.modHif g).flt = s.flt := by rfl
@[simp] theorem State.modHif_frm (s : State) (g : HifState → HifState) : (s.modHif g).frm = s.frm := by rfl
@[simp] theorem State.modHif_sense (s : State) (g : HifState → HifState) : (s.modHif g).sense = s.sense := by rfl
@[simp] theorem State.modHif_ef (s : State) (g : HifState → HifState) : (s.modHif g).ef = s.ef := by rfl
@[simp] theorem State.modHif_lt (s : State) (g : HifState → HifState) : (s.modHif g).lt = s.lt := by rfl
@[simp] theorem State.modHif_sl (s : State) (g : HifState → HifState) : (s.modHif g).sl = s.sl := by rfl
@[simp] theorem State.modHif_seq (s : State) (g : HifState → HifState) : (s.modHif g).seq = s.seq := by rfl
@[simp] theorem State.modHif_cap (s : State) (g : HifState → HifState) : (s.modHif g).cap = s.cap := by rfl
@[simp] theorem State.modHif_bus (s : State) (g : HifState → HifState) : (s.modHif g).bus = s.bus := by rfl
@[simp] theorem State.modHif_tl (s : State) (g : HifState → HifState) : (s.modHif g).tl = s.tl := by rfl
@[simp] theorem State.modHif_red (s : State) (g : HifState → HifState) : (s.modHif g).red = s.red := by rfl
@[simp] theorem State.modHif_fwu (s : State) (g : HifState → HifState) : (s.modHif g).fwu = s.fwu := by rfl
@[simp] theorem State.modHif_timers (s : State) (g : HifState → HifState) : (s.modHif g).timers = s.timers := by rfl
@[simp] theorem State.modHif_rbt (s : State) (g : HifState → HifState) : (s.modHif g).rbt = s.rbt := by rfl
@[simp] theorem State.modHif_pwr (s : State) (g : HifState → HifState) : (s.modHif g).pwr = s.pwr := by rfl
@[simp] theorem State.modHif_out (s : State) (g : HifState → HifState) : (s.modHif g).out = s.out := by rfl
@[simp] theorem State.modHif_free (s : State) (g : HifState → HifState) : (s.modHif g).free = s.free := by rfl
@[simp] theorem State.modHif_rd (s : State) (g : HifState → HifState) (r : Fld) : (s.modHif g).rd r = s.rd r := by rfl
@[simp] theorem State.modHif_word (s : State) (g : HifState → HifState) (a : Nat) : (s.modHif g).word a = s.word a := by rfl
@[simp] theorem State.modHif_on (s : State) (g : HifState → HifState) (r : Fld) : (s.modHif g).on r = s.on r := by rfl

/-! ### State.modTl -/

@[simp] theorem State.modTl_pending (s : State) (g : TlState → TlState) : (s.modTl g).pending = s.pending := by rfl
@[simp] theorem State.modTl_regs (s : State) (g : TlState → TlState) : (s.modTl g).regs = s.regs := by rfl
@[simp] theorem State.modTl_shadow (s : State) (g : TlState → TlState) : (s.modTl g).shadow = s.shadow := by rfl
@[simp] theorem State.modTl_snap (s : State) (g : TlState → TlState) : (s.modTl g).snap = s.snap := by rfl
@[simp] theorem State.modTl_hif (s : State) (g : TlState → TlState) : (s.modTl g).hif = s.hif := by rfl
@[simp] theorem State.modTl_pnt (s : State) (g : TlState → TlState) : (s.modTl g).pnt = s.pnt := by rfl
@[simp] theorem State.modTl_onx (s : State) (g : TlState → TlState) : (s.modTl g).onx = s.onx := by rfl
@[simp] theorem State.modTl_flt (s : State) (g : TlState → TlState) : (s.modTl g).flt = s.flt := by rfl
@[simp] theorem State.modTl_frm (s : State) (g : TlState → TlState) : (s.modTl g).frm = s.frm := by rfl
@[simp] theorem State.modTl_sense (s : State) (g : TlState → TlState) : (s.modTl g).sense = s.sense := by rfl
@[simp] theorem State.modTl_ef (s : State) (g : TlState → TlState) : (s.modTl g).ef = s.ef := by rfl
@[simp] theorem State.modTl_lt (s : State) (g : TlState → TlState) : (s.modTl g).lt = s.lt := by rfl
@[simp] theorem State.modTl_sl (s : State) (g : TlState → TlState) : (s.modTl g).sl = s.sl := by rfl
@[simp] theorem State.modTl_seq (s : State) (g : TlState → TlState) : (s.modTl g).seq = s.seq := by rfl
@[simp] theorem State.modTl_cap (s : State) (g : TlState → TlState) : (s.modTl g).cap = s.cap := by rfl
@[simp] theorem State.modTl_bus (s : State) (g : TlState → TlState) : (s.modTl g).bus = s.bus := by rfl
@[simp] theorem State.modTl_tl (s : State) (g : TlState → TlState) : (s.modTl g).tl = g s.tl := by rfl
@[simp] theorem State.modTl_red (s : State) (g : TlState → TlState) : (s.modTl g).red = s.red := by rfl
@[simp] theorem State.modTl_fwu (s : State) (g : TlState → TlState) : (s.modTl g).fwu = s.fwu := by rfl
@[simp] theorem State.modTl_timers (s : State) (g : TlState → TlState) : (s.modTl g).timers = s.timers := by rfl
@[simp] theorem State.modTl_rbt (s : State) (g : TlState → TlState) : (s.modTl g).rbt = s.rbt := by rfl
@[simp] theorem State.modTl_pwr (s : State) (g : TlState → TlState) : (s.modTl g).pwr = s.pwr := by rfl
@[simp] theorem State.modTl_out (s : State) (g : TlState → TlState) : (s.modTl g).out = s.out := by rfl
@[simp] theorem State.modTl_free (s : State) (g : TlState → TlState) : (s.modTl g).free = s.free := by rfl
@[simp] theorem State.modTl_rd (s : State) (g : TlState → TlState) (r : Fld) : (s.modTl g).rd r = s.rd r := by rfl
@[simp] theorem State.modTl_word (s : State) (g : TlState → TlState) (a : Nat) : (s.modTl g).word a = s.word a := by rfl
@[simp] theorem State.modTl_on (s : State) (g : TlState → TlState) (r : Fld) : (s.modTl g).on r = s.on r := by rfl

/-! ### State.modRed -/

@[simp] theorem State.modRed_pending (s : State) (g : RedSt → RedSt) : (s.modRed g).pending = s.pending := by rfl
@[simp] theorem State.modRed_regs (s : State) (g : RedSt → RedSt) : (s.modRed g).regs = s.regs := by rfl
@[simp] theorem State.modRed_shadow (s : State) (g : RedSt → RedSt) : (s.modRed g).shadow = s.shadow := by rfl
@[simp] theorem State.modRed_snap (s : State) (g : RedSt → RedSt) : (s.modRed g).snap = s.snap := by rfl
@[simp] theorem State.modRed_hif (s : State) (g : RedSt → RedSt) : (s.modRed g).hif = s.hif := by rfl
@[simp] theorem State.modRed_pnt (s : State) (g : RedSt → RedSt) : (s.modRed g).pnt = s.pnt := by rfl
@[simp] theorem State.modRed_onx (s : State) (g : RedSt → RedSt) : (s.modRed g).onx = s.onx := by rfl
@[simp] theorem State.modRed_flt (s : State) (g : RedSt → RedSt) : (s.modRed g).flt = s.flt := by rfl
@[simp] theorem State.modRed_frm (s : State) (g : RedSt → RedSt) : (s.modRed g).frm = s.frm := by rfl
@[simp] theorem State.modRed_sense (s : State) (g : RedSt → RedSt) : (s.modRed g).sense = s.sense := by rfl
@[simp] theorem State.modRed_ef (s : State) (g : RedSt → RedSt) : (s.modRed g).ef = s.ef := by rfl
@[simp] theorem State.modRed_lt (s : State) (g : RedSt → RedSt) : (s.modRed g).lt = s.lt := by rfl
@[simp] theorem State.modRed_sl (s : State) (g : RedSt → RedSt) : (s.modRed g).sl = s.sl := by rfl
@[simp] theorem State.modRed_seq (s : State) (g : RedSt → RedSt) : (s.modRed g).seq = s.seq := by rfl
@[simp] theorem State.modRed_cap (s : State) (g : RedSt → RedSt) : (s.modRed g).cap = s.cap := by rfl
@[simp] theorem State.modRed_bus (s : State) (g : RedSt → RedSt) : (s.modRed g).bus = s.bus := by rfl
@[simp] theorem State.modRed_tl (s : State) (g : RedSt → RedSt) : (s.modRed g).tl = s.tl := by rfl
@[simp] theorem State.modRed_red (s : State) (g : RedSt → RedSt) : (s.modRed g).red = g s.red := by rfl
@[simp] theorem State.modRed_fwu (s : State) (g : RedSt → RedSt) : (s.modRed g).fwu = s.fwu := by rfl
@[simp] theorem State.modRed_timers (s : State) (g : RedSt → RedSt) : (s.modRed g).timers = s.timers := by rfl
@[simp] theorem State.modRed_rbt (s : State) (g : RedSt → RedSt) : (s.modRed g).rbt = s.rbt := by rfl
@[simp] theorem State.modRed_pwr (s : State) (g : RedSt → RedSt) : (s.modRed g).pwr = s.pwr := by rfl
@[simp] theorem State.modRed_out (s : State) (g : RedSt → RedSt) : (s.modRed g).out = s.out := by rfl
@[simp] theorem State.modRed_free (s : State) (g : RedSt → RedSt) : (s.modRed g).free = s.free := by rfl
@[simp] theorem State.modRed_rd (s : State) (g : RedSt → RedSt) (r : Fld) : (s.modRed g).rd r = s.rd r := by rfl
@[simp] theorem State.modRed_word (s : State) (g : RedSt → RedSt) (a : Nat) : (s.modRed g).word a = s.word a := by rfl
@[simp] theorem State.modRed_on (s : State) (g : RedSt → RedSt) (r : Fld) : (s.modRed g).on r = s.on r := by rfl

/-! ### State.modPnt -/

@[simp] theorem State.modPnt_pending (s : State) (g : PntState → PntState) : (s.modPnt g).pending = s.pending := by rfl
@[simp] theorem State.modPnt_regs (s : State) (g : PntState → PntState) : (s.modPnt g).regs = s.regs := by rfl
@[simp] theorem State.modPnt_shadow (s : State) (g : PntState → PntState) : (s.modPnt g).shadow = s.shadow := by rfl
@[simp] theorem State.modPnt_snap (s : State) (g : PntState → PntState) : (s.modPnt g).snap = s.snap := by rfl
@[simp] theorem State.modPnt_hif (s : State) (g : PntState → PntState) : (s.modPnt g).hif = s.hif := by rfl
@[simp] theorem State.modPnt_pnt (s : State) (g : PntState → PntState) : (s.modPnt g).pnt = g s.pnt := by rfl
@[simp] theorem State.modPnt_onx (s : State) (g : PntState → PntState) : (s.modPnt g).onx = s.onx := by rfl
@[simp] theorem State.modPnt_flt (s : State) (g : PntState → PntState) : (s.modPnt g).flt = s.flt := by rfl
@[simp] theorem State.modPnt_frm (s : State) (g : PntState → PntState) : (s.modPnt g).frm = s.frm := by rfl
@[simp] theorem State.modPnt_sense (s : State) (g : PntState → PntState) : (s.modPnt g).sense = s.sense := by rfl
@[simp] theorem State.modPnt_ef (s : State) (g : PntState → PntState) : (s.modPnt g).ef = s.ef := by rfl
@[simp] theorem State.modPnt_lt (s : State) (g : PntState → PntState) : (s.modPnt g).lt = s.lt := by rfl
@[simp] theorem State.modPnt_sl (s : State) (g : PntState → PntState) : (s.modPnt g).sl = s.sl := by rfl
@[simp] theorem State.modPnt_seq (s : State) (g : PntState → PntState) : (s.modPnt g).seq = s.seq := by rfl
@[simp] theorem State.modPnt_cap (s : State) (g : PntState → PntState) : (s.modPnt g).cap = s.cap := by rfl
@[simp] theorem State.modPnt_bus (s : State) (g : PntState → PntState) : (s.modPnt g).bus = s.bus := by rfl
@[simp] theorem State.modPnt_tl (s : State) (g : PntState → PntState) : (s.modPnt g).tl = s.tl := by rfl
@[simp] theorem State.modPnt_red (s : State) (g : PntState → PntState) : (s.modPnt g).red = s.red := by rfl
@[simp] theorem State.modPnt_fwu (s : State) (g : PntState → PntState) : (s.modPnt g).fwu = s.fwu := by rfl
@[simp] theorem State.modPnt_timers (s : State) (g : PntState → PntState) : (s.modPnt g).timers = s.timers := by rfl
@[simp] theorem State.modPnt_rbt (s : State) (g : PntState → PntState) : (s.modPnt g).rbt = s.rbt := by rfl
@[simp] theorem State.modPnt_pwr (s : State) (g : PntState → PntState) : (s.modPnt g).pwr = s.pwr := by rfl
@[simp] theorem State.modPnt_out (s : State) (g : PntState → PntState) : (s.modPnt g).out = s.out := by rfl
@[simp] theorem State.modPnt_free (s : State) (g : PntState → PntState) : (s.modPnt g).free = s.free := by rfl
@[simp] theorem State.modPnt_rd (s : State) (g : PntState → PntState) (r : Fld) : (s.modPnt g).rd r = s.rd r := by rfl
@[simp] theorem State.modPnt_word (s : State) (g : PntState → PntState) (a : Nat) : (s.modPnt g).word a = s.word a := by rfl
@[simp] theorem State.modPnt_on (s : State) (g : PntState → PntState) (r : Fld) : (s.modPnt g).on r = s.on r := by rfl

/-! ### State.modCapu -/

@[simp] theorem State.modCapu_pending (s : State) (k : Nat) (g : CapUnit → CapUnit) : (s.modCapu k g).pending = s.pending := by rfl
@[simp] theorem State.modCapu_regs (s : State) (k : Nat) (g : CapUnit → CapUnit) : (s.modCapu k g).regs = s.regs := by rfl
@[simp] theorem State.modCapu_shadow (s : State) (k : Nat) (g : CapUnit → CapUnit) : (s.modCapu k g).shadow = s.shadow := by rfl
@[simp] theorem State.modCapu_snap (s : State) (k : Nat) (g : CapUnit → CapUnit) : (s.modCapu k g).snap = s.snap := by rfl
@[simp] theorem State.modCapu_hif (s : State) (k : Nat) (g : CapUnit → CapUnit) : (s.modCapu k g).hif = s.hif := by rfl
@[simp] theorem State.modCapu_pnt (s : State) (k : Nat) (g : CapUnit → CapUnit) : (s.modCapu k g).pnt = { s.pnt with caps := upd s.pnt.caps k g } := by rfl
@[simp] theorem State.modCapu_onx (s : State) (k : Nat) (g : CapUnit → CapUnit) : (s.modCapu k g).onx = s.onx := by rfl
@[simp] theorem State.modCapu_flt (s : State) (k : Nat) (g : CapUnit → CapUnit) : (s.modCapu k g).flt = s.flt := by rfl
@[simp] theorem State.modCapu_frm (s : State) (k : Nat) (g : CapUnit → CapUnit) : (s.modCapu k g).frm = s.frm := by rfl
@[simp] theorem State.modCapu_sense (s : State) (k : Nat) (g : CapUnit → CapUnit) : (s.modCapu k g).sense = s.sense := by rfl
@[simp] theorem State.modCapu_ef (s : State) (k : Nat) (g : CapUnit → CapUnit) : (s.modCapu k g).ef = s.ef := by rfl
@[simp] theorem State.modCapu_lt (s : State) (k : Nat) (g : CapUnit → CapUnit) : (s.modCapu k g).lt = s.lt := by rfl
@[simp] theorem State.modCapu_sl (s : State) (k : Nat) (g : CapUnit → CapUnit) : (s.modCapu k g).sl = s.sl := by rfl
@[simp] theorem State.modCapu_seq (s : State) (k : Nat) (g : CapUnit → CapUnit) : (s.modCapu k g).seq = s.seq := by rfl
@[simp] theorem State.modCapu_cap (s : State) (k : Nat) (g : CapUnit → CapUnit) : (s.modCapu k g).cap = s.cap := by rfl
@[simp] theorem State.modCapu_bus (s : State) (k : Nat) (g : CapUnit → CapUnit) : (s.modCapu k g).bus = s.bus := by rfl
@[simp] theorem State.modCapu_tl (s : State) (k : Nat) (g : CapUnit → CapUnit) : (s.modCapu k g).tl = s.tl := by rfl
@[simp] theorem State.modCapu_red (s : State) (k : Nat) (g : CapUnit → CapUnit) : (s.modCapu k g).red = s.red := by rfl
@[simp] theorem State.modCapu_fwu (s : State) (k : Nat) (g : CapUnit → CapUnit) : (s.modCapu k g).fwu = s.fwu := by rfl
@[simp] theorem State.modCapu_timers (s : State) (k : Nat) (g : CapUnit → CapUnit) : (s.modCapu k g).timers = s.timers := by rfl
@[simp] theorem State.modCapu_rbt (s : State) (k : Nat) (g : CapUnit → CapUnit) : (s.modCapu k g).rbt = s.rbt := by rfl
@[simp] theorem State.modCapu_pwr (s : State) (k : Nat) (g : CapUnit → CapUnit) : (s.modCapu k g).pwr = s.pwr := by rfl
@[simp] theorem State.modCapu_out (s : State) (k : Nat) (g : CapUnit → CapUnit) : (s.modCapu k g).out = s.out := by rfl
@[simp] theorem State.modCapu_free (s : State) (k : Nat) (g : CapUnit → CapUnit) : (s.modCapu k g).free = s.free := by rfl
@[simp] theorem State.modCapu_rd (s : State) (k : Nat) (g : CapUnit → CapUnit) (r : Fld) : (s.modCapu k g).rd r = s.rd r := by rfl
@[simp] theorem State.modCapu_word (s : State) (k : Nat) (g : CapUnit → CapUnit) (a : Nat) : (s.modCapu k g).word a = s.word a := by rfl
@[simp] theorem State.modCapu_on (s : State) (k : Nat) (g : CapUnit → CapUnit) (r : Fld) : (s.modCapu k g).on r = s.on r := by rfl

/-! ### State.modPwr -/

@[simp] theorem State.modPwr_pending (s : State) (g : PwrSt → PwrSt) : (s.modPwr g).pending = s.pending := by rfl
@[simp] theorem State.modPwr_regs (s : State) (g : PwrSt → PwrSt) : (s.modPwr g).regs = s.regs := by rfl
@[simp] theorem State.modPwr_shadow (s : State) (g : PwrSt → PwrSt) : (s.modPwr g).shadow = s.shadow := by rfl
@[simp] theorem State.modPwr_snap (s : State) (g : PwrSt → PwrSt) : (s.modPwr g).snap = s.snap := by rfl
@[simp] theorem State.modPwr_hif (s : State) (g : PwrSt → PwrSt) : (s.modPwr g).hif = s.hif := by rfl
@[simp] theorem State.modPwr_pnt (s : State) (g : PwrSt → PwrSt) : (s.modPwr g).pnt = s.pnt := by rfl
@[simp] theorem State.modPwr_onx (s : State) (g : PwrSt → PwrSt) : (s.modPwr g).onx = s.onx := by rfl
@[simp] theorem State.modPwr_flt (s : State) (g : PwrSt → PwrSt) : (s.modPwr g).flt = s.flt := by rfl
@[simp] theorem State.modPwr_frm (s : State) (g : PwrSt → PwrSt) : (s.modPwr g).frm = s.frm := by rfl
@[simp] theorem State.modPwr_sense (s : State) (g : PwrSt → PwrSt) : (s.modPwr g).sense = s.sense := by rfl
@[simp] theorem State.modPwr_ef (s : State) (g : PwrSt → PwrSt) : (s.modPwr g).ef = s.ef := by rfl
@[simp] theorem State.modPwr_lt (s : State) (g : PwrSt → PwrSt) : (s.modPwr g).lt = s.lt := by rfl
@[simp] theorem State.modPwr_sl (s : State) (g : PwrSt → PwrSt) : (s.modPwr g).sl = s.sl := by rfl
@[simp] theorem State.modPwr_seq (s : State) (g : PwrSt → PwrSt) : (s.modPwr g).seq = s.seq := by rfl
@[simp] theorem State.modPwr_cap (s : State) (g : PwrSt → PwrSt) : (s.modPwr g).cap = s.cap := by rfl
@[simp] theorem State.modPwr_bus (s : State) (g : PwrSt → PwrSt) : (s.modPwr g).bus = s.bus := by rfl
@[simp] theorem State.modPwr_tl (s : State) (g : PwrSt → PwrSt) : (s.modPwr g).tl = s.tl := by rfl
@[simp] theorem State.modPwr_red (s : State) (g : PwrSt → PwrSt) : (s.modPwr g).red = s.red := by rfl
@[simp] theorem State.modPwr_fwu (s : State) (g : PwrSt → PwrSt) : (s.modPwr g).fwu = s.fwu := by rfl
@[simp] theorem State.modPwr_timers (s : State) (g : PwrSt → PwrSt) : (s.modPwr g).timers = s.timers := by rfl
@[simp] theorem State.modPwr_rbt (s : State) (g : PwrSt → PwrSt) : (s.modPwr g).rbt = s.rbt := by rfl
@[simp] theorem State.modPwr_pwr (s : State) (g : PwrSt → PwrSt) : (s.modPwr g).pwr = g s.pwr := by rfl
@[simp] theorem State.modPwr_out (s : State) (g : PwrSt → PwrSt) : (s.modPwr g).out = s.out := by rfl
@[simp] theorem State.modPwr_free (s : State) (g : PwrSt → PwrSt) : (s.modPwr g).free = s.free := by rfl
@[simp] theorem State.modPwr_rd (s : State) (g : PwrSt → PwrSt) (r : Fld) : (s.modPwr g).rd r = s.rd r := by rfl
@[simp] theorem State.modPwr_word (s : State) (g : PwrSt → PwrSt) (a : Nat) : (s.modPwr g).word a = s.word a := by rfl
@[simp] theorem State.modPwr_on (s : State) (g : PwrSt → PwrSt) (r : Fld) : (s.modPwr g).on r = s.on r := by rfl

/-! ### State.modOnx -/

@[simp] theorem State.modOnx_pending (s : State) (g : OnyxState → OnyxState) : (s.modOnx g).pending = s.pending := by rfl
@[simp] theorem State.modOnx_regs (s : State) (g : OnyxState → OnyxState) : (s.modOnx g).regs = s.regs := by rfl
@[simp] theorem State.modOnx_shadow (s : State) (g : OnyxState → OnyxState) : (s.modOnx g).shadow = s.shadow := by rfl
@[simp] theorem State.modOnx_snap (s : State) (g : OnyxState → OnyxState) : (s.modOnx g).snap = s.snap := by rfl
@[simp] theorem State.modOnx_hif (s : State) (g : OnyxState → OnyxState) : (s.modOnx g).hif = s.hif := by rfl
@[simp] theorem State.modOnx_pnt (s : State) (g : OnyxState → OnyxState) : (s.modOnx g).pnt = s.pnt := by rfl
@[simp] theorem State.modOnx_onx (s : State) (g : OnyxState → OnyxState) : (s.modOnx g).onx = g s.onx := by rfl
@[simp] theorem State.modOnx_flt (s : State) (g : OnyxState → OnyxState) : (s.modOnx g).flt = s.flt := by rfl
@[simp] theorem State.modOnx_frm (s : State) (g : OnyxState → OnyxState) : (s.modOnx g).frm = s.frm := by rfl
@[simp] theorem State.modOnx_sense (s : State) (g : OnyxState → OnyxState) : (s.modOnx g).sense = s.sense := by rfl
@[simp] theorem State.modOnx_ef (s : State) (g : OnyxState → OnyxState) : (s.modOnx g).ef = s.ef := by rfl
@[simp] theorem State.modOnx_lt (s : State) (g : OnyxState → OnyxState) : (s.modOnx g).lt = s.lt := by rfl
@[simp] theorem State.modOnx_sl (s : State) (g : OnyxState → OnyxState) : (s.modOnx g).sl = s.sl := by rfl
@[simp] theorem State.modOnx_seq (s : State) (g : OnyxState → OnyxState) : (s.modOnx g).seq = s.seq := by rfl
@[simp] theorem State.modOnx_cap (s : State) (g : OnyxState → OnyxState) : (s.modOnx g).cap = s.cap := by rfl
@[simp] theorem State.modOnx_bus (s : State) (g : OnyxState → OnyxState) : (s.modOnx g).bus = s.bus := by rfl
@[simp] theorem State.modOnx_tl (s : State) (g : OnyxState → OnyxState) : (s.modOnx g).tl = s.tl := by rfl
@[simp] theorem State.modOnx_red (s : State) (g : OnyxState → OnyxState) : (s.modOnx g).red = s.red := by rfl
@[simp] theorem State.modOnx_fwu (s : State) (g : OnyxState → OnyxState) : (s.modOnx g).fwu = s.fwu := by rfl
@[simp] theorem State.modOnx_timers (s : State) (g : OnyxState → OnyxState) : (s.modOnx g).timers = s.timers := by rfl
@[simp] theorem State.modOnx_rbt (s : State) (g : OnyxState → OnyxState) : (s.modOnx g).rbt = s.rbt := by rfl
@[simp] theorem State.modOnx_pwr (s : State) (g : OnyxState → OnyxState) : (s.modOnx g).pwr = s.pwr := by rfl
@[simp] theorem State.modOnx_out (s : State) (g : OnyxState → OnyxState) : (s.modOnx g).out = s.out := by rfl
@[simp] theorem State.modOnx_free (s : State) (g : OnyxState → OnyxState) : (s.modOnx g).free = s.free := by rfl
@[simp] theorem State.modOnx_rd (s : State) (g : OnyxState → OnyxState) (r : Fld) : (s.modOnx g).rd r = s.rd r := by rfl
@[simp] theorem State.modOnx_word (s : State) (g : OnyxState → OnyxState) (a : Nat) : (s.modOnx g).word a = s.word a := by rfl
@[simp] theorem State.modOnx_on (s : State) (g : OnyxState → OnyxState) (r : Fld) : (s.modOnx g).on r = s.on r := by rfl

/-! ### State.modFlt -/

@[simp] theorem State.modFlt_pending (s : State) (g : FltState → FltState) : (s.modFlt g).pending = s.pending := by rfl
@[simp] theorem State.modFlt_regs (s : State) (g : FltState → FltState) : (s.modFlt g).regs = s.regs := by rfl
@[simp] theorem State.modFlt_shadow (s : State) (g : FltState → FltState) : (s.modFlt g).shadow = s.shadow := by rfl
@[simp] theorem State.modFlt_snap (s : State) (g : FltState → FltState) : (s.modFlt g).snap = s.snap := by rfl
@[simp] theorem State.modFlt_hif (s : State) (g : FltState → FltState) : (s.modFlt g).hif = s.hif := by rfl
@[simp] theorem State.modFlt_pnt (s : State) (g : FltState → FltState) : (s.modFlt g).pnt = s.pnt := by rfl
@[simp] theorem State.modFlt_onx (s : State) (g : FltState → FltState) : (s.modFlt g).onx = s.onx := by rfl
@[simp] theorem State.modFlt_flt (s : State) (g : FltState → FltState) : (s.modFlt g).flt = g s.flt := by rfl
@[simp] theorem State.modFlt_frm (s : State) (g : FltState → FltState) : (s.modFlt g).frm = s.frm := by rfl
@[simp] theorem State.modFlt_sense (s : State) (g : FltState → FltState) : (s.modFlt g).sense = s.sense := by rfl
@[simp] theorem State.modFlt_ef (s : State) (g : FltState → FltState) : (s.modFlt g).ef = s.ef := by rfl
@[simp] theorem State.modFlt_lt (s : State) (g : FltState → FltState) : (s.modFlt g).lt = s.lt := by rfl
@[simp] theorem State.modFlt_sl (s : State) (g : FltState → FltState) : (s.modFlt g).sl = s.sl := by rfl
@[simp] theorem State.modFlt_seq (s : State) (g : FltState → FltState) : (s.modFlt g).seq = s.seq := by rfl
@[simp] theorem State.modFlt_cap (s : State) (g : FltState → FltState) : (s.modFlt g).cap = s.cap := by rfl
@[simp] theorem State.modFlt_bus (s : State) (g : FltState → FltState) : (s.modFlt g).bus = s.bus := by rfl
@[simp] theorem State.modFlt_tl (s : State) (g : FltState → FltState) : (s.modFlt g).tl = s.tl := by rfl
@[simp] theorem State.modFlt_red (s : State) (g : FltState → FltState) : (s.modFlt g).red = s.red := by rfl
@[simp] theorem State.modFlt_fwu (s : State) (g : FltState → FltState) : (s.modFlt g).fwu = s.fwu := by rfl
@[simp] theorem State.modFlt_timers (s : State) (g : FltState → FltState) : (s.modFlt g).timers = s.timers := by rfl
@[simp] theorem State.modFlt_rbt (s : State) (g : FltState → FltState) : (s.modFlt g).rbt = s.rbt := by rfl
@[simp] theorem State.modFlt_pwr (s : State) (g : FltState → FltState) : (s.modFlt g).pwr = s.pwr := by rfl
@[simp] theorem State.modFlt_out (s : State) (g : FltState → FltState) : (s.modFlt g).out = s.out := by rfl
@[simp] theorem State.modFlt_free (s : State) (g : FltState → FltState) : (s.modFlt g).free = s.free := by rfl
@[simp] theorem State.modFlt_rd (s : State) (g : FltState → FltState) (r : Fld) : (s.modFlt g).rd r = s.rd r := by rfl
@[simp] theorem State.modFlt_word (s : State) (g : FltState → FltState) (a : Nat) : (s.modFlt g).word a = s.word a := by rfl
@[simp] theorem State.modFlt_on (s : State) (g : FltState → FltState) (r : Fld) : (s.modFlt g).on r = s.on r := by rfl

/-! ### State.modTimer -/

@[simp] theorem State.modTimer_pending (s : State) (k : Nat) (g : Timer → Timer) : (s.modTimer k g).pending = s.pending := by rfl
@[simp] theorem State.modTimer_regs (s : State) (k : Nat) (g : Timer → Timer) : (s.modTimer k g).regs = s.regs := by rfl
@[simp] theorem State.modTimer_shadow (s : State) (k : Nat) (g : Timer → Timer) : (s.modTimer k g).shadow = s.shadow := by rfl
@[simp] theorem State.modTimer_snap (s : State) (k : Nat) (g : Timer → Timer) : (s.modTimer k g).snap = s.snap := by rfl
@[simp] theorem State.modTimer_hif (s : State) (k : Nat) (g : Timer → Timer) : (s.modTimer k g).hif = s.hif := by rfl
@[simp] theorem State.modTimer_pnt (s : State) (k : Nat) (g : Timer → Timer) : (s.modTimer k g).pnt = s.pnt := by rfl
@[simp] theorem State.modTimer_onx (s : State) (k : Nat) (g : Timer → Timer) : (s.modTimer k g).onx = s.onx := by rfl
@[simp] theorem State.modTimer_flt (s : State) (k : Nat) (g : Timer → Timer) : (s.modTimer k g).flt = s.flt := by rfl
@[simp] theorem State.modTimer_frm (s : State) (k : Nat) (g : Timer → Timer) : (s.modTimer k g).frm = s.frm := by rfl
@[simp] theorem State.modTimer_sense (s : State) (k : Nat) (g : Timer → Timer) : (s.modTimer k g).sense = s.sense := by rfl
@[simp] theorem State.modTimer_ef (s : State) (k : Nat) (g : Timer → Timer) : (s.modTimer k g).ef = s.ef := by rfl
@[simp] theorem State.modTimer_lt (s : State) (k : Nat) (g : Timer → Timer) : (s.modTimer k g).lt = s.lt := by rfl
@[simp] theorem State.modTimer_sl (s : State) (k : Nat) (g : Timer → Timer) : (s.modTimer k g).sl = s.sl := by rfl
@[simp] theorem State.modTimer_seq (s : State) (k : Nat) (g : Timer → Timer) : (s.modTimer k g).seq = s.seq := by rfl
@[simp] theorem State.modTimer_cap (s : State) (k : Nat) (g : Timer → Timer) : (s.modTimer k g).cap = s.cap := by rfl
@[simp] theorem State.modTimer_bus (s : State) (k : Nat) (g : Timer → Timer) : (s.modTimer k g).bus = s.bus := by rfl
@[simp] theorem State.modTimer_tl (s : State) (k : Nat) (g : Timer → Timer) : (s.modTimer k g).tl = s.tl := by rfl
@[simp] theorem State.modTimer_red (s : State) (k : Nat) (g : Timer → Timer) : (s.modTimer k g).red = s.red := by rfl
@[simp] theorem State.modTimer_fwu (s : State) (k : Nat) (g : Timer → Timer) : (s.modTimer k g).fwu = s.fwu := by rfl
@[simp] theorem State.modTimer_timers (s : State) (k : Nat) (g : Timer → Timer) : (s.modTimer k g).timers = upd s.timers k g := by rfl
@[simp] theorem State.modTimer_rbt (s : State) (k : Nat) (g : Timer → Timer) : (s.modTimer k g).rbt = s.rbt := by rfl
@[simp] theorem State.modTimer_pwr (s : State) (k : Nat) (g : Timer → Timer) : (s.modTimer k g).pwr = s.pwr := by rfl
@[simp] theorem State.modTimer_out (s : State) (k : Nat) (g : Timer → Timer) : (s.modTimer k g).out = s.out := by rfl
@[simp] theorem State.modTimer_free (s : State) (k : Nat) (g : Timer → Timer) : (s.modTimer k g).free = s.free := by rfl
@[simp] theorem State.modTimer_rd (s : State) (k : Nat) (g : Timer → Timer) (r : Fld) : (s.modTimer k g).rd r = s.rd r := by rfl
@[simp] theorem State.modTimer_word (s : State) (k : Nat) (g : Timer → Timer) (a : Nat) : (s.modTimer k g).word a = s.word a := by rfl
@[simp] theorem State.modTimer_on (s : State) (k : Nat) (g : Timer → Timer) (r : Fld) : (s.modTimer k g).on r = s.on r := by rfl

/-! ### State.modUpd -/

@[simp] theorem State.modUpd_pending (s : State) (g : UpdSt → UpdSt) : (s.modUpd g).pending = s.pending := by rfl
@[simp] theorem State.modUpd_regs (s : State) (g : UpdSt → UpdSt) : (s.modUpd g).regs = s.regs := by rfl
@[simp] theorem State.modUpd_shadow (s : State) (g : UpdSt → UpdSt) : (s.modUpd g).shadow = s.shadow := by rfl
@[simp] theorem State.modUpd_snap (s : State) (g : UpdSt → UpdSt) : (s.modUpd g).snap = s.snap := by rfl
@[simp] theorem State.modUpd_hif (s : State) (g : UpdSt → UpdSt) : (s.modUpd g).hif = s.hif := by rfl
@[simp] theorem State.modUpd_pnt (s : State) (g : UpdSt → UpdSt) : (s.modUpd g).pnt = s.pnt := by rfl
@[simp] theorem State.modUpd_onx (s : State) (g : UpdSt → UpdSt) : (s.modUpd g).onx = s.onx := by rfl
@[simp] theorem State.modUpd_flt (s : State) (g : UpdSt → UpdSt) : (s.modUpd g).flt = s.flt := by rfl
@[simp] theorem State.modUpd_frm (s : State) (g : UpdSt → UpdSt) : (s.modUpd g).frm = s.frm := by rfl
@[simp] theorem State.modUpd_sense (s : State) (g : UpdSt → UpdSt) : (s.modUpd g).sense = s.sense := by rfl
@[simp] theorem State.modUpd_ef (s : State) (g : UpdSt → UpdSt) : (s.modUpd g).ef = s.ef := by rfl
@[simp] theorem State.modUpd_lt (s : State) (g : UpdSt → UpdSt) : (s.modUpd g).lt = s.lt := by rfl
@[simp] theorem State.modUpd_sl (s : State) (g : UpdSt → UpdSt) : (s.modUpd g).sl = s.sl := by rfl
@[simp] theorem State.modUpd_seq (s : State) (g : UpdSt → UpdSt) : (s.modUpd g).seq = s.seq := by rfl
@[simp] theorem State.modUpd_cap (s : State) (g : UpdSt → UpdSt) : (s.modUpd g).cap = s.cap := by rfl
@[simp] theorem State.modUpd_bus (s : State) (g : UpdSt → UpdSt) : (s.modUpd g).bus = s.bus := by rfl
@[simp] theorem State.modUpd_tl (s : State) (g : UpdSt → UpdSt) : (s.modUpd g).tl = s.tl := by rfl
@[simp] theorem State.modUpd_red (s : State) (g : UpdSt → UpdSt) : (s.modUpd g).red = s.red := by rfl
@[simp] theorem State.modUpd_fwu (s : State) (g : UpdSt → UpdSt) : (s.modUpd g).fwu = g s.fwu := by rfl
@[simp] theorem State.modUpd_timers (s : State) (g : UpdSt → UpdSt) : (s.modUpd g).timers = s.timers := by rfl
@[simp] theorem State.modUpd_rbt (s : State) (g : UpdSt → UpdSt) : (s.modUpd g).rbt = s.rbt := by rfl
@[simp] theorem State.modUpd_pwr (s : State) (g : UpdSt → UpdSt) : (s.modUpd g).pwr = s.pwr := by rfl
@[simp] theorem State.modUpd_out (s : State) (g : UpdSt → UpdSt) : (s.modUpd g).out = s.out := by rfl
@[simp] theorem State.modUpd_free (s : State) (g : UpdSt → UpdSt) : (s.modUpd g).free = s.free := by rfl
@[simp] theorem State.modUpd_rd (s : State) (g : UpdSt → UpdSt) (r : Fld) : (s.modUpd g).rd r = s.rd r := by rfl
@[simp] theorem State.modUpd_word (s : State) (g : UpdSt → UpdSt) (a : Nat) : (s.modUpd g).word a = s.word a := by rfl
@[simp] theorem State.modUpd_on (s : State) (g : UpdSt → UpdSt) (r : Fld) : (s.modUpd g).on r = s.on r := by rfl

/-! ### State.modNv -/

@[simp] theorem State.modNv_pending (s : State) (g : UpdNv → UpdNv) : (s.modNv g).pending = s.pending := by rfl
@[simp] theorem State.modNv_regs (s : State) (g : UpdNv → UpdNv) : (s.modNv g).regs = s.regs := by rfl
@[simp] theorem State.modNv_shadow (s : State) (g : UpdNv → UpdNv) : (s.modNv g).shadow = s.shadow := by rfl
@[simp] theorem State.modNv_snap (s : State) (g : UpdNv → UpdNv) : (s.modNv g).snap = s.snap := by rfl
@[simp] theorem State.modNv_hif (s : State) (g : UpdNv → UpdNv) : (s.modNv g).hif = s.hif := by rfl
@[simp] theorem State.modNv_pnt (s : State) (g : UpdNv → UpdNv) : (s.modNv g).pnt = s.pnt := by rfl
@[simp] theorem State.modNv_onx (s : State) (g : UpdNv → UpdNv) : (s.modNv g).onx = s.onx := by rfl
@[simp] theorem State.modNv_flt (s : State) (g : UpdNv → UpdNv) : (s.modNv g).flt = s.flt := by rfl
@[simp] theorem State.modNv_frm (s : State) (g : UpdNv → UpdNv) : (s.modNv g).frm = s.frm := by rfl
@[simp] theorem State.modNv_sense (s : State) (g : UpdNv → UpdNv) : (s.modNv g).sense = s.sense := by rfl
@[simp] theorem State.modNv_ef (s : State) (g : UpdNv → UpdNv) : (s.modNv g).ef = s.ef := by rfl
@[simp] theorem State.modNv_lt (s : State) (g : UpdNv → UpdNv) : (s.modNv g).lt = s.lt := by rfl
@[simp] theorem State.modNv_sl (s : State) (g : UpdNv → UpdNv) : (s.modNv g).sl = s.sl := by rfl
@[simp] theorem State.modNv_seq (s : State) (g : UpdNv → UpdNv) : (s.modNv g).seq = s.seq := by rfl
@[simp] theorem State.modNv_cap (s : State) (g : UpdNv → UpdNv) : (s.modNv g).cap = s.cap := by rfl
@[simp] theorem State.modNv_bus (s : State) (g : UpdNv → UpdNv) : (s.modNv g).bus = s.bus := by rfl
@[simp] theorem State.modNv_tl (s : State) (g : UpdNv → UpdNv) : (s.modNv g).tl = s.tl := by rfl
@[simp] theorem State.modNv_red (s : State) (g : UpdNv → UpdNv) : (s.modNv g).red = s.red := by rfl
@[simp] theorem State.modNv_fwu (s : State) (g : UpdNv → UpdNv) : (s.modNv g).fwu = { s.fwu with nv := g s.fwu.nv } := by rfl
@[simp] theorem State.modNv_timers (s : State) (g : UpdNv → UpdNv) : (s.modNv g).timers = s.timers := by rfl
@[simp] theorem State.modNv_rbt (s : State) (g : UpdNv → UpdNv) : (s.modNv g).rbt = s.rbt := by rfl
@[simp] theorem State.modNv_pwr (s : State) (g : UpdNv → UpdNv) : (s.modNv g).pwr = s.pwr := by rfl
@[simp] theorem State.modNv_out (s : State) (g : UpdNv → UpdNv) : (s.modNv g).out = s.out := by rfl
@[simp] theorem State.modNv_free (s : State) (g : UpdNv → UpdNv) : (s.modNv g).free = s.free := by rfl
@[simp] theorem State.modNv_rd (s : State) (g : UpdNv → UpdNv) (r : Fld) : (s.modNv g).rd r = s.rd r := by rfl
@[simp] theorem State.modNv_word (s : State) (g : UpdNv → UpdNv) (a : Nat) : (s.modNv g).word a = s.word a := by rfl
@[simp] theorem State.modNv_on (s : State) (g : UpdNv → UpdNv) (r : Fld) : (s.modNv g).on r = s.on r := by rfl

/-! ### State.setCache -/

@[simp] theorem State.setCache_pending (s : State) (k : Nat) (x : PVal) : (s.setCache k x).pending = s.pending := by rfl
@[simp] theorem State.setCache_regs (s : State) (k : Nat) (x : PVal) : (s.setCache k x).regs = s.regs := by rfl
@[simp] theorem State.setCache_shadow (s : State) (k : Nat) (x : PVal) : (s.setCache k x).shadow = s.shadow := by rfl
@[simp] theorem State.setCache_snap (s : State) (k : Nat) (x : PVal) : (s.setCache k x).snap = s.snap := by rfl
@[simp] theorem State.setCache_hif (s : State) (k : Nat) (x : PVal) : (s.setCache k x).hif = s.hif := by rfl
@[simp] theorem State.setCache_pnt (s : State) (k : Nat) (x : PVal) : (s.setCache k x).pnt = { s.pnt with cache := assocPut s.pnt.cache k x } := by rfl
@[simp] theorem State.setCache_onx (s : State) (k : Nat) (x : PVal) : (s.setCache k x).onx = s.onx := by rfl
@[simp] theorem State.setCache_flt (s : State) (k : Nat) (x : PVal) : (s.setCache k x).flt = s.flt := by rfl
@[simp] theorem State.setCache_frm (s : State) (k : Nat) (x : PVal) : (s.setCache k x).frm = s.frm := by rfl
@[simp] theorem State.setCache_sense (s : State) (k : Nat) (x : PVal) : (s.setCache k x).sense = s.sense := by rfl
@[simp] theorem State.setCache_ef (s : State) (k : Nat) (x : PVal) : (s.setCache k x).ef = s.ef := by rfl
@[simp] theorem State.setCache_lt (s : State) (k : Nat) (x : PVal) : (s.setCache k x).lt = s.lt := by rfl
@[simp] theorem State.setCache_sl (s : State) (k : Nat) (x : PVal) : (s.setCache k x).sl = s.sl := by rfl
@[simp] theorem State.setCache_seq (s : State) (k : Nat) (x : PVal) : (s.setCache k x).seq = s.seq := by rfl
@[simp] theorem State.setCache_cap (s : State) (k : Nat) (x : PVal) : (s.setCache k x).cap = s.cap := by rfl
@[simp] theorem State.setCache_bus (s : State) (k : Nat) (x : PVal) : (s.setCache k x).bus = s.bus := by rfl
@[simp] theorem State.setCache_tl (s : State) (k : Nat) (x : PVal) : (s.setCache k x).tl = s.tl := by rfl
@[simp] theorem State.setCache_red (s : State) (k : Nat) (x : PVal) : (s.setCache k x).red = s.red := by rfl
@[simp] theorem State.setCache_fwu (s : State) (k : Nat) (x : PVal) : (s.setCache k x).fwu = s.fwu := by rfl
@[simp] theorem State.setCache_timers (s : State) (k : Nat) (x : PVal) : (s.setCache k x).timers = s.timers := by rfl
@[simp] theorem State.setCache_rbt (s : State) (k : Nat) (x : PVal) : (s.setCache k x).rbt = s.rbt := by rfl
@[simp] theorem State.setCache_pwr (s : State) (k : Nat) (x : PVal) : (s.setCache k x).pwr = s.pwr := by rfl
@[simp] theorem State.setCache_out (s : State) (k : Nat) (x : PVal) : (s.setCache k x).out = s.out := by rfl
@[simp] theorem State.setCache_free (s : State) (k : Nat) (x : PVal) : (s.setCache k x).free = s.free := by rfl
@[simp] theorem State.setCache_rd (s : State) (k : Nat) (x : PVal) (r : Fld) : (s.setCache k x).rd r = s.rd r := by rfl
@[simp] theorem State.setCache_word (s : State) (k : Nat) (x : PVal) (a : Nat) : (s.setCache k x).word a = s.word a := by rfl
@[simp] theorem State.setCache_on (s : State) (k : Nat) (x : PVal) (r : Fld) : (s.setCache k x).on r = s.on r := by rfl

/-! ### State.modCmd -/

@[simp] theorem State.modCmd_pending (s : State) (k : Nat) (g : Cmd → Cmd) : (s.modCmd k g).pending = s.pending := by rfl
@[simp] theorem State.modCmd_regs (s : State) (k : Nat) (g : Cmd → Cmd) : (s.modCmd k g).regs = s.regs := by rfl
@[simp] theorem State.modCmd_shadow (s : State) (k : Nat) (g : Cmd → Cmd) : (s.modCmd k g).shadow = s.shadow := by rfl
@[simp] theorem State.modCmd_snap (s : State) (k : Nat) (g : Cmd → Cmd) : (s.modCmd k g).snap = s.snap := by rfl
@[simp] theorem State.modCmd_hif (s : State) (k : Nat) (g : Cmd → Cmd) : (s.modCmd k g).hif = { s.hif with cmds := s.hif.cmds.map (fun c => if c.tag == k then g c else c) } := by rfl
@[simp] theorem State.modCmd_pnt (s : State) (k : Nat) (g : Cmd → Cmd) : (s.modCmd k g).pnt = s.pnt := by rfl
@[simp] theorem State.modCmd_onx (s : State) (k : Nat) (g : Cmd → Cmd) : (s.modCmd k g).onx = s.onx := by rfl
@[simp] theorem State.modCmd_flt (s : State) (k : Nat) (g : Cmd → Cmd) : (s.modCmd k g).flt = s.flt := by rfl
@[simp] theorem State.modCmd_frm (s : State) (k : Nat) (g : Cmd → Cmd) : (s.modCmd k g).frm = s.frm := by rfl
@[simp] theorem State.modCmd_sense (s : State) (k : Nat) (g : Cmd → Cmd) : (s.modCmd k g).sense = s.sense := by rfl
@[simp] theorem State.modCmd_ef (s : State) (k : Nat) (g : Cmd → Cmd) : (s.modCmd k g).ef = s.ef := by rfl
@[simp] theorem State.modCmd_lt (s : State) (k : Nat) (g : Cmd → Cmd) : (s.modCmd k g).lt = s.lt := by rfl
@[simp] theorem State.modCmd_sl (s : State) (k : Nat) (g : Cmd → Cmd) : (s.modCmd k g).sl = s.sl := by rfl
@[simp] theorem State.modCmd_seq (s : State) (k : Nat) (g : Cmd → Cmd) : (s.modCmd k g).seq = s.seq := by rfl
@[simp] theorem State.modCmd_cap (s : State) (k : Nat) (g : Cmd → Cmd) : (s.modCmd k g).cap = s.cap := by rfl
@[simp] theorem State.modCmd_bus (s : State) (k : Nat) (g : Cmd → Cmd) : (s.modCmd k g).bus = s.bus := by rfl
@[simp] theorem State.modCmd_tl (s : State) (k : Nat) (g : Cmd → Cmd) : (s.modCmd k g).tl = s.tl := by rfl
@[simp] theorem State.modCmd_red (s : State) (k : Nat) (g : Cmd → Cmd) : (s.modCmd k g).red = s.red := by rfl
@[simp] theorem State.modCmd_fwu (s : State) (k : Nat) (g : Cmd → Cmd) : (s.modCmd k g).fwu = s.fwu := by rfl
@[simp] theorem State.modCmd_timers (s : State) (k : Nat) (g : Cmd → Cmd) : (s.modCmd k g).timers = s.timers := by rfl
@[simp] theorem State.modCmd_rbt (s : State) (k : Nat) (g : Cmd → Cmd) : (s.modCmd k g).rbt = s.rbt := by rfl
@[simp] theorem State.modCmd_pwr (s : State) (k : Nat) (g : Cmd → Cmd) : (s.modCmd k g).pwr = s.pwr := by rfl
@[simp] theorem State.modCmd_out (s : State) (k : Nat) (g : Cmd → Cmd) : (s.modCmd k g).out = s.out := by rfl
@[simp] theorem State.modCmd_free (s : State) (k : Nat) (g : Cmd → Cmd) : (s.modCmd k g).free = s.free := by rfl
@[simp] theorem State.modCmd_rd (s : State) (k : Nat) (g : Cmd → Cmd) (r : Fld) : (s.modCmd k g).rd r = s.rd r := by rfl
@[simp] theorem State.modCmd_word (s : State) (k : Nat) (g : Cmd → Cmd) (a : Nat) : (s.modCmd k g).word a = s.word a := by rfl
@[simp] theorem State.modCmd_on (s : State) (k : Nat) (g : Cmd → Cmd) (r : Fld) : (s.modCmd k g).on r = s.on r := by rfl

/-! ### The field writes are word writes -/

@[simp] theorem State.wrB_eq (s : State) (f : Fld) (b : Bool) : s.wrB f b = s.wr f (b2n b) := rfl
@[simp] theorem State.wrS_eq (s : State) (f : Fld) (v : Int) : s.wrS f v = s.wr f (unsigned (f.hi + 1 - f.lo) v) := rfl
@[simp] theorem State.inc_eq (s : State) (f : Fld) : s.inc f = s.wr f (s.rd f + 1) := rfl
@[simp] theorem State.incSat_eq (s : State) (f : Fld) : s.incSat f = s.wr f (min (s.rd f + 1) (2 ^ (f.hi + 1 - f.lo) - 1)) := rfl
theorem State.on_eq (s : State) (f : Fld) : s.on f = (s.rd f != 0) := rfl
@[simp] theorem State.when_true (s : State) (g : State → State) : s.when true g = g s := rfl
@[simp] theorem State.when_false (s : State) (g : State → State) : s.when false g = s := rfl

end Sys2Proof.Machine
end

