-- ==== Sys2Proof/Laws/Settle.lean ====
section
/-!
SUPPORT. Fields of the state: reading after writing, writing elsewhere, and what the settling at the end of a command leaves.
-/
namespace Sys2Proof.Machine

/-! ### Words and fields -/

@[simp] theorem State.word_setWord_same (s : State) (o : Nat) (v : Word) : (s.setWord o v).word o = v := by
  simp [State.word]

theorem State.word_setWord_other (s : State) {o p : Nat} (v : Word) (h : p ≠ o) : (s.setWord o v).word p = s.word p := by
  simp [State.word, RegFile.get_put_other _ _ h]

theorem State.word_wr_other (s : State) (g : Fld) (v : Nat) {p : Nat} (h : p ≠ g.off) : (s.wr g v).word p = s.word p :=
  State.word_setWord_other _ _ h

theorem State.word_wr_same (s : State) (g : Fld) (v : Nat) : (s.wr g v).word g.off = g.set (s.word g.off) v :=
  State.word_setWord_same _ _ _

/-- A field reads what was written to it, cut to its width. -/
theorem State.rd_wr_same (s : State) (f : Fld) (v : Nat) (h : f.ok = true) : (s.wr f v).rd f = v % f.size := by
  rw [State.rd, State.word_wr_same, Fld.of_set_same f _ v h]

/-- A field reads as before where a field apart from it is written. -/
theorem State.rd_wr_apart (s : State) {f g : Fld} (v : Nat) (hg : g.ok = true) (h : f.apart g = true) :
    (s.wr g v).rd f = s.rd f := by
  simp only [Fld.apart, Bool.or_eq_true, decide_eq_true_eq, bne_iff_ne] at h
  by_cases ho : f.off = g.off
  · rw [State.rd, ho, State.word_wr_same, Fld.of_set_apart f g _ _ hg (by tauto), State.rd, ho]
  · rw [State.rd, State.word_wr_other s g v ho, State.rd]

/-- A field of another register reads as before. -/
theorem State.rd_wr_off (s : State) {f g : Fld} (v : Nat) (h : f.off ≠ g.off) : (s.wr g v).rd f = s.rd f := by
  rw [State.rd, State.word_wr_other s g v h, State.rd]

theorem State.on_wr_same (s : State) (f : Fld) (v : Nat) (h : f.ok = true) : (s.wr f v).on f = (v % f.size != 0) := by
  rw [State.on, State.rd_wr_same s f v h]

theorem State.on_wr_apart (s : State) {f g : Fld} (v : Nat) (hg : g.ok = true) (h : f.apart g = true) :
    (s.wr g v).on f = s.on f := by rw [State.on, State.rd_wr_apart s v hg h, State.on]

theorem State.rd_setWord_off (s : State) {f : Fld} {o : Nat} (v : Word) (h : f.off ≠ o) : (s.setWord o v).rd f = s.rd f := by
  rw [State.rd, State.word_setWord_other s v h, State.rd]

/-- A field apart from a whole register reads as before where the register is written. -/
theorem State.rd_setWord_apart (s : State) {f : Fld} {o : Nat} (v : Word) (h : f.apart ⟨o, 31, 0⟩ = true) :
    (s.setWord o v).rd f = s.rd f := by
  simp only [Fld.apart, Bool.or_eq_true, decide_eq_true_eq, bne_iff_ne] at h
  rcases h with (h | h) | h
  · exact State.rd_setWord_off s v h
  · omega
  · have z : ∀ w : Word, f.of w = 0 := by
      intro w
      have : w.toNat < 2 ^ f.lo := lt_of_lt_of_le w.isLt (Nat.pow_le_pow_right (by decide) h)
      simp [Fld.of, bits, Nat.div_eq_of_lt this]
    simp only [State.rd, z]

theorem State.rd_lt (s : State) (f : Fld) : s.rd f < f.size := Fld.of_lt f _

theorem Fld.apart_comm (f g : Fld) : f.apart g = g.apart f := by
  simp only [Fld.apart]
  rw [Bool.eq_iff_iff]
  simp only [Bool.or_eq_true, decide_eq_true_eq, bne_iff_ne]
  constructor <;> rintro ((h | h) | h) <;> first | exact Or.inl (Or.inl (Ne.symm h)) | exact Or.inr h | exact Or.inl (Or.inr h)

/-! ### The status fields -/

/-- The fields that are written do not depend on the state. -/
theorem status_flds (s : State) : s.status.map (fun e => e.1) = statusFlds := by
  have one : ∀ (l : List Nat) (g : Nat → Fld × Nat), (l.foldr (fun n a => g n :: a) []).map (fun e => e.1) = l.map (fun n => (g n).1) := by
    intro l g; induction l with
    | nil => rfl
    | cons a t ih => simp only [List.foldr_cons, List.map_cons, ih]
  have two : ∀ (l : List Nat) (g h : Nat → Fld × Nat), (l.foldr (fun n a => g n :: h n :: a) []).map (fun e => e.1) =
      l.flatMap (fun n => [(g n).1, (h n).1]) := by
    intro l g h; induction l with
    | nil => rfl
    | cons a t ih => simp only [List.foldr_cons, List.map_cons, ih, List.flatMap_cons, List.cons_append, List.nil_append]
  simp only [statusFlds, State.status, State.statusHost, State.statusFault, State.statusPower, State.statusSet, List.map_append,
    List.map_cons, List.map_nil, List.foldr_cons, List.foldr_nil, one, two]

/-- Every status field lies within its word. -/
theorem statusFlds_ok : statusFlds.all Fld.ok = true := by decide +kernel

/-- Status fields are apart from each other. -/
theorem statusFlds_apart : statusFlds.Pairwise (fun f g => f.apart g = true) := by decide +kernel

/-- The field of a register map. -/
def RegFile.rdFld (l : RegFile) (f : Fld) : Nat := f.of (l.get f.off)

theorem State.rd_regs (s : State) (f : Fld) : s.rd f = s.regs.rdFld f := rfl

theorem RegFile.rd_putFld_same (l : RegFile) (f : Fld) (v : Nat) (h : f.ok = true) : (l.putFld f v).rdFld f = v % f.size := by
  rw [RegFile.rdFld, RegFile.putFld, RegFile.get_put_same, Fld.of_set_same f _ v h]

theorem RegFile.rd_putFld_apart (l : RegFile) {f g : Fld} (v : Nat) (hg : g.ok = true) (h : f.apart g = true) :
    (l.putFld g v).rdFld f = l.rdFld f := by
  simp only [Fld.apart, Bool.or_eq_true, decide_eq_true_eq, bne_iff_ne] at h
  unfold RegFile.rdFld RegFile.putFld
  by_cases ho : f.off = g.off
  · rw [ho, RegFile.get_put_same, Fld.of_set_apart f g _ _ hg (by tauto)]
  · rw [RegFile.get_put_other _ _ ho]

/-- A run of field writes: a field apart from them all stays. -/
theorem RegFile.rd_fold_apart (es : List (Fld × Nat)) (l : RegFile) {f : Fld} (hok : ∀ e ∈ es, e.1.ok = true)
    (h : ∀ e ∈ es, f.apart e.1 = true) : (es.foldl (fun l e => l.putFld e.1 e.2) l).rdFld f = l.rdFld f := by
  induction es generalizing l with
  | nil => rfl
  | cons e t ih =>
    rw [List.foldl_cons, ih _ (fun x hx => hok x (List.mem_cons_of_mem _ hx)) (fun x hx => h x (List.mem_cons_of_mem _ hx)),
      RegFile.rd_putFld_apart _ _ (hok e (by simp)) (h e (by simp))]

/-- A run of writes of fields apart from each other: every one of them reads its value. -/
theorem RegFile.rd_fold_mem (es : List (Fld × Nat)) (l : RegFile) (hok : ∀ e ∈ es, e.1.ok = true)
    (hp : (es.map (fun e => e.1)).Pairwise (fun f g => f.apart g = true)) {e : Fld × Nat} (he : e ∈ es) :
    (es.foldl (fun l e => l.putFld e.1 e.2) l).rdFld e.1 = e.2 % e.1.size := by
  induction es generalizing l with
  | nil => cases he
  | cons a t ih =>
    rw [List.map_cons, List.pairwise_cons] at hp
    rw [List.foldl_cons]
    rcases List.mem_cons.1 he with h | h
    · subst h
      rw [RegFile.rd_fold_apart t _ (fun x hx => hok x (List.mem_cons_of_mem _ hx))
        (fun x hx => hp.1 x.1 (List.mem_map_of_mem hx)), RegFile.rd_putFld_same _ _ _ (hok e (by simp))]
    · exact ih _ (fun x hx => hok x (List.mem_cons_of_mem _ hx)) hp.2 h

theorem State.status_ok (s : State) : ∀ e ∈ s.status, e.1.ok = true := by
  intro e he
  have h := statusFlds_ok
  rw [List.all_eq_true] at h
  exact h _ (by rw [← status_flds s]; exact List.mem_map_of_mem he)

/-- Showing the status fields leaves every other field. -/
theorem State.show_rd (s : State) {f : Fld} (h : f.plain = true) : s.show.rd f = s.rd f := by
  rw [State.rd_regs, State.show, RegFile.rd_fold_apart _ _ s.status_ok, State.rd_regs]
  intro e he
  rw [Fld.plain, List.all_eq_true] at h
  exact h _ (by rw [← status_flds s]; exact List.mem_map_of_mem he)

/-- Showing the status fields makes each show its value. -/
theorem State.show_rd_status (s : State) {e : Fld × Nat} (h : e ∈ s.status) : s.show.rd e.1 = e.2 % e.1.size := by
  rw [State.rd_regs, State.show, RegFile.rd_fold_mem _ _ s.status_ok (by rw [status_flds]; exact statusFlds_apart) h]

theorem State.show_wf (s : State) (h : s.regs.wf = true) : s.show.regs.wf = true := by
  unfold State.show
  generalize s.status = es
  show (es.foldl (fun l e => RegFile.putFld l e.1 e.2) s.regs).wf = true
  generalize s.regs = l at *
  induction es generalizing l with
  | nil => exact h
  | cons e t ih => exact ih _ (RegFile.put_wf _ _ _ h)

/-! ### Settling -/

@[simp] theorem State.alertPin_rd (s : State) (f : Fld) : s.alertPin.rd f = s.rd f := rfl
@[simp] theorem State.alertPin_on (s : State) (f : Fld) : s.alertPin.on f = s.on f := rfl

@[simp] theorem State.tidy_word (s : State) (o : Nat) : s.tidy.word o = s.word o := by simp [State.word, State.tidy]
@[simp] theorem State.tidy_rd (s : State) (f : Fld) : s.tidy.rd f = s.rd f := by simp [State.rd]
@[simp] theorem State.tidy_on (s : State) (f : Fld) : s.tidy.on f = s.on f := by simp [State.on]

/-- The end of a command leaves every field that is no status field. -/
theorem State.settle_rd (s : State) {f : Fld} (h : f.plain = true) : s.settle.rd f = s.rd f := by
  rw [State.settle, State.show_rd _ h, State.tidy_rd, State.alertPin_rd]

theorem State.settle_on (s : State) {f : Fld} (h : f.plain = true) : s.settle.on f = s.on f := by
  rw [State.on, State.settle_rd s h, State.on]

/-- Everything but registers, as settling leaves it. -/
theorem State.settle_eq (s : State) : s.settle = { s.alertPin.tidy with regs := s.settle.regs } := by
  rw [State.settle, State.show]

@[simp] theorem State.settle_hif (s : State) : s.settle.hif = s.hif := by rw [State.settle_eq, State.tidy, State.alertPin]
@[simp] theorem State.settle_pnt (s : State) : s.settle.pnt = s.pnt := by rw [State.settle_eq, State.tidy, State.alertPin]
@[simp] theorem State.settle_snap (s : State) : s.settle.snap = s.snap := by rw [State.settle_eq, State.tidy, State.alertPin]
@[simp] theorem State.settle_frm (s : State) : s.settle.frm = s.frm := by rw [State.settle_eq, State.tidy, State.alertPin]
@[simp] theorem State.settle_sense (s : State) : s.settle.sense = s.sense := by rw [State.settle_eq, State.tidy, State.alertPin]
@[simp] theorem State.settle_ef (s : State) : s.settle.ef = s.ef := by rw [State.settle_eq, State.tidy, State.alertPin]
@[simp] theorem State.settle_lt (s : State) : s.settle.lt = s.lt := by rw [State.settle_eq, State.tidy, State.alertPin]
@[simp] theorem State.settle_sl (s : State) : s.settle.sl = s.sl := by rw [State.settle_eq, State.tidy, State.alertPin]
@[simp] theorem State.settle_seq (s : State) : s.settle.seq = s.seq := by rw [State.settle_eq, State.tidy, State.alertPin]
@[simp] theorem State.settle_cap (s : State) : s.settle.cap = s.cap := by rw [State.settle_eq, State.tidy, State.alertPin]
@[simp] theorem State.settle_tl (s : State) : s.settle.tl = s.tl := by rw [State.settle_eq, State.tidy, State.alertPin]
@[simp] theorem State.settle_red (s : State) : s.settle.red = s.red := by rw [State.settle_eq, State.tidy, State.alertPin]
@[simp] theorem State.settle_fwu (s : State) : s.settle.fwu = s.fwu := by rw [State.settle_eq, State.tidy, State.alertPin]
@[simp] theorem State.settle_timers (s : State) : s.settle.timers = s.timers := by rw [State.settle_eq, State.tidy, State.alertPin]
@[simp] theorem State.settle_rbt (s : State) : s.settle.rbt = s.rbt := by rw [State.settle_eq, State.tidy, State.alertPin]
@[simp] theorem State.settle_pwr (s : State) : s.settle.pwr = s.pwr := by rw [State.settle_eq, State.tidy, State.alertPin]
@[simp] theorem State.settle_out (s : State) : s.settle.out = s.out := by rw [State.settle_eq, State.tidy, State.alertPin]
@[simp] theorem State.settle_free (s : State) : s.settle.free = s.free := by rw [State.settle_eq, State.tidy, State.alertPin]
@[simp] theorem State.settle_shadow (s : State) : s.settle.shadow = s.shadow.norm := by
  rw [State.settle_eq, State.tidy, State.alertPin]
@[simp] theorem State.settle_flt (s : State) : s.settle.flt = { s.flt with alertNew := false } := by
  rw [State.settle_eq, State.tidy, State.alertPin]
@[simp] theorem State.settle_onx (s : State) :
    s.settle.onx = { s.onx with mram := canonList s.onx.mram, archive := canonList s.onx.archive } := by
  rw [State.settle_eq, State.tidy, State.alertPin]
theorem State.settle_bus (s : State) :
    s.settle.bus = { s.bus with tgt := { s.bus.tgt with
      alertLow := s.on TW_TGT_CFG_AlertDrv && (s.bus.tgt.alertLow || s.flt.alertNew) } } := by
  rw [State.settle_eq, State.tidy, State.alertPin]
@[simp] theorem State.settle_win (s : State) : s.settle.bus.tgt.win = s.bus.tgt.win := by rw [State.settle_bus]
@[simp] theorem State.settle_staged (s : State) : s.settle.bus.tgt.staged = s.bus.tgt.staged := by rw [State.settle_bus]
@[simp] theorem State.settle_addressed (s : State) : s.settle.bus.tgt.addressed = s.bus.tgt.addressed := by rw [State.settle_bus]
/-- The buses as settling leaves them, the alert line apart. -/
theorem State.settle_bus_same (s : State) :
    s.settle.bus = { s.bus with tgt := { s.bus.tgt with alertLow := s.settle.bus.tgt.alertLow } } := by rw [State.settle_bus]
@[simp] theorem State.settle_tw (s : State) : s.settle.bus.tw = s.bus.tw := by rw [State.settle_bus]
@[simp] theorem State.settle_can (s : State) : s.settle.bus.can = s.bus.can := by rw [State.settle_bus]

theorem State.settle_wf (s : State) : s.settle.regs.wf = true := by
  rw [State.settle]; apply State.show_wf; rw [State.tidy]; exact RegFile.norm_wf _

theorem canonList_of_rising {β : Type} (l : List (Nat × β)) (h : rising l = true) : canonList l = l := by simp [canonList, h]

/-! ### The answer of a meaning -/

/-- What `done` answers, read field by field. -/
theorem answers_done (s x : State) (P : State → Prop) : Answers (done s x) P ↔ P (x.settle.requeue s.pending) := by
  constructor
  · rintro ⟨t, h, hp⟩
    cases h; exact hp
  · intro h; exact ⟨_, rfl, h⟩

/-! ### Everything a reading says, on the register map alone -/

theorem State.on_regs (s : State) (f : Fld) : s.on f = (s.regs.rdFld f != 0) := rfl

theorem State.settle_rdFld (s : State) {f : Fld} (h : f.plain = true) : s.settle.regs.rdFld f = s.regs.rdFld f := State.settle_rd s h

theorem RegFile.rd_put_apart (l : RegFile) {f : Fld} {o : Nat} (v : Word) (h : f.apart ⟨o, 31, 0⟩ = true) :
    (l.put o v).rdFld f = l.rdFld f := by
  simp only [Fld.apart, Bool.or_eq_true, decide_eq_true_eq, bne_iff_ne] at h
  rcases h with (h | h) | h
  · rw [RegFile.rdFld, RegFile.get_put_other _ _ h, RegFile.rdFld]
  · omega
  · have z : ∀ w : Word, f.of w = 0 := by
      intro w
      have : w.toNat < 2 ^ f.lo := lt_of_lt_of_le w.isLt (Nat.pow_le_pow_right (by decide) h)
      simp [Fld.of, bits, Nat.div_eq_of_lt this]
    simp only [RegFile.rdFld, z]

theorem RegFile.rd_put_same (l : RegFile) {f : Fld} {o : Nat} (v : Word) (h : f.off = o) : (l.put o v).rdFld f = f.of v := by
  rw [RegFile.rdFld, h, RegFile.get_put_same]

/-- A field of registers that agree at its offset. -/
theorem RegFile.rdFld_congr {l m : RegFile} {f : Fld} (h : l.get f.off = m.get f.off) : l.rdFld f = m.rdFld f := by
  rw [RegFile.rdFld, h, RegFile.rdFld]

end Sys2Proof.Machine
end

