-- ==== Sys2Proof/Laws/Ops.lean ====
section
/-!
SUPPORT. What the shared operations can do: a fault raise, a record request, an interrupt cause and an event, each with everything it
leaves as it was.
-/
namespace Sys2Proof.Machine

/-- A register outside the fault collector and the loss counter of the recorder. -/
def offFault (a : Nat) : Prop := (a < 0x5000 ∨ 0x6000 ≤ a) ∧ a ≠ ONX_LOST_CNT

/-- What a fault raise or a record request may change: the collector's registers and the loss counter, pending interrupts, the request
FIFO and its loss counts, the collector, and what is sent outside. -/
structure FaultSide (s t : State) : Prop where
  eq : t = { s with regs := t.regs, hif := { s.hif with vecs := t.hif.vecs, pba := t.hif.pba },
                    onx := { s.onx with fifo := t.onx.fifo, lostPend := t.onx.lostPend, lossSeen := t.onx.lossSeen },
                    flt := t.flt, out := t.out }
  word : ∀ a, offFault a → t.word a = s.word a

theorem FaultSide.refl (s : State) : FaultSide s s := ⟨rfl, fun _ _ => rfl⟩

theorem FaultSide.trans {s t u : State} (h : FaultSide s t) (k : FaultSide t u) : FaultSide s u := by
  refine ⟨?_, fun a ha => (k.word a ha).trans (h.word a ha)⟩
  rw [k.eq, h.eq]

theorem FaultSide.wr (s : State) (f : Fld) (v : Nat) (h : ¬ offFault f.off) : FaultSide s (s.wr f v) :=
  ⟨rfl, fun _ ha => State.word_wr_other s f v (fun e => h (e ▸ ha))⟩

theorem FaultSide.flt (s : State) (f : FltState) : FaultSide s { s with flt := f } := ⟨rfl, fun _ _ => rfl⟩

theorem FaultSide.when (s : State) (b : Bool) (g : State → State) (h : FaultSide s (g s)) : FaultSide s (s.when b g) := by
  cases b
  · exact FaultSide.refl s
  · exact h

theorem FaultSide.sendMsix (s : State) (v : Nat) : FaultSide s (s.sendMsix v) := by
  unfold State.sendMsix
  split
  · exact ⟨rfl, fun _ _ => rfl⟩
  · exact ⟨rfl, fun _ _ => rfl⟩

theorem FaultSide.cause (s : State) (c : Nat) : FaultSide s (s.cause c) := by
  unfold State.cause
  split
  · exact FaultSide.sendMsix s c
  · exact ⟨rfl, fun _ _ => rfl⟩

theorem FaultSide.requestRaw (s : State) (r : RecReq) : FaultSide s (s.requestRaw r) := by
  unfold State.requestRaw
  split
  · exact ⟨rfl, fun _ _ => rfl⟩
  · exact ⟨rfl, fun a ha => State.word_wr_other s _ _ ha.2⟩

/-- The registers a raise of an assigned source writes. -/
theorem fault_offs (src : Nat) (h : src < 256) :
    ¬ offFault (FLT_SRC_CNT src) ∧ ¬ offFault (FLT_GRP_STAT (src / 32)) := by
  simp only [offFault, FLT_SRC_CNT, FLT_GRP_STAT]
  omega

theorem FaultSide.raiseCount (s : State) (src syn : Nat) (h : src < 256) : FaultSide s (s.raiseCount src syn) :=
  (FaultSide.wr s _ _ (fault_offs src h).1).trans (FaultSide.wr _ _ _ (fault_offs src h).1)

theorem FaultSide.raiseMark (s : State) (src cls : Nat) (u : Bool) (h : src < 256) : FaultSide s (s.raiseMark src cls u) := by
  unfold State.raiseMark
  refine FaultSide.trans ?_ (FaultSide.when _ u _ ?_)
  · exact (FaultSide.wr s _ _ (fault_offs src h).2).trans (FaultSide.flt _ _)
  · exact FaultSide.wr _ FLT_ESC_CNT_Cnt _ (by simp [offFault, FLT_ESC_CNT_Cnt, FLT_ESC_CNT])

theorem FaultSide.raiseFirst (s : State) (src syn cls : Nat) (inj : Bool) : FaultSide s (s.raiseFirst src syn cls inj) := by
  have w (t : State) (f : Fld) (v : Nat) (hf : ¬ offFault f.off) (hs : FaultSide s t) : FaultSide s (t.wr f v) :=
    hs.trans (FaultSide.wr t f v hf)
  have first : ¬ offFault FLT_FIRST_SRC := by simp [offFault, FLT_FIRST_SRC]
  have frame : ¬ offFault FLT_FIRST_FRAME := by simp [offFault, FLT_FIRST_FRAME]
  have syno : ¬ offFault FLT_FIRST_SYN := by simp [offFault, FLT_FIRST_SYN]
  unfold State.raiseFirst
  split
  · exact FaultSide.wr _ _ _ (by simp [offFault, FLT_STAT, FLT_STAT_Ovf])
  · exact w _ _ _ syno (w _ _ _ frame (w _ _ _ first (w _ _ _ first (w _ _ _ first (w _ _ _ first (FaultSide.refl s))))))

theorem FaultSide.askBlock (s : State) (src syn : Nat) : FaultSide s (s.askBlock src syn) := by
  unfold State.askBlock
  split
  · exact FaultSide.flt _ _
  · exact FaultSide.refl s

theorem FaultSide.raiseReact (s : State) (src syn cls r : Nat) (u inj : Bool) : FaultSide s (s.raiseReact src syn cls r u inj) := by
  have k (t : State) (b : Bool) (g : State → State) (hg : FaultSide t (g t)) (hs : FaultSide s t) : FaultSide s (t.when b g) :=
    hs.trans (FaultSide.when t b g hg)
  unfold State.raiseReact
  refine k _ _ _ (FaultSide.requestRaw _ _) ?_
  refine k _ _ _ (FaultSide.flt _ _) ?_
  refine k _ _ _ (FaultSide.flt _ _) ?_
  refine k _ _ _ (FaultSide.askBlock _ _ _) ?_
  refine k _ _ _ (FaultSide.flt _ _) ?_
  refine k _ _ _ (FaultSide.flt _ _) ?_
  refine k _ _ _ (FaultSide.flt _ _) ?_
  exact k _ _ _ (FaultSide.cause _ _) (FaultSide.refl s)

theorem FaultSide.raiseCore (s : State) (src syn cls : Nat) (inj : Bool) (h : src < 256) :
    FaultSide s (s.raiseCore src syn cls inj) := by
  unfold State.raiseCore
  split
  · exact FaultSide.refl s
  · simp only
    split
    · exact FaultSide.raiseCount s src syn h
    · exact (((FaultSide.raiseCount s src syn h).trans (FaultSide.raiseMark _ _ _ _ h)).trans
        (FaultSide.raiseFirst _ _ _ _ _)).trans (FaultSide.raiseReact _ _ _ _ _ _ _)

theorem FaultSide.noteLoss (s : State) : FaultSide s s.noteLoss := by
  unfold State.noteLoss
  split
  · exact (show FaultSide s { s with onx := { s.onx with lossSeen := true } } from ⟨rfl, fun _ _ => rfl⟩).trans
      (FaultSide.raiseCore _ _ _ _ _ (by decide))
  · exact FaultSide.refl s

/-- Everything a raise can do. -/
theorem FaultSide.raise (s : State) (src syn : Nat) (h : src < 256) : FaultSide s (s.raise src syn) :=
  (FaultSide.raiseCore s src _ _ _ h).trans (FaultSide.noteLoss _)

theorem FaultSide.raiseForced (s : State) (src syn cls : Nat) (h : src < 256) : FaultSide s (s.raiseForced src syn cls) :=
  (FaultSide.raiseCore s src _ _ _ h).trans (FaultSide.noteLoss _)

/-- Everything a record request can do. -/
theorem FaultSide.request (s : State) (code source p0 p1 p2 : Nat) : FaultSide s (s.request code source p0 p1 p2) :=
  (FaultSide.requestRaw s _).trans (FaultSide.noteLoss _)

theorem FaultSide.requestShelf (s : State) (code source p0 p1 p2 : Nat) : FaultSide s (s.requestShelf code source p0 p1 p2) :=
  (FaultSide.requestRaw s _).trans (FaultSide.noteLoss _)

/-- A field outside the collector reads as before. -/
theorem FaultSide.rd {s t : State} (h : FaultSide s t) {f : Fld} (hf : offFault f.off) : t.rd f = s.rd f := by
  rw [State.rd, h.word _ hf, State.rd]

theorem FaultSide.on {s t : State} (h : FaultSide s t) {f : Fld} (hf : offFault f.off) : t.on f = s.on f := by
  rw [State.on, h.rd hf, State.on]

/-! ### Interrupt causes -/

/-- A message of a vector, or its pending bit: nothing beside the host interface and what is sent. -/
theorem State.sendMsix_eq (s : State) (v : Nat) : s.sendMsix v = { s with hif := (s.sendMsix v).hif, out := (s.sendMsix v).out } := by
  unfold State.sendMsix
  split <;> rfl

/-- An interrupt cause: nothing beside the host interface and what is sent. -/
theorem State.cause_eq (s : State) (c : Nat) : s.cause c = { s with hif := (s.cause c).hif, out := (s.cause c).out } := by
  unfold State.cause
  split
  · exact State.sendMsix_eq s c
  · rfl

@[simp] theorem State.sendMsix_pending (s : State) (v : Nat) : (s.sendMsix v).pending = s.pending := by rw [State.sendMsix_eq]
@[simp] theorem State.sendMsix_regs (s : State) (v : Nat) : (s.sendMsix v).regs = s.regs := by rw [State.sendMsix_eq]
@[simp] theorem State.sendMsix_shadow (s : State) (v : Nat) : (s.sendMsix v).shadow = s.shadow := by rw [State.sendMsix_eq]
@[simp] theorem State.sendMsix_snap (s : State) (v : Nat) : (s.sendMsix v).snap = s.snap := by rw [State.sendMsix_eq]
@[simp] theorem State.sendMsix_pnt (s : State) (v : Nat) : (s.sendMsix v).pnt = s.pnt := by rw [State.sendMsix_eq]
@[simp] theorem State.sendMsix_onx (s : State) (v : Nat) : (s.sendMsix v).onx = s.onx := by rw [State.sendMsix_eq]
@[simp] theorem State.sendMsix_flt (s : State) (v : Nat) : (s.sendMsix v).flt = s.flt := by rw [State.sendMsix_eq]
@[simp] theorem State.sendMsix_frm (s : State) (v : Nat) : (s.sendMsix v).frm = s.frm := by rw [State.sendMsix_eq]
@[simp] theorem State.sendMsix_sense (s : State) (v : Nat) : (s.sendMsix v).sense = s.sense := by rw [State.sendMsix_eq]
@[simp] theorem State.sendMsix_ef (s : State) (v : Nat) : (s.sendMsix v).ef = s.ef := by rw [State.sendMsix_eq]
@[simp] theorem State.sendMsix_lt (s : State) (v : Nat) : (s.sendMsix v).lt = s.lt := by rw [State.sendMsix_eq]
@[simp] theorem State.sendMsix_sl (s : State) (v : Nat) : (s.sendMsix v).sl = s.sl := by rw [State.sendMsix_eq]
@[simp] theorem State.sendMsix_seq (s : State) (v : Nat) : (s.sendMsix v).seq = s.seq := by rw [State.sendMsix_eq]
@[simp] theorem State.sendMsix_cap (s : State) (v : Nat) : (s.sendMsix v).cap = s.cap := by rw [State.sendMsix_eq]
@[simp] theorem State.sendMsix_bus (s : State) (v : Nat) : (s.sendMsix v).bus = s.bus := by rw [State.sendMsix_eq]
@[simp] theorem State.sendMsix_tl (s : State) (v : Nat) : (s.sendMsix v).tl = s.tl := by rw [State.sendMsix_eq]
@[simp] theorem State.sendMsix_red (s : State) (v : Nat) : (s.sendMsix v).red = s.red := by rw [State.sendMsix_eq]
@[simp] theorem State.sendMsix_fwu (s : State) (v : Nat) : (s.sendMsix v).fwu = s.fwu := by rw [State.sendMsix_eq]
@[simp] theorem State.sendMsix_timers (s : State) (v : Nat) : (s.sendMsix v).timers = s.timers := by rw [State.sendMsix_eq]
@[simp] theorem State.sendMsix_rbt (s : State) (v : Nat) : (s.sendMsix v).rbt = s.rbt := by rw [State.sendMsix_eq]
@[simp] theorem State.sendMsix_pwr (s : State) (v : Nat) : (s.sendMsix v).pwr = s.pwr := by rw [State.sendMsix_eq]
@[simp] theorem State.sendMsix_free (s : State) (v : Nat) : (s.sendMsix v).free = s.free := by rw [State.sendMsix_eq]

@[simp] theorem State.cause_pending (s : State) (c : Nat) : (s.cause c).pending = s.pending := by rw [State.cause_eq]
@[simp] theorem State.cause_regs (s : State) (c : Nat) : (s.cause c).regs = s.regs := by rw [State.cause_eq]
@[simp] theorem State.cause_shadow (s : State) (c : Nat) : (s.cause c).shadow = s.shadow := by rw [State.cause_eq]
@[simp] theorem State.cause_snap (s : State) (c : Nat) : (s.cause c).snap = s.snap := by rw [State.cause_eq]
@[simp] theorem State.cause_pnt (s : State) (c : Nat) : (s.cause c).pnt = s.pnt := by rw [State.cause_eq]
@[simp] theorem State.cause_onx (s : State) (c : Nat) : (s.cause c).onx = s.onx := by rw [State.cause_eq]
@[simp] theorem State.cause_flt (s : State) (c : Nat) : (s.cause c).flt = s.flt := by rw [State.cause_eq]
@[simp] theorem State.cause_frm (s : State) (c : Nat) : (s.cause c).frm = s.frm := by rw [State.cause_eq]
@[simp] theorem State.cause_sense (s : State) (c : Nat) : (s.cause c).sense = s.sense := by rw [State.cause_eq]
@[simp] theorem State.cause_ef (s : State) (c : Nat) : (s.cause c).ef = s.ef := by rw [State.cause_eq]
@[simp] theorem State.cause_lt (s : State) (c : Nat) : (s.cause c).lt = s.lt := by rw [State.cause_eq]
@[simp] theorem State.cause_sl (s : State) (c : Nat) : (s.cause c).sl = s.sl := by rw [State.cause_eq]
@[simp] theorem State.cause_seq (s : State) (c : Nat) : (s.cause c).seq = s.seq := by rw [State.cause_eq]
@[simp] theorem State.cause_cap (s : State) (c : Nat) : (s.cause c).cap = s.cap := by rw [State.cause_eq]
@[simp] theorem State.cause_bus (s : State) (c : Nat) : (s.cause c).bus = s.bus := by rw [State.cause_eq]
@[simp] theorem State.cause_tl (s : State) (c : Nat) : (s.cause c).tl = s.tl := by rw [State.cause_eq]
@[simp] theorem State.cause_red (s : State) (c : Nat) : (s.cause c).red = s.red := by rw [State.cause_eq]
@[simp] theorem State.cause_fwu (s : State) (c : Nat) : (s.cause c).fwu = s.fwu := by rw [State.cause_eq]
@[simp] theorem State.cause_timers (s : State) (c : Nat) : (s.cause c).timers = s.timers := by rw [State.cause_eq]
@[simp] theorem State.cause_rbt (s : State) (c : Nat) : (s.cause c).rbt = s.rbt := by rw [State.cause_eq]
@[simp] theorem State.cause_pwr (s : State) (c : Nat) : (s.cause c).pwr = s.pwr := by rw [State.cause_eq]
@[simp] theorem State.cause_free (s : State) (c : Nat) : (s.cause c).free = s.free := by rw [State.cause_eq]

/-! ### The parts of the state a raise or a request never reaches -/

theorem FaultSide.pending {s t : State} (h : FaultSide s t) : t.pending = s.pending := by rw [h.eq]
theorem FaultSide.shadow {s t : State} (h : FaultSide s t) : t.shadow = s.shadow := by rw [h.eq]
theorem FaultSide.snap {s t : State} (h : FaultSide s t) : t.snap = s.snap := by rw [h.eq]
theorem FaultSide.pnt {s t : State} (h : FaultSide s t) : t.pnt = s.pnt := by rw [h.eq]
theorem FaultSide.frm {s t : State} (h : FaultSide s t) : t.frm = s.frm := by rw [h.eq]
theorem FaultSide.sense {s t : State} (h : FaultSide s t) : t.sense = s.sense := by rw [h.eq]
theorem FaultSide.ef {s t : State} (h : FaultSide s t) : t.ef = s.ef := by rw [h.eq]
theorem FaultSide.lt {s t : State} (h : FaultSide s t) : t.lt = s.lt := by rw [h.eq]
theorem FaultSide.sl {s t : State} (h : FaultSide s t) : t.sl = s.sl := by rw [h.eq]
theorem FaultSide.seq {s t : State} (h : FaultSide s t) : t.seq = s.seq := by rw [h.eq]
theorem FaultSide.cap {s t : State} (h : FaultSide s t) : t.cap = s.cap := by rw [h.eq]
theorem FaultSide.bus {s t : State} (h : FaultSide s t) : t.bus = s.bus := by rw [h.eq]
theorem FaultSide.tl {s t : State} (h : FaultSide s t) : t.tl = s.tl := by rw [h.eq]
theorem FaultSide.red {s t : State} (h : FaultSide s t) : t.red = s.red := by rw [h.eq]
theorem FaultSide.fwu {s t : State} (h : FaultSide s t) : t.fwu = s.fwu := by rw [h.eq]
theorem FaultSide.timers {s t : State} (h : FaultSide s t) : t.timers = s.timers := by rw [h.eq]
theorem FaultSide.rbt {s t : State} (h : FaultSide s t) : t.rbt = s.rbt := by rw [h.eq]
theorem FaultSide.pwr {s t : State} (h : FaultSide s t) : t.pwr = s.pwr := by rw [h.eq]
theorem FaultSide.free {s t : State} (h : FaultSide s t) : t.free = s.free := by rw [h.eq]

/-! ### Frames -/

@[simp] theorem State.requeue_settle_rd (s : State) (q : List Instr) (f : Fld) : (s.settle.requeue q).rd f = s.settle.rd f := by rfl

theorem FaultSide.irq_rings {s t : State} (h : FaultSide s t) : t.hif = { s.hif with vecs := t.hif.vecs, pba := t.hif.pba } := by
  rw [h.eq]

theorem FaultSide.onx {s t : State} (h : FaultSide s t) :
    t.onx = { s.onx with fifo := t.onx.fifo, lostPend := t.onx.lostPend, lossSeen := t.onx.lossSeen } := by
  rw [h.eq]

/-- A raise or a request after changes with a frame has that frame, and may reach what raises reach. -/
theorem FaultSide.frame {s u x : State} {q : List Instr} {fs : List Fld} {ps : List Part} (h : FaultSide u x)
    (hk : Frame s (u.settle.requeue q) fs ps) : FrameFault s (x.settle.requeue q) fs ps := by
  refine ⟨fun f hf ha h1 h2 => ?_, fun p hp hq => ?_⟩
  · have := hk.1 f hf ha
    rw [State.requeue_settle_rd, State.settle_rd _ hf] at this ⊢
    rw [h.rd ⟨h1, h2⟩, this]
  · have k := hk.2 p hp
    cases p
    case irq => simp at hq
    case requests => simp at hq
    case flt => simp at hq
    case out => simp at hq
    case rings =>
      simp only [Part.same, State.requeue_hif, State.settle_hif] at k ⊢
      rw [h.irq_rings, k]
    case records =>
      simp only [Part.same, State.requeue_onx, State.settle_onx] at k ⊢
      rw [h.onx]
      have k1 : canonList u.onx.mram = canonList s.onx.mram := congrArg OnyxState.mram k
      have k2 : canonList u.onx.archive = canonList s.onx.archive := congrArg OnyxState.archive k
      have k3 := k
      simp only [OnyxState.mk.injEq] at k3 ⊢
      simp_all
    case bus =>
      simp only [Part.same, State.requeue_bus, State.settle_tw, State.settle_can, State.settle_addressed, State.settle_win,
        State.settle_staged] at k ⊢
      rw [h.bus]; exact k
    case shadow =>
      simp only [Part.same, State.requeue_shadow, State.settle_shadow] at k ⊢
      rw [h.shadow, k]
    all_goals (simp [Part.same] at k ⊢)
    case snap => rw [h.snap, k]
    case pnt => rw [h.pnt, k]
    case frm => rw [h.frm, k]
    case sense => rw [h.sense, k]
    case ef => rw [h.ef, k]
    case lt => rw [h.lt, k]
    case sl => rw [h.sl, k]
    case seq => rw [h.seq, k]
    case cap => rw [h.cap, k]
    case tl => rw [h.tl, k]
    case red => rw [h.red, k]
    case fwu => rw [h.fwu, k]
    case timers => rw [h.timers, k]
    case rbt => rw [h.rbt, k]
    case pwr => rw [h.pwr, k]
    case free => rw [h.free, k]

end Sys2Proof.Machine
end

