-- ==== Sys2Proof/WellFormed.lean ====
section
/-!
DEFINITION. The commands whose operands have the form the outside world can give them: the lengths of byte strings and lists, word
alignment, identifiers in range. Every other bound is in the operand's type. The meanings are total, and the step runs every command.
-/
namespace Sys2Proof

/-- Payload bytes of a received message: a message carries 48 (R378). -/
def payloadOk (p : List Byte) : Bool := p.length == 48

/-- The bytes a DMA read returned: none when it failed, else as many as were asked for. -/
def readOk (n : Nat) (b : Option (List Byte)) : Bool := match b with | some l => l.length == n | none => true

/-- Whole 64-byte descriptors, at least one (R301). -/
def descriptorsOk (b : Option (List Byte)) : Bool := match b with | some l => l.length % 64 == 0 && l.length != 0 | none => true

/-- The replies of a directory resolution: 16-byte descriptors and entries (R336). -/
def replyOk (r : DirReply) : Bool := (!r.descOk || r.desc.length == 16) && (!r.entryOk || r.entry.length == 16)

/-- Settings of a configuration set: word offsets. -/
def settingsOk (l : List (BitVec 21 × BitVec 32)) : Bool := l.all (fun e => e.1.toNat % 4 == 0)

/-- Bytes that a CAN data length code names (R364). -/
def canBytes (dlc : Nat) : Nat := if dlc ≤ 8 then dlc else [12, 16, 20, 24, 32, 48, 64].getD (dlc - 9) 64

/-- A received CAN frame: its bytes are those of its code, a classical frame has at most 8, a base identifier 11 bits (R368). -/
def canFrameOk (ide : Bool) (id : BitVec 29) (fd : Bool) (dlc : Fin 16) (data : List Byte) : Bool :=
  decide (data.length = canBytes (if fd then dlc.val else min 8 dlc.val)) && (ide || decide (id.toNat < 2 ^ 11))

/-- A use of a controller: CAN has no refresh read, readback or update transaction (R327, R369, R452). -/
def canUseOk (u : BusUse) : Bool := match u with | .cmd _ | .member _ _ | .rail _ => true | _ => false

/-- A message passed on by a device: a type of 8 bits and a payload of 48 bytes (R378). -/
def bodyOk (b : LinkBody) : Bool := match b with | .bytes t p => decide (t < 256) && payloadOk p | _ => true

/-- The well-formed commands. -/
def Instr.wellFormed (i : Instr) : Bool :=
  match i with
  | .registerWrite o _ _ => o.toNat % 4 == 0
  | .hello _ p | .heartbeat _ p | .surrender _ p | .throttle _ p | .mirror _ p | .subscribe _ p | .subNack _ p | .fwd _ p
  | .pwrite _ p | .pwriteAck _ p | .updMan _ p | .updData _ p | .updAck _ p | .updPrepare _ p | .updReady _ p | .updCommit _ p
  | .updDone _ p | .updRevert _ p | .updConfirm _ p => payloadOk p
  | .take _ l => decide (l.length ≤ 12)
  | .feedReport _ l => decide (l.length ≤ 8)
  | .descriptorFetch _ d => descriptorsOk d
  | .directoryResolve _ r => replyOk r
  | .onyxClear _ t => readOk 232 t
  | .lockOp t => readOk 232 t
  | .provision _ k => readOk 97 k
  | .canReceive _ ide id fd dlc data => canFrameOk ide id fd dlc data
  | .canFrameStart _ u _ => canUseOk u
  | .coreRestartEnd l => settingsOk l
  | .updPartVerify _ l => settingsOk l
  | .logicResetRelease _ (some b) => settingsOk b.settings
  | .roleTake l => decide (l.length ≤ 4)
  | .tlTransitForward _ b => bodyOk b
  | _ => true

end Sys2Proof
end

