-- ==== Sys2Proof/Tests/Slice0.lean ====
section
/-!
SUPPORT. Tests: for every statement a witness of the hypotheses of each of its clauses, at boundary values of the operands; an ill-formed
term for each check of WellFormed; and small checks of expected values taken from the spec's tables and examples.
-/
namespace Sys2Proof.Tests
set_option Elab.async false
open Sys2Proof Sys2Proof.Machine

/-! ### Helpers -/

/-- The value of an option that has one. -/
def the {α : Type} [Inhabited α] (o : Option α) : α := o.getD default

/-- A small state: every register at its reset value but for the listed fields. -/
def st (l : List (Fld × Nat)) (f : State → State := id) : State := f (l.foldl (fun s e => s.wr e.1 e.2) {})

/-- A payload of 40 bytes. -/
def pl (l : List (Nat × Nat)) : List Byte :=
  (List.range 40).map (fun i => BitVec.ofNat 8 ((assoc l i).getD 0))

/-- A command in flight. -/
def cm (op : Nat) (point : Nat := 0) (p : List Byte := pl []) : Cmd := { opcode := op, point := point, payload := p }

/-- A command in flight, added. -/
def fly (c : Cmd) (s : State) : State := { s with hif := { s.hif with cmds := s.hif.cmds ++ [c] } }

/-- The tests of LinkTaken, evaluated. -/
def linkTakenTest (s : State) (h : LinkHdr) : Bool :=
  s.portUp h.port && h.src.val != s.me && s.on (TL_GEN_SEEN_Valid h.src) && s.rd (TL_GEN_SEEN_Gen h.src) == h.gen.toNat &&
  (!h.bcast || (assoc s.tl.rxBcast h.src).all (fun n => seqAfter n h.seq.toNat)) &&
  (h.bcast || (h.dest.val == s.me && (s.redState != 3 || h.src.val != s.peerPos || s.red.takeSeq.all (fun n => (n + 1) % 2 ^ 32 == h.seq.toNat))))

theorem linkTaken_of {s : State} {h : LinkHdr} (e : linkTakenTest s h = true) : LinkTaken s h := by
  unfold linkTakenTest at e
  simp only [Bool.and_eq_true, Bool.or_eq_true, Bool.not_eq_true', beq_iff_eq, bne_iff_ne, Option.all_eq_true] at e
  obtain ⟨⟨⟨⟨⟨a, b⟩, c⟩, d⟩, f⟩, g⟩ := e
  refine ⟨a, b, c, d, fun hb n hn => ?_, fun hb => ?_⟩
  · rcases f with f | f
    · rw [hb] at f; cases f
    · exact f n hn
  · rcases g with g | g
    · rw [hb] at g; cases g
    · refine ⟨g.1, fun h3 hp n hn => ?_⟩
      rcases g.2 with (g | g) | g
      · exact absurd h3 g
      · exact absurd hp g
      · exact g n hn

/-- The tests of XferOn and of CanXferOn, evaluated. -/
def xferTest (s : State) (p : Nat) (c : Cmd) : Bool :=
  (s.twp p).run.any (fun r => r.preset == none && r.page == false && r.orphan == false &&
    (List.finRange 256).any (fun t => decide (r.use = .cmd t) && s.findCmd t.val == some c) && c.opcode == 0x20)

theorem xferOn_of {s : State} {p : Nat} {c : Cmd} (h : xferTest s p c = true) : XferOn s p c := by
  simp only [xferTest, Option.any_eq_true, Bool.and_eq_true, beq_iff_eq, List.any_eq_true, decide_eq_true_eq] at h
  obtain ⟨r, hr, ⟨⟨⟨a, b⟩, d⟩, t, -, e, f⟩, g⟩ := h
  exact ⟨r, t, hr, a, b, d, e, f, g⟩

def canXferTest (s : State) (k : Nat) (c : Cmd) : Bool :=
  (s.canc k).run.any (fun r => r.preset == none && r.orphan == false &&
    (List.finRange 256).any (fun t => decide (r.use = .cmd t) && s.findCmd t.val == some c) && c.opcode == 0x21)

theorem canXferOn_of {s : State} {k : Nat} {c : Cmd} (h : canXferTest s k c = true) : CanXferOn s k c := by
  simp only [canXferTest, Option.any_eq_true, Bool.and_eq_true, beq_iff_eq, List.any_eq_true, decide_eq_true_eq] at h
  obtain ⟨r, hr, ⟨⟨a, b⟩, t, -, e, f⟩, g⟩ := h
  exact ⟨r, t, hr, a, b, e, f, g⟩

/-! ### Sealed byte strings -/

theorem foldl_lt {α : Type} {f : Nat → α → Nat} (hf : ∀ c x, c < 2 ^ 32 → f c x < 2 ^ 32) :
    ∀ (l : List α) (c : Nat), c < 2 ^ 32 → l.foldl f c < 2 ^ 32
  | [], _, h => h
  | x :: l, c, h => foldl_lt hf l (f c x) (hf c x h)

theorem crc32c_lt (l : List Byte) : crc32c l < 2 ^ 32 := by
  refine Nat.xor_lt_two_pow (foldl_lt (fun c b h => foldl_lt (fun c _ h => ?_) _ _ (Nat.xor_lt_two_pow h (Nat.lt_trans b.isLt (by decide)))) _ _
    (by decide)) (by decide)
  unfold crc32cBit
  split
  · exact Nat.xor_lt_two_pow (by omega) (by decide)
  · omega

theorem leNat_leBytes {n : Nat} (h : n < 2 ^ 32) : leNat (leBytes 4 n) = n := by
  simp only [leBytes, leNat, BitVec.toNat_ofNat]
  omega

theorem crcGood_append (l : List Byte) {n : Nat} (h : n < 2 ^ 32) : crcGood (l ++ leBytes 4 n) = decide (crc32c l = n) := by
  have e : (l ++ leBytes 4 n).length - 4 = l.length := by simp [leBytes]
  have k : 4 ≤ (l ++ leBytes 4 n).length := by simp [leBytes]
  simp only [crcGood, e, List.take_left', List.drop_left', leNat_leBytes h, k, decide_true, Bool.true_and]

theorem crcGood_seal (l : List Byte) : crcGood (sealCrc l) = true := by
  simp [sealCrc, crcGood_append _ (crc32c_lt l)]

theorem crcGood_bad (l : List Byte) : crcGood (l ++ leBytes 4 ((crc32c l + 1) % 2 ^ 32)) = false := by
  rw [crcGood_append _ (Nat.mod_lt _ (by decide)), decide_eq_false_iff_not]
  have := crc32c_lt l
  omega

theorem sealCrc_length (l : List Byte) : (sealCrc l).length = l.length + 4 := by simp [sealCrc, leBytes]
/-! ### States and operands of the witnesses -/

def ca1 : State := st []
def ca2 : State := st [(FRM_STAT_Compiling, 1)] (fun s => { s with snap := some [] })
def bad1 : Bad := (firstBad (ca2.tabulate (ca2.trial [(LT_CFG 23, 1)]) [] 0).bads).getD {}
def ca4 : State := st [(FRM_COMPILE_STAT_Result, 0)] (fun s => { s with frm := { s.frm with compiled := some {} } })
def fl1 : State := st [(FRM_STAT_SyncSrc, 1)] (fun s => { s with frm := { s.frm with lockRun := 64, setDelta := 7 } })
def fl5 : State := st [(TL_CFG_En, 1), (FRM_STAT_TimingMaster, 1), (GLB_STAT_Pos, 3)] (fun s => { s with tl := { s.tl with noMarker := 3 } })
def fl6 : State := st [(TL_CFG_En, 1), (FRM_STAT_Holdover, 1), (FRM_STAT_SyncSrc, 2)] (fun s => { s with frm := { s.frm with markers := 3 } })
def fl7 : State := st [(FRM_STAT_SyncSrc, 3), (FRM_STAT_Locked, 1)] (fun s => { s with frm := { s.frm with markers := 2 } })
def fl8 : State := st [(TL_CFG_En, 1), (FRM_STAT_Holdover, 1)] (fun s => { s with tl := { s.tl with noMarker := 4 } })
def fc1 : State := st [(FRM_FRAME_CNT_LO_Lo, 7)] (fun s => { s with pwr := { s.pwr with phase := .booted } })
def fc2 : State := st [(GLB_STAT_Running, 1), (GLB_STAT_CfgValid, 1), (FRM_FRAME_CNT_LO_Lo, 2 ^ 32 - 1), (FRM_FRAME_CNT_HI_Hi, 2 ^
  32 - 1)] (fun s => { s with pwr := { s.pwr with phase := .running } })
def regSpec1 : RegSpec := ((regAt GLB_SCRATCH).map (·.1)).getD (allRegs.head (by decide))
def rw1 : State := st []
def regSpec2 : RegSpec := ((regAt (LT_CFG 23)).map (·.1)).getD (allRegs.head (by decide))
def dr1 : State := st []
def dr2 : State := st [] (fun s => { s with pwr := { s.pwr with lockSet := true } })
def dr3 : State := st [(DBG_LOCK_Lock, 1)]
def tr1 : State := st [(TW_TGT_CFG_En, 1)] (fun s => { s with bus := { s.bus with tgt := { addressed := true, win := 0x1234, staged := some 7 } } })
def tr2 : State := st []
def tw1 : State := st [(TW_TGT_CFG_En, 1)] (fun s => { s with pwr := { s.pwr with phase := .running } })
def tw2 : State := st [(TW_TGT_CFG_En, 1), (TW_TGT_CFG_WinRd, 1), (TW_TGT_CFG_WinWr, 1), (TW_TGT_STAT_Cml, 0x80)] (fun s => { s with pwr := { s.pwr with phase := .running }, bus := { s.bus with tgt := { addressed := true, win := GLB_SCRATCH / 4, staged := none } } })
def tw4 : State := st [(TW_TGT_CFG_En, 1), (TW_TGT_CFG_PecReq, 1), (TW_TGT_CFG_AlertDrv, 1)] (fun s => { s with bus := { s.bus with tgt := { addressed := true, win := 3, staged := some 0, alertLow := true } } })
def tw3 : State := st [(TW_TGT_CFG_En, 1), (TW_TGT_CFG_WinRd, 1), (TW_TGT_CFG_WinWr, 1), (GLB_SCRATCH_Scratch, 0x12345678)] (fun s
  => { s with pwr := { s.pwr with phase := .running }, bus := { s.bus with tgt := { addressed := true, win := GLB_SCRATCH / 4, staged := some 0xFFFF } } })
def tx1 : State := st [] (fly (cm 0x20 0 (pl [(0, 11), (2, 12)])))
def tx2 : State := st [] (fly (cm 0x20 0 (pl [(0, 11), (2, 5), (6, 1)])))
def tx3 : State := st [(TW_PORT_CTL_En 11, 1), (TW_PORT_STAT_Ready 11, 1)] (fly (cm 0x20 0 (pl [(0, 11), (2, 5), (6, 1)])))
def tx4 : State := st [(TW_PORT_CTL_En 11, 1), (TW_PORT_STAT_Ready 11, 1)] (fly { cm 0x20 0 (pl [(0, 11), (2, 5), (6, 1)]) with begun := true })
def tx5 : State := st [(TW_PORT_CTL_En 11, 1), (TW_PORT_STAT_Ready 11, 1), (TW_PORT_STAT_BusBusy 11, 1)] (fun s => (fly { cm 0x20 0 (pl [(0, 11), (2, 5), (6, 1)]) with begun := true, commit := true }
  s).modTw 11 (fun q => { q with run := some { use := .cmd 0 } }))
def cmd2 : Cmd := { cm 0x20 0 (pl [(0, 11), (2, 5), (6, 1)]) with begun := true, commit := true }
def tp1 : State := st []
def tp2 : State := st [(TW_PORT_CTL_En 11, 1)]
def tp3 : State := st [(TW_PORT_CTL_En 11, 1), (TW_PORT_STAT_Clearing 11, 1)]
def tp4 : State := st [(TW_PORT_CTL_En 11, 1), (TW_PORT_STAT_Ready 11, 0)] (fun s => s.modTw 11 (fun q => { q with sclHeld := true }))
def tp5 : State := st [(TW_PORT_CTL_En 11, 1), (TW_PORT_CFG_AlertEn 11, 1), (TW_PORT_ARA_AraEn 11, 1), (TW_PORT_STAT_Alert 11, 1),
  (TW_PORT_STAT_Ready 11, 1)] (fun s => s.modTw 11 (fun q => { q with log := [1, 2, 3, 4, 5, 6, 7] }))
def cc1 : State := st [] (fly (cm 0x21 0 (pl [(0, 3), (2, 9)])))
def cc2 : State := st [] (fly (cm 0x21 0 (pl [(0, 3), (2, 8)])))
def cc3 : State := st [(CAN_CTL_En 3, 1)] (fly (cm 0x21 0 (pl [(0, 3), (2, 8)])))
def cc4 : State := st [(CAN_CTL_En 3, 1), (CAN_STAT_Idle 3, 1)] (fly { cm 0x21 0 (pl [(0, 3), (2, 8)]) with begun := true })
def busRun1 : BusRun := { use := .cmd 0 }
def cc5 : State := st [(CAN_CTL_En 3, 1), (CAN_CFG_Retry 3, 3)] (fun s => (fly { cm 0x21 0 (pl [(0, 3), (2, 8)]) with begun := true, commit := true }
  s).modCan 3 (fun q => { q with run := some { use := .cmd 0 } }))
def cmd1 : Cmd := { cm 0x21 0 (pl [(0, 3), (2, 8)]) with begun := true, commit := true }
def cc6 : State := st [(CAN_CTL_En 3, 1), (CAN_FLT_ID_En 3 31, 1), (CAN_FLT_ID_Id 3 31, 0x7FF), (CAN_FLT_MASK_Mask 3 31, 0x7FF)]
  (fun s => s.modCan 3 (fun q => { q with taken := 63 }))
def cc7 : State := st [(CAN_CTL_En 3, 1), (CAN_FLT_ID_En 3 31, 1)] (fun s => s.modCan 3 (fun q => { q with taken := 64 }))
def cc10 : State := st [(CAN_CTL_En 3, 1), (CAN_STAT_ErrState 3, 0)]
def cc8 : State := st [(CAN_STAT_ErrState 3, 2), (CAN_CFG_AutoRecover 3, 1), (CAN_ERR_CNT_Tec 3, 255)]
def cc9 : State := st [(CAN_STAT_ErrState 3, 2), (CAN_CFG_XcvrEn 3, 1)] (fun s => s.modCan 3 (fun q => { q with recover := true }))
def cv1 : State := st []
def cv2 : State := st [(AFE_FC_CFG_En 23, 1), (AFE_TM_CFG_En 255, 1), (AFE_TM_CFG_SrcType 255, 0), (AFE_TM_CFG_Src 255, 23 + 32 *
  7), (AFE_TM_GAIN_Gain 255, 256)] (fun s => { s with sense := { s.sense with fcPlan := [(23, 199, 7)] } })
def cv3 : State := st [(AFE_CTL_McEn, 1)] (fun s => { s with sense := { s.sense with applied := true } })
def cv4 : State := st [(AFE_CTL_McEn, 1), (AFE_ST_CFG_RbEn, 1), (CMP_CFG_StEn 63, 1), (CMP_THR_Hi 63, 5), (AFE_ST_CFG_DacTol, 3)]
  (fun s => { s with sense := { s.sense with applied := true } })
def cp1 : State := st []
def cp3 : State := st [(CMP_CFG_HiEn 63, 1), (CMP_RAW_Raw 1, 2 ^ 31)] (fun s => s.modCmp 63 (fun c => { c with blank := true }))
def cp2 : State := st [(CMP_CFG_HiEn 63, 1), (CMP_CFG_LoEn 63, 1)]
def cp4 : State := st [] (fun s => s.modCmp 63 (fun c => { c with blank := true }))
def cp5 : State := st [(AFE_ST_CFG_SwEn, 1), (CMP_CFG_StEn 63, 1), (CMP_BLANK_BlankEn 63, 1), (CMP_BLANK_Len 63, 96)] (fun s =>
  s.modCmp 63 (fun c => { c with blank := true }))
def cp6 : State := st [(CMP_THR_Lo 63, 8), (CMP_THR_Hi 63, 1015)] (fun s => s.modCmp 63 (fun c => { c with blank := true, tieNext := true }))
def cp7 : State := st [(AFE_ST_CFG_MaxAge, 0), (CMP_CFG_StEn 63, 1), (FRM_FRAME_CNT_LO_Lo, 10000), (AFE_ST_COV1_Cov, 2 ^ 31)]
def pp1 : State := st []
def pp4 : State := st [(PG_CH_STAT_Run 47, 1), (PG_CH_CTL_En 47, 1)] (fun s => s.modPg 47 (fun c => { c with stopping := true }))
def pp2 : State := st [(PG_CH_STAT_Run 47, 1), (PG_CH_CTL_En 47, 1), (PG_GRP_CFG_Mul 11, 1), (PG_CH_CFG_Align 47, 1),
  (PG_CH_LIMIT_MinOn 47, 10), (PG_CH_LIMIT_MaxOn 47, 6000)] (fun s => s.modPg 47 (fun c => { c with duty := 32768 }))
def pp3 : State := st [(PG_CH_STAT_Run 47, 1), (PG_CH_CTL_En 47, 1), (PG_GRP_CFG_Mul 11, 20), (PG_CH_CFG_Align 47, 3),
  (PG_CH_CTL_Idle 47, 1)] (fun s => s.modPg 47 (fun c => { c with duty := 65535 * 65536 + 4 }))
def pp5 : State := st [(PG_CH_STAT_Run 47, 1), (PG_CH_CTL_En 47, 1)] (fun s => s.modPg 47 (fun c => { c with pulse := true }))
def pp6 : State := st [(PG_CH_STAT_Run 47, 1), (PG_CH_CTL_En 47, 1)] (fun s => s.modPg 47 (fun c => { c with pulse := true, riseDone := true }))
def pp7 : State := st [(PG_CH_STAT_Run 47, 1), (PG_CH_CTL_En 47, 1), (PG_CH_CFG_RbEn 47, 1), (PG_CH_CFG_OutMode 47, 0)] (fun s =>
  s.modPg 47 (fun c => { c with pulse := true, misH := 1, outH := .low, outL := .high }))
def pc1 : State := st [(CMP_CFG_Group 63, 11), (CMP_BLANK_Ch 63, 3), (CMP_CFG_Latch 63, 0), (CMP_LATCH_Latch 1, 2 ^ 31),
  (CMP_LATCH_Latch 3, 2 ^ 31)]
def pk1 : State := st []
def pk8 : State := st [(PG_CH_CFG_Src 47, 0), (PG_CH_CFG_Src 5, 0)]
def pk2 : State := st [(PG_CH_CTL_En 47, 1), (PG_CH_STAT_Run 47, 1), (PG_CH_CFG_Src 47, 1), (PG_CH_CFG_Align 47, 3),
  (PG_CH_CFG_Upd 47, 1)]
def pk3 : State := st [(PG_CH_CTL_En 47, 1), (PG_CH_STAT_Run 47, 1), (PG_CH_CFG_Src 47, 1), (PG_CH_CFG_Align 47, 1),
  (PG_CH_CFG_Upd 47, 1)]
def pk4 : State := st [(PG_CH_CTL_En 47, 1), (PG_CH_STAT_Run 47, 1), (PG_CH_CFG_Src 47, 1), (PG_CH_CFG_Align 47, 0),
  (PG_CH_CFG_Upd 47, 0), (PG_CH_LIMIT_MaxOn 47, 65535)] (fun s => s.modPg 47 (fun c => { c with riseDone := true, fall := 60000, len := 64000, pulse := true }))
def pk5 : State := st [(PG_CH_STAT_ParOff 47, 1), (PG_CH_CTL_En 47, 1)]
def tu1 : State := st []
def tu2 : State := st [(LT_CTL_En 23, 1), (LT_STAT_Mode 23, 1)]
def tileSample1 : TileSample := ⟨0xFFF, 0, 0, 0, 9, 5, none⟩
def tu3 : State := st [(LT_CTL_En 23, 1), (LT_STAT_Mode 23, 4), (LT_CFG_ChMask 23, 15), (LT_CFG_Group 23, 11), (LT_MAN_DUTY_Duty
  23, 40000), (LT_LIMIT_Max 23, 60000)]
def tu4 : State := st [(LT_CTL_En 23, 1), (LT_STAT_Mode 23, 3), (LT_CFG_ChMask 23, 15), (LT_CFG_Group 23, 11), (LT_LIMIT_Max 23,
  60000), (LT_REF_CUR_R 23, 4096 * 1000)] (fun s => s.modLt 23 (fun c => { c with pre := [1000, 2000, 3000, -5], h1 := 5, h2 := 6, h3 := -9 }))
def tileSample2 : TileSample := ⟨0xFFF, 1, 0, 0, 9, 5, none⟩
def tu6 : State := st [(LT_CTL_En 23, 1), (LT_STAT_Mode 23, 3), (LT_CFG_ChMask 23, 3), (LT_CFG_Group 23, 11), (PG_CH_STAT_Run 44,
  1), (PG_CH_CTL_En 44, 1), (LT_CFG_MissMax 23, 3)] (fun s => s.modLt 23 (fun c => { c with misses := 2 }))
def tc2 : State := st [(LT_STAT_Mode 23, 5), (LT_RETRY_Interval 23, 7)] (fun s => s.modLt 23 (fun c => { c with waitCnt := 7 }))
def tc1 : State := st []
def tc3 : State := st [(LT_ILIM_CFG_MaxFrames 23, 9)] (fun s => s.modLt 23 (fun c => { c with ilFrames := some 9 }))
def tc4 : State := st [(LT_STAT_Mode 23, 3), (LT_RETRY_Mode 23, 1), (LT_RETRY_Count 23, 15)] (fun s => s.modLt 23 (fun c => { c with autoCnt := 100000 }))
def tc5 : State := st [(LT_STAT_Mode 23, 6), (LT_RETRY_Mode 23, 1), (LT_RETRY_Count 23, 15), (LT_CFG_ChMask 23, 3)]
def tc6 : State := st [] (fly (cm 0x12 (0x4000 + 32 * 23) (pl [(39, 1)])))
def tc7 : State := st [(LT_REF_MIN_V 23, 65536), (LT_REF_MAX_V 23, 655360), (LT_REF_SCALE_Scale 23, 65536)] (fly (cm 0x12 (0x4000
  + 32 * 23) (pl [(2, 20)])))
def tc8 : State := st [(LT_REF_MIN_V 23, 65536), (LT_REF_MAX_V 23, 655360), (LT_STAT_Mode 23, 3)] (fly (cm 0x12 (0x4000 + 32 * 23)
  (pl [(2, 20)])))
def tc9 : State := st [] (fly (cm 0x13 (0x4004 + 32 * 23) (pl [(0, 2)])))
def tc10 : State := st [(LT_STAT_Mode 23, 3)] (fly (cm 0x13 (0x4004 + 32 * 23) (pl [(0, 4)])))
def sr1 : State := st []
def sr2 : State := st [(SL_CTL_En 15, 1), (SL_CFG_Period 15, 1), (SL_MEMS_CFG_MissMax 15, 3), (SL_IN_Id 15, 0x10005)] (fun s =>
  s.modSl 15 (fun c => { c with mode := 2, skips := 1 }))
def sr3 : State := st [(SL_CTL_En 15, 1), (SL_CFG_Period 15, 1), (SL_MEMS_CFG_MissMax 15, 3), (SL_IN_Id 15, 0x10005)] (fun s =>
  s.modSl 15 (fun c => { c with mode := 3, skips := 2 }))
def sr4 : State := st [(SL_CTL_En 15, 1), (SL_CFG_Period 15, 1), (SL_IN_Id 15, 0x10005), (SL_TARGET_V 15, 65536 * 5),
  (SL_OUT_MAX_V 15, 65536 * 9), (SL_GAIN_V 15, 65536), (SL_STEP_MAX_V 15, 65536), (SL_RATE_V 15, 65536)] (fun s => (s.modSl 15
  (fun c => { c with mode := 2 })) |> fun s => State.setCache { s with regs := (s.regs.put (pinKey 2 0) 0xC0010005).put (pinKey 2 1) 0x80000 }
  0x10005 (mkVal 5 false 0))
def sr5 : State := st [] (fun s => s.modSl 15 (fun c => { c with skips := 255 }))
def sr6 : State := st [(SL_STAT_InLost 15, 1), (SL_MEM_STAT_Lost 15 7, 1)]
def sr7 : State := st [(SL_MEM_STAT_Miss 15 7, 3), (SL_MEMS_CFG_MissMax 15, 3), (SL_MEM_STAT_Present 15 7, 1), (SL_MEM_TRIM_V 15
  7, 9)]
def sc2 : State := st [(SL_CFG_Kind 15, 2), (SL_STAT_Stage 15, 3), (SL_CFG_InitMode 15, 1)] (fun s => s.modSl 15 (fun c => { c with mode := 5 }))
def sc1 : State := st [] (fun s => { s.wr (SL_RC_ADDR_Bin 15) 1023 with sl := upd s.sl 15 (fun c => { c with bins := [(1023, 5), (3, 4)] }) })
def sc4 : State := st [] (fly (cm 0x13 (0x5005 + 32 * 15) (pl [(0, 4)])))
def sc5 : State := st [] (fly (cm 0x13 (0x5005 + 32 * 15) (pl [(0, 3)])))
def fe2 : State := st [(EF_STAT_State 15, 5), (EF_RETRY_Mode 15, 2), (CMP_EF_SRC_Cmp 15, 63)] (fun s => s.modEf 15 (fun c => { c with fastPend := true, latch := true, gate := true }))
def fe4 : State := st [(EF_STAT_State 15, 7)] (fun s => s.modEf 15 (fun c => { c with fastPend := true, latch := true }))
def fe1 : State := st []
def fe5 : State := st [(EF_STAT_State 15, 3), (EF_STAT_WinOk 15, 1), (EF_DELAY_InsDelay 15, 3)] (fun s => s.modEf 15 (fun c => { c with insCnt := 3 }))
def fe6 : State := st [(EF_STAT_State 15, 4), (EF_INRUSH_MAX_Frames 15, 3), (EF_RETRY_Mode 15, 1), (EF_STAT_RetryLeft 15, 15)]
  (fun s => s.modEf 15 (fun c => { c with inrCnt := 3 }))
def fe7b : State := st [(EF_RETRY_Interval 15, 1), (CMP_EF_SRC_Sel 15, 0), (EF_CFG_TMode 15, 0), (EF_BRK_CFG_Rearm 15, 7),
  (EF_STAT_State 15, 6), (EF_CFG_RailEn 15, 1)] (fun s => s.modEf 15 (fun c => { c with waitCnt := 100000 }))
def fe8b : State := st [(EF_RETRY_Interval 15, 1), (CMP_EF_SRC_Sel 15, 0), (EF_CFG_TMode 15, 0), (EF_BRK_CFG_Rearm 15, 7),
  (EF_STAT_State 15, 6), (EF_CTL_En 15, 1), (EF_CTL_On 15, 1), (EF_RETRY_Mode 15, 1), (EF_STAT_RetryLeft 15, 1)] (fun s => s.modEf
  15 (fun c => { c with waitCnt := 100000, budgetSet := true, latch := true }))
def fe9b : State := st [(EF_RETRY_Interval 15, 1), (CMP_EF_SRC_Sel 15, 0), (EF_CFG_TMode 15, 0), (EF_BRK_CFG_Rearm 15, 7),
  (EF_STAT_State 15, 6), (EF_CTL_En 15, 1), (EF_STAT_WinOk 15, 1)] (fun s => s.modEf 15 (fun c => { c with waitCnt := 100000, budgetSet := true, latch := true }))
def fe10 : State := st [(EF_STAT_State 15, 5), (EF_RETRY_Mode 15, 1), (EF_RETRY_Count 15, 15), (EF_CFG_TMode 15, 2), (EF_CFG_OnLim
  15, 1)] (fun s => s.modEf 15 (fun c => { c with onCnt := 100000 }))
def fo1 : State := st [(EF_RETRY_Mode 15, 1), (EF_RETRY_Count 15, 15)]
def fo2 : State := st [(EF_STAT_State 15, 2), (EF_CTL_En 15, 1), (EF_CTL_On 15, 1)]
def fo4b : State := st [(EF_STAT_State 15, 5), (EF_CTL_En 15, 1), (EF_CFG_RailEn 15, 1), (EF_CFG_Rail 15, 31),
  (SEQ_RAIL_STAT_Grant 31, 1), (SEQ_RAIL_CFG_En 31, 1), (SEQ_RAIL_CFG_Kind 31, 2), (SEQ_RAIL_CFG_Unit 31, 15),
  (SEQ_RAIL_STAT_State 31, 2), (SEQ_CTL_En, 1)]
def fo5b : State := st [(CMP_EF_SRC_Sel 15, 0), (EF_STAT_State 15, 7), (EF_CTL_En 15, 1), (EF_CFG_RailEn 15, 1), (EF_RETRY_Mode
  15, 1), (EF_RETRY_Count 15, 15)] (fun s => s.modEf 15 (fun c => { c with latch := true }))
def fm1 : State := st [] (fly (cm 0x14 0 (pl [])))
def fm2 : State := st [] (fly (cm 0x14 0 (pl [(0, 1), (2, 1)])))
def fm3 : State := st [] (fly (cm 0x14 0 (pl [(0, 1), (2, 2)])))
def fm4 : State := st [] (fly (cm 0x14 0 (pl [(0, 1), (2, 255)])))
def fm5 : State := st [(EF_CTL_En 15, 1), (EF_CTL_En 14, 1), (EF_CTL_On 15, 1), (EF_STAT_State 15, 5), (EF_STAT_State 14, 6),
  (EF_STAT_Pg 15, 1)] (fly (cm 0x14 0 (pl [(1, 0xC0)])))
def fm6 : State := st [(EF_CTL_En 15, 1), (EF_STAT_State 15, 1)] (fly (cm 0x14 0 (pl [(1, 0x80), (2, 1)])))
def fm7 : State := st [(EF_CTL_En 15, 1), (EF_CTL_En 14, 1), (EF_STAT_State 15, 7), (EF_STAT_State 14, 6)] (fly (cm 0x14 0 (pl
  [(1, 0xC0), (2, 2)])))
def fm8 : State := st [(EF_CTL_En 15, 1), (EF_STAT_State 15, 7), (CMP_EF_SRC_Sel 15, 3), (CMP_EF_SRC_Cmp 15, 63), (CMP_LATCH_Latch
  1, 2 ^ 31), (CMP_RAW_Raw 1, 2 ^ 31)] (fly (cm 0x14 0 (pl [(1, 0x80), (2, 2)])))
def fm9 : State := st [(EF_CTL_En 15, 1), (EF_STAT_State 15, 7)] (fly (cm 0x14 0 (pl [(1, 0x80), (2, 3)])))
def fs1 : State := st [(TL_CFG_SetSize, 1)] (fun s => { s with frm := { s.frm with coreRst := true } })
def fs2 : State := st [(TL_CFG_SetSize, 1), (FG_CFG_En 7, 1), (FG_PDRAW_V 7, 500)] (fun s => s.modFg 7 (fun c => { c with latch := true }))
def fs3 : State := st [(TL_CFG_SetSize, 1), (FG_CFG_En 7, 1), (FG_PAIRS_PairEn 7, 0x81), (FG_STAT_PairPresent 7, 0x81),
  (FG_CFG_VrCh 7, 9), (AFE_TM_CFG_En 9, 1)] (fun s => State.setCache s (0x1000 + 16 * 9) (mkVal (65536 * 300) false 0))
def fs4 : State := st [(HU_CFG_InMask, 0), (HU_CFG_BusCheck, 0), (HU_CFG_Store, 0), (HU_CH_StoreV, 5), (HU_CAP_C_V, 65536),
  (HU_ETA_EtaCap, 65535)] (fun s => State.setCache s (0x1000 + 16 * 5 + 3) (mkVal (65536 * 300) false 0))
def fs5 : State := st [(FG_CFG_En 7, 1), (FG_PAIRS_PairEn 7, 0x81), (FG_STAT_PairPresent 7, 0x01), (FG_RESTART_CNT_Cnt 7, 2 ^ 32 -
  1)] (fun s => s.modFg 7 (fun c => { c with retFor := [0, 0, 0, 0, 0, 0, 0, 64], shares := [0, 0, 0, 0, 0, 0, 0, 5000000], r := 0x3F800000 }))
def fs6 : State := st [(FG_CFG_En 7, 1), (FG_STAT_Lost 7, 1)] (fun s => s.modFg 7 (fun c => { c with okFor := 16, used := 7 }))
def fs7 : State := st [(FG_STAT_PertOn 7, 1), (FG_PERT_Half 7, 3)] (fun s => s.modFg 7 (fun c => { c with pertFor := 3 }))
def hu1 : State := st []
def hu2 : State := st [(HU_CTL_En, 1), (HU_STAT_InValid, 1)] (fun s => { s with cap := { s.cap with eAvail := 2 ^ 200 } })
def hu3 : State := st [(HU_CTL_En, 1)] (fun s => { s with cap := { s.cap with inLost := true, lostMask := 0x21, eAvail := 2 ^ 200 } })
def hu4 : State := st [(HU_CTL_En, 1), (HU_STAT_State, 1)] (fun s => { s with cap := { s.cap with eAvail := 0, eNeed := 2 ^ 200 } })
def hu5 : State := st [(HU_CTL_En, 1), (HU_STAT_State, 1), (HU_STAT_ValidCnt, 65535)] (fun s => { s with cap := { s.cap with eAvail := 2 ^ 200, huThr := 5 } })
def hu6 : State := st [(HU_CTL_En, 1), (HU_STAT_State, 2)] (fun s => { s with cap := { s.cap with shutFor := 10001 } })
def hu7 : State := st [(HU_CTL_En, 1), (HU_STAT_State, 3)]
def cg1 : State := st [] (fun s => { s with frm := { s.frm with coreRst := true } })
def cg2 : State := st [(FG_CFG_En 7, 1), (FG_STAT_WrongSide 7, 1)]
def cg3 : State := st [(CAP_CTL_En, 1), (CAP_CTL_WsEn, 0), (GLB_STAT_ShelfMaster, 1), (FG_CFG_En 7, 1), (FG_PDRAW_V 7, 65536 *
  900), (FG_VS_MIN_V 7, 655360), (FG_R_MAX_V 7, 65536), (FG_CFG_K 7, 30000)] (fun s => s.modFg 7 (fun c => { c with vs := 0x43480000, r := 0x41200000 }))
def cg4 : State := st [(FG_STAT_WrongSide 7, 1), (FG_WS_WsClear 7, 5), (CAP_CTL_En, 1)] (fun s => s.modFg 7 (fun c => { c with wsClr := 5 }))
def cg5 : State := st [] (fly (cm 0x16 0 (pl [(0, 8), (1, 1)])))
def cg7 : State := st [(GLB_STAT_ShelfMaster, 1), (CAP_SET_PLIM_V, 77)] (fly (cm 0x16 0 (pl [(0, 255), (1, 4), (12, 9)])))
def ss1 : State := st []
def ss2 : State := st [(SEQ_CTL_En, 0), (SEQ_STAT_FltLevel, 1)] (fun s => { s with sense := { s.sense with applied := true }, seq := { s.seq with reqs := [.off] } })
def ss3b : State := st [(SEQ_CTL_En, 1), (SEQ_RAIL_CFG_En 31, 1), (SEQ_STAT_State, 0)] (fun s => { s with sense := { s.sense with applied := true }, seq := { s.seq with reqs := [.on (2 ^ 31)], idleFor := 1000000 } })
def ss4 : State := st [(SEQ_CTL_En, 1), (SEQ_RAIL_CFG_En 31, 1), (SEQ_STAT_State, 1), (SEQ_RAIL_STAT_Demand 31, 1),
  (SEQ_RAIL_STAT_State 31, 1)] (fun s => { s with sense := { s.sense with applied := true } })
def ss5 : State := st [(SEQ_CTL_En, 1), (SEQ_RAIL_CFG_En 31, 1), (SEQ_STAT_State, 1), (SEQ_RAIL_STAT_Demand 31, 1),
  (SEQ_RAIL_STAT_State 31, 3), (SEQ_RAIL_STAT_Grant 31, 1), (SEQ_RAIL_CFG_MonCh 31, 9), (SEQ_RAIL_UP_THR_V 31, 5)] (fun s =>
  State.setCache { s with sense := { s.sense with applied := true } } (0x1000 + 16 * 9) (mkVal 5 false 0))
def ss6 : State := st [(SEQ_CTL_En, 1), (SEQ_RAIL_CFG_En 31, 1), (SEQ_STAT_State, 1), (SEQ_RAIL_STAT_Demand 31, 1),
  (SEQ_RAIL_STAT_State 31, 4), (SEQ_RAIL_STAT_Grant 31, 1), (SEQ_RAIL_CFG_MonCh 31, 9), (SEQ_RAIL_UP_THR_V 31, 5)] (fun s =>
  State.setCache { s with sense := { s.sense with applied := true } } (0x1000 + 16 * 9) (mkVal 5 false 0))
def se2 : State := st [(SEQ_RAIL_CFG_En 31, 1), (SEQ_RAIL_STAT_State 31, 2), (SEQ_RAIL_STAT_Demand 31, 1), (SEQ_RAIL_DELAY_OnDelay
  31, 3)] (fun s => s.modRail 31 (fun q => { q with age := 4 }))
def se1 : State := st []
def se3 : State := st [(SEQ_RAIL_CFG_En 31, 1), (SEQ_RAIL_STAT_State 31, 5), (SEQ_RAIL_STAT_Grant 31, 1), (SEQ_RAIL_DELAY_OffDelay
  31, 3)] (fun s => s.modRail 31 (fun q => { q with freeFor := 4 }))
def se4 : State := st [(SEQ_RAIL_CFG_En 31, 1), (SEQ_RAIL_STAT_State 31, 3), (SEQ_RAIL_STAT_Demand 31, 1), (SEQ_RAIL_STAT_Grant
  31, 1), (SEQ_RAIL_LIMIT_RampMax 31, 3), (SEQ_RAIL_CFG_MonCh 31, 9)] (fun s => s.modRail 31 (fun q => { q with age := 4 }))
def se5 : State := st [(SEQ_RAIL_CFG_En 31, 1), (SEQ_RAIL_STAT_State 31, 4), (SEQ_RAIL_STAT_Demand 31, 1), (SEQ_RAIL_STAT_Grant
  31, 1), (SEQ_RAIL_CFG_DropFrames 31, 3)] (fun s => s.modRail 31 (fun q => { q with drops := 3 }))
def se6 : State := st [(SEQ_RAIL_CFG_En 31, 1), (SEQ_RAIL_STAT_State 31, 6), (SEQ_RAIL_LIMIT_FallMax 31, 3)] (fun s => s.modRail
  31 (fun q => { q with age := 4 }))
def se7 : State := st [(SEQ_STAT_State, 4), (SEQ_TIMING_RestartDelay, 5), (SEQ_RAIL_CFG_En 31, 1), (SEQ_STAT_OnPending, 1)] (fun s
  => { s with seq := { s.seq with fresh := false, idleFor := 5, stored := 2 ^ 31 } })
def se8 : State := st [(SEQ_FLT_CFG_MinLow, 3)] (fun s => { s with seq := { s.seq with drive := 5, extLow := true, highFor := 0 } })
def se9 : State := st [(SEQ_FLT_CFG_RelFrames, 3), (SEQ_RAIL_CFG_En 31, 1), (SEQ_RAIL_STAT_State 31, 7), (SEQ_RAIL_STAT_Cause 31,
  5)] (fun s => { s with seq := { s.seq with highFor := 3, lineDown := true } })
def sq1 : State := st [] (fly (cm 0x15 0 (pl [])))
def sq3 : State := st [(SEQ_CTL_En, 1), (SEQ_RAIL_CFG_En 31, 1)] (fly (cm 0x15 0 (pl [(0, 0), (7, 128)])))
def sq5 : State := st [(SEQ_CTL_En, 1), (SEQ_RAIL_CFG_En 31, 1), (SEQ_STAT_State, 2)] (fly (cm 0x15 0 (pl [(0, 2), (7, 128)])))
def rd1 : State := st []
def rd2 : State := st [(HIF_SQ_CTL_En 3, 1), (HIF_EQ_CTL_En, 1), (HIF_TS_CTL_En 7, 1), (HIF_SQ_CFG_SizeLog2 3, 4),
  (HIF_CQ_CFG_SizeLog2 3, 4), (HIF_SQ_ACCEPTED_SEQ_Seq 3, 2 ^ 32 - 1), (HIF_CQ_HEAD_Seq 3, 1), (HIF_CQ_POSTED_SEQ_Seq 3, 5),
  (HIF_TAG_State 200, 3)] (fun s => { s with hif := { s.hif with attached := [3, 8, 23], posted := [(3, 3, 200), (3, 5, 7), (2, 1, 8)], attachReq := [(3, false), (1, true)] } })
def rd3 : State := st [(RED_STAT_State, 3)] (fun s => { s with hif := { s.hif with attached := [3] } })
def rt1 : State := st []
def rt2 : State := st [(HIF_STAT_LinkUp, 1), (HIF_STAT_BusMaster, 1), (HIF_SQ_CTL_En 3, 1), (HIF_SQ_TAIL_Seq 3, 3)] (fun s => { s with hif := { s.hif with attached := [3], fetchSeq := [0, 0, 0, 2 ^ 32 - 1], dmaFails := [0, 0, 0, 2] } })
def rt3 : State := st [(HIF_STAT_LinkUp, 1), (HIF_STAT_BusMaster, 1), (HIF_SQ_CTL_En 3, 1), (HIF_SQ_TAIL_Seq 3, 3)] (fun s => { s with hif := { s.hif with attached := [3], fetchSeq := [0, 0, 0, 2], dmaFails := [0, 0, 0, 1] } })
def rt4 : State := st [(HIF_STAT_LinkUp, 1), (HIF_STAT_BusMaster, 1), (HIF_SQ_CTL_En 3, 1), (HIF_CQ_CFG_SizeLog2 3, 4),
  (HIF_CQ_POSTED_SEQ_Seq 3, 2 ^ 32 - 1), (HIF_MSIX_MAP_Vec 11, 9)] (fun s => { s with hif := { s.hif with attached := [3], comps := [{ pair := 3, sqSeq := 5, tag := 255 }, { pair := 3, sqSeq := 4, tag := 254, result := 7 }] } })
def comp1 : Comp := { pair := 3, sqSeq := 4, tag := 254, result := 7 }
def rt5 : State := st [(HIF_STAT_LinkUp, 1), (HIF_STAT_BusMaster, 1), (HIF_SQ_CTL_En 3, 1), (HIF_DROP_CNT_Cnt, 2 ^ 32 - 1)] (fun s
  => { s with hif := { s.hif with attached := [3], comps := [{ pair := 3, sqSeq := 5, tag := 255, dropped := true }] } })
def comp2 : Comp := { pair := 3, sqSeq := 5, tag := 255, dropped := true }
def rt6 : State := st [(HIF_STAT_LinkUp, 1), (HIF_STAT_BusMaster, 1), (HIF_EQ_CTL_En, 1), (HIF_EQ_CFG_SizeLog2, 4),
  (HIF_EQ_POSTED_SEQ_Seq, 2 ^ 32 - 1)] (fun s => { s with hif := { s.hif with attached := [8], events := [{ code := 0x100, p0 := 5 }, {}] } })
def event1 : Event := { code := 0x100, p0 := 5 }
def rt7 : State := st [(HIF_STAT_LinkUp, 1), (HIF_STAT_BusMaster, 1), (HIF_EQ_CTL_En, 1), (HIF_EQ_CFG_SizeLog2, 4)] (fun s => { s with hif := { s.hif with attached := [8], events := [{ code := 0x100, p0 := 5 }, {}], evLost := 7, evLostAt := 3 } })
def rt8 : State := st [(HIF_STAT_LinkUp, 1), (HIF_STAT_BusMaster, 1), (HIF_TS_CTL_En 7, 1), (HIF_TS_CFG_SizeLog2 7, 4)] (fun s =>
  { s with hif := { s.hif with attached := [23] }, pnt := { s.pnt with recs := [(0, []), (7, List.replicate 56 5)] } })
def ip2 : State := st [(HIF_STAT_LinkUp, 1), (HIF_STAT_BusMaster, 1)] (fun s => { s with hif := { s.hif with vecs := [{ vec := 31, cnt := 1 }, { vec := 8, cnt := 1 }], pba := 2 ^ 31 + 2 ^ 9, msixTable := [(4 * 31 + 3, 0), (4 * 9 + 3, 0)] } })
def ip1 : State := st []
def ad1 : State := st []
def ad2 : State := st [(HIF_SQ_CTL_En 3, 1), (HIF_CQ_CFG_SizeLog2 3, 4), (FRM_CTL_AdmitMax, 1), (HIF_SQ_ACCEPTED_SEQ_Seq 3, 2 ^ 32
  - 1)] (fun s => { s with hif := { s.hif with attached := [3], fetch := [{ pair := 3, bytes := [] }] } })
def fetched1 : Fetched := { pair := 3, bytes := [] }
def dsc : Nat → Nat → Nat → Nat → Nat → Nat → Nat → List Byte := fun seq op tag gen dl fl pt => sealCrc (leBytes 4 seq ++ leBytes
  1 op ++ leBytes 1 tag ++ leBytes 2 gen ++ leBytes 2 dl ++ leBytes 2 fl ++ leBytes 4 pt ++ List.replicate 44 0)
def ad7 : State := st [(HIF_SQ_CTL_En 3, 1), (HIF_CQ_CFG_SizeLog2 3, 4), (FRM_CTL_AdmitMax, 1), (HIF_SQ_ACCEPTED_SEQ_Seq 3, 6),
  (HIF_TAG_State 255, 1)] (fun s => { s with hif := { s.hif with attached := [3], fetch := [{ pair := 3, bytes := dsc 7 0 255 0 0 0 0 }] } })
def fetched3 : Fetched := { pair := 3, bytes := dsc 7 0 255 0 0 0 0 }
def ad4 : State := st [(HIF_SQ_CTL_En 3, 1), (HIF_CQ_CFG_SizeLog2 3, 4), (FRM_CTL_AdmitMax, 1), (HIF_SQ_ACCEPTED_SEQ_Seq 3, 6)]
  (fun s => { s with hif := { s.hif with attached := [3], fetch := [{ pair := 3, bytes := dsc 7 3 255 9 0 0 0 }] } })
def fetched2 : Fetched := { pair := 3, bytes := dsc 7 3 255 9 0 0 0 }
def ad3 : State := st [(HIF_SQ_CTL_En 3, 1), (HIF_CQ_CFG_SizeLog2 3, 4), (FRM_CTL_AdmitMax, 1), (HIF_SQ_ACCEPTED_SEQ_Seq 3, 6)]
  (fun s => { s with hif := { s.hif with attached := [3], fetch := [{ pair := 3, bytes := dsc 7 0 255 0 0 0 0 }] } })
def ad6 : State := st [(HIF_SQ_CTL_En 3, 1), (HIF_CQ_CFG_SizeLog2 3, 4), (FRM_CTL_AdmitMax, 1), (HIF_SQ_ACCEPTED_SEQ_Seq 3, 6)]
  (fun s => { s with hif := { s.hif with attached := [3], fetch := [{ pair := 3, bytes := dsc 7 0x31 255 9 1 0 0 }] } })
def fetched4 : Fetched := { pair := 3, bytes := dsc 7 0x31 255 9 1 0 0 }
def qc1 : State := st [] (fly (cm 0 0))
def qc2 : State := st [] (fly (cm 0 0 (pl [(39, 1)])))
def qc3 : State := st [] (fly (cm 1 0 (pl [(39, 1)])))
def qc4 : State := st [] (fly (cm 1 0))
def qc5 : State := st [] (fun s => fly (cm 1 0) (fly { cm 5 0 with tag := 9, sqSeq := 2 ^ 32 - 1 } s))
def qc6 : State := st [] (fly { cm 2 0 with commit := true, result := 0 })
def cmd3 : Cmd := { cm 2 0 with commit := true, result := 0 }
def qc7 : State := st [] (fly (cm 2 0))
def qc11 : State := st []
def qc8b : State := st [(FRM_CTL_BeLimit, 0)] (fly { cm 1 0 with begun := true })
def cmd6 : Cmd := { cm 1 0 with begun := true }
def qc9 : State := st [(FRM_CTL_BeLimit, 3), (FRM_FRAME_CNT_LO_Lo, 3)] (fly (cm 0 0))
def qc10 : State := st [(HIF_STAT_LinkUp, 1), (HIF_STAT_BusMaster, 1)] (fun s => { s with hif := { s.hif with vecs := [{ vec := 31, cnt := 1 }], msixTable := [(4 * 31 + 3, 0)] } })
def vecPend1 : VecPend := { vec := 31, cnt := 1 }
def pa2 : State := st [] (fly (cm 0x10 0x4002 (pl [(39, 1)])))
def pa1 : State := st [] (fly (cm 0x10 0x4002))
def pa3 : State := st [] (fly (cm 0x10 0x10007))
def pa4 : State := st [(PNT_DIR_CTL_En, 1)] (fly (cm 0x10 0x10007))
def pa5 : State := st [(PNT_DIR_CTL_En, 1), (TW_PORT_CTL_En 11, 1)] (fun s => fly (cm 0x10 0x10007) { s with pnt := { s.pnt with resolved := [{ point := 0x10007, head := 5, binding := 11 + 2 ^ 32 * 7 }] } })
def resolved1 : Resolved := { point := 0x10007, head := 5, binding := 11 + 2 ^ 32 * 7 }
def pa6 : State := st [] (fly (cm 0x11 0x4002 (pl [(4, 1)])))
def pa7 : State := st [] (fly (cm 0x11 0x4001 (pl [(0, 1)])))
def pa8 : State := st [] (fly (cm 0x11 (0x4002 + 32 * 23) (pl [(3, 1)])))
def cmd4 : Cmd := cm 0x11 (0x4002 + 32 * 23) (pl [(3, 1)])
def pa9 : State := st [(PNT_DRV_CFG_En 127, 1), (PNT_DRV_CFG_Op 127, 1)] (fly (cm 0x11 0x4007F))
def pa10 : State := st [(PNT_DRV_CFG_En 127, 1)] (fly (cm 0x11 0x4007F))
def pa11 : State := st [(TW_PORT_CTL_En 3, 1)] (fun s => fly (cm 0x11 0x10007) { s with regs := ((s.regs.put (pinKey 2 0) 0x80010007).put (pinKey 2 2) 3) })
def pa12 : State := st [] (fun s => fly (cm 0x11 0x10007) { s with regs := ((s.regs.put (pinKey 2 0) 0xC0010007).put (pinKey 2 2) 3) })
def pa13 : State := st [(TW_PORT_CTL_En 3, 1)] (fun s => fly (cm 0x11 0x10007) { s with regs := ((s.regs.put (pinKey 2 0) 0xC0010007).put (pinKey 2 2) 3) })
def pa14 : State := st [(TL_CFG_SetSize, 2)] (fun s => fly (cm 0x11 0x30007) { s with regs := ((s.regs.put (pinKey 2 0) 0xC0030007).put (pinKey 2 2) 0x1B) })
def ds1 : State := st [] (fun s => fly (cm 0x10 0x10007) { s with pnt := { s.pnt with pending := [0] } })
def dirReply1 : DirReply := ⟨false, [], false, []⟩
def dirReply2 : DirReply := ⟨true, [], false, []⟩
def ds2 : State := st [] (fun s => fly (cm 0x10 0x10007) { s with pnt := { s.pnt with pending := [0], descs := [(1, 0, 7)] } })
def ds3 : State := st [(TW_PORT_CTL_En 11, 1)] (fun s => fly (cm 0x10 0x10007) { s with pnt := { s.pnt with pending := [0], descs := [(1, 0, 8)] } })
def dirReply3 : DirReply := ⟨true, [], true, leBytes 4 0x80010007 ++ leBytes 4 11 ++ leBytes 4 0 ++ leBytes 4 1⟩
def dirReply4 : DirReply := ⟨true, [], true, sealCrc (leBytes 4 0x80010008 ++ leBytes 4 11 ++ leBytes 4 0)⟩
def dirReply5 : DirReply := ⟨true, sealCrc (List.replicate 16 0), true, sealCrc (leBytes 4 0x80010007 ++ leBytes 4 11 ++ leBytes 4
  0)⟩
def ds4 : State := st [(FRM_FRAME_CNT_LO_Lo, 9)] (fun s => State.setCache { s with regs := (s.regs.put (pinKey 2 0) 0xC0010007).put (pinKey 2 1) 0x80000 }
  0x10007 (mkVal 5 false 0))
def ds5 : State := st [(FRM_FRAME_CNT_LO_Lo, 8)] (fun s => State.setCache { s with regs := (s.regs.put (pinKey 2 0) 0xC0010007).put (pinKey 2 1) 0x80000 }
  0x10007 (mkVal 5 false 0))
def ds6 : State := st [] (fun s => { s with pnt := { s.pnt with snaps := [(7, List.replicate 10 {})] } })
def cu1 : State := st [(CAPU_CFG_En 3, 1), (CAPU_CFG_Mode 3, 1)]
def cu2 : State := st [(CAPU_CFG_En 3, 1), (CAPU_STAT_State 3, 1), (FRM_FRAME_CNT_LO_Lo, 9)]
def cu3 : State := st [(CAPU_CFG_En 3, 1), (CAPU_STAT_State 3, 1), (CAPU_TRIG_Kind 3, 1), (CAPU_TRIG_Line 3, 63)] (fun s => { s with sense := { s.sense with trips := 2 ^ 63 } })
def cu4 : State := st [(CAPU_CFG_En 3, 1), (CAPU_STAT_State 3, 1), (CAPU_TRIG_Kind 3, 2), (CAPU_TRIG_Line 3, 255),
  (FLT_GRP_STAT_Bits 7, 2 ^ 31)]
def cu5 : State := st [(CAPU_CFG_En 3, 1), (CAPU_STAT_State 3, 1), (CAPU_TRIG_Kind 3, 3), (CAPU_TFRAME_Frame 3, 9),
  (FRM_FRAME_CNT_LO_Lo, 9)]
def cu6 : State := st [(CAPU_CFG_En 3, 1), (CAPU_STAT_State 3, 2)] (fun s => s.modCapu 3 (fun u => { u with last := 3, next := 4 }))
def lp1 : State := st []
def lp2 : State := st [(TL_CFG_En, 1), (TL_CFG_SetSize, 4), (GLB_STAT_Pos, 2)]
def lk : List (Fld × Nat) := [(TL_CFG_En, 1), (TL_CFG_SetSize, 4), (GLB_STAT_Pos, 2), (TL_PORT_STAT_Up 0, 1), (TL_PORT_STAT_NbrPos
  0, 1), (TL_PORT_STAT_NbrSetSize 0, 4), (TL_PORT_STAT_Up 1, 1), (TL_PORT_STAT_NbrPos 1, 3), (TL_PORT_STAT_NbrSetSize 1, 4)]
def lp3 : State := st lk (fun s => { s with tl := { s.tl with heard := [(3, 0), (5, 0)] } })
def lp4 : State := st (lk ++ [(FRM_FRAME_CNT_LO_Lo, 1000), (TL_GEN_Gen, 7)]) (fun s => { s with tl := { s.tl with genSet := true, heard := [(3, 995), (5, 996)] } })
def la1 : State := st []
def hdr2 : LinkHdr := ⟨0, 7, 2, true, 9, 5, 0⟩
def la2 : State := st (lk ++ [(TL_GEN_SEEN_Valid 7, 1), (TL_GEN_SEEN_Gen 7, 9), (RED_CFG_PairEn, 1), (RED_CFG_PeerPos, 3)]) (fun s
  => { s with tl := { s.tl with rxBcast := [(7, 5)] } })
def hdr3 : LinkHdr := ⟨1, 7, 2, true, 8, 6, 0⟩
def pr : List (Fld × Nat) := lk ++ [(TL_GEN_SEEN_Valid 3, 1), (TL_GEN_SEEN_Gen 3, 9), (RED_CFG_PairEn, 1), (RED_CFG_PeerPos, 3),
  (TL_GEN_SEEN_Valid 7, 1), (TL_GEN_SEEN_Gen 7, 9)]
def pm1 : State := st pr
def hdr4 : LinkHdr := ⟨0, 3, 2, false, 9, 5, 0⟩
def hdr5 : LinkHdr := ⟨1, 7, 2, true, 9, 6, 0⟩
def pm3 : State := st (pr ++ [(RED_STAT_State, 3), (RED_STAT_RoleConflict, 1)]) (fun s => { s with red := { s.red with rxSeq := some 0xFFFFFFFF, lost := false, takeSeq := some 4, taken := [(1, 2, 255), (1, 3, 4)] } })
def pm5 : State := st (pr ++ [(RED_STAT_State, 2), (HU_STAT_State, 0)])
def sm : List (Fld × Nat) := lk ++ [(TL_GEN_SEEN_Valid 7, 1), (TL_GEN_SEEN_Gen 7, 9)]
def sm1 : State := st sm
def sm2 : State := st (sm ++ [(GLB_STAT_ShelfMaster, 1), (TL_CFG_FwdMsgs, 1)]) (fun s => { s with tl := { s.tl with subs := [(7, 0x4000, 5), (1, 0x4000, 6)], reports := [(7, 3, ⟨0, 0, 0, 0, 0, 0⟩)] } })
def sm3b : State := st sm (fun s => { s with regs := (s.regs.put (pinKey 2 0) 0x80030007).put (pinKey 2 2) (7 + 8 * 0x4000) })
def bytes4 : List Byte := [0, 0x40, 0, 5, 1, 2, 3, 4, 9, 0, 0, 0]
def bytes3 : List Byte := [0xE2, 0x42, 0, 0, 0, 0, 1, 0, 9, 0, 0, 0]
def sm4 : State := st sm (fun s => fly (cm 0x11 0x30007) { s with tl := { s.tl with pwrites := [(5, 7, .cmd 0)] } })
def sm5 : State := st [(FRM_FRAME_CNT_LO_Lo, 9)] (fun s => fly { cm 0x11 0x30007 with deadline := 5, arrival := 4 } { s with tl := { s.tl with pwrites := [(5, 7, .cmd 0)] } })
def ps2 : State := st (pr ++ [(RED_STAT_State, 1), (GLB_STAT_Role, 0), (RED_STAT_MstIn, 1)])
def ps3 : State := st (pr ++ [(RED_STAT_State, 1), (GLB_STAT_Role, 0), (RED_STAT_MstIn, 0)]) (fun s => { s with red := { s.red with mstFree := 2 } })
def ps4 : State := st (pr ++ [(RED_STAT_State, 1), (GLB_STAT_Role, 0), (RED_STAT_MstIn, 0)]) (fun s => { s with red := { s.red with mstFree := 1 } })
def ps1 : State := st pr
def ps5 : State := st (pr ++ [(RED_STAT_State, 1), (GLB_STAT_Role, 1), (RED_TIMING_StartWait, 2)]) (fun s => { s with red := { s.red with mstFree := 2, startFor := 20000 } })
def ps12 : State := st []
def ps7 : State := st (pr ++ [(RED_STAT_State, 3), (RED_TIMING_Thb, 3), (RED_STAT_Silent, 3)]) (fun s => { s with red := { s.red with linkFor := 3, lost := false } })
def ps9 : State := st (pr ++ [(RED_STAT_State, 4), (RED_STAT_MstIn, 1), (FRM_FRAME_CNT_LO_Lo, 5)]) (fun s => { s with red := { s.red with detect := some 2 } })
def ps10 : State := st (pr ++ [(RED_STAT_State, 2), (RED_STAT_MstDrive, 1), (GLB_STAT_ShelfMaster, 1), (GLB_STAT_Active, 1)]) (fun
  s => { s with red := { s.red with surDue := some 3 } })
def ps11 : State := st (pr ++ [(RED_STAT_State, 2)])
def ro1 : State := st pr
def ro2 : State := st (pr ++ [(RED_STAT_State, 4), (FRM_FRAME_CNT_LO_Lo, 5)]) (fun s => { s with red := { s.red with detect := some 4, mstFree := 2, peer := some { frame := 1 }, recs := [(mirKey 0 (SL_TARGET 15 / 4), 77), (mirKey 3 5, 5), (mirKey 5 (HIF_SQ_ACCEPTED_SEQ 3 / 4), 9)] } })
def ro3 : State := st (pr ++ [(RED_STAT_State, 3), (RED_MIRROR_STAT_InSync, 63)]) (fun s => { s with red := { s.red with lost := false } })
def ro4 : State := st (pr ++ [(RED_STAT_State, 3), (GLB_STAT_Role, 0), (RED_CFG_Revert, 1), (RED_TIMING_RevertHold, 1),
  (RED_HEALTHY_Cnt, 10000)])
def ro5 : State := st [] (fun s => { s with frm := { s.frm with coreRst := true } })
def ro6 : State := st (lk ++ [(TL_PORT_STAT_Up 1, 0)])
def ro7 : State := st (pr ++ [(RED_STAT_State, 2), (RED_MIRROR_CFG_MaxMsgs, 3), (RED_MIRROR_MASK_Mask, 63)]) (fun s => { s with red := { s.red with surSend := some 1 } })
def ro8 : State := st pr (fun s => { s with red := { s.red with mirror := [[1, 2, 3, 4, 5]] } })
def re2 : State := st [(ONX_RL_CFG_Period 255, 7), (FRM_FRAME_CNT_LO_Lo, 14)] (fun s => { s with onx := { s.onx with short := [(255, 3)] } })
def re1 : State := st [(ONX_STAT_Ready, 0)]
def re3 : State := st [(ONX_STAT_Ready, 1), (FRM_FRAME_CNT_LO_Lo, 14)] (fun s => { s with onx := { s.onx with fifo := [{ code := 0x0105, source := 255, p0 := 2 ^ 32 - 1, frame := 13 }] } })
def recReq1 : RecReq := { code := 0x0105, source := 255, p0 := 2 ^ 32 - 1, frame := 13 }
def re4 : State := st [(ONX_STAT_Ready, 1), (FRM_FRAME_CNT_LO_Lo, 14), (ONX_RL_CFG_Period 3, 7), (ONX_RL_CFG_Burst 3, 2)] (fun s
  => { s with onx := { s.onx with fifo := [{ code := 0x0301, frame := 13 }], short := [(3, 2)] } })
def recReq2 : RecReq := { code := 0x0301, frame := 13 }
def re5 : State := st [(ONX_STAT_Ready, 1), (FRM_FRAME_CNT_LO_Lo, 14), (HU_STAT_State, 1), (HU_ALLOW_V, 0)] (fun s => { s with onx := { s.onx with fifo := [{ code := 0x0105, frame := 13 }] } })
def recReq3 : RecReq := { code := 0x0105, frame := 13 }
def re6 : State := st [(ONX_STAT_Ready, 1), (FRM_FRAME_CNT_LO_Lo, 14)] (fun s => { s with onx := { s.onx with fifo := [{ code := 0x0105, frame := 13 }], staging := List.replicate 2048 {}, lossSeen := true } })
def re7 : State := st [(ONX_STAT_Ready, 1), (TMR_OPMS_LO_Lo, 60000), (ONX_CFG_MarkMin, 1)]
def re8 : State := st [(ONX_STAT_Ready, 1)] (fun s => { s with onx := { s.onx with staging := [{ code := 5, seq := 131072 }] } })
def rec2 : Rec := { code := 5, seq := 131072 }
def re9 : State := st [(ONX_STAT_Ready, 1)] (fun s => { s with onx := { s.onx with staging := [{ code := 5, seq := 131072 }], mram := [(0, { seq := 0, code := 4 })] } })
def re10 : State := st [(ONX_STAT_Ready, 1), (ONX_CFG_ArchEn, 1), (ONX_COMMIT_SEQ_Seq, 7)] (fun s => { s with onx := { s.onx with anyCommit := true, mram := (List.range 8).map (fun q => (q, { seq := q, code := 9 })) } })
def re11 : State := st [(ONX_STAT_Ready, 1), (ONX_CFG_ArchEn, 1), (ONX_COMMIT_SEQ_Seq, 7)] (fun s => { s with onx := { s.onx with anyCommit := true, erased := [0], mram := (List.range 8).map (fun q => (q, { seq := q, code := 9 })) } })
def re12 : State := st [] (fun s => { s with onx := { s.onx with erasing := some 255, erased := [3] } })
def oc1 : State := st [] (fly (cm 0x32 0 (pl [(39, 1)])))
def oc2 : State := st [(TMR_OPMS_LO_Lo, 77), (ONX_NEXT_SEQ_Seq, 2 ^ 32 - 1)] (fly (cm 0x32 0 (pl [(0, 1), (9, 255)])))
def oc3 : State := st [] (fun s => fly (cm 0x32) { s with onx := { s.onx with staging := List.replicate 2048 {} } })
def oc4 : State := st [(HU_STAT_State, 1), (HU_ALLOW_V, 0)] (fly (cm 0x32))
def oc5 : State := st [] (fly (cm 0x30))
def oc7 : State := st [] (fun s => fly (cm 0x30 0 (pl [(4, 1), (24, 32)])) { s with rbt := { s.rbt with gasp := true } })
def oc6 : State := st [] (fly (cm 0x30 0 (pl [(4, 1), (24, 32)])))
def oc8 : State := st [(HIF_STAT_LinkUp, 1), (HIF_STAT_BusMaster, 1), (ONX_COMMIT_SEQ_Seq, 5), (ONX_NEXT_SEQ_Seq, 6)] (fun s =>
  fly (cm 0x30 0 (pl [(0, 5), (4, 1), (17, 1), (24, 32)])) { s with onx := { s.onx with anyCommit := true, mram := (List.range 6).map (fun q => (q, { seq := q, code := 9 })) } })
def cmd5 : Cmd := cm 0x30 0 (pl [(0, 5), (4, 1), (17, 1), (24, 32)])
def rec1 : Rec := { seq := 5, code := 9 }
def oc9 : State := st [(ONX_COMMIT_SEQ_Seq, 5), (ONX_NEXT_SEQ_Seq, 6)] (fun s => fly (cm 0x30 0 (pl [(0, 5), (4, 1), (17, 1), (24,
  32)])) { s with onx := { s.onx with anyCommit := true, mram := (List.range 6).map (fun q => (q, { seq := q, code := 9 })) } })
def oc10 : State := st [] (fly (cm 0x31 0 (pl [(8, 1)])))
def oc11 : State := st [(ONX_NEXT_SEQ_Seq, 6)] (fly (cm 0x31))
def oc12 : State := st [(ONX_NEXT_SEQ_Seq, 6)] (fun s => fly (cm 0x31) { s with fwu := { s.fwu with nv := { s.fwu.nv with keyHash := some 5 } } })
def bytes2 : List Byte := [1, 0, 0, 0, 0, 0, 0, 0, 0, 0, 0, 0, 0, 0, 0, 0, 5] ++ List.replicate 215 0
def ft1 : State := st [(DBG_LOCK_Lock, 1)]
def ft2 : State := st [(FLT_INJ_Mode, 0)]
def ft3 : State := st [(FLT_INJ_Mode, 2), (FLT_INJ_Src, 255), (FLT_INJ_Class, 0), (FLT_INJ_SYN_Syn, 0xBEEF)]
def ft4 : State := st [(FLT_INJ_Mode, 2), (FLT_INJ_Src, 255), (FLT_INJ_Class, 2), (FLT_INJ_SYN_Syn, 0xBEEF), (FLT_FIRST_SRC_Valid,
  1), (FLT_GRP_STAT_Bits 7, 2 ^ 31)] (fun s => { s with flt := { s.flt with held := [(255, 1)] } })
def ft5 : State := st [(FLT_INJ_Mode, 2), (FLT_INJ_Src, 238), (FLT_INJ_SYN_Syn, 3), (FLT_GRP_STAT_Bits 7, 2 ^ 14),
  (FLT_SRC_CNT_Raises 238, 65535)]
def ft6 : State := st [(FLT_INJ_Mode, 1), (FLT_INJ_Target, 3), (FLT_INJ_Inst, 23), (FLT_INJ_InvMask, 3)]
def ft10 : State := st [(FRM_FRAME_CNT_LO_Lo, 5)] (fun s => { s with flt := { s.flt with nmi := [(4, 3, 5)] } })
def ft11 : State := st [(FRM_FRAME_CNT_LO_Lo, 5)] (fun s => { s with flt := { s.flt with nmi := [(4, 3, 4)] } })
def ft9 : State := st [(FRM_FRAME_CNT_LO_Lo, 5)] (fun s => { s with flt := { s.flt with nmi := [(2, 3, 4)] }, onx := { s.onx with mram := [(6, { seq := 6, bad := 1 }), (7, { seq := 7, bad := 2 }), (8, { seq := 8, bad := 1 })] } })
def tm1 : State := st []
def tm7 : State := st [(TMR_CMP_Cmp 15, 0)]
def tm3 : State := st [(TMR_STAT_State 15, 2), (TMR_CMP_Cmp 15, 7), (TMR_CNT_Cnt 15, 6)] (fun s => { s with timers := upd s.timers 15 (fun q => { q with clk := 998, pre := 1, evEn := true }) })
def tm4 : State := st [(TMR_STAT_State 15, 2), (TMR_CMP_Cmp 15, 9), (TMR_CNT_Cnt 15, 6)] (fun s => { s with timers := upd s.timers 15 (fun q => { q with clk := 998, pre := 1, mode := true }) })
def tm6 : State := st [] (fun s => { s with rbt := { s.rbt with gasp := true } })
def u02 : State := st [(HU_STAT_State, 1)] (fly (cm 0x40 0 (pl [(12, 36), (13, 1)])))
def u03 : State := st [(UPD_STAT_State, 4)] (fly (cm 0x40 0 (pl [(12, 36), (13, 1)])))
def u04 : State := st [] (fly (cm 0x40 0 (pl [(1, 1), (12, 36), (13, 1)])))
def u01 : State := st [] (fly (cm 0x40 0 (pl [(12, 36), (13, 1)])))
def blk1 : List Byte := sealCrc ([9,0,0,0,0,0,100,0] ++ List.replicate 4084 0)
def man1 : List Byte := [1,0,1,0] ++ List.replicate 8 0 ++ [9,0,0,0,3] ++ List.replicate 15 0 ++
  [1,0,0,1,5,0,0,0,0,0,1,0,100,0,0,0] ++ List.replicate 48 0 ++ List.replicate 196 0
def u06 : State := st [] (fly (cm 0x40 0 (pl [(8, 1), (12, 1)])))
def prts : List UpdPart := [{ kind := 1, first := 0, count := 1, length := 100, digest := List.replicate 48 0 }, { kind := 0x12, target := 3, first := 1, count := 1, length := 50, digest := List.replicate 48 0 },
  { kind := 0x20, target := 3, addr := 5, first := 2, count := 2, length := 4090, digest := List.replicate 48 1 }]
def u08 : State := st [(UPD_STAT_State, 1), (UPD_BUNDLE_ID_Id, 9), (UPD_PART_STAT_State 0, 1)] (fun s => fly (cm 0x40 0 (pl [(8,
  1), (12, 1)])) { s with fwu := { s.fwu with parts := prts, buf := List.replicate 64 (0, []) } })
def u07 : State := st [(UPD_STAT_State, 1), (UPD_BUNDLE_ID_Id, 9)] (fun s => fly (cm 0x40 0 (pl [(8, 1), (12, 1)])) { s with fwu := { s.fwu with parts := prts } })
def blkBad : List Byte := [9,0,0,0,0,0,100,0] ++ List.replicate 4084 0 ++ leBytes 4 ((crc32c ([9,0,0,0,0,0,100,0] ++
  List.replicate 4084 0) + 1) % 2 ^ 32)
def blk2 : List Byte := sealCrc (List.replicate 4092 1)
def u09 : State := st [(UPD_STAT_State, 1), (UPD_PART_STAT_State 0, 1)] (fun s => { s with fwu := { s.fwu with parts := prts, buf := [(0, [4, 5])] } })
def u10 : State := st [(UPD_STAT_State, 1), (UPD_PART_STAT_State 0, 1), (UPD_PART_STAT_State 1, 1), (UPD_PART_STAT_State 2, 1)]
  (fun s => { s with fwu := { s.fwu with parts := prts, prog := [(0, []), (1, []), (2, [5]), (3, [6])] } })
def lk19 : List (Fld × Nat) := [(TL_CFG_En, 1), (TL_CFG_SetSize, 4), (GLB_STAT_Pos, 2), (TL_PORT_STAT_Up 0, 1),
  (TL_PORT_STAT_NbrPos 0, 1), (TL_PORT_STAT_NbrSetSize 0, 4), (TL_PORT_STAT_Up 1, 1), (TL_PORT_STAT_NbrPos 1, 3),
  (TL_PORT_STAT_NbrSetSize 1, 4), (TL_GEN_SEEN_Valid 3, 1), (TL_GEN_SEEN_Gen 3, 9)]
def u11 : State := st (lk19 ++ [(UPD_STAT_State, 1), (UPD_PART_STAT_State 1, 3)]) (fun s => { s with fwu := { s.fwu with parts := prts, acked := [(1, 1)], sent := [(1, 1)] } })
def hdr1 : LinkHdr := ⟨1, 3, 2, false, 9, 5, 0⟩
def u13 : State := st (lk19 ++ [(HU_STAT_State, 1)])
def u14 : State := st lk19 (fun s => { s with fwu := { s.fwu with manLen := 292, manIn := (List.range 8).map (fun i => (i, padTo 40 (slice man1 (40 * i) 40))) } })
def u16 : State := st lk19 (fun s => { s with fwu := { s.fwu with coord := some 3, blkIn := (List.range 102).map (fun j => (0, j, padTo 40 [])) } })
def u18 : State := st lk19 (fun s => fly (cm 0x40 0 (pl [(12, 36), (13, 1)])) { s with fwu := { s.fwu with check := some (0, man1, [3]) } })
def cmd7 : Cmd := (cm 0x40 0 (pl [(12, 36), (13, 1)]))
def v04 : State := st [(UPD_STAT_State, 2), (UPD_BUNDLE_ID_Id, 9)] (fun s => fly (cm 0x41 0 (pl [(0, 9), (7, 30)])) { s with fwu := { s.fwu with parts := prts } })
def v01 : State := st [] (fly (cm 0x41 0 (pl [(0, 9)])))
def v05 : State := st [(UPD_STAT_State, 2), (UPD_BUNDLE_ID_Id, 9), (HU_STAT_State, 1)] (fun s => fly (cm 0x41 0 (pl [(0, 9), (4,
  30)])) { s with fwu := { s.fwu with parts := prts } })
def v02 : State := st [(UPD_STAT_State, 2), (UPD_BUNDLE_ID_Id, 9)] (fun s => fly (cm 0x41 0 (pl [(0, 9)])) { s with fwu := { s.fwu with parts := [nth prts 0] } })
def v03 : State := st [(UPD_STAT_State, 2), (UPD_BUNDLE_ID_Id, 9)] (fun s => fly (cm 0x41 0 (pl [(0, 9), (4, 30)])) { s with fwu := { s.fwu with parts := prts } })
def v06 : State := st [(UPD_STAT_State, 3), (UPD_BUNDLE_ID_Id, 9), (FRM_FRAME_CNT_LO_Lo, 60000)] (fun s => fly (cm 0x41 0 (pl [(0,
  9), (4, 30)])) { s with fwu := { s.fwu with parts := prts, tag := some 0, since := 10 } })
def act1 : ActRec := { bundle := 9, secVer := 3, window := 60, deadline := 5000, kinds := [1], parts := prts }
def v08 : State := st (lk19 ++ [(UPD_STAT_State, 3), (UPD_BUNDLE_ID_Id, 9), (FRM_FRAME_CNT_LO_Lo, 6000000)]) (fun s => { s with fwu := { s.fwu with parts := prts, order := [19, 2, 24], toldAt := some 5, nv := { s.fwu.nv with act := some act1 } } })
def v10 : State := st (lk19 ++ [(UPD_STAT_State, 2), (UPD_BUNDLE_ID_Id, 9)]) (fun s => { s with fwu := { s.fwu with parts := prts, coord := some 3 } })
def v12 : State := st (lk19 ++ [(UPD_STAT_State, 3), (UPD_BUNDLE_ID_Id, 9)]) (fun s => fly (cm 0x41 0 (pl [(0, 9), (4, 30)])) { s with fwu := { s.fwu with parts := prts, tag := some 0, armed := [2] } })
def v13 : State := st (lk19 ++ [(UPD_STAT_State, 3), (UPD_BUNDLE_ID_Id, 9)]) (fun s => fly (cm 0x41 0 (pl [(0, 9), (4, 30)])) { s with fwu := { s.fwu with parts := prts, tag := some 0, armed := [] } })
def v11 : State := st (lk19 ++ [(UPD_STAT_State, 3), (UPD_BUNDLE_ID_Id, 9)]) (fun s => { s with fwu := { s.fwu with parts := prts, coord := some 3 } })
def w01 : State := st [] (fly (cm 0x42 0 (pl [(0, 9)])))
def w03 : State := st [(UPD_STAT_State, 4), (UPD_BUNDLE_ID_Id, 9)] (fun s => fly (cm 0x42 0 (pl [(0, 8)])) { s with fwu := { s.fwu with parts := prts, nv := { s.fwu.nv with act := some act1 } } })
def w02 : State := st [(UPD_STAT_State, 4), (UPD_BUNDLE_ID_Id, 9)] (fun s => fly (cm 0x42 0 (pl [(0, 9)])) { s with fwu := { s.fwu with parts := prts, nv := { s.fwu.nv with act := some act1 } } })
def v14 : State := st (lk19 ++ [(UPD_STAT_State, 4), (UPD_BUNDLE_ID_Id, 9)]) (fun s => { s with fwu := { s.fwu with parts := prts, coord := some 3, nv := { s.fwu.nv with act := some { act1 with coord := some 3 } } } })
def w09 : State := st lk19 (fun s => { s with fwu := { s.fwu with nv := { s.fwu.nv with lockCnt := 65535 } } })
def w04 : State := st [(UPD_STAT_State, 4), (UPD_BUNDLE_ID_Id, 9), (TMR_OPMS_LO_Lo, 5001), (UPD_CFG_ExpireAct, 1)] (fun s => fly
  (cm 0x42 0 (pl [(0, 9)])) { s with fwu := { s.fwu with parts := prts, nv := { s.fwu.nv with act := some act1 } } })
def w06 : State := st [(DBG_LOCK_Lock, 1)]
def bytes1 : List Byte := ([2, 0, 0, 0] ++ List.replicate 8 0 ++ [1, 0, 0, 0, 1, 0, 0, 0] ++ List.replicate 212 0)
def w07 : State := st [(UPD_STAT_State, 1)] (fun s => { s with fwu := { s.fwu with parts := prts, nv := { s.fwu.nv with keyHash := some 5 } } })
def x02 : State := st [] (fun s => { s with pwr := { s.pwr with phase := .running } })
def x01 : State := st []
def x06 : State := st [] (fun s => { s with pwr := { s.pwr with vhv := false } })
def x04 : State := st [] (fun s => { s with pwr := { s.pwr with phase := .booted } })
def x09 : State := st [(SEQ_FLT_CFG_GuardLow, 1), (RED_STAT_MstDrive, 1)] (fun s => { s with pwr := { s.pwr with phase := .running }, flt := { s.flt with chipReset := some {} } })
def boot1 : BootIn := ⟨false, 63, 2, 7, [], [], 0, none⟩
def boot2 : BootIn := ⟨true, 63, 2, 7, [], [], 0, none⟩
def y02 : State := st [] (fun s => { s with pwr := { s.pwr with phase := .running } })
def y01 : State := st []
def y06 : State := st [(PWR_VHV_WARN_V, 0x100000), (FRM_FRAME_CNT_LO_Lo, 99)] (fun s => { s with pwr := { s.pwr with phase := .running, warned := true } })
def y04 : State := st [(PWR_STAT_VhvWarn, 1), (PWR_VHV_WARN_V, 0x100000)] (fun s => { s with pwr := { s.pwr with phase := .running, vio := 5 } })
def y09 : State := st [] (fun s => { s with pwr := { s.pwr with phase := .running }, fwu := { s.fwu with restart := true } })
def y10 : State := st [] (fun s => { s with pwr := { s.pwr with phase := .running }, fwu := { s.fwu with restart := true }, frm := { s.frm with coreRst := true } })
def z02 : State := st [(DBG_LOCK_Lock, 1), (FLT_INJ_Armed, 1)] (fun s => { s with flt := { s.flt with armed := some (7, 0, 1) } })
def z01 : State := st []

/-! ### Witnesses -/

theorem blk1_good : crcGood blk1 = true := crcGood_seal _
theorem blk2_good : crcGood blk2 = true := crcGood_seal _
theorem blkBad_bad : crcGood blkBad = false := crcGood_bad _
theorem blk1_length : blk1.length = 4096 := by
  unfold blk1; rw [sealCrc_length, List.length_append, List.length_replicate]; rfl
theorem blk2_length : blk2.length = 4096 := by unfold blk2; rw [sealCrc_length, List.length_replicate]
theorem blkBad_length : blkBad.length = 4096 := by
  unfold blkBad; rw [List.length_append, List.length_append, List.length_replicate]; rfl

/-- Witnesses of CompileApplyAbandon: for each clause with hypotheses, a state and operands that meet them all. -/
theorem witness_CompileApplyAbandon :
    (ca1.on FRM_STAT_Compiling = false ∧ ca1.on FRM_STAT_Pending = false) ∧
    ((ca2.on FRM_STAT_Compiling = true ∨ ca2.on FRM_STAT_Pending = true)) ∧
    (ca2.on FRM_STAT_Compiling = true ∧ ca2.frm.coreRst = false ∧ ca2.snap = some [] ∧ ca2.frm.own = false ∧ firstBad
      (ca2.tabulate (ca2.trial []) [0, 4, 8, 12] 0).bads = none) ∧
    (ca2.on FRM_STAT_Compiling = true ∧ ca2.frm.coreRst = false ∧ ca2.snap = some [] ∧ ca2.frm.own = false ∧ firstBad
      (ca2.tabulate (ca2.trial []) [] 0).bads = some bad1) ∧
    (ca4.frm.compiled.isSome = true ∧ ca4.rd FRM_COMPILE_STAT_Result = 0) ∧
    ((ca1.frm.compiled = none ∨ ca1.rd FRM_COMPILE_STAT_Result ≠ 0)) := by
  repeat' apply And.intro
  all_goals decide +kernel

/-- Witnesses of FrameLock: for each clause with hypotheses, a state and operands that meet them all. -/
theorem witness_FrameLock :
    (64 ≤ fl1.frm.lockRun ∧ fl1.rd FRM_STAT_SyncSrc ≠ 0 ∧ fl1.on FRM_STAT_Locked = false ∧ fl1.on FRM_STAT_Holdover = false ∧
      fl1.frm.setDelta < 2 ^ 64) ∧
    (fl1.rd FRM_STAT_SyncSrc = 1 ∧ fl1.on FRM_STAT_Holdover = false) ∧
    (fl1.rd FRM_STAT_SyncSrc = 1) ∧
    (fl5.on TL_CFG_En = true ∧ 0 ≠ fl5.me ∧ (fl5.on FRM_STAT_TimingMaster = false ∨ 0 < fl5.me)) ∧
    (fl6.frm.markers = 3 ∧ 2 ≤ fl6.rd FRM_STAT_SyncSrc) ∧
    (fl7.frm.markers = 2 ^ 1 ∧ 2 ≤ fl7.rd FRM_STAT_SyncSrc) ∧
    (4 ≤ fl8.tl.noMarker ∧ fl8.lowestLive = true ∧ fl8.on FRM_STAT_TimingMaster = false) := by
  repeat' apply And.intro
  all_goals decide +kernel

/-- Witnesses of FramesCount: for each clause with hypotheses, a state and operands that meet them all. -/
theorem witness_FramesCount :
    (fc1.pwr.phase = Phase.booted ∧ fc1.on GLB_STAT_CfgValid = false) ∧
    (fc2.pwr.phase = Phase.running ∧ fc2.resetDue = none) ∧
    (fc1.pwr.phase ≠ Phase.running) ∧
    (fc2.pwr.phase ≠ Phase.booted) := by
  repeat' apply And.intro
  all_goals decide +kernel

/-- Witnesses of RegisterWriteByAccessCode: for each clause with hypotheses, a state and operands that meet them all. -/
theorem witness_RegisterWriteByAccessCode :
    ((BitVec.ofNat 18 GLB_SCRATCH).toNat % 4 = 0 ∧ regAt (BitVec.ofNat 18 GLB_SCRATCH).toNat = some (regSpec1, 0, 0) ∧
      regSpec1.shadowed = false ∧ rw1.writeAct regSpec1 (BitVec.ofNat 18 GLB_SCRATCH).toNat 0 false = none) := by
  repeat' apply And.intro
  all_goals decide +kernel

/-- Witnesses of ShadowedWriteWaitsForApply: for each clause with hypotheses, a state and operands that meet them all. -/
theorem witness_ShadowedWriteWaitsForApply :
    ((BitVec.ofNat 18 (LT_CFG 23)).toNat % 4 = 0 ∧ regAt (BitVec.ofNat 18 (LT_CFG 23)).toNat = some (regSpec2, 23, 0) ∧
      regSpec2.shadowed = true ∧ regSpec2.w1c = 0) := by
  repeat' apply And.intro
  all_goals decide +kernel

/-- Witnesses of AccessesAreWholeWords: for each clause with hypotheses, a state and operands that meet them all. -/
theorem witness_AccessesAreWholeWords :
    ((0 ≠ 15 ∨ 0 % 4 ≠ 0)) := by
  repeat' apply And.intro
  all_goals decide +kernel

/-- Witnesses of DebugRegisters: for each clause with hypotheses, a state and operands that meet them all. -/
theorem witness_DebugRegisters :
    (dr1.pwr.lockSet = false ∧ dr1.on DBG_LOCK_PermLock = false) ∧
    ((dr2.pwr.lockSet = true ∨ dr2.on DBG_LOCK_PermLock = true)) ∧
    (dr1.on DBG_LOCK_Lock = false) ∧
    (dr3.on DBG_LOCK_Lock = true) := by
  repeat' apply And.intro
  all_goals decide +kernel

/-- Witnesses of TargetReads: for each clause with hypotheses, a state and operands that meet them all. -/
theorem witness_TargetReads :
    (tr1.bus.tgt.addressed = true ∧ tr1.on TW_TGT_CFG_En = true) ∧
    ((tr2.bus.tgt.addressed = false ∨ tr2.on TW_TGT_CFG_En = false)) := by
  repeat' apply And.intro
  all_goals decide +kernel

/-- Witnesses of TargetWrites: for each clause with hypotheses, a state and operands that meet them all. -/
theorem witness_TargetWrites :
    (tw1.pwr.phase ≠ Phase.held ∧ tw1.pwr.vio.testBit 0 = true ∧ tw1.on TW_TGT_CFG_En = true) ∧
    (tw2.bus.tgt.addressed = true ∧ tw2.on TW_TGT_CFG_En = true ∧ tw2.on TW_TGT_CFG_PecReq = false) ∧
    (tw2.bus.tgt.addressed = true ∧ tw2.on TW_TGT_CFG_En = true ∧ tw2.on TW_TGT_CFG_PecReq = false ∧ tw2.winRefuses = false) ∧
    (tw4.bus.tgt.addressed = true ∧ tw4.on TW_TGT_CFG_En = true ∧ tw4.winRefuses = true) ∧
    (tw2.bus.tgt.addressed = true ∧ tw2.on TW_TGT_CFG_En = true ∧ tw2.on TW_TGT_CFG_PecReq = false ∧ tw2.bus.tgt.staged = none) ∧
    (tw3.bus.tgt.addressed = true ∧ tw3.on TW_TGT_CFG_En = true ∧ tw3.on TW_TGT_CFG_PecReq = false ∧ tw3.bus.tgt.staged = some
      (the tw3.bus.tgt.staged) ∧ the tw3.bus.tgt.staged < 2 ^ 16 ∧ tw3.winRefuses = false ∧ tw3.winOfs = GLB_SCRATCH) ∧
    (tw2.bus.tgt.addressed = true ∧ tw2.on TW_TGT_CFG_En = true ∧ (some false = some false ∨ some false = none ∧ tw2.on
      TW_TGT_CFG_PecReq = true)) ∧
    (tw2.bus.tgt.addressed = true ∧ tw2.on TW_TGT_CFG_En = true ∧ tw2.on TW_TGT_CFG_WinRd = true ∧ tw2.winOfs = GLB_SCRATCH ∧
      tw2.booting = false) ∧
    (tw2.bus.tgt.addressed = true ∧ tw2.on TW_TGT_CFG_En = true) ∧
    (tw4.bus.tgt.alertLow = true ∧ tw4.on TW_TGT_CFG_AlertDrv = true ∧ tw4.flt.alertNew = false) ∧
    (tw1.bus.tgt.alertLow = false) := by
  repeat' apply And.intro
  all_goals decide +kernel

/-- Witnesses of TwoWireTransactions: for each clause with hypotheses, a state and operands that meet them all. -/
theorem witness_TwoWireTransactions :
    (tx1.ready 0 32 = some (the (tx1.ready 0 32)) ∧ tx1.xferBad (the (tx1.ready 0 32)).payload = true) ∧
    (tx2.ready 0 32 = some (the (tx2.ready 0 32)) ∧ tx2.xferBad (the (tx2.ready 0 32)).payload = false ∧ tx2.on (TW_PORT_CTL_En
      (numAt (the (tx2.ready 0 32)).payload 0 1)) = false) ∧
    (tx3.ready 0 32 = some (the (tx3.ready 0 32)) ∧ tx3.xferBad (the (tx3.ready 0 32)).payload = false ∧ tx3.on (TW_PORT_CTL_En
      (numAt (the (tx3.ready 0 32)).payload 0 1)) = true) ∧
    (tx4.busWork (BusUse.cmd 0) = some (the (tx4.busWork (BusUse.cmd 0))) ∧ tx4.twPortOf (the (tx4.busWork (BusUse.cmd 0))) = some
      11 ∧ (tx4.twp 11).run = none ∧ tx4.twMaster 11 = true ∧ tx4.on (TW_PORT_STAT_Ready 11) = true) ∧
    (XferOn tx5 11 cmd2 ∧ numAt cmd2.payload 2 1 = 5 ∧ numAt cmd2.payload 3 1 = 0) ∧
    (XferOn tx5 11 cmd2) ∧
    (XferOn tx5 11 cmd2 ∧ tx5.on (FLT_SRC_CFG_Assigned 194) = true) ∧
    ((tx1.twp 0).run = none) := by
  repeat' first
    | with_reducible exact linkTaken_of (by decide +kernel)
    | with_reducible exact xferOn_of (by decide +kernel)
    | with_reducible exact canXferOn_of (by decide +kernel)
    | with_reducible apply And.intro
  all_goals first | decide +kernel | exact .inl (by decide +kernel) | exact ⟨5, by decide +kernel, by decide +kernel⟩

/-- Witnesses of TwoWirePorts: for each clause with hypotheses, a state and operands that meet them all. -/
theorem witness_TwoWirePorts :
    (tp1.on (TW_PORT_CTL_En 0) = false) ∧
    (tp2.on (TW_PORT_CTL_En 11) = true) ∧
    (tp2.on (TW_PORT_CTL_En 11) = true ∧ tp2.on (TW_PORT_STAT_Clearing 11) = false ∧ (tp2.twp 11).run = none) ∧
    (tp3.on (TW_PORT_STAT_Clearing 11) = true) ∧
    (tp3.on (TW_PORT_STAT_Clearing 11) = true ∧ tp3.on (FLT_SRC_CFG_Assigned 192) = true) ∧
    ((tp1.twp 0).sclHeld = false ∧ (tp1.twp 0).run = none ∧ tp1.on (FLT_SRC_CFG_Assigned 193) = true) ∧
    ((tp4.twp 11).sclHeld = true ∧ tp4.on (TW_PORT_CTL_En 11) = true) ∧
    (tp5.on (TW_PORT_CFG_AlertEn 11) = true) ∧
    (tp5.on (TW_PORT_CFG_AlertEn 11) = true ∧ tp5.on (TW_PORT_ARA_AraEn 11) = true ∧ tp5.on (TW_PORT_STAT_Alert 11) = true ∧
      tp5.on (TW_PORT_STAT_Ready 11) = true ∧ (tp5.twp 11).run = none ∧ tp5.twMaster 11 = true) ∧
    (tp5.on (TW_PORT_CFG_AlertEn 11) = true ∧ tp5.on (TW_PORT_ARA_AraEn 11) = true ∧ tp5.on (TW_PORT_STAT_Alert 11) = true ∧
      tp5.on (TW_PORT_STAT_Ready 11) = true ∧ (tp5.twp 11).run = none ∧ tp5.twMaster 11 = true ∧ tp5.rd (TW_PORT_CFG_Proto 11) ≠ 2
      ∧ (tp5.twp 11).log.length < 8 ∧ tp5.hif.events.length < 256) ∧
    ((tp5.twp 11).log = [1, 2, 3, 4, 5, 6, 7]) := by
  repeat' apply And.intro
  all_goals decide +kernel

/-- Witnesses of CanControllers: for each clause with hypotheses, a state and operands that meet them all. -/
theorem witness_CanControllers :
    (cc1.ready 0 33 = some (the (cc1.ready 0 33)) ∧ cc1.canBad (the (cc1.ready 0 33)).payload = true) ∧
    (cc2.ready 0 33 = some (the (cc2.ready 0 33)) ∧ cc2.canBad (the (cc2.ready 0 33)).payload = false ∧ cc2.on (CAN_CTL_En (numAt
      (the (cc2.ready 0 33)).payload 0 1)) = false) ∧
    (cc3.ready 0 33 = some (the (cc3.ready 0 33)) ∧ cc3.canBad (the (cc3.ready 0 33)).payload = false ∧ cc3.on (CAN_CTL_En (numAt
      (the (cc3.ready 0 33)).payload 0 1)) = true) ∧
    (cc4.busWork (BusUse.cmd 0) = some busRun1 ∧ cc4.canOf busRun1 = some 3 ∧ (cc4.canc 3).run = none ∧ cc4.canRestricted 3 =
      false ∧ cc4.on (CAN_CTL_En 3) = true ∧ cc4.rd (CAN_STAT_ErrState 3) ≠ 2) ∧
    (CanXferOn cc5 3 cmd1 ∧ 1 ≤ 1 + cc5.rd (CAN_CFG_Retry 3)) ∧
    (cc6.on (CAN_CTL_En 3) = true ∧ cc6.canPins 3 false (if false = true then 2047 else 2047 % 2 ^ 11) = [] ∧ ((List.range 32).any
      fun (j : Nat) => cc6.canPass 3 j false (if false = true then 2047 else 2047 % 2 ^ 11)) = true ∧ (cc6.canc 3).taken < 64 ∧
      ((List.range 32).all fun (j : Nat) => !cc6.on (CAN_FLT_ID_ToEq 3 j)) = true) ∧
    (cc7.on (CAN_CTL_En 3) = true ∧ ((List.range 32).any fun (j : Nat) => cc7.canPass 3 j false (if false = true then 0 else 0 % 2
      ^ 11)) = true ∧ 64 ≤ (cc7.canc 3).taken ∧ cc7.on (FLT_SRC_CFG_Assigned 200) = true) ∧
    (cc10.rd (CAN_STAT_ErrState 3) = 0 ∧ cc10.hif.events.length < 256 ∧ cc10.on (FLT_SRC_CFG_Assigned 198) = true) ∧
    (cc8.rd (CAN_STAT_ErrState 3) = 2 ∧ (cc8.on (CAN_CFG_AutoRecover 3) = true ∨ (cc8.canc 3).recover = true) ∧
      cc8.hif.events.length < 256) ∧
    (cc8.rd (CAN_STAT_ErrState 3) = 2) ∧
    (cc9.on (CAN_CFG_XcvrEn 3) = true ∧ cc9.on (FLT_SRC_CFG_Assigned 199) = true) ∧
    (cc1.on (FLT_SRC_CFG_Assigned 201) = true) := by
  repeat' first
    | with_reducible exact linkTaken_of (by decide +kernel)
    | with_reducible exact xferOn_of (by decide +kernel)
    | with_reducible exact canXferOn_of (by decide +kernel)
    | with_reducible apply And.intro
  all_goals first | decide +kernel | exact .inl (by decide +kernel) | exact ⟨5, by decide +kernel, by decide +kernel⟩

/-- Witnesses of Converters: for each clause with hypotheses, a state and operands that meet them all. -/
theorem witness_Converters :
    (cv1.on (AFE_FC_CFG_En 0) = false) ∧
    (cv2.on (AFE_FC_CFG_En 23) = true ∧ cv2.flt.armed = none ∧ List.find? (fun (e : Nat × Nat × Nat) => e.fst == 23 && e.snd.fst
      == 199) cv2.sense.fcPlan = some (23, 199, 7) ∧ cv2.tmOfSeq 23 7 = [255] ∧ (∀ (j : Nat), j < 4 → cv2.on (CAPU_CFG_En j) =
      false) ∧ (∀ (e : Nat), e < 16 → cv2.on (EF_CTL_En e) = false) ∧ (∀ (p : Nat), p < 256 → cv2.rd (AFE_TM_CFG_SrcType p) ≠ 2) ∧
      1 = parity12 1 ∧ satS 32 (cv2.tmValue 255 (↑1) 0) = cv2.tmValue 255 (↑1) 0) ∧
    (cv2.on (AFE_FC_CFG_En 23) = true ∧ cv2.flt.armed = none ∧ List.find? (fun (e : Nat × Nat × Nat) => e.fst == 23 && e.snd.fst
      == 199) cv2.sense.fcPlan = some (23, 199, 7) ∧ cv2.tmOfSeq 23 7 = [255] ∧ (∀ (j : Nat), j < 4 → cv2.on (CAPU_CFG_En j) =
      false) ∧ (∀ (e : Nat), e < 16 → cv2.on (EF_CTL_En e) = false) ∧ (∀ (p : Nat), p < 256 → cv2.rd (AFE_TM_CFG_SrcType p) ≠ 2) ∧
      0 ≠ parity12 1 ∧ cv2.on (FLT_SRC_CFG_Assigned 64) = true) ∧
    (cv3.mcAvail = true ∧ cv3.flt.armed = none ∧ 2 = parity16 32768 ∧ cv3.tmOfJob 0 = []) ∧
    (McUse.reference ∈ [McUse.reference, McUse.readback, McUse.tempScan, McUse.core] ∧ cv1.mcAvail = false) ∧
    (McUse.reference ∈ [McUse.reference, McUse.readback, McUse.tempScan, McUse.core] ∧ cv3.mcAvail = true ∧ cv3.on
      (FLT_SRC_CFG_Assigned 66) = true) ∧
    (McUse.reference ∈ [McUse.reference, McUse.readback, McUse.tempScan, McUse.core] ∧ cv3.mcAvail = true ∧ cv3.flt.armed = none ∧
      0 ≠ parity16 32768 ∧ cv3.on (FLT_SRC_CFG_Assigned 65) = true) ∧
    (cv3.mcAvail = true ∧ cv3.flt.armed = none ∧ 2 = parity16 32933 ∧ cv3.on (FLT_SRC_CFG_Assigned 67) = true ∧ (32768 + 164 <
      32933 ∨ 32933 < 32768 - 164)) ∧
    (cv3.mcAvail = true ∧ cv3.flt.armed = none ∧ 2 = parity16 32768 ∧ cv3.on (FLT_SRC_CFG_Assigned 67) = true ∧ 32768 - 164 ≤
      32768 ∧ 32768 ≤ 32768 + 164) ∧
    (cv4.mcAvail = true ∧ cv4.flt.armed = none ∧ 2 = parity16 32768 ∧ cv4.on (FLT_SRC_CFG_Assigned 68) = true ∧ cv4.on
      AFE_ST_CFG_RbEn = true ∧ cv4.on (CMP_CFG_StEn 63) = true ∧ (cv4.cmp 63).voidHi = false ∧ 64 * cv4.rd (CMP_THR_Hi 63) + 64 *
      cv4.rd AFE_ST_CFG_DacTol < 32768) := by
  repeat' apply And.intro
  all_goals decide +kernel

/-- Witnesses of Comparators: for each clause with hypotheses, a state and operands that meet them all. -/
theorem witness_Comparators :
    (cp1.on (if false = true then CMP_CFG_HiEn 63 else CMP_CFG_LoEn 63) = false) ∧
    (cp3.on (if true = true then CMP_CFG_HiEn 63 else CMP_CFG_LoEn 63) = true ∧ cp3.blanked 63 = true) ∧
    (cp2.on (if false = true then CMP_CFG_HiEn 63 else CMP_CFG_LoEn 63) = true ∧ cp2.blanked 63 = false ∧ cp2.latched 63 false =
      false) ∧
    (cp1.blanked 63 = false) ∧
    (cp4.blanked 63 = true ∧ cp4.rawEvent 63 true = false ∧ cp4.rawEvent 63 false = false) ∧
    (cp3.blanked 63 = true ∧ cp3.rawEvent 63 true = true) ∧
    (cp1.testable 63 = false) ∧
    (cp5.testable 63 = true ∧ cp5.rawEvent 63 true = false ∧ cp5.rawEvent 63 false = false ∧ (cp5.cmp 63).tieNext = false) ∧
    (cp5.testable 63 = true ∧ cp5.rawEvent 63 true = false ∧ cp5.rawEvent 63 false = false ∧ (cp5.cmp 63).tieNext = false ∧ (false
      && false) = false) ∧
    ((cp6.cmp 63).tieNext = true ∧ cp6.blanked 63 = true) ∧
    ((cp6.cmp 63).tieNext = true ∧ cp6.blanked 63 = true ∧ 8 ≤ cp6.rd (CMP_THR_Lo 63) ∧ cp6.on (FLT_SRC_CFG_Assigned 69) = true) ∧
    ((cp6.cmp 63).tieNext = true ∧ cp6.blanked 63 = true ∧ cp6.rd (CMP_THR_Hi 63) ≤ 1015 ∧ cp6.on (FLT_SRC_CFG_Assigned 69) =
      true) ∧
    (cp7.maxAge = some (the cp7.maxAge) ∧ cp7.on (CMP_CFG_StEn 63) = true ∧ (cp7.cmp 63).raised = false ∧ (cp7.cmp 63).lastPass +
      the cp7.maxAge ≤ cp7.frame ∧ cp7.on (FLT_SRC_CFG_Assigned 70) = true) := by
  repeat' apply And.intro
  all_goals decide +kernel

/-- Witnesses of PulsePeriods: for each clause with hypotheses, a state and operands that meet them all. -/
theorem witness_PulsePeriods :
    (pp1.referred 47 = [] ∧ (∀ (l : Nat), l < 16 → ∀ (m : Nat), m < 4 → pp1.rd (CMP_TRIP_MASK_Mask l m) = 0) ∧ pp1.sense.trips = 0
      ∧ pp1.rd (PG_GRP_STAT_TripLatch (47 / 4)) = 0 ∧ pp1.on (PG_CH_STAT_Run 47) = false ∧ (pp1.pg 47).armed = false ∧ (pp1.pg
      47).stopping = false) ∧
    (pp4.referred 47 = [] ∧ (∀ (l : Nat), l < 16 → ∀ (m : Nat), m < 4 → pp4.rd (CMP_TRIP_MASK_Mask l m) = 0) ∧ pp4.sense.trips = 0
      ∧ pp4.rd (PG_GRP_STAT_TripLatch (47 / 4)) = 0 ∧ (pp4.pg 47).stopping = true) ∧
    (pp2.referred 47 = [] ∧ (∀ (l : Nat), l < 16 → ∀ (m : Nat), m < 4 → pp2.rd (CMP_TRIP_MASK_Mask l m) = 0) ∧ pp2.sense.trips = 0
      ∧ pp2.rd (PG_GRP_STAT_TripLatch (47 / 4)) = 0 ∧ (pp2.on (PG_CH_STAT_Run 47) = true ∨ (pp2.pg 47).armed = true) ∧
      pp2.pgMayRun 47 = true ∧ (pp2.pg 47).stopping = false ∧ pp2.rd (PG_CH_CFG_Align 47) < 3) ∧
    (pp3.referred 47 = [] ∧ (∀ (l : Nat), l < 16 → ∀ (m : Nat), m < 4 → pp3.rd (CMP_TRIP_MASK_Mask l m) = 0) ∧ pp3.sense.trips = 0
      ∧ pp3.rd (PG_GRP_STAT_TripLatch (47 / 4)) = 0 ∧ (pp3.on (PG_CH_STAT_Run 47) = true ∨ (pp3.pg 47).armed = true) ∧
      pp3.pgMayRun 47 = true ∧ (pp3.pg 47).stopping = false ∧ pp3.rd (PG_CH_CFG_Align 47) = 3) ∧
    (pp2.referred 47 = [] ∧ (∀ (l : Nat), l < 16 → ∀ (m : Nat), m < 4 → pp2.rd (CMP_TRIP_MASK_Mask l m) = 0) ∧ pp2.sense.trips = 0
      ∧ pp2.rd (PG_GRP_STAT_TripLatch (47 / 4)) = 0 ∧ (pp2.on (PG_CH_STAT_Run 47) = true ∨ (pp2.pg 47).armed = true) ∧
      pp2.pgMayRun 47 = true ∧ (pp2.pg 47).stopping = false) ∧
    ((pp1.on (PG_CH_STAT_Run 47) = false ∨ pp1.on (PG_CH_STAT_IdleSt 47) = true ∨ (pp1.pg 47).pulse = false ∨ (pp1.pg 47).held =
      true ∨ (pp1.pg 47).cycEnd = true)) ∧
    (pp5.on (PG_CH_STAT_Run 47) = true ∧ pp5.on (PG_CH_STAT_IdleSt 47) = false ∧ (pp5.pg 47).pulse = true ∧ (pp5.pg 47).held =
      false ∧ (pp5.pg 47).cycEnd = false ∧ pp5.referred 47 = [] ∧ pp5.on (PG_CH_CFG_RbEn 47) = false ∧ (pp5.pg 47).riseDone =
      false ∧ pp5.chanAct 47 ≠ 1) ∧
    (pp6.on (PG_CH_STAT_Run 47) = true ∧ pp6.on (PG_CH_STAT_IdleSt 47) = false ∧ (pp6.pg 47).pulse = true ∧ (pp6.pg 47).held =
      false ∧ (pp6.pg 47).cycEnd = false ∧ pp6.referred 47 = [] ∧ pp6.on (PG_CH_CFG_RbEn 47) = false ∧ (pp6.pg 47).riseDone = true
      ∧ (pp6.pg 47).fallDone = false) ∧
    (pp7.on (PG_CH_STAT_Run 47) = true ∧ pp7.on (PG_CH_STAT_IdleSt 47) = false ∧ (pp7.pg 47).pulse = true ∧ (pp7.pg 47).held =
      false ∧ (pp7.pg 47).cycEnd = false ∧ pp7.referred 47 = [] ∧ pp7.on (PG_CH_CFG_RbEn 47) = true ∧ (pp7.pg 47).riseDone = false
      ∧ pp7.chanAct 47 ≠ 1 ∧ pp7.rd (PG_CH_CFG_OutMode 47) = 0 ∧ (pp7.pg 47).outH = Lvl.low ∧ (pp7.pg 47).outL = Lvl.high ∧
      (pp7.pg 47).misH = 1 ∧ pp7.on (FLT_SRC_CFG_Assigned 98) = true) := by
  repeat' apply And.intro
  all_goals decide +kernel

/-- Witnesses of PeriodStartClearsCycleLatches: for each clause with hypotheses, a state and operands that meet them all. -/
theorem witness_PeriodStartClearsCycleLatches :
    (63 ∈ pc1.referred 47 ∧ pc1.on (CMP_CFG_Latch 63) = false ∧ pc1.rawEvent 63 false = false) := by
  repeat' apply And.intro
  all_goals decide +kernel

/-- Witnesses of PulseControls: for each clause with hypotheses, a state and operands that meet them all. -/
theorem witness_PulseControls :
    (pk1.on (PG_CH_CFG_Src 47) = true) ∧
    (pk8.on (PG_CH_CFG_Src 47) = false) ∧
    (pk2.on (PG_CH_CFG_Src 47) = true ∧ pk2.rd (PG_CH_CFG_Align 47) = 3) ∧
    (pk2.on (PG_CH_CFG_Src 47) = true ∧ pk2.rd (PG_CH_CFG_Align 47) = 3 ∧ pk2.on (PG_CH_CFG_Upd 47) = true) ∧
    (pk1.on (PG_CH_CFG_Src 47) = true ∧ pk1.rd (PG_CH_CFG_Align 47) < 3) ∧
    (pk3.on (PG_CH_CFG_Src 47) = true ∧ pk3.rd (PG_CH_CFG_Align 47) < 3 ∧ pk3.on (PG_CH_CFG_Upd 47) = true) ∧
    (pk4.on (PG_CH_CFG_Src 47) = true ∧ pk4.rd (PG_CH_CFG_Align 47) < 3 ∧ pk4.on (PG_CH_CFG_Upd 47) = false ∧ pk4.on
      (PG_CH_STAT_Run 47) = true ∧ (pk4.pg 47).trans = false ∧ (pk4.pg 47).cycEnd = false ∧ (pk4.pg 47).held = false ∧ (pk4.pg
      47).riseDone = true ∧ (pk4.pg 47).fallDone = false) ∧
    (pk5.on (PG_CH_STAT_ParOff 47) = true) ∧
    (pk1.on (PG_CH_STAT_ParOff 47) = false) := by
  repeat' apply And.intro
  all_goals decide +kernel

/-- Witnesses of TileUpdate: for each clause with hypotheses, a state and operands that meet them all. -/
theorem witness_TileUpdate :
    ((tu1.on (LT_CTL_En 0) = false ∨ tu1.ltMode 0 = 0 ∨ 5 ≤ tu1.ltMode 0)) ∧
    (tu2.on (LT_CTL_En 23) = true ∧ tu2.sense.badCode = none ∧ tu2.flt.armed = none ∧ tileSample1.par.toNat = parity12
      tileSample1.code.toNat ∧ tu2.ltMode 23 = 1) ∧
    (tu3.on (LT_CTL_En 23) = true ∧ tu3.sense.badCode = none ∧ tu3.flt.armed = none ∧ tileSample1.par.toNat = parity12
      tileSample1.code.toNat ∧ tileSample1.ecc = none ∧ tu3.on (LT_CFG_Multi 23) = false ∧ tu3.ltMode 23 = 4) ∧
    (tu4.on (LT_CTL_En 23) = true ∧ tu4.sense.badCode = none ∧ tu4.flt.armed = none ∧ tileSample1.par.toNat = parity12
      tileSample1.code.toNat ∧ tileSample1.ecc = none ∧ tu4.on (LT_CFG_Multi 23) = false ∧ (tu4.ltMode 23 = 2 ∨ tu4.ltMode 23 =
      3)) ∧
    (tu2.on (LT_CTL_En 23) = true ∧ tu2.sense.badCode = none ∧ tu2.flt.armed = none ∧ tileSample2.par.toNat ≠ parity12
      tileSample2.code.toNat ∧ tileSample2.ecc = none ∧ 1 ≤ tu2.ltMode 23 ∧ tu2.ltMode 23 ≤ 4 ∧ tu2.on (LT_CFG_IlimEn 23) = false
      ∧ (tu2.ltc 23).misses + 1 < max 1 (tu2.rd (LT_CFG_MissMax 23)) ∧ tu2.on (FLT_SRC_CFG_Assigned 64) = true) ∧
    (tu6.on (LT_CTL_En 23) = true ∧ tu6.sense.badCode = none ∧ tu6.flt.armed = none ∧ tileSample2.par.toNat ≠ parity12
      tileSample2.code.toNat ∧ tileSample2.ecc = none ∧ 1 ≤ tu6.ltMode 23 ∧ tu6.ltMode 23 ≤ 4 ∧ tu6.on (LT_CFG_IlimEn 23) = false
      ∧ max 1 (tu6.rd (LT_CFG_MissMax 23)) ≤ (tu6.ltc 23).misses + 1 ∧ tu6.on (FLT_SRC_CFG_Assigned 106) = true) := by
  repeat' apply And.intro
  all_goals decide +kernel

/-- Witnesses of TileCommands: for each clause with hypotheses, a state and operands that meet them all. -/
theorem witness_TileCommands :
    (tc2.ltRetryDue 23 = true) ∧
    (tc1.ltRetryDue 0 = false) ∧
    ((tc3.ltc 23).ilFrames = some (the (tc3.ltc 23).ilFrames) ∧ tc3.rd (LT_ILIM_CFG_MaxFrames 23) ≠ 0 ∧ tc3.rd
      (LT_ILIM_CFG_MaxFrames 23) ≤ the (tc3.ltc 23).ilFrames ∧ (tc3.ltc 23).ilRaised = false ∧ tc3.on (FLT_SRC_CFG_Assigned 109) =
      true) ∧
    ((tc1.rd (LT_ILIM_CFG_MaxFrames 0) = 0 ∨ (tc1.ltc 0).ilRaised = true ∨ (tc1.ltc 0).ilFrames = none)) ∧
    (tc4.ltMode 23 = 3 ∧ 100000 ≤ (tc4.ltc 23).autoCnt) ∧
    ((tc1.ltMode 0 ≠ 3 ∨ (tc1.ltc 0).autoCnt < 100000)) ∧
    (tc5.ltMode 23 = 6) ∧
    (tc1.ltMode 0 ≠ 6) ∧
    (tc6.ready 0 18 = some (the (tc6.ready 0 18)) ∧ (the (tc6.ready 0 18)).point = 16384 + 32 * 23 ∧ (zeroAt (the (tc6.ready 0
      18)).payload 8 32 = false ∨ tc6.slOwns (the (tc6.ready 0 18)).point = true)) ∧
    (tc7.ready 0 18 = some (the (tc7.ready 0 18)) ∧ (the (tc7.ready 0 18)).point = 16384 + 32 * 23 ∧ zeroAt (the (tc7.ready 0
      18)).payload 8 32 = true ∧ tc7.slOwns (the (tc7.ready 0 18)).point = false ∧ (tc7.ltMode 23 = 0 ∨ tc7.ltMode 23 = 1 ∨ 5 ≤
      tc7.ltMode 23)) ∧
    (tc8.ready 0 18 = some (the (tc8.ready 0 18)) ∧ (the (tc8.ready 0 18)).point = 16384 + 32 * 23 ∧ zeroAt (the (tc8.ready 0
      18)).payload 8 32 = true ∧ tc8.slOwns (the (tc8.ready 0 18)).point = false ∧ 2 ≤ tc8.ltMode 23 ∧ tc8.ltMode 23 ≤ 4) ∧
    (tc9.ready 0 19 = some (the (tc9.ready 0 19)) ∧ (the (tc9.ready 0 19)).point = 16388 + 32 * 23 ∧ (zeroAt (the (tc9.ready 0
      19)).payload 1 39 = false ∨ ¬numAt (the (tc9.ready 0 19)).payload 0 1 ∈ [0, 3, 4] ∨ numAt (the (tc9.ready 0 19)).payload 0 1
      = 0 ∧ tc9.ltRailed 23 = true ∨ numAt (the (tc9.ready 0 19)).payload 0 1 ≠ 0 ∧ tc9.ltMode 23 ≠ 3 ∧ tc9.ltMode 23 ≠ 4)) ∧
    (tc10.ready 0 19 = some (the (tc10.ready 0 19)) ∧ (the (tc10.ready 0 19)).point = 16388 + 32 * 23 ∧ zeroAt (the (tc10.ready 0
      19)).payload 1 39 = true ∧ (numAt (the (tc10.ready 0 19)).payload 0 1 = 0 ∧ tc10.ltRailed 23 = false ∨ numAt (the
      (tc10.ready 0 19)).payload 0 1 ∈ [3, 4] ∧ (tc10.ltMode 23 = 3 ∨ tc10.ltMode 23 = 4))) := by
  repeat' apply And.intro
  all_goals decide +kernel

/-- Witnesses of ShelfLoopRuns: for each clause with hypotheses, a state and operands that meet them all. -/
theorem witness_ShelfLoopRuns :
    ((sr1.frm.coreRst = true ∨ sr1.on (SL_CTL_En 0) = false ∨ sr1.slDue 0 = false ∨ sr1.slMode 0 = 0 ∨ sr1.slMode 0 = 4)) ∧
    (sr2.frm.coreRst = false ∧ sr2.on (SL_CTL_En 15) = true ∧ sr2.slDue 15 = true ∧ sr2.slMode 15 ∈ [1, 2, 3] ∧ (sr2.slInput
      15).snd = true ∧ (sr2.slc 15).skips + 1 < max 1 (sr2.rd (SL_MEMS_CFG_MissMax 15)) ∧ sr2.on (SL_STAT_InLost 15) = false) ∧
    (sr3.frm.coreRst = false ∧ sr3.on (SL_CTL_En 15) = true ∧ sr3.slDue 15 = true ∧ sr3.slMode 15 ∈ [1, 2, 3] ∧ (sr3.slInput
      15).snd = true ∧ max 1 (sr3.rd (SL_MEMS_CFG_MissMax 15)) ≤ (sr3.slc 15).skips + 1 ∧ sr3.on (SL_STAT_InLost 15) = false ∧
      sr3.on (FLT_SRC_CFG_Assigned 184) = true ∧ sr3.slMembers 15 = []) ∧
    (sr4.frm.coreRst = false ∧ sr4.on (SL_CTL_En 15) = true ∧ sr4.slDue 15 = true ∧ sr4.slMode 15 ∈ [1, 2, 3] ∧ (sr4.slInput
      15).snd = false ∧ sr4.pointKnown (sr4.rd (SL_IN_Id 15)) = true ∧ sr4.slMode 15 = 2 ∧ sr4.slBattery 15 = false ∧
      sr4.slMembers 15 = [] ∧ (sr4.slc 15).claim = none ∧ (sr4.slc 15).wasClaimed = false ∧ sr4.on (SL_RC_CFG_En 15) = false) ∧
    (max 1 (sr5.rd (SL_MEMS_CFG_MissMax 15)) ≤ (sr5.slc 15).skips ∧ sr5.on (SL_STAT_InLost 15) = false ∧ sr5.on
      (FLT_SRC_CFG_Assigned 184) = true) ∧
    (sr6.on (SL_STAT_InLost 15) = true) ∧
    (sr7.rd (SL_MEM_STAT_Miss 15 7) = max 1 (sr7.rd (SL_MEMS_CFG_MissMax 15)) ∧ sr7.on (SL_MEM_STAT_Lost 15 7) = false ∧ sr7.on
      (FLT_SRC_CFG_Assigned 185) = true) ∧
    (sr6.on (SL_MEM_STAT_Lost 15 7) = true) := by
  repeat' apply And.intro
  all_goals decide +kernel

/-- Witnesses of ShelfLoopControls: for each clause with hypotheses, a state and operands that meet them all. -/
theorem witness_ShelfLoopControls :
    (sc2.slBattery 15 = true ∧ (sc2.slc 15).mode = 5) ∧
    ((sc1.slBattery 0 = false ∨ (sc1.slc 0).mode ≠ 5)) ∧
    (sc4.ready 0 19 = some (the (sc4.ready 0 19)) ∧ (the (sc4.ready 0 19)).point = 20485 + 32 * 15 ∧ (zeroAt (the (sc4.ready 0
      19)).payload 1 39 = false ∨ 4 ≤ numAt (the (sc4.ready 0 19)).payload 0 1 ∨ sc4.slMode 15 = 4 ∨ numAt (the (sc4.ready 0
      19)).payload 0 1 = 2 ∧ sc4.on (SL_STAT_InLost 15) = true ∨ sc4.slMode 15 = 5 ∧ numAt (the (sc4.ready 0 19)).payload 0 1 ≠
      0)) ∧
    (sc5.ready 0 19 = some (the (sc5.ready 0 19)) ∧ (the (sc5.ready 0 19)).point = 20485 + 32 * 15 ∧ zeroAt (the (sc5.ready 0
      19)).payload 1 39 = true ∧ numAt (the (sc5.ready 0 19)).payload 0 1 < 4 ∧ sc5.slMode 15 ≠ 4 ∧ (numAt (the (sc5.ready 0
      19)).payload 0 1 = 2 → sc5.on (SL_STAT_InLost 15) = false) ∧ (sc5.slMode 15 = 5 → numAt (the (sc5.ready 0 19)).payload 0 1 =
      0)) := by
  repeat' apply And.intro
  all_goals decide +kernel

/-- Witnesses of FuseEvents: for each clause with hypotheses, a state and operands that meet them all. -/
theorem witness_FuseEvents :
    ((fe2.efc 15).fastPend = true ∧ 1 ≤ fe2.efState 15 ∧ fe2.efState 15 ≤ 5 ∧ fe2.on (FLT_SRC_CFG_Assigned 128) = true) ∧
    ((fe4.efc 15).fastPend = true ∧ (fe4.efState 15 = 0 ∨ fe4.efState 15 = 6 ∨ fe4.efState 15 = 7)) ∧
    ((fe1.efc 0).fastPend = false) ∧
    (fe5.efInsDone 15 = true) ∧
    (fe1.efInsDone 0 = false) ∧
    (fe6.efInrushLate 15 = true ∧ fe6.on (FLT_SRC_CFG_Assigned 132) = true) ∧
    (fe1.efInrushLate 0 = false) ∧
    (fe7b.efRetryDue 15 = true ∧ fe7b.on (EF_CFG_RailEn 15) = true) ∧
    (fe8b.efRetryDue 15 = true ∧ fe8b.on (EF_CFG_RailEn 15) = false ∧ fe8b.rd (CMP_EF_SRC_Sel 15) = 0 ∧ (fe8b.efc 15).budgetSet =
      true ∧ fe8b.efDemand 15 = true) ∧
    (fe9b.efRetryDue 15 = true ∧ fe9b.on (EF_CFG_RailEn 15) = false ∧ fe9b.rd (CMP_EF_SRC_Sel 15) = 0 ∧ (fe9b.efc 15).budgetSet =
      true ∧ fe9b.efDemand 15 = false) ∧
    (fe1.efRetryDue 0 = false) ∧
    (fe10.efState 15 = 5 ∧ 100000 ≤ (fe10.efc 15).onCnt) ∧
    (2 ≤ fe10.rd (EF_CFG_TMode 15) ∧ -55 * 65536 ≤ 0 ∧ 0 ≤ 200 * 65536) ∧
    (2 ≤ fe10.rd (EF_CFG_TMode 15) ∧ (13107201 < -55 * 65536 ∨ 200 * 65536 < 13107201) ∧ fe10.on (FLT_SRC_CFG_Assigned 136) =
      true) ∧
    (fe1.rd (EF_CFG_TMode 0) < 2) := by
  repeat' apply And.intro
  all_goals decide +kernel

/-- Witnesses of FuseControls: for each clause with hypotheses, a state and operands that meet them all. -/
theorem witness_FuseControls :
    (fo1.efState 0 = 0 ∧ (fo1.efc 0).latch = false) ∧
    (fo2.efState 15 ≠ 0) ∧
    (fo2.on (EF_CFG_RailEn 15) = false ∧ 2 ≤ fo2.efState 15 ∧ fo2.efState 15 ≤ 5) ∧
    ((fo1.efState 0 < 2 ∨ 5 < fo1.efState 0)) ∧
    (fo1.on (EF_CFG_RailEn 0) = false ∧ fo1.on (EF_STAT_ShedOff 0) = false ∧ fo1.on (EF_STAT_HuOff 0) = false) ∧
    (fo4b.on (EF_CFG_RailEn 15) = true ∧ fo4b.efDemand 15 = true) ∧
    ((fo5b.efState 15 = 6 ∨ fo5b.efState 15 = 7) ∧ fo5b.rd (CMP_EF_SRC_Sel 15) = 0) ∧
    (fo1.efState 0 ≠ 6 ∧ fo1.efState 0 ≠ 7) := by
  repeat' apply And.intro
  all_goals decide +kernel

/-- Witnesses of FuseCommands: for each clause with hypotheses, a state and operands that meet them all. -/
theorem witness_FuseCommands :
    (fm1.ready 0 20 = some (the (fm1.ready 0 20)) ∧ fm1.efuseCheck (the (fm1.ready 0 20)).payload = some (the (fm1.efuseCheck (the
      (fm1.ready 0 20)).payload)) ∧ numAt (the (fm1.ready 0 20)).payload 2 1 = 0) ∧
    (fm2.ready 0 20 = some (the (fm2.ready 0 20)) ∧ fm2.efuseCheck (the (fm2.ready 0 20)).payload = some (the (fm2.efuseCheck (the
      (fm2.ready 0 20)).payload)) ∧ numAt (the (fm2.ready 0 20)).payload 2 1 = 1) ∧
    (fm3.ready 0 20 = some (the (fm3.ready 0 20)) ∧ fm3.efuseCheck (the (fm3.ready 0 20)).payload = some (the (fm3.efuseCheck (the
      (fm3.ready 0 20)).payload)) ∧ numAt (the (fm3.ready 0 20)).payload 2 1 = 2) ∧
    (fm4.ready 0 20 = some (the (fm4.ready 0 20)) ∧ fm4.efuseCheck (the (fm4.ready 0 20)).payload = some (the (fm4.efuseCheck (the
      (fm4.ready 0 20)).payload)) ∧ 3 ≤ numAt (the (fm4.ready 0 20)).payload 2 1) ∧
    (fm5.ready 0 20 = some (the (fm5.ready 0 20)) ∧ fm5.efuseCheck (the (fm5.ready 0 20)).payload = none ∧ numAt (the (fm5.ready 0
      20)).payload 2 1 = 0) ∧
    (fm6.ready 0 20 = some (the (fm6.ready 0 20)) ∧ fm6.efuseCheck (the (fm6.ready 0 20)).payload = none ∧ numAt (the (fm6.ready 0
      20)).payload 2 1 = 1) ∧
    (fm7.ready 0 20 = some (the (fm7.ready 0 20)) ∧ fm7.efuseCheck (the (fm7.ready 0 20)).payload = none ∧ numAt (the (fm7.ready 0
      20)).payload 2 1 = 2 ∧ (∀ (e : Nat), e < 16 → (numAt (the (fm7.ready 0 20)).payload 0 2).testBit e = true → fm7.efWouldStick
      e = false)) ∧
    (fm8.ready 0 20 = some (the (fm8.ready 0 20)) ∧ fm8.efuseCheck (the (fm8.ready 0 20)).payload = none ∧ numAt (the (fm8.ready 0
      20)).payload 2 1 = 2 ∧ (numAt (the (fm8.ready 0 20)).payload 0 2).testBit 15 = true ∧ fm8.efWouldStick 15 = true) ∧
    (fm9.ready 0 20 = some (the (fm9.ready 0 20)) ∧ fm9.efuseCheck (the (fm9.ready 0 20)).payload = none ∧ numAt (the (fm9.ready 0
      20)).payload 2 1 = 3) := by
  repeat' apply And.intro
  all_goals decide +kernel

/-- Witnesses of FeedStages: for each clause with hypotheses, a state and operands that meet them all. -/
theorem witness_FeedStages :
    (fs1.frm.coreRst = true) ∧
    (fs2.frm.coreRst = false ∧ fs2.groups = [7] ∧ fs2.rd TL_CFG_SetSize ≤ 1) ∧
    (fs2.frm.coreRst = false ∧ fs2.groups = [7] ∧ fs2.rd TL_CFG_SetSize ≤ 1 ∧ fs2.on (FG_STAT_Lost 7) = false ∧ (fs2.fgc 7).latch
      = true ∧ fs2.on (FLT_SRC_CFG_Assigned 162) = true) ∧
    (fs3.frm.coreRst = false ∧ fs3.groups = [7] ∧ fs3.rd TL_CFG_SetSize ≤ 1 ∧ fs3.on (FG_STAT_Lost 7) = false ∧ (fs3.fgc 7).latch
      = false ∧ fs3.fgPresent 7 = fs3.fgPairs 7 ∧ fs3.fgPairs 7 ≠ [] ∧ fs3.pairsGone 7 = [] ∧ (∀ (v : Int), fs3.tmLatest (fs3.rd
      (FG_CFG_VrCh 7)) = some v → fs3.rdS (FG_VIN_LOSS_V 7) ≤ v)) ∧
    (fs4.frm.coreRst = false ∧ fs4.rd HU_CFG_InMask = 0 ∧ fs4.on HU_CFG_BusCheck = false ∧ fs4.rd HU_CFG_Store = 0 ∧ fs4.eCap =
      (fs4.eCap.fst, false, false)) ∧
    (fs5.pairBackDue 7 7 = true) ∧
    (fs1.pairBackDue 0 0 = false) ∧
    (fs6.groupBackDue 7 = true) ∧
    (fs1.groupBackDue 0 = false) ∧
    (fs7.pertDue 7 = true) ∧
    (fs1.pertDue 0 = false) := by
  repeat' apply And.intro
  all_goals decide +kernel

/-- Witnesses of HoldUp: for each clause with hypotheses, a state and operands that meet them all. -/
theorem witness_HoldUp :
    ((hu1.frm.coreRst = true ∨ hu1.on HU_CTL_En = false ∧ hu1.cap.huRel = false)) ∧
    (hu2.frm.coreRst = false ∧ hu2.on HU_CTL_En = true ∧ hu2.cap.huRel = false ∧ (hu2.cap.gaspIn && hu2.on HU_CFG_SetGasp) = false
      ∧ hu2.rd HU_STAT_State = 0 ∧ hu2.cap.inLost = false) ∧
    (hu3.frm.coreRst = false ∧ hu3.on HU_CTL_En = true ∧ hu3.cap.huRel = false ∧ (hu3.cap.gaspIn && hu3.on HU_CFG_SetGasp) = false
      ∧ hu3.rd HU_STAT_State = 0 ∧ hu3.cap.inLost = true ∧ hu3.gaspDue = false ∧ hu3.on (FLT_SRC_CFG_Assigned 167) = true) ∧
    (hu4.frm.coreRst = false ∧ hu4.on HU_CTL_En = true ∧ hu4.cap.huRel = false ∧ (hu4.cap.gaspIn && hu4.on HU_CFG_SetGasp) = false
      ∧ hu4.rd HU_STAT_State = 1 ∧ hu4.gaspDue = true ∧ hu4.on (FLT_SRC_CFG_Assigned 168) = true) ∧
    (hu5.frm.coreRst = false ∧ hu5.on HU_CTL_En = true ∧ hu5.cap.huRel = false ∧ (hu5.cap.gaspIn && hu5.on HU_CFG_SetGasp) = false
      ∧ hu5.rd HU_STAT_State = 1 ∧ hu5.gaspDue = false ∧ hu5.huBack = true) ∧
    (hu6.frm.coreRst = false ∧ hu6.on HU_CTL_En = true ∧ hu6.cap.huRel = false ∧ (hu6.cap.gaspIn && hu6.on HU_CFG_SetGasp) = false
      ∧ hu6.rd HU_STAT_State = 2 ∧ hu6.rd SEQ_STAT_State = 0 ∧ hu6.huBack = false) ∧
    (hu5.on HU_CTL_En = true ∧ hu5.rd HU_STAT_State = 1 ∧ hu5.huBack = true ∧ hu5.gaspDue = false) ∧
    ((hu1.on HU_CTL_En = false ∨ hu1.rd HU_STAT_State ≠ 1 ∨ hu1.huBack = false ∨ hu1.gaspDue = true)) ∧
    (hu6.rd HU_STAT_State = 2 ∧ 10000 < hu6.cap.shutFor ∧ hu6.cap.shutLong = false ∧ hu6.on (FLT_SRC_CFG_Assigned 171) = true) ∧
    ((hu1.rd HU_STAT_State ≠ 2 ∨ hu1.cap.shutFor ≤ 10000 ∨ hu1.cap.shutLong = true)) ∧
    ((false = true ∨ hu1.rd HU_STAT_State = 0)) ∧
    (hu4.rd HU_STAT_State ≠ 0) ∧
    (hu7.rd HU_STAT_State = 3) ∧
    (hu1.rd HU_STAT_State ≠ 3) := by
  repeat' apply And.intro
  all_goals decide +kernel

/-- Witnesses of Capping: for each clause with hypotheses, a state and operands that meet them all. -/
theorem witness_Capping :
    (cg1.frm.coreRst = true) ∧
    (cg2.frm.coreRst = false ∧ cg2.on CAP_CTL_En = false) ∧
    (cg3.frm.coreRst = false ∧ cg3.on CAP_CTL_En = true ∧ cg3.on GLB_STAT_ShelfMaster = true ∧ cg3.groups = [7] ∧ cg3.on
      (FG_STAT_Lost 7) = false ∧ cg3.on (FG_STAT_WrongSide 7) = false ∧ cg3.on CAP_CTL_WsEn = false ∧ cg3.tl.reports = [] ∧ cg3.rd
      CAP_SET_PLIM_V = 0 ∧ cg3.walkList cg3.me 7 cg3.shaveCap.fst = [] ∧ 0 ≤ (cg3.demOf cg3.me 7).d ∧ cg3.on (FG_STAT_Exhausted 7)
      = false ∧ (cg3.wrS (FG_PMAX_V 7) (cg3.fgPmax 7)).fgLocal 7 < cg3.rdS (FG_PDRAW_V 7) ∧ cg3.on (FLT_SRC_CFG_Assigned 164) =
      true) ∧
    (cg4.wsClearDue 7 = true) ∧
    (cg1.wsClearDue 0 = false) ∧
    (cg5.ready 0 22 = some (the (cg5.ready 0 22)) ∧ (capSetBad (the (cg5.ready 0 22)).payload = true ∨ cg5.on GLB_STAT_ShelfMaster
      = false)) ∧
    (cg7.ready 0 22 = some (the (cg7.ready 0 22)) ∧ capSetBad (the (cg7.ready 0 22)).payload = false ∧ cg7.on GLB_STAT_ShelfMaster
      = true) := by
  repeat' apply And.intro
  all_goals decide +kernel

/-- Witnesses of SequencerSteps: for each clause with hypotheses, a state and operands that meet them all. -/
theorem witness_SequencerSteps :
    ((ss1.frm.coreRst = true ∨ ss1.sense.applied = false)) ∧
    (ss2.frm.coreRst = false ∧ ss2.sense.applied = true ∧ ss2.on SEQ_CTL_En = false ∧ ss2.seq.drive = 0) ∧
    (SeqQuiet ss3b 31 ∧ ss3b.seq.reqs = [SeqReq.on (2 ^ 31)] ∧ 2 ^ 31 ≠ 0 ∧ (ss3b.closePre (2 ^ 31)).testBit 31 = true ∧ ss3b.rd
      SEQ_STAT_State = 0 ∧ ss3b.railState 31 = 0 ∧ ss3b.rd SEQ_TIMING_RestartDelay ≤ ss3b.seq.idleFor) ∧
    (SeqQuiet ss4 31 ∧ ss4.seq.reqs = [] ∧ ss4.rd SEQ_STAT_State = 1 ∧ ss4.railDemand 31 = true ∧ ss4.railState 31 = 1 ∧ ss4.rd
      (SEQ_RAIL_DELAY_OnDelay 31) = 0) ∧
    (SeqQuiet ss5 31 ∧ ss5.seq.reqs = [] ∧ ss5.rd SEQ_STAT_State = 1 ∧ ss5.railDemand 31 = true ∧ ss5.railState 31 = 3 ∧
      ss5.monAbove 31 = true) ∧
    (SeqQuiet ss6 31 ∧ ss6.seq.reqs = [] ∧ ss6.rd SEQ_STAT_State = 1 ∧ ss6.railDemand 31 = true ∧ ss6.railState 31 = 4 ∧
      ss6.monAbove 31 = true ∧ ss6.rdS (SEQ_RAIL_DROP_THR_V 31) ≤ ss6.rdS (SEQ_RAIL_UP_THR_V 31)) := by
  unfold SeqQuiet
  repeat' first
    | with_reducible exact linkTaken_of (by decide +kernel)
    | with_reducible exact xferOn_of (by decide +kernel)
    | with_reducible exact canXferOn_of (by decide +kernel)
    | with_reducible apply And.intro
  all_goals first | decide +kernel | exact .inl (by decide +kernel) | exact ⟨5, by decide +kernel, by decide +kernel⟩

/-- Witnesses of SequencerEvents: for each clause with hypotheses, a state and operands that meet them all. -/
theorem witness_SequencerEvents :
    (se2.railOnDue 31 = true) ∧
    (se1.railOnDue 0 = false) ∧
    (se3.railOffDue 31 = true) ∧
    (se1.railOffDue 0 = false) ∧
    (se4.railRampLate 31 = true ∧ se4.on (FLT_SRC_CFG_Assigned 144) = true) ∧
    (se1.railRampLate 0 = false) ∧
    (se5.railDropped 31 = true ∧ se5.on (FLT_SRC_CFG_Assigned 145) = true) ∧
    (se1.railDropped 0 = false) ∧
    (se6.railFallLate 31 = true ∧ se6.on (FLT_SRC_CFG_Assigned 148) = true) ∧
    (se1.railFallLate 0 = false) ∧
    (se7.rd SEQ_STAT_State = 4 ∧ se7.seq.fresh = false ∧ se7.rd SEQ_TIMING_RestartDelay ≤ se7.seq.idleFor) ∧
    ((se1.rd SEQ_STAT_State ≠ 4 ∨ se1.seq.fresh = true ∨ se1.seq.idleFor < se1.rd SEQ_TIMING_RestartDelay)) ∧
    (se1.seq.drive = 0 ∧ se1.on (FLT_SRC_CFG_Assigned 149) = true) ∧
    (se8.seq.drive ≠ 0) ∧
    (se8.seqDriveDone = true) ∧
    (se1.seqDriveDone = false) ∧
    (se1.seq.highFor < max 1 (se1.rd SEQ_FLT_CFG_RelFrames)) ∧
    (max 1 (se9.rd SEQ_FLT_CFG_RelFrames) ≤ se9.seq.highFor) := by
  repeat' apply And.intro
  all_goals decide +kernel

/-- Witnesses of SequencerCommands: for each clause with hypotheses, a state and operands that meet them all. -/
theorem witness_SequencerCommands :
    (sq1.ready 0 21 = some (the (sq1.ready 0 21)) ∧ min (numAt (the (sq1.ready 0 21)).payload 0 1) 5 = 0 ∧ sq1.seqCheck (the
      (sq1.ready 0 21)).payload ≠ Status.ok) ∧
    (sq3.ready 0 21 = some (the (sq3.ready 0 21)) ∧ min (numAt (the (sq3.ready 0 21)).payload 0 1) 5 = 0 ∧ sq3.seqCheck (the
      (sq3.ready 0 21)).payload = Status.ok) ∧
    ((false = true ∨ sq1.rd SEQ_STAT_State = 0)) ∧
    (sq5.rd SEQ_STAT_State ≠ 0) := by
  repeat' apply And.intro
  all_goals decide +kernel

/-- Witnesses of RingsAndDoorbells: for each clause with hypotheses, a state and operands that meet them all. -/
theorem witness_RingsAndDoorbells :
    (rd1.hif.attached.contains 0 = false) ∧
    (rd2.hif.attached.contains 3 = true ∧ (rd2.passive = true ∨ seqDist (seqAdd (rd2.rd (HIF_SQ_ACCEPTED_SEQ_Seq 3)) 1) 0 ≤ 2 ^
      rd2.rd (HIF_SQ_CFG_SizeLog2 3))) ∧
    (rd2.hif.attached.contains 3 = true ∧ rd2.passive = false ∧ 2 ^ rd2.rd (HIF_SQ_CFG_SizeLog2 3) < seqDist (seqAdd (rd2.rd
      (HIF_SQ_ACCEPTED_SEQ_Seq 3)) 1) 17 ∧ rd2.on (FLT_SRC_CFG_Assigned 33) = true) ∧
    (rd3.hif.attached.contains 3 = true ∧ rd3.passive = true) ∧
    (rd2.hif.attached.contains 3 = true ∧ rd2.passive = false ∧ seqDist (rd2.rd (HIF_CQ_HEAD_Seq 3)) 1 ≤ rd2.ringUsed (cqRegs 3) ∧
      (∀ (e : Nat × Nat × Nat), e ∈ rd2.hif.posted → e.snd.snd < 256)) ∧
    (rd2.hif.attached.contains 3 = true ∧ rd2.passive = false ∧ rd2.ringUsed (cqRegs 3) < seqDist (rd2.rd (HIF_CQ_HEAD_Seq 3)) 0 ∧
      rd2.on (FLT_SRC_CFG_Assigned 33) = true) ∧
    (rd2.hif.attached.contains 8 = true ∧ seqDist (rd2.rd HIF_EQ_HEAD_Seq) 0 ≤ rd2.ringUsed eqRegs) ∧
    (rd2.hif.attached.contains (16 + 7) = true ∧ seqDist (rd2.rd (HIF_TS_HEAD_Seq 7)) 0 ≤ rd2.ringUsed (tsRegs 7)) := by
  repeat' apply And.intro
  all_goals decide +kernel

/-- Witnesses of RingTraffic: for each clause with hypotheses, a state and operands that meet them all. -/
theorem witness_RingTraffic :
    ((rt1.pairOpen 0 = false ∨ rt1.passive = true ∨ rt1.dmaOk = false ∨ rt1.fetchRoom 0 = 0)) ∧
    (rt2.pairOpen 3 = true ∧ rt2.passive = false ∧ rt2.dmaOk = true ∧ rt2.fetchRoom 3 ≠ 0) ∧
    (rt3.pairOpen 3 = true ∧ rt3.passive = false ∧ rt3.dmaOk = true ∧ rt3.fetchRoom 3 ≠ 0 ∧ nth rt3.hif.dmaFails 3 < 2) ∧
    (rt2.pairOpen 3 = true ∧ rt2.passive = false ∧ rt2.dmaOk = true ∧ rt2.fetchRoom 3 ≠ 0 ∧ 2 ≤ nth rt2.hif.dmaFails 3 ∧ rt2.on
      (FLT_SRC_CFG_Assigned 37) = true) ∧
    ((rt1.canPost 0 = false ∨ rt1.pairComps 0 = [])) ∧
    (rt4.canPost 3 = true ∧ nextComp (rt4.pairComps 3) = some comp1 ∧ comp1.tag < 256 ∧ comp1.dropped = false ∧ comp1.inv = 0 ∧
      comp1.hasTag = true ∧ comp1.noIrq = false) ∧
    (rt5.canPost 3 = true ∧ nextComp (rt5.pairComps 3) = some comp2 ∧ comp2.tag < 256 ∧ comp2.dropped = true ∧ comp2.hasTag =
      true) ∧
    ((rt1.hif.attached.contains 8 = false ∨ rt1.on HIF_EQ_CTL_En = false ∨ rt1.dmaOk = false ∨ rt1.ringSize eqRegs ≤ rt1.ringUsed
      eqRegs + 1 ∨ rt1.hif.events = [] ∧ rt1.hif.evLost = 0)) ∧
    (rt6.hif.attached.contains 8 = true ∧ rt6.on HIF_EQ_CTL_En = true ∧ rt6.dmaOk = true ∧ rt6.ringUsed eqRegs + 1 < rt6.ringSize
      eqRegs ∧ rt6.hif.evLost = 0 ∧ rt6.hif.events = [event1, { }]) ∧
    (rt7.hif.attached.contains 8 = true ∧ rt7.on HIF_EQ_CTL_En = true ∧ rt7.dmaOk = true ∧ rt7.ringUsed eqRegs + 1 < rt7.ringSize
      eqRegs ∧ 0 < rt7.hif.evLost) ∧
    (List.find? (fun (e : Nat × List Byte) => e.fst == 0) rt1.pnt.recs = none) ∧
    (List.find? (fun (e : Nat × List Byte) => e.fst == 7) rt8.pnt.recs = some (the (List.find? (fun (e : Nat × List Byte) => e.fst
      == 7) rt8.pnt.recs)) ∧ rt8.hif.attached.contains (16 + 7) = true ∧ rt8.on (HIF_TS_CTL_En 7) = true ∧ rt8.dmaOk = true ∧
      rt8.ringUsed (tsRegs 7) < rt8.ringSize (tsRegs 7)) ∧
    (List.find? (fun (e : Nat × List Byte) => e.fst == 0) rt8.pnt.recs = some (the (List.find? (fun (e : Nat × List Byte) => e.fst
      == 0) rt8.pnt.recs)) ∧ (rt8.hif.attached.contains (16 + 0) = false ∨ rt8.on (HIF_TS_CTL_En 0) = false ∨ rt8.dmaOk = false ∨
      rt8.ringSize (tsRegs 0) ≤ rt8.ringUsed (tsRegs 0))) := by
  repeat' apply And.intro
  all_goals decide +kernel

/-- Witnesses of InterruptsAndPcie: for each clause with hypotheses, a state and operands that meet them all. -/
theorem witness_InterruptsAndPcie :
    (List.find? (fun (p : VecPend) => p.vec == 31) ip2.hif.vecs = some (the (List.find? (fun (p : VecPend) => p.vec == 31)
      ip2.hif.vecs)) ∧ ip2.vecDue (the (List.find? (fun (p : VecPend) => p.vec == 31) ip2.hif.vecs)) = true ∧ ip2.masked 31 =
      false ∧ ip2.dmaOk = true) ∧
    (List.find? (fun (p : VecPend) => p.vec == 8) ip2.hif.vecs = some (the (List.find? (fun (p : VecPend) => p.vec == 8)
      ip2.hif.vecs)) ∧ ip2.vecDue (the (List.find? (fun (p : VecPend) => p.vec == 8) ip2.hif.vecs)) = true ∧ (ip2.masked 8 = true
      ∨ ip2.dmaOk = false)) ∧
    (List.find? (fun (p : VecPend) => p.vec == 9) ip2.hif.vecs = none ∧ ip2.hif.pba.testBit 9 = true ∧ ip2.masked 9 = false ∧
      ip2.dmaOk = true) ∧
    (List.find? (fun (p : VecPend) => p.vec == 0) ip1.hif.vecs = none ∧ (ip1.hif.pba.testBit 0 = false ∨ ip1.masked 0 = true ∨
      ip1.dmaOk = false)) ∧
    (8 ≤ 8 % 32) ∧
    ((0 < 8 ∨ 24 < 0 ∨ 0 % 32 < 8)) ∧
    (ip1.on (FLT_SRC_CFG_Assigned 34) = true) ∧
    (ip1.on (FLT_SRC_CFG_Assigned 35) = true) ∧
    (ip1.on (FLT_SRC_CFG_Assigned 36) = true) := by
  repeat' apply And.intro
  all_goals decide +kernel

/-- Witnesses of AdmissionTakes: for each clause with hypotheses, a state and operands that meet them all. -/
theorem witness_AdmissionTakes :
    ((ad1.frm.coreRst = true ∨ ad1.nextFetched = none ∧ ad1.red.takes = [])) ∧
    (ad2.frm.coreRst = false ∧ ad2.rd FRM_CTL_AdmitMax = 1 ∧ ad2.nextFetched = some fetched1 ∧ ad2.flt.armed = none ∧ ad2.redState
      = 0 ∧ ad2.red.takes = [] ∧ (crcGood (padTo 64 fetched1.bytes) = false ∨ numAt (padTo 64 fetched1.bytes) 0 4 ≠ seqAdd (ad2.rd
      (HIF_SQ_ACCEPTED_SEQ_Seq fetched1.pair)) 1) ∧ ad2.on (FLT_SRC_CFG_Assigned 32) = true) ∧
    (ad7.frm.coreRst = false ∧ ad7.rd FRM_CTL_AdmitMax = 1 ∧ ad7.nextFetched = some fetched3 ∧ ad7.flt.armed = none ∧ ad7.redState
      = 0 ∧ ad7.red.takes = [] ∧ crcGood (padTo 64 fetched3.bytes) = true ∧ numAt (padTo 64 fetched3.bytes) 0 4 = seqAdd (ad7.rd
      (HIF_SQ_ACCEPTED_SEQ_Seq fetched3.pair)) 1 ∧ (ad7.rd (HIF_TAG_State (numAt (padTo 64 fetched3.bytes) 5 1)) ≠ 0 ∨ ad7.rd
      (HIF_TAG_Gen (numAt (padTo 64 fetched3.bytes) 5 1)) = numAt (padTo 64 fetched3.bytes) 6 2) ∧ ad7.on (FLT_SRC_CFG_Assigned
      39) = true) ∧
    (ad4.frm.coreRst = false ∧ ad4.rd FRM_CTL_AdmitMax = 1 ∧ ad4.nextFetched = some fetched2 ∧ ad4.flt.armed = none ∧ ad4.redState
      = 0 ∧ ad4.red.takes = [] ∧ crcGood (padTo 64 fetched2.bytes) = true ∧ numAt (padTo 64 fetched2.bytes) 0 4 = seqAdd (ad4.rd
      (HIF_SQ_ACCEPTED_SEQ_Seq fetched2.pair)) 1 ∧ ad4.rd (HIF_TAG_State (numAt (padTo 64 fetched2.bytes) 5 1)) = 0 ∧ ad4.rd
      (HIF_TAG_Gen (numAt (padTo 64 fetched2.bytes) 5 1)) ≠ numAt (padTo 64 fetched2.bytes) 6 2 ∧ descBad (numAt (padTo 64
      fetched2.bytes) 4 1) (numAt (padTo 64 fetched2.bytes) 10 2) (numAt (padTo 64 fetched2.bytes) 12 4) (padTo 64 fetched2.bytes)
      = true) ∧
    (ad3.frm.coreRst = false ∧ ad3.rd FRM_CTL_AdmitMax = 1 ∧ ad3.nextFetched = some fetched3 ∧ ad3.flt.armed = none ∧ ad3.redState
      = 0 ∧ ad3.red.takes = [] ∧ crcGood (padTo 64 fetched3.bytes) = true ∧ numAt (padTo 64 fetched3.bytes) 0 4 = seqAdd (ad3.rd
      (HIF_SQ_ACCEPTED_SEQ_Seq fetched3.pair)) 1 ∧ ad3.rd (HIF_TAG_State (numAt (padTo 64 fetched3.bytes) 5 1)) = 0 ∧ ad3.rd
      (HIF_TAG_Gen (numAt (padTo 64 fetched3.bytes) 5 1)) ≠ numAt (padTo 64 fetched3.bytes) 6 2 ∧ descBad (numAt (padTo 64
      fetched3.bytes) 4 1) (numAt (padTo 64 fetched3.bytes) 10 2) (numAt (padTo 64 fetched3.bytes) 12 4) (padTo 64 fetched3.bytes)
      = false ∧ takesPoint (numAt (padTo 64 fetched3.bytes) 4 1) = false ∧ ad3.takeDisabled (numAt (padTo 64 fetched3.bytes) 4 1)
      (numAt (padTo 64 fetched3.bytes) 12 4 % 2 ^ 20) (slice (padTo 64 fetched3.bytes) 16 40) = false ∧ numAt (padTo 64
      fetched3.bytes) 8 2 = 0) ∧
    (ad6.frm.coreRst = false ∧ ad6.rd FRM_CTL_AdmitMax = 1 ∧ ad6.nextFetched = some fetched4 ∧ ad6.flt.armed = none ∧ ad6.redState
      = 0 ∧ ad6.red.takes = [] ∧ crcGood (padTo 64 fetched4.bytes) = true ∧ numAt (padTo 64 fetched4.bytes) 0 4 = seqAdd (ad6.rd
      (HIF_SQ_ACCEPTED_SEQ_Seq fetched4.pair)) 1 ∧ ad6.rd (HIF_TAG_State (numAt (padTo 64 fetched4.bytes) 5 1)) = 0 ∧ ad6.rd
      (HIF_TAG_Gen (numAt (padTo 64 fetched4.bytes) 5 1)) ≠ numAt (padTo 64 fetched4.bytes) 6 2 ∧ descBad (numAt (padTo 64
      fetched4.bytes) 4 1) (numAt (padTo 64 fetched4.bytes) 10 2) (numAt (padTo 64 fetched4.bytes) 12 4) (padTo 64 fetched4.bytes)
      = false ∧ takesPoint (numAt (padTo 64 fetched4.bytes) 4 1) = false ∧ ad6.takeDisabled (numAt (padTo 64 fetched4.bytes) 4 1)
      (numAt (padTo 64 fetched4.bytes) 12 4 % 2 ^ 20) (slice (padTo 64 fetched4.bytes) 16 40) = false ∧ numAt (padTo 64
      fetched4.bytes) 8 2 ≠ 0 ∧ (numAt (padTo 64 fetched4.bytes) 4 1 = 49 ∨ numAt (padTo 64 fetched4.bytes) 4 1 = 64 ∨ numAt
      (padTo 64 fetched4.bytes) 4 1 = 65)) := by
  repeat' apply And.intro
  all_goals decide +kernel

/-- Witnesses of QueueCommands: for each clause with hypotheses, a state and operands that meet them all. -/
theorem witness_QueueCommands :
    (qc1.ready 0 0 = some (cm 0) ∧ zeroAt (cm 0).payload 0 40 = true) ∧
    (qc2.ready 0 0 = some (cm 0 0 (pl [(39, 1)])) ∧ zeroAt (cm 0 0 (pl [(39, 1)])).payload 0 40 = false) ∧
    (qc1.ready 1 0 = none) ∧
    (qc3.ready 0 1 = some (cm 1 0 (pl [(39, 1)])) ∧ zeroAt (cm 1 0 (pl [(39, 1)])).payload 0 40 = false) ∧
    (qc4.ready 0 1 = some (cm 1) ∧ zeroAt (cm 1).payload 0 40 = true ∧ qc4.fenceHeld (cm 1) = false) ∧
    (qc5.ready 0 1 = some (cm 1) ∧ zeroAt (cm 1).payload 0 40 = true ∧ qc5.fenceHeld (cm 1) = true) ∧
    (qc6.ready 0 2 = some cmd3 ∧ cmd3.commit = true ∧ Status.ofCode cmd3.result = some Status.ok ∧ Status.ok ≠ Status.notAdmitted)
      ∧
    (qc7.ready 0 2 = some (cm 2) ∧ (cm 2).commit = false) ∧
    ((qc11.frm.coreRst = true ∨ qc11.hif.cmds = [] ∧ qc11.hif.vecs = [])) ∧
    (qc8b.frm.coreRst = false ∧ qc8b.hif.cmds = [cmd6] ∧ qc8b.hif.vecs = [] ∧ cmd6.opcode = 1 ∧ cmd6.begun = true ∧ cmd6.tag < 256
      ∧ qc8b.rd FRM_CTL_BeLimit = 0) ∧
    (qc9.frm.coreRst = false ∧ qc9.hif.cmds = [cm 0] ∧ qc9.hif.vecs = [] ∧ (cm 0).opcode = 0 ∧ (cm 0).tag < 256 ∧ (cm 0).deadline
      = 0 ∧ qc9.rd FRM_CTL_BeLimit ≠ 0 ∧ (cm 0).arrival + qc9.rd FRM_CTL_BeLimit ≤ qc9.frame) ∧
    (qc10.frm.coreRst = false ∧ qc10.hif.cmds = [] ∧ qc10.hif.vecs = [vecPend1] ∧ qc10.vecDue vecPend1 = true ∧ qc10.masked
      vecPend1.vec = false ∧ qc10.dmaOk = true) := by
  repeat' apply And.intro
  all_goals decide +kernel

/-- Witnesses of PointAccess: for each clause with hypotheses, a state and operands that meet them all. -/
theorem witness_PointAccess :
    (pa2.ready 0 16 = some (cm 16 16386 (pl [(39, 1)])) ∧ zeroAt (cm 16 16386 (pl [(39, 1)])).payload 0 40 = false) ∧
    (pa1.ready 0 16 = some (cm 16 16386) ∧ zeroAt (cm 16 16386).payload 0 40 = true ∧ pa1.pinned (cm 16 16386).point = true) ∧
    (pa3.ready 0 16 = some (cm 16 65543) ∧ zeroAt (cm 16 65543).payload 0 40 = true ∧ pa3.pinned (cm 16 65543).point = false ∧
      (pa3.on PNT_DIR_CTL_En = false ∨ domainOf (cm 16 65543).point = 0 ∨ 4 ≤ domainOf (cm 16 65543).point)) ∧
    (pa4.ready 0 16 = some (cm 16 65543) ∧ zeroAt (cm 16 65543).payload 0 40 = true ∧ pa4.pinned (cm 16 65543).point = false ∧
      pa4.on PNT_DIR_CTL_En = true ∧ domainOf (cm 16 65543).point ∈ [1, 2, 3] ∧ List.find? (fun (r : Resolved) => r.point == (cm
      16 65543).point) pa4.pnt.resolved = none) ∧
    (pa5.ready 0 16 = some (cm 16 65543) ∧ zeroAt (cm 16 65543).payload 0 40 = true ∧ pa5.pinned (cm 16 65543).point = false ∧
      pa5.on PNT_DIR_CTL_En = true ∧ domainOf (cm 16 65543).point = 1 ∧ List.find? (fun (r : Resolved) => r.point == (cm 16
      65543).point) pa5.pnt.resolved = some resolved1 ∧ pa5.on (TW_PORT_CTL_En (resolved1.binding % 16)) = true) ∧
    (pa6.ready 0 17 = some (cm 17 16386 (pl [(4, 1)])) ∧ zeroAt (cm 17 16386 (pl [(4, 1)])).payload 4 36 = false) ∧
    (pa7.ready 0 17 = some (cm 17 16385 (pl [(0, 1)])) ∧ zeroAt (cm 17 16385 (pl [(0, 1)])).payload 4 36 = true ∧ pa7.pinned (cm
      17 16385 (pl [(0, 1)])).point = true ∧ domainOf (cm 17 16385 (pl [(0, 1)])).point = 0 ∧ (pa7.ownRefuses (cm 17 16385 (pl
      [(0, 1)])).point = true ∨ pa7.railOwns (cm 17 16385 (pl [(0, 1)])).point = true)) ∧
    (pa8.ready 0 17 = some cmd4 ∧ zeroAt cmd4.payload 4 36 = true ∧ pa8.pinned cmd4.point = true ∧ cmd4.point = 16386 + 32 * 23 ∧
      pa8.ownRefuses cmd4.point = false ∧ pa8.railOwns cmd4.point = false) ∧
    (pa9.ready 0 17 = some (cm 17 262271) ∧ zeroAt (cm 17 262271).payload 4 36 = true ∧ pa9.pinned (cm 17 262271).point = true ∧
      (cm 17 262271).point = 262144 + 127 ∧ pa9.rd (PNT_DRV_CFG_Op 127) ≠ 0) ∧
    (pa10.ready 0 17 = some (cm 17 262271) ∧ zeroAt (cm 17 262271).payload 4 36 = true ∧ pa10.pinned (cm 17 262271).point = true ∧
      (cm 17 262271).point = 262144 + 127 ∧ pa10.rd (PNT_DRV_CFG_Op 127) = 0) ∧
    (pa11.ready 0 17 = some (cm 17 65543) ∧ zeroAt (cm 17 65543).payload 4 36 = true ∧ pa11.pinned (cm 17 65543).point = true ∧
      pa11.pinOf (cm 17 65543).point = some (the (pa11.pinOf (cm 17 65543).point)) ∧ domainOf (cm 17 65543).point ∈ [1, 2, 3] ∧
      (headWritable (pa11.pin (the (pa11.pinOf (cm 17 65543).point)) 0) = false ∨ pa11.slOwns (cm 17 65543).point = true ∨
      pa11.railOwns (cm 17 65543).point = true)) ∧
    (pa12.ready 0 17 = some (cm 17 65543) ∧ zeroAt (cm 17 65543).payload 4 36 = true ∧ pa12.pinned (cm 17 65543).point = true ∧
      pa12.pinOf (cm 17 65543).point = some (the (pa12.pinOf (cm 17 65543).point)) ∧ domainOf (cm 17 65543).point ∈ [1, 2, 3] ∧
      headWritable (pa12.pin (the (pa12.pinOf (cm 17 65543).point)) 0) = true ∧ pa12.slOwns (cm 17 65543).point = false ∧
      pa12.railOwns (cm 17 65543).point = false ∧ pa12.bindOn (domainOf (cm 17 65543).point) (pa12.pin (the (pa12.pinOf (cm 17
      65543).point)) 2) = false) ∧
    (pa13.ready 0 17 = some (cm 17 65543) ∧ zeroAt (cm 17 65543).payload 4 36 = true ∧ pa13.pinned (cm 17 65543).point = true ∧
      pa13.pinOf (cm 17 65543).point = some (the (pa13.pinOf (cm 17 65543).point)) ∧ domainOf (cm 17 65543).point ∈ [1, 2, 3] ∧
      headWritable (pa13.pin (the (pa13.pinOf (cm 17 65543).point)) 0) = true ∧ pa13.slOwns (cm 17 65543).point = false ∧
      pa13.railOwns (cm 17 65543).point = false ∧ domainOf (cm 17 65543).point ≠ 3 ∧ pa13.bindOn (domainOf (cm 17 65543).point)
      (pa13.pin (the (pa13.pinOf (cm 17 65543).point)) 2) = true) ∧
    (pa14.ready 0 17 = some (cm 17 196615) ∧ zeroAt (cm 17 196615).payload 4 36 = true ∧ pa14.pinned (cm 17 196615).point = true ∧
      pa14.pinOf (cm 17 196615).point = some (the (pa14.pinOf (cm 17 196615).point)) ∧ domainOf (cm 17 196615).point ∈ [1, 2, 3] ∧
      headWritable (pa14.pin (the (pa14.pinOf (cm 17 196615).point)) 0) = true ∧ pa14.slOwns (cm 17 196615).point = false ∧
      pa14.railOwns (cm 17 196615).point = false ∧ domainOf (cm 17 196615).point = 3) := by
  repeat' apply And.intro
  all_goals decide +kernel

/-- Witnesses of DirectoryAndStreams: for each clause with hypotheses, a state and operands that meet them all. -/
theorem witness_DirectoryAndStreams :
    (ds1.pnt.pending.contains 0 = true ∧ ds1.findCmd 0 = some (cm 16 65543) ∧ List.find? (fun (e : Nat × Nat × Nat) => e.fst ==
      domainOf (cm 16 65543).point) ds1.pnt.descs = none ∧ dirReply1.descOk = false) ∧
    (ds1.pnt.pending.contains 0 = true ∧ ds1.findCmd 0 = some (cm 16 65543) ∧ List.find? (fun (e : Nat × Nat × Nat) => e.fst ==
      domainOf (cm 16 65543).point) ds1.pnt.descs = none ∧ dirReply2.descOk = true ∧ crcGood (padTo 16 dirReply2.desc) = false ∧
      ds1.on (FLT_SRC_CFG_Assigned 20) = true) ∧
    (ds2.pnt.pending.contains 0 = true ∧ ds2.findCmd 0 = some (cm 16 65543) ∧ List.find? (fun (e : Nat × Nat × Nat) => e.fst ==
      domainOf (cm 16 65543).point) ds2.pnt.descs = some (the (List.find? (fun (e : Nat × Nat × Nat) => e.fst == domainOf (cm 16
      65543).point) ds2.pnt.descs)) ∧ (the (List.find? (fun (e : Nat × Nat × Nat) => e.fst == domainOf (cm 16 65543).point)
      ds2.pnt.descs)).snd.snd ≤ (cm 16 65543).point % 65536) ∧
    (ds3.pnt.pending.contains 0 = true ∧ ds3.findCmd 0 = some (cm 16 65543) ∧ List.find? (fun (e : Nat × Nat × Nat) => e.fst ==
      domainOf (cm 16 65543).point) ds3.pnt.descs = some (the (List.find? (fun (e : Nat × Nat × Nat) => e.fst == domainOf (cm 16
      65543).point) ds3.pnt.descs)) ∧ (cm 16 65543).point % 65536 < (the (List.find? (fun (e : Nat × Nat × Nat) => e.fst ==
      domainOf (cm 16 65543).point) ds3.pnt.descs)).snd.snd ∧ dirReply1.entryOk = false) ∧
    (ds3.pnt.pending.contains 0 = true ∧ ds3.findCmd 0 = some (cm 16 65543) ∧ List.find? (fun (e : Nat × Nat × Nat) => e.fst ==
      domainOf (cm 16 65543).point) ds3.pnt.descs = some (the (List.find? (fun (e : Nat × Nat × Nat) => e.fst == domainOf (cm 16
      65543).point) ds3.pnt.descs)) ∧ (cm 16 65543).point % 65536 < (the (List.find? (fun (e : Nat × Nat × Nat) => e.fst ==
      domainOf (cm 16 65543).point) ds3.pnt.descs)).snd.snd ∧ dirReply3.entryOk = true ∧ crcGood (padTo 16 dirReply3.entry) =
      false ∧ ds3.on (FLT_SRC_CFG_Assigned 20) = true) ∧
    (ds3.pnt.pending.contains 0 = true ∧ ds3.findCmd 0 = some (cm 16 65543) ∧ List.find? (fun (e : Nat × Nat × Nat) => e.fst ==
      domainOf (cm 16 65543).point) ds3.pnt.descs = some (the (List.find? (fun (e : Nat × Nat × Nat) => e.fst == domainOf (cm 16
      65543).point) ds3.pnt.descs)) ∧ (cm 16 65543).point % 65536 < (the (List.find? (fun (e : Nat × Nat × Nat) => e.fst ==
      domainOf (cm 16 65543).point) ds3.pnt.descs)).snd.snd ∧ dirReply4.entryOk = true ∧ crcGood (padTo 16 dirReply4.entry) = true
      ∧ ((numAt (padTo 16 dirReply4.entry) 0 4).testBit 31 = false ∨ numAt (padTo 16 dirReply4.entry) 0 4 % 2 ^ 20 ≠ (cm 16
      65543).point ∨ 2 < headType (numAt (padTo 16 dirReply4.entry) 0 4) ∨ bindBad ds3.regs (domainOf (cm 16 65543).point) (numAt
      (padTo 16 dirReply4.entry) 4 4) (numAt (padTo 16 dirReply4.entry) 8 4) = true)) ∧
    (ds3.pnt.pending.contains 0 = true ∧ ds3.findCmd 0 = some (cm 16 65543) ∧ List.find? (fun (e : Nat × Nat × Nat) => e.fst ==
      domainOf (cm 16 65543).point) ds3.pnt.descs = some (the (List.find? (fun (e : Nat × Nat × Nat) => e.fst == domainOf (cm 16
      65543).point) ds3.pnt.descs)) ∧ (cm 16 65543).point % 65536 < (the (List.find? (fun (e : Nat × Nat × Nat) => e.fst ==
      domainOf (cm 16 65543).point) ds3.pnt.descs)).snd.snd ∧ dirReply5.entryOk = true ∧ crcGood (padTo 16 dirReply5.entry) = true
      ∧ (numAt (padTo 16 dirReply5.entry) 0 4).testBit 31 = true ∧ numAt (padTo 16 dirReply5.entry) 0 4 % 2 ^ 20 = (cm 16
      65543).point ∧ headType (numAt (padTo 16 dirReply5.entry) 0 4) ≤ 2 ∧ bindBad ds3.regs (domainOf (cm 16 65543).point) (numAt
      (padTo 16 dirReply5.entry) 4 4) (numAt (padTo 16 dirReply5.entry) 8 4) = false ∧ domainOf (cm 16 65543).point = 1 ∧ (cm 16
      65543).opcode = 16 ∧ ds3.on (TW_PORT_CTL_En (numAt (padTo 16 dirReply5.entry) 4 4 % 16)) = true) ∧
    (ds1.pnt.pending.contains 255 = false) ∧
    (ds4.pinOf 65543 = some (the (ds4.pinOf 65543)) ∧ ds4.staleDue (the (ds4.pinOf 65543)) = true ∧ ds4.on (FLT_SRC_CFG_Assigned
      21) = true) ∧
    (ds5.pinOf 65543 = some (the (ds5.pinOf 65543)) ∧ ds5.staleDue (the (ds5.pinOf 65543)) = false) ∧
    (ds1.pinOf 65543 = none) ∧
    (ds6.pnt.snaps = [(7, List.replicate 10 ({} : PVal))] ∧ 0 < (List.replicate 10 ({} : PVal)).length ∧ (List.replicate 10 ({} :
      PVal)).length ≤ 10) ∧
    (ds1.pnt.snaps = []) := by
  repeat' apply And.intro
  all_goals decide +kernel

/-- Witnesses of Capture: for each clause with hypotheses, a state and operands that meet them all. -/
theorem witness_Capture :
    (cu1.on (CAPU_CFG_En 3) = true ∧ cu1.on (CAPU_CFG_Mode 3) = true ∧ cu1.rd (CAPU_STAT_State 3) ≠ 2) ∧
    ((cu1.on (CAPU_CFG_En 0) = false ∨ cu1.on (CAPU_CFG_Mode 0) = false ∨ cu1.rd (CAPU_STAT_State 0) = 2)) ∧
    (cu2.rd (CAPU_STAT_State 3) = 1 ∧ cu2.on (CAPU_CFG_En 3) = true ∧ cu2.rd (CAPU_TRIG_Kind 3) = 0) ∧
    (cu3.rd (CAPU_STAT_State 3) = 1 ∧ cu3.on (CAPU_CFG_En 3) = true ∧ cu3.rd (CAPU_TRIG_Kind 3) = 1 ∧ cu3.sense.trips.testBit
      (cu3.rd (CAPU_TRIG_Line 3)) = true) ∧
    (cu4.rd (CAPU_STAT_State 3) = 1 ∧ cu4.on (CAPU_CFG_En 3) = true ∧ cu4.rd (CAPU_TRIG_Kind 3) = 2 ∧ cu4.unacked (cu4.rd
      (CAPU_TRIG_Line 3)) = true) ∧
    (cu5.rd (CAPU_STAT_State 3) = 1 ∧ cu5.on (CAPU_CFG_En 3) = true ∧ cu5.rd (CAPU_TRIG_Kind 3) = 3 ∧ cu5.rd (CAPU_TFRAME_Frame 3)
      = cu5.frame32) ∧
    (cu1.rd (CAPU_STAT_State 0) ≠ 1) ∧
    ((cu1.rd (CAPU_STAT_State 0) ≠ 1 ∨ cu1.rd (CAPU_TRIG_Kind 0) ≠ 0)) ∧
    (cu6.rd (CAPU_STAT_State 3) = 2 ∧ (cu6.capu 3).last < (cu6.capu 3).next) ∧
    ((cu1.rd (CAPU_STAT_State 0) ≠ 2 ∨ (cu1.capu 0).next ≤ (cu1.capu 0).last)) := by
  repeat' apply And.intro
  all_goals decide +kernel

/-- Witnesses of LinkPorts: for each clause with hypotheses, a state and operands that meet them all. -/
theorem witness_LinkPorts :
    (lp1.on TL_CFG_En = false) ∧
    (lp2.on TL_CFG_En = true ∧ 1 = lp2.nbrOf 0 ∧ 4 = lp2.rd TL_CFG_SetSize ∧ 1 ≠ lp2.me) ∧
    (lp2.on TL_CFG_En = true ∧ 0 ≠ lp2.nbrOf 0 ∧ lp2.on (FLT_SRC_CFG_Assigned 50) = true) ∧
    (lp3.on (TL_PORT_STAT_Up 0) = true ∧ lp3.on (FLT_SRC_CFG_Assigned 48) = true) ∧
    (lp1.on (TL_PORT_STAT_Up 0) = false) ∧
    (lp3.portUp 0 = true ∧ lp3.portUp (1 - 0) = true) ∧
    ((lp1.portUp 0 = false ∨ lp1.portUp (1 - 0) = false)) ∧
    (lp1.on (FLT_SRC_CFG_Assigned 49) = true) ∧
    (lp1.isLive 0 = true) ∧
    (lp1.isLive 1 = false) ∧
    (lp4.tl.helloAt + 1000 ≤ lp4.frame) ∧
    (lp1.frame < lp1.tl.helloAt + 1000) := by
  repeat' apply And.intro
  all_goals decide +kernel

/-- Witnesses of LinkAcceptance: for each clause with hypotheses, a state and operands that meet them all. -/
theorem witness_LinkAcceptance :
    ((la1.portUp 0 = false ∨ 7 = la1.me ∨ hdr2.bcast = false ∧ 2 ≠ la1.me)) ∧
    (la2.portUp 0 = true ∧ 7 ≠ la2.me ∧ hdr2.bcast = true ∧ la2.on (TL_GEN_SEEN_Valid 7) = true ∧ la2.rd (TL_GEN_SEEN_Gen 7) =
      hdr2.gen.toNat ∧ (∃ (n : Nat), assoc la2.tl.rxBcast 7 = some n ∧ seqAfter n hdr2.seq.toNat = false)) ∧
    (la2.portUp 1 = true ∧ 7 ≠ la2.me ∧ (hdr3.bcast = true ∨ 2 = la2.me) ∧ (la2.on (TL_GEN_SEEN_Valid 7) = false ∨ la2.rd
      (TL_GEN_SEEN_Gen 7) ≠ hdr3.gen.toNat)) ∧
    ((numAt [0, 0, 4] 2 1).testBit 2 = true ∧ la2.portUp 1 = true ∧ 7 ≠ la2.me ∧ hdr3.bcast = true ∧ la2.pairOn = true ∧ 7 ≠
      la2.peerPos ∧ (la2.on (TL_GEN_SEEN_Valid 7) = false ∨ la2.rd (TL_GEN_SEEN_Gen 7) ≠ hdr3.gen.toNat)) := by
  repeat' first
    | with_reducible exact linkTaken_of (by decide +kernel)
    | with_reducible exact xferOn_of (by decide +kernel)
    | with_reducible exact canXferOn_of (by decide +kernel)
    | with_reducible apply And.intro
  all_goals first | decide +kernel | exact .inl (by decide +kernel) | exact ⟨5, by decide +kernel, by decide +kernel⟩

/-- Witnesses of PairMessages: for each clause with hypotheses, a state and operands that meet them all. -/
theorem witness_PairMessages :
    (LinkTaken pm1 hdr4 ∧ pm1.pairOn = true ∧ 3 = pm1.peerPos) ∧
    (LinkTaken pm1 hdr4 ∧ pm1.pairOn = true ∧ 3 = pm1.peerPos ∧ ((numAt [] 2 1).testBit 0 == !pm1.on GLB_STAT_Role || (!(numAt []
      2 1).testBit 1 || numAt [] 3 1 % 8 != pm1.me)) = true ∧ pm1.on RED_STAT_RoleConflict = false ∧ pm1.on (FLT_SRC_CFG_Assigned
      230) = true) ∧
    (LinkTaken pm1 hdr5 ∧ pm1.fromPeer hdr5 = false) ∧
    (LinkTaken pm1 hdr4 ∧ pm1.fromPeer hdr4 = true) ∧
    (LinkTaken pm3 hdr4 ∧ pm3.fromPeer hdr4 = true ∧ pm3.redState = 3 ∧ pm3.on (FLT_SRC_CFG_Assigned 224) = true) ∧
    (LinkTaken pm3 hdr4 ∧ pm3.fromPeer hdr4 = true ∧ pm3.redState = 3 ∧ pm3.on GLB_STAT_Active = false) ∧
    (LinkTaken pm3 hdr4 ∧ pm3.fromPeer hdr4 = true ∧ pm3.redState = 3 ∧ (∀ (q : Nat), pm3.red.rxSeq = some q → (q + 1) % 2 ^ 32 =
      numAt [] 0 4) ∧ (numAt [] 4 1).testBit 0 = false) ∧
    (LinkTaken pm3 hdr4 ∧ pm3.fromPeer hdr4 = true ∧ pm3.redState = 3 ∧ pm3.red.rxSeq = some (the pm3.red.rxSeq) ∧ (the
      pm3.red.rxSeq + 1) % 2 ^ 32 ≠ numAt [0, 0, 3, 2] 0 4 ∧ (numAt [0, 0, 3, 2] 4 1).testBit 0 = false ∧ pm3.red.lost = false ∧
      pm3.on (FLT_SRC_CFG_Assigned 229) = true) ∧
    (LinkTaken pm3 hdr4 ∧ pm3.fromPeer hdr4 = true ∧ pm3.redState = 3) ∧
    (LinkTaken pm5 hdr4 ∧ pm5.fromPeer hdr4 = true ∧ pm5.rd HU_STAT_State = 0 ∧ pm5.rd UPD_STAT_State ≠ 3 ∧ pm5.redState = 2 ∧
      pm5.red.surDue = none) ∧
    (LinkTaken pm1 hdr4 ∧ pm1.fromPeer hdr4 = true ∧ (pm1.rd HU_STAT_State ≠ 0 ∨ pm1.rd UPD_STAT_State = 3 ∨ pm1.redState ≠ 2)) :=
      by
  repeat' first
    | with_reducible exact linkTaken_of (by decide +kernel)
    | with_reducible exact xferOn_of (by decide +kernel)
    | with_reducible exact canXferOn_of (by decide +kernel)
    | with_reducible apply And.intro
  all_goals first | decide +kernel | exact .inl (by decide +kernel) | exact ⟨5, by decide +kernel, by decide +kernel⟩

/-- Witnesses of SetMessages: for each clause with hypotheses, a state and operands that meet them all. -/
theorem witness_SetMessages :
    (LinkTaken sm1 hdr5) ∧
    (LinkTaken sm2 hdr5 ∧ sm2.on GLB_STAT_ShelfMaster = true) ∧
    (LinkTaken sm1 hdr5 ∧ sm1.on GLB_STAT_ShelfMaster = false) ∧
    (LinkTaken sm1 hdr5 ∧ sm1.on GLB_STAT_ShelfMaster = false ∧ sm1.cap.wsEng.contains (128 * sm1.me + 64 + 0) = false ∧ 64 = 32 *
      sm1.me + 0) ∧
    (LinkTaken sm2 hdr5 ∧ [0, 64, 0, 0, 1, 0].length = 6 ∧ numAt [0, 64, 0, 0, 1, 0] 4 2 ≠ 0 ∧ sm2.pinned (numAt [0, 64, 0, 0, 1,
      0] 0 4 % 2 ^ 20) = true ∧ (List.filter (fun (x : Nat × Nat × Nat) => !(x.fst == 7 && x.snd.fst == numAt [0, 64, 0, 0, 1, 0]
      0 4 % 2 ^ 20)) sm2.tl.subs).length < 4 * sm2.rd TL_CFG_FwdMsgs) ∧
    (LinkTaken sm1 hdr5 ∧ [0, 64, 0, 0, 1, 0].length = 6 ∧ numAt [0, 64, 0, 0, 1, 0] 4 2 ≠ 0 ∧ (sm1.pinned (numAt [0, 64, 0, 0, 1,
      0] 0 4 % 2 ^ 20) = false ∨ 4 * sm1.rd TL_CFG_FwdMsgs ≤ (List.filter (fun (x : Nat × Nat × Nat) => !(x.fst == 7 && x.snd.fst
      == numAt [0, 64, 0, 0, 1, 0] 0 4 % 2 ^ 20)) sm1.tl.subs).length)) ∧
    (LinkTaken sm3b hdr5 ∧ [0, 64, 0, 0].length = 4 ∧ sm3b.pinsOfPeer 7 (numAt [0, 64, 0, 0] 0 4 % 2 ^ 20) = [(2, 2147680263)] ∧
      sm3b.on (FLT_SRC_CFG_Assigned 53) = true) ∧
    (LinkTaken sm3b hdr5 ∧ bytes4.length = 12 ∧ sm3b.pinsOfPeer 7 (numAt bytes4 0 4 % 2 ^ 20) = [(2, 2147680263)]) ∧
    (LinkTaken sm1 hdr5 ∧ sm1.pointKnown (numAt [255, 63, 0, 0, 1, 0] 0 4 % 2 ^ 20) = false) ∧
    (LinkTaken sm1 hdr5 ∧ numAt bytes3 0 4 % 2 ^ 20 = 16386 + 32 * 23 ∧ sm1.pinOf (16386 + 32 * 23) = none ∧ sm1.ownRefuses (16386
      + 32 * 23) = false ∧ sm1.railOwns (16386 + 32 * 23) = false) ∧
    (LinkTaken sm4 hdr5 ∧ sm4.tl.pwrites = [(numAt [5, 0, 0, 0, 0] 0 4, 7, PwUse.cmd 0)] ∧ sm4.findCmd 0 = some (cm 17 196615) ∧
      Status.ofCode (numAt [5, 0, 0, 0, 0] 4 1) = some Status.ok ∧ Status.ok ≠ Status.notAdmitted) ∧
    (LinkTaken sm1 hdr5 ∧ sm1.tl.pwrites = []) ∧
    (sm5.findCmd 0 = some (the (sm5.findCmd 0)) ∧ (sm5.tl.pwrites.any fun (x : Nat × Nat × PwUse) => x.snd.snd == PwUse.cmd 0) =
      true ∧ (the (sm5.findCmd 0)).deadline ≠ 0 ∧ (the (sm5.findCmd 0)).arrival + min (the (sm5.findCmd 0)).deadline 1024 ≤
      sm5.frame) ∧
    (sm4.findCmd 0 = some (the (sm4.findCmd 0)) ∧ ((sm4.tl.pwrites.any fun (x : Nat × Nat × PwUse) => x.snd.snd == PwUse.cmd 0) =
      false ∨ (the (sm4.findCmd 0)).deadline = 0 ∨ sm4.frame < (the (sm4.findCmd 0)).arrival + min (the (sm4.findCmd 0)).deadline
      1024)) := by
  repeat' first
    | with_reducible exact linkTaken_of (by decide +kernel)
    | with_reducible exact xferOn_of (by decide +kernel)
    | with_reducible exact canXferOn_of (by decide +kernel)
    | with_reducible apply And.intro
  all_goals first | decide +kernel | exact .inl (by decide +kernel) | exact ⟨5, by decide +kernel, by decide +kernel⟩

/-- Witnesses of PairStates: for each clause with hypotheses, a state and operands that meet them all. -/
theorem witness_PairStates :
    (ps2.redState = 1 ∧ ps2.primary = true ∧ ps2.on RED_STAT_MstIn = true) ∧
    (ps3.redState = 1 ∧ ps3.primary = true ∧ ps3.on RED_STAT_MstIn = false ∧ 2 ≤ ps3.red.mstFree) ∧
    (ps4.redState = 1 ∧ ps4.primary = true ∧ ps4.on RED_STAT_MstIn = false ∧ ps4.red.mstFree < 2) ∧
    ((ps1.redState ≠ 1 ∨ ps1.primary = false)) ∧
    (ps5.redState = 1 ∧ ps5.primary = false ∧ 2 ≤ ps5.red.mstFree ∧ 10000 * max 1 (ps5.rd RED_TIMING_StartWait) ≤
      ps5.red.startFor) ∧
    ((ps1.redState ≠ 1 ∨ ps1.primary = true ∨ ps1.red.mstFree < 2 ∨ ps1.red.startFor < 10000 * max 1 (ps1.rd
      RED_TIMING_StartWait))) ∧
    (ps1.on RED_CFG_ToggleEn = true ∧ ps1.pairOn = true) ∧
    ((ps12.on RED_CFG_ToggleEn = false ∨ ps12.pairOn = false)) ∧
    (ps7.redState = 3 ∧ ps7.rd RED_TIMING_Thb ≤ ps7.rd RED_STAT_Silent ∧ ps7.on (FLT_SRC_CFG_Assigned 224) = true) ∧
    ((ps1.redState ≠ 3 ∨ ps1.rd RED_STAT_Silent < ps1.rd RED_TIMING_Thb)) ∧
    (ps7.redState = 3 ∧ ps7.red.pathRaised = false ∧ ps7.on (FLT_SRC_CFG_Assigned 228) = true ∧ 0 < ps7.rd RED_TIMING_Thb ∧ if
      true = true then ps7.rd RED_TIMING_Thb ≤ ps7.red.linkFor ∧ ps7.red.togFor = 0 else ps7.rd RED_TIMING_Thb ≤ ps7.red.togFor ∧
      ps7.red.linkFor = 0) ∧
    (ps1.red.pathRaised = false ∧ ps1.red.linkFor = 0 ∧ ps1.red.togFor = 0 ∧ 0 < ps1.rd RED_TIMING_Thb) ∧
    (ps9.red.detect = some (the ps9.red.detect) ∧ ps9.redState = 4 ∧ the ps9.red.detect + 3 ≤ ps9.frame ∧ ps9.on RED_STAT_MstIn =
      true ∧ ps9.red.mstRaised = false ∧ ps9.on (FLT_SRC_CFG_Assigned 227) = true) ∧
    ((ps1.red.detect = none ∨ ps1.on RED_STAT_MstIn = false ∨ ps1.red.mstRaised = true)) ∧
    (ps10.red.surDue = some (the ps10.red.surDue) ∧ ps10.redState = 2) ∧
    (ps1.red.surDue = none) ∧
    (ps11.redState = 2 ∧ ps11.red.surDue = none) ∧
    ((ps1.redState ≠ 2 ∨ ps1.red.surDue ≠ none)) := by
  repeat' apply And.intro
  all_goals decide +kernel

/-- Witnesses of RoleAndMirror: for each clause with hypotheses, a state and operands that meet them all. -/
theorem witness_RoleAndMirror :
    ((ro1.red.detect = none ∨ ro1.redState ≠ 4 ∨ ro1.red.mstFree < 2 ∨ ro1.red.detect = some ro1.frame)) ∧
    (ro2.red.detect = some (the ro2.red.detect) ∧ ro2.redState = 4 ∧ the ro2.red.detect < ro2.frame ∧ 2 ≤ ro2.red.mstFree ∧ ro2.on
      (FLT_SRC_CFG_Assigned 225) = true ∧ (∀ (e : Nat × Nat), e ∈ ro2.red.recs → e.fst / 65536 = 3 ∨ (mirrorRegs (e.fst /
      65536)).contains (4 * (e.fst % 65536)) = true)) ∧
    (ro3.red.lost = false ∧ ro3.on (FLT_SRC_CFG_Assigned 229) = true) ∧
    (ro1.red.lost = true) ∧
    (ro4.handbackDue = true) ∧
    (ro1.handbackDue = false) ∧
    (ro5.frm.coreRst = true) ∧
    (ro1.frm.coreRst = false ∧ ro1.red.finalMir = false ∧ ro1.redState ≠ 2 ∧ ro1.handbackDue = false) ∧
    (ro6.frm.coreRst = false ∧ ro6.red.finalMir = false ∧ ro6.redState ≠ 2 ∧ ro6.handbackDue = false ∧ ro6.pairOn = false ∧
      ro6.red.surSend = none ∧ 1 < ro6.rd TL_CFG_SetSize ∧ ro6.portUp 0 = true ∧ ro6.portUp 1 = false ∧ ro6.flt.armed = none) ∧
    (ro7.frm.coreRst = false ∧ ro7.redState = 2 ∧ ro7.red.finalMir = false) ∧
    (ro8.frm.coreRst = false ∧ ro8.red.mirror = [[1, 2, 3, 4, 5]]) := by
  repeat' apply And.intro
  all_goals decide +kernel

/-- Witnesses of Recorder: for each clause with hypotheses, a state and operands that meet them all. -/
theorem witness_Recorder :
    (re2.rd (ONX_RL_CFG_Period 255) ≠ 0 ∧ re2.frame % re2.rd (ONX_RL_CFG_Period 255) = 0 ∧ assoc re2.onx.tokenAt 255 ≠ some
      re2.frame) ∧
    ((0 < 2 ∨ re1.rd (ONX_RL_CFG_Period 0) = 0 ∨ re1.frame % re1.rd (ONX_RL_CFG_Period 0) ≠ 0 ∨ assoc re1.onx.tokenAt 0 = some
      re1.frame)) ∧
    ((re1.frm.coreRst = true ∨ re1.on ONX_STAT_Ready = false)) ∧
    (re3.frm.coreRst = false ∧ re3.on ONX_STAT_Ready = true ∧ re3.onx.fifo = [recReq1] ∧ recReq1.frame < re3.frame ∧ recReq1.clear
      = none ∧ recReq1.force = false ∧ re3.onx.lostPend = 0 ∧ re3.onx.refPend = 0 ∧ re3.onx.archLost = 0 ∧ re3.onx.huReqs = [] ∧
      re3.flt.armed = none ∧ re3.onx.sinceMark + 1 < 65536 ∧ re3.opms < re3.onx.markOpms + 60000 * max 1 (re3.rd ONX_CFG_MarkMin)
      ∧ re3.rd HU_STAT_State = 0 ∧ re3.limited recReq1 = false ∧ re3.onx.staging.length < 1920) ∧
    (re4.frm.coreRst = false ∧ re4.on ONX_STAT_Ready = true ∧ re4.onx.fifo = [recReq2] ∧ recReq2.frame < re4.frame ∧ recReq2.clear
      = none ∧ recReq2.force = false ∧ re4.onx.lostPend = 0 ∧ re4.onx.refPend = 0 ∧ re4.onx.archLost = 0 ∧ re4.onx.huReqs = [] ∧
      re4.flt.armed = none ∧ re4.onx.sinceMark + 1 < 65536 ∧ re4.opms < re4.onx.markOpms + 60000 * max 1 (re4.rd ONX_CFG_MarkMin)
      ∧ re4.limited recReq2 = true ∧ re4.tokens (recReq2.code / 256) = 0 ∧ recReq2.code < 65536) ∧
    (re5.frm.coreRst = false ∧ re5.on ONX_STAT_Ready = true ∧ re5.onx.fifo = [recReq3] ∧ recReq3.frame < re5.frame ∧ recReq3.clear
      = none ∧ recReq3.force = false ∧ re5.onx.lostPend = 0 ∧ re5.onx.refPend = 0 ∧ re5.onx.archLost = 0 ∧ re5.onx.huReqs = [] ∧
      re5.flt.armed = none ∧ re5.onx.sinceMark + 1 < 65536 ∧ re5.opms < re5.onx.markOpms + 60000 * max 1 (re5.rd ONX_CFG_MarkMin)
      ∧ re5.rd HU_STAT_State = 1 ∧ re5.rdS HU_ALLOW_V ≤ 0 ∧ re5.limited recReq3 = false ∧ re5.onx.refused1 = false ∧ re5.on
      (FLT_SRC_CFG_Assigned 238) = true) ∧
    (re6.frm.coreRst = false ∧ re6.on ONX_STAT_Ready = true ∧ re6.onx.fifo = [recReq3] ∧ recReq3.frame < re6.frame ∧ recReq3.clear
      = none ∧ recReq3.force = false ∧ re6.onx.lostPend = 0 ∧ re6.onx.refPend = 0 ∧ re6.onx.archLost = 0 ∧ re6.onx.huReqs = [] ∧
      re6.flt.armed = none ∧ re6.onx.sinceMark + 1 < 65536 ∧ re6.opms < re6.onx.markOpms + 60000 * max 1 (re6.rd ONX_CFG_MarkMin)
      ∧ re6.rd HU_STAT_State = 0 ∧ re6.limited recReq3 = false ∧ 2048 ≤ re6.onx.staging.length ∧ re6.onx.lossSeen = true) ∧
    (re1.markDue = false) ∧
    (re7.markDue = true ∧ (∀ (c : Nat), c < 256 → re7.rd (ONX_RL_SUPP_Cnt c) = 0) ∧ re7.flt.armed = none) ∧
    (re1.on ONX_STAT_Ready = false) ∧
    (re8.on ONX_STAT_Ready = true ∧ re8.onx.staging = [rec2] ∧ re8.nvmOpen = true ∧ re8.flt.armed = none ∧ assoc re8.onx.mram
      (rec2.seq % 131072) = none) ∧
    (re9.on ONX_STAT_Ready = true ∧ re9.onx.staging = [rec2] ∧ re9.nvmOpen = true ∧ re9.flt.armed = none ∧ assoc re9.onx.mram
      (rec2.seq % 131072) = some (the (assoc re9.onx.mram (rec2.seq % 131072))) ∧ re9.unarchived (the (assoc re9.onx.mram
      (rec2.seq % 131072))).seq = true ∧ re9.on (FLT_SRC_CFG_Assigned 234) = true) ∧
    ((re1.on ONX_CFG_ArchEn = false ∨ re1.on ONX_STAT_Ready = false ∨ re1.onx.erasing ≠ none ∨ re1.archPage.length < 8)) ∧
    (re10.on ONX_CFG_ArchEn = true ∧ re10.on ONX_STAT_Ready = true ∧ re10.onx.erasing = none ∧ re10.nvmOpen = true ∧
      re10.archPage.length = 8 ∧ re10.flt.armed = none ∧ List.find? (fun (x : Nat) => !re10.onx.erased.contains x) (List.map (fun
      (r : Rec) => r.seq % 524288 / 2048) re10.archPage) = some 0) ∧
    (re11.on ONX_CFG_ArchEn = true ∧ re11.on ONX_STAT_Ready = true ∧ re11.onx.erasing = none ∧ re11.nvmOpen = true ∧
      re11.archPage.length = 8 ∧ re11.flt.armed = none ∧ List.find? (fun (x : Nat) => !re11.onx.erased.contains x) (List.map (fun
      (r : Rec) => r.seq % 524288 / 2048) re11.archPage) = none) ∧
    (re11.on ONX_CFG_ArchEn = true ∧ re11.on ONX_STAT_Ready = true ∧ re11.onx.erasing = none ∧ re11.nvmOpen = true ∧
      re11.archPage.length = 8 ∧ re11.flt.armed = none ∧ List.find? (fun (x : Nat) => !re11.onx.erased.contains x) (List.map (fun
      (r : Rec) => r.seq % 524288 / 2048) re11.archPage) = none ∧ re11.on (FLT_SRC_CFG_Assigned 235) = true) ∧
    (re1.onx.erasing = none) ∧
    (re12.onx.erasing = some (the re12.onx.erasing)) ∧
    (re12.onx.erasing = some (the re12.onx.erasing) ∧ re12.on (FLT_SRC_CFG_Assigned 235) = true) := by
  repeat' apply And.intro
  all_goals decide +kernel

/-- Witnesses of OnyxCommands: for each clause with hypotheses, a state and operands that meet them all. -/
theorem witness_OnyxCommands :
    (oc1.ready 0 50 = some (cm 50 0 (pl [(39, 1)])) ∧ zeroAt (cm 50 0 (pl [(39, 1)])).payload 10 30 = false) ∧
    (oc2.ready 0 50 = some (cm 50 0 (pl [(0, 1), (9, 255)])) ∧ zeroAt (cm 50 0 (pl [(0, 1), (9, 255)])).payload 10 30 = true ∧
      oc2.allowed = true ∧ oc2.staged 0 = true ∧ oc2.flt.armed = none) ∧
    (oc3.ready 0 50 = some (cm 50) ∧ zeroAt (cm 50).payload 10 30 = true ∧ oc3.allowed = true ∧ oc3.staged 0 = false) ∧
    (oc4.ready 0 50 = some (cm 50) ∧ zeroAt (cm 50).payload 10 30 = true ∧ oc4.allowed = false) ∧
    (oc5.ready 0 48 = some (cm 48) ∧ oc5.queryBad (cm 48).payload = true) ∧
    (oc7.ready 0 48 = some (cm 48 0 (pl [(4, 1), (24, 32)])) ∧ oc7.queryBad (cm 48 0 (pl [(4, 1), (24, 32)])).payload = false ∧
      oc7.nvmOpen = false) ∧
    (oc6.ready 0 48 = some (cm 48 0 (pl [(4, 1), (24, 32)])) ∧ oc6.queryBad (cm 48 0 (pl [(4, 1), (24, 32)])).payload = false ∧
      oc6.nvmOpen = true ∧ oc6.onx.anyCommit = false) ∧
    (oc8.ready 0 48 = some cmd5 ∧ oc8.queryBad cmd5.payload = false ∧ oc8.nvmOpen = true ∧ oc8.onx.anyCommit = true ∧ numAt
      cmd5.payload 4 2 = 1 ∧ numAt cmd5.payload 6 1 = 0 ∧ seqAfter (oc8.rd ONX_COMMIT_SEQ_Seq) (numAt cmd5.payload 0 4) = false ∧
      seqAfter (numAt cmd5.payload 0 4) (oc8.rd ONX_OLDEST_SEQ_Seq) = false ∧ assoc oc8.onx.mram (numAt cmd5.payload 0 4 % 131072)
      = some rec1 ∧ rec1.seq = numAt cmd5.payload 0 4 ∧ rec1.bad = 0 ∧ oc8.dmaOk = true) ∧
    (oc9.ready 0 48 = some cmd5 ∧ oc9.queryBad cmd5.payload = false ∧ oc9.nvmOpen = true ∧ oc9.onx.anyCommit = true ∧ numAt
      cmd5.payload 4 2 = 1 ∧ numAt cmd5.payload 6 1 = 0 ∧ seqAfter (oc9.rd ONX_COMMIT_SEQ_Seq) (numAt cmd5.payload 0 4) = false ∧
      seqAfter (numAt cmd5.payload 0 4) (oc9.rd ONX_OLDEST_SEQ_Seq) = false ∧ assoc oc9.onx.mram (numAt cmd5.payload 0 4 % 131072)
      = some rec1 ∧ rec1.seq = numAt cmd5.payload 0 4 ∧ rec1.bad = 0 ∧ oc9.dmaOk = false) ∧
    (oc10.ready 0 49 = some (cm 49 0 (pl [(8, 1)])) ∧ (numAt (cm 49 0 (pl [(8, 1)])).payload 0 8 % 8 ≠ 0 ∨ zeroAt (cm 49 0 (pl
      [(8, 1)])).payload 8 32 = false ∨ oc10.rd HU_STAT_State ≠ 0)) ∧
    (oc11.ready 0 49 = some (cm 49) ∧ numAt (cm 49).payload 0 8 % 8 = 0 ∧ zeroAt (cm 49).payload 8 32 = true ∧ oc11.rd
      HU_STAT_State = 0 ∧ oc11.fwu.nv.keyHash = none ∧ oc11.on (FLT_SRC_CFG_Assigned 237) = true) ∧
    (oc12.ready 0 49 = some (cm 49) ∧ numAt (cm 49).payload 0 8 % 8 = 0 ∧ zeroAt (cm 49).payload 8 32 = true ∧ oc12.rd
      HU_STAT_State = 0 ∧ oc12.fwu.nv.keyHash ≠ none) ∧
    (oc11.ready 0 49 = some (cm 49) ∧ numAt (cm 49).payload 0 8 % 8 = 0 ∧ zeroAt (cm 49).payload 8 32 = true ∧ oc11.rd
      HU_STAT_State = 0 ∧ bytes2.length = 232 ∧ numAt bytes2 0 2 = 1 ∧ zeroAt bytes2 2 2 = true ∧ zeroAt bytes2 20 12 = true ∧
      zeroAt bytes2 225 7 = true ∧ numAt bytes2 12 4 = oc11.rd ONX_LOW_WATER_Seq ∧ seqAfter (numAt bytes2 16 4) (numAt bytes2 12
      4) = false ∧ seqAfter (numAt bytes2 16 4) (oc11.rd ONX_NEXT_SEQ_Seq) = true ∧ oc11.onx.fifo.length < 256 ∧ oc11.on
      (FLT_SRC_CFG_Assigned 237) = true) ∧
    (oc1.ready 0 48 = none) := by
  repeat' apply And.intro
  all_goals decide +kernel

/-- Witnesses of FaultCommands: for each clause with hypotheses, a state and operands that meet them all. -/
theorem witness_FaultCommands :
    (ft1.on DBG_LOCK_Lock = true ∧ ft1.on (FLT_SRC_CFG_Assigned 247) = true) ∧
    (ft2.on DBG_LOCK_Lock = false ∧ (ft2.rd FLT_INJ_Mode ≠ 2 ∨ ft2.rd FLT_INJ_Class = 3)) ∧
    (ft3.on DBG_LOCK_Lock = false ∧ ft3.rd FLT_INJ_Mode = 2 ∧ ft3.rd FLT_INJ_Class ≠ 3 ∧ ft3.on (FLT_SRC_CFG_Assigned (ft3.rd
      FLT_INJ_Src)) = true ∧ ft3.onx.lostPend = 0 ∧ ft3.onx.fifo.length < 256 ∧ ft3.unacked (ft3.rd FLT_INJ_Src) = false) ∧
    (ft4.on DBG_LOCK_Lock = false ∧ ft4.rd FLT_INJ_Mode = 2 ∧ ft4.rd FLT_INJ_Class ≠ 3 ∧ ft4.on (FLT_SRC_CFG_Assigned (ft4.rd
      FLT_INJ_Src)) = true ∧ ft4.onx.lostPend = 0 ∧ ft4.onx.fifo.length < 256 ∧ ft4.unacked (ft4.rd FLT_INJ_Src) = true ∧
      neverEscalates (ft4.rd FLT_INJ_Src) = false) ∧
    (ft5.on DBG_LOCK_Lock = false ∧ ft5.rd FLT_INJ_Mode = 2 ∧ ft5.rd FLT_INJ_Class ≠ 3 ∧ ft5.on (FLT_SRC_CFG_Assigned (ft5.rd
      FLT_INJ_Src)) = true ∧ ft5.onx.lostPend = 0 ∧ ft5.onx.fifo.length < 256 ∧ ft5.unacked (ft5.rd FLT_INJ_Src) = true ∧
      neverEscalates (ft5.rd FLT_INJ_Src) = true) ∧
    (ft2.on DBG_LOCK_Lock = false ∧ (ft2.rd FLT_INJ_Mode ≠ 1 ∨ ft2.rd FLT_INJ_InvMask = 0 ∨ 10 < ft2.rd FLT_INJ_Target ∨ injInst
      (ft2.rd FLT_INJ_Target) ≠ 0 ∧ injInst (ft2.rd FLT_INJ_Target) ≤ ft2.rd FLT_INJ_Inst)) ∧
    (ft6.on DBG_LOCK_Lock = false ∧ (¬(ft6.rd FLT_INJ_Mode ≠ 1 ∨ ft6.rd FLT_INJ_InvMask = 0 ∨ 10 < ft6.rd FLT_INJ_Target ∨ injInst
      (ft6.rd FLT_INJ_Target) ≠ 0 ∧ injInst (ft6.rd FLT_INJ_Target) ≤ ft6.rd FLT_INJ_Inst))) ∧
    ((ft1.frm.coreRst = true ∨ ft1.flt.nmi = [])) ∧
    (ft10.frm.coreRst = false ∧ ft10.flt.nmi = [(4, 3, 5)] ∧ ft10.frame ≤ 5) ∧
    (ft11.frm.coreRst = false ∧ ft11.flt.nmi = [(4, 3, 4)] ∧ 4 < ft11.frame) ∧
    (ft9.frm.coreRst = false ∧ ft9.flt.nmi = [(2, 3, 4)] ∧ 4 < ft9.frame) ∧
    (ft9.frm.coreRst = false ∧ ft9.flt.nmi = [(2, 3, 4)] ∧ 4 < ft9.frame ∧ (2 = 0 ∨ 2 = 2 ∨ 2 = 4) ∧ ft9.on (FLT_SRC_CFG_Assigned
      2) = true) := by
  repeat' apply And.intro
  all_goals decide +kernel

/-- Witnesses of TimersAndRounds: for each clause with hypotheses, a state and operands that meet them all. -/
theorem witness_TimersAndRounds :
    (tm1.rd (TMR_STAT_State 0) ≠ 2 ∧ tm1.rd (TMR_CMP_Cmp 0) ≠ 0) ∧
    (tm7.rd (TMR_STAT_State 15) ≠ 2 ∧ tm7.rd (TMR_CMP_Cmp 15) = 0 ∧ tm7.on (TMR_CFG_Mode 15) = false) ∧
    (tm1.rd (TMR_STAT_State 0) ≠ 2) ∧
    (tm3.rd (TMR_STAT_State 15) = 2 ∧ 0 ≤ (tm3.timer 15).clk ∧ tm3.rd (TMR_CNT_Cnt 15) < 7) ∧
    (tm3.rd (TMR_STAT_State 15) = 2 ∧ 0 ≤ (tm3.timer 15).clk ∧ 0 ≤ tm3.rd (TMR_CNT_Cnt 15)) ∧
    (tm4.rd (TMR_STAT_State 15) = 2 ∧ 999 = (tm4.timer 15).clk + 1 ∧ (tm4.timer 15).pre ≤ (tm4.timer 15).frac + 1 ∧ (tm4.timer
      15).wrap = false ∧ tm4.rd (TMR_CNT_Cnt 15) + 1 < 2 ^ 32 ∧ tm4.rd (TMR_CNT_Cnt 15) + 1 ≠ tm4.rd (TMR_CMP_Cmp 15)) ∧
    (tm3.rd (TMR_STAT_State 15) = 2 ∧ 999 = (tm3.timer 15).clk + 1 ∧ (tm3.timer 15).pre ≤ (tm3.timer 15).frac + 1 ∧ (tm3.timer
      15).wrap = false ∧ tm3.rd (TMR_CNT_Cnt 15) + 1 < 2 ^ 32 ∧ tm3.rd (TMR_CNT_Cnt 15) + 1 = tm3.rd (TMR_CMP_Cmp 15)) ∧
    (tm1.nvmOpen = true ∧ tm1.on RBT_NVM_STAT_Gasp = false) ∧
    (tm1.nvmOpen = true ∧ tm1.on RBT_NVM_STAT_Gasp = false ∧ Nat.testBit 12 2 = true) ∧
    (tm1.nvmOpen = true ∧ tm1.on RBT_NVM_STAT_Gasp = false ∧ 8 = 2 ^ 3 ∧ tm1.rbtOn false 3 = true) ∧
    (tm1.nvmOpen = true ∧ tm1.on RBT_NVM_STAT_Gasp = false ∧ 12 = 2 ^ 3 + 2 ^ 2 ∧ tm1.rbtOn false 3 = true ∧ tm1.rbtOn false 2 =
      true ∧ (∀ (r : Nat), r ∈ [3, 2] → tm1.rbtWait false r + 1 < if tm1.rd (if false = true then RBT_MC_CFG_WaitMax else
      RBT_NVM_CFG_WaitMax) = 0 then 255 else tm1.rd (if false = true then RBT_MC_CFG_WaitMax else RBT_NVM_CFG_WaitMax)) ∧
      tm1.rbtPrio false 2 < tm1.rbtPrio false 3) ∧
    (tm6.nvmOpen = false ∧ tm6.on RBT_NVM_STAT_Gasp = false ∧ tm6.hif.cmds = []) := by
  repeat' apply And.intro
  all_goals decide +kernel

/-- Witnesses of UpdateStaging: for each clause with hypotheses, a state and operands that meet them all. -/
theorem witness_UpdateStaging :
    (u02.ready 0 64 = some (the (u02.ready 0 64)) ∧ numAt (the (u02.ready 0 64)).payload 8 1 ≠ 1 ∧ u02.updRefused ≠ 0) ∧
    (u03.ready 0 64 = some (the (u03.ready 0 64)) ∧ numAt (the (u03.ready 0 64)).payload 8 1 ≠ 1 ∧ u03.updRefused = 0 ∧ u03.rd
      UPD_STAT_State ∈ [3, 4, 5]) ∧
    (u04.ready 0 64 = some (the (u04.ready 0 64)) ∧ numAt (the (u04.ready 0 64)).payload 8 1 ≠ 1 ∧ u04.updRefused = 0 ∧ (¬u04.rd
      UPD_STAT_State ∈ [3, 4, 5]) ∧ stageBad (the (u04.ready 0 64)).payload 0 = true) ∧
    (u01.ready 0 64 = some (the (u01.ready 0 64)) ∧ numAt (the (u01.ready 0 64)).payload 8 1 ≠ 1 ∧ u01.updRefused = 0 ∧ (¬u01.rd
      UPD_STAT_State ∈ [3, 4, 5]) ∧ stageBad (the (u01.ready 0 64)).payload 0 = false) ∧
    (u01.ready 0 64 = some (the (u01.ready 0 64)) ∧ numAt (the (u01.ready 0 64)).payload 8 1 ≠ 1 ∧ u01.updRefused = 0 ∧ (¬u01.rd
      UPD_STAT_State ∈ [3, 4, 5]) ∧ stageBad (the (u01.ready 0 64)).payload 0 = false ∧ (blk1.length ≠ numAt (the (u01.ready 0
      64)).payload 12 4 ∨ manOk blk1 = false)) ∧
    (u01.ready 0 64 = some (the (u01.ready 0 64)) ∧ numAt (the (u01.ready 0 64)).payload 8 1 ≠ 1 ∧ u01.updRefused = 0 ∧ (¬u01.rd
      UPD_STAT_State ∈ [3, 4, 5]) ∧ stageBad (the (u01.ready 0 64)).payload 0 = false ∧ man1.length = numAt (the (u01.ready 0
      64)).payload 12 4 ∧ manOk man1 = true ∧ (∀ (p : UpdPart), p ∈ manParts man1 → p.onChip = true) ∧ u01.on
      (FLT_SRC_CFG_Assigned 241) = true) ∧
    (u06.ready 0 64 = some (the (u06.ready 0 64)) ∧ numAt (the (u06.ready 0 64)).payload 8 1 = 1 ∧ (stageBad (the (u06.ready 0
      64)).payload 1 || u06.rd UPD_STAT_State != 1 || u06.fwu.coord.isSome || decide (List.foldl (fun (a : Nat) (p : UpdPart) => a
      + p.count) 0 u06.fwu.parts < numAt (the (u06.ready 0 64)).payload 16 2 + numAt (the (u06.ready 0 64)).payload 12 4)) = true)
      ∧
    (u08.ready 0 64 = some (the (u08.ready 0 64)) ∧ numAt (the (u08.ready 0 64)).payload 8 1 = 1 ∧ (stageBad (the (u08.ready 0
      64)).payload 1 || u08.rd UPD_STAT_State != 1 || u08.fwu.coord.isSome || decide (List.foldl (fun (a : Nat) (p : UpdPart) => a
      + p.count) 0 u08.fwu.parts < numAt (the (u08.ready 0 64)).payload 16 2 + numAt (the (u08.ready 0 64)).payload 12 4)) = false
      ∧ u08.bufFree < numAt (the (u08.ready 0 64)).payload 12 4) ∧
    (u07.ready 0 64 = some (the (u07.ready 0 64)) ∧ numAt (the (u07.ready 0 64)).payload 8 1 = 1 ∧ (stageBad (the (u07.ready 0
      64)).payload 1 || u07.rd UPD_STAT_State != 1 || u07.fwu.coord.isSome || decide (List.foldl (fun (a : Nat) (p : UpdPart) => a
      + p.count) 0 u07.fwu.parts < numAt (the (u07.ready 0 64)).payload 16 2 + numAt (the (u07.ready 0 64)).payload 12 4)) = false
      ∧ numAt (the (u07.ready 0 64)).payload 12 4 ≤ u07.bufFree) ∧
    (u07.ready 0 64 = some (the (u07.ready 0 64)) ∧ numAt (the (u07.ready 0 64)).payload 8 1 = 1 ∧ (stageBad (the (u07.ready 0
      64)).payload 1 || u07.rd UPD_STAT_State != 1 || u07.fwu.coord.isSome || decide (List.foldl (fun (a : Nat) (p : UpdPart) => a
      + p.count) 0 u07.fwu.parts < numAt (the (u07.ready 0 64)).payload 16 2 + numAt (the (u07.ready 0 64)).payload 12 4)) = false
      ∧ numAt (the (u07.ready 0 64)).payload 12 4 = 1 ∧ 1 ≤ u07.bufFree ∧ blkBad.length = 4096 ∧ crcGood blkBad = false ∧ u07.on
      (FLT_SRC_CFG_Assigned 240) = true) ∧
    (u07.ready 0 64 = some (the (u07.ready 0 64)) ∧ numAt (the (u07.ready 0 64)).payload 8 1 = 1 ∧ (stageBad (the (u07.ready 0
      64)).payload 1 || u07.rd UPD_STAT_State != 1 || u07.fwu.coord.isSome || decide (List.foldl (fun (a : Nat) (p : UpdPart) => a
      + p.count) 0 u07.fwu.parts < numAt (the (u07.ready 0 64)).payload 16 2 + numAt (the (u07.ready 0 64)).payload 12 4)) = false
      ∧ numAt (the (u07.ready 0 64)).payload 12 4 = 1 ∧ 1 ≤ u07.bufFree ∧ blk2.length = 4096 ∧ crcGood blk2 = true ∧ u07.blockFits
      (numAt (the (u07.ready 0 64)).payload 16 2) blk2 = false) ∧
    (u07.ready 0 64 = some (the (u07.ready 0 64)) ∧ numAt (the (u07.ready 0 64)).payload 8 1 = 1 ∧ (stageBad (the (u07.ready 0
      64)).payload 1 || u07.rd UPD_STAT_State != 1 || u07.fwu.coord.isSome || decide (List.foldl (fun (a : Nat) (p : UpdPart) => a
      + p.count) 0 u07.fwu.parts < numAt (the (u07.ready 0 64)).payload 16 2 + numAt (the (u07.ready 0 64)).payload 12 4)) = false
      ∧ numAt (the (u07.ready 0 64)).payload 12 4 = 1 ∧ 1 ≤ u07.bufFree ∧ blk1.length = 4096 ∧ crcGood blk1 = true ∧ u07.blockFits
      (numAt (the (u07.ready 0 64)).payload 16 2) blk1 = true ∧ u07.partOf (numAt (the (u07.ready 0 64)).payload 16 2) = some 0 ∧
      u07.rd (UPD_PART_STAT_State 0) ≠ 5) ∧
    ((u01.fwu.buf = [] ∨ u01.rbt.gasp = true)) ∧
    (u09.fwu.buf = [(0, [4, 5])] ∧ u09.rbt.gasp = false ∧ u09.partOf 0 = some 0 ∧ u09.fwu.blkIn = []) ∧
    ((u01.fwu.parts.length ≤ 0 ∨ u01.rd (UPD_PART_STAT_State 0) ≠ 1 ∨ ((List.range (nth u01.fwu.parts 0).count).all fun (j : Nat)
      => (assoc u01.fwu.prog ((nth u01.fwu.parts 0).first + j)).isSome) = false)) ∧
    (0 < u10.fwu.parts.length ∧ u10.rd (UPD_PART_STAT_State 0) = 1 ∧ ((List.range (nth u10.fwu.parts 0).count).all fun (j : Nat)
      => (assoc u10.fwu.prog ((nth u10.fwu.parts 0).first + j)).isSome) = true ∧ u10.on (FLT_SRC_CFG_Assigned 242) = true) ∧
    (u11.rd (UPD_PART_STAT_State 1) = 3 ∧ (nth u11.fwu.parts 1).peer = true ∧ (nth u11.fwu.parts 1).count ≤ (List.filter (fun (e :
      Nat × Nat) => e.fst == 1) u11.fwu.acked).length) ∧
    (u11.rd (UPD_PART_STAT_State 1) = 3 ∧ (nth u11.fwu.parts 1).peer = true ∧ (nth u11.fwu.parts 1).count ≤ (List.filter (fun (e :
      Nat × Nat) => e.fst == 1) u11.fwu.acked).length ∧ u11.on (FLT_SRC_CFG_Assigned 242) = true) ∧
    ((¬(u01.rd (UPD_PART_STAT_State 0) = 3 ∧ (nth u01.fwu.parts 0).peer = true ∧ (nth u01.fwu.parts 0).count ≤ (List.filter (fun
      (e : Nat × Nat) => e.fst == 0) u01.fwu.acked).length))) ∧
    (LinkTaken u11 hdr1 ∧ ((assocPut (if numAt blk2 0 2 = 0 ∨ u11.fwu.manLen ≠ numAt blk2 2 2 then [] else u11.fwu.manIn) (numAt
      blk2 0 2) (padTo 40 (List.drop 4 blk2))).length < (numAt blk2 2 2 + 39) / 40)) ∧
    (LinkTaken u13 hdr1 ∧ ((numAt man1 2 2 + 39) / 40 ≤ (assocPut (if numAt man1 0 2 = 0 ∨ u13.fwu.manLen ≠ numAt man1 2 2 then []
      else u13.fwu.manIn) (numAt man1 0 2) (padTo 40 (List.drop 4 man1))).length) ∧ u13.updRefused ≠ 0) ∧
    (LinkTaken u14 hdr1 ∧ ((numAt [7, 0, 36, 1, 7] 2 2 + 39) / 40 ≤ (assocPut (if numAt [7, 0, 36, 1, 7] 0 2 = 0 ∨ u14.fwu.manLen
      ≠ numAt [7, 0, 36, 1, 7] 2 2 then [] else u14.fwu.manIn) (numAt [7, 0, 36, 1, 7] 0 2) (padTo 40 (List.drop 4 [7, 0, 36, 1,
      7]))).length) ∧ u14.updRefused = 0 ∧ (¬u14.rd UPD_STAT_State ∈ [3, 4, 5]) ∧ (manOk (List.take (numAt [7, 0, 36, 1, 7] 2 2)
      (List.foldl (fun (a : List Byte) (e : Nat × List Byte) => a ++ e.snd) [] (assocPut (if numAt [7, 0, 36, 1, 7] 0 2 = 0 ∨
      u14.fwu.manLen ≠ numAt [7, 0, 36, 1, 7] 2 2 then [] else u14.fwu.manIn) (numAt [7, 0, 36, 1, 7] 0 2) (padTo 40 (List.drop 4
      [7, 0, 36, 1, 7]))))) = true) ∧ u14.on (FLT_SRC_CFG_Assigned 241) = true) ∧
    (LinkTaken u11 hdr1 ∧ (u11.fwu.coord ≠ some 3 ∨ 102 < numAt man1 2 1)) ∧
    (LinkTaken u16 hdr1 ∧ u16.fwu.coord = some 3 ∧ numAt man1 2 1 ≤ 102 ∧ (List.filter (fun (e : Nat × Nat × List Byte) => e.fst
      == numAt man1 0 2) (List.filter (fun (e : Nat × Nat × List Byte) => !(e.fst == numAt man1 0 2 && e.snd.fst == numAt man1 2
      1)) u16.fwu.blkIn ++ [(numAt man1 0 2, numAt man1 2 1, padTo 40 (List.drop 4 man1))])).length < 103) ∧
    (LinkTaken u18 hdr1 ∧ numAt [255, 255, 0] 0 2 = 65535 ∧ u18.fwu.check = some (0, man1, [3]) ∧ u18.findCmd 0 = some cmd7 ∧
      numAt [255, 255, 0] 2 1 = 0 ∧ (u18.fwu.rect.any fun (e : Nat × RectOp) => decide (16 ≤ e.fst)) = false) ∧
    (LinkTaken u18 hdr1 ∧ numAt [255, 255, 1] 0 2 = 65535 ∧ u18.fwu.check = some (0, man1, [3]) ∧ u18.findCmd 0 = some cmd7 ∧
      numAt [255, 255, 1] 2 1 ≠ 0) ∧
    (LinkTaken u11 hdr1 ∧ numAt [1, 0, 0] 0 2 ≠ 65535 ∧ u11.partOf (numAt [1, 0, 0] 0 2) = some 1 ∧ (nth u11.fwu.parts 1).peer =
      true ∧ (nth u11.fwu.parts 1).target = 3 ∧ u11.fwu.coord = none ∧ u11.fwu.sent.contains (1, numAt [1, 0, 0] 0 2) = true ∧
      u11.rd (UPD_PART_STAT_State 1) = 3 ∧ numAt [1, 0, 0] 2 1 = 0 ∧ numAt [1, 0, 0] 0 2 + 1 = (nth u11.fwu.parts 1).first + (nth
      u11.fwu.parts 1).count) ∧
    (LinkTaken u11 hdr1 ∧ numAt [1, 0, 2] 0 2 ≠ 65535 ∧ u11.partOf (numAt [1, 0, 2] 0 2) = some 1 ∧ (nth u11.fwu.parts 1).peer =
      true ∧ (nth u11.fwu.parts 1).target = 3 ∧ u11.fwu.coord = none ∧ u11.fwu.sent.contains (1, numAt [1, 0, 2] 0 2) = true ∧
      u11.rd (UPD_PART_STAT_State 1) = 3 ∧ numAt [1, 0, 2] 2 1 = 2 ∧ u11.on (FLT_SRC_CFG_Assigned 242) = true) := by
  repeat' first
    | with_reducible exact linkTaken_of (by decide +kernel)
    | with_reducible exact xferOn_of (by decide +kernel)
    | with_reducible exact canXferOn_of (by decide +kernel)
    | with_reducible apply And.intro
  all_goals first
    | with_reducible exact blk1_good
    | with_reducible exact blk2_good
    | with_reducible exact blkBad_bad
    | with_reducible exact blk1_length
    | with_reducible exact blk2_length
    | with_reducible exact blkBad_length
    | exact .inl (by rw [blk1_length]; decide +kernel)
    | decide +kernel | exact .inl (by decide +kernel)

/-- Witnesses of UpdateActivation: for each clause with hypotheses, a state and operands that meet them all. -/
theorem witness_UpdateActivation :
    (v04.ready 0 65 = some (the (v04.ready 0 65)) ∧ zeroAt (the (v04.ready 0 65)).payload 6 34 = false) ∧
    (v01.ready 0 65 = some (the (v01.ready 0 65)) ∧ zeroAt (the (v01.ready 0 65)).payload 6 34 = true ∧ (v01.rd UPD_STAT_State ≠ 2
      ∨ v01.fwu.coord ≠ none ∨ numAt (the (v01.ready 0 65)).payload 0 4 ≠ v01.rd UPD_BUNDLE_ID_Id)) ∧
    (v05.ready 0 65 = some (the (v05.ready 0 65)) ∧ zeroAt (the (v05.ready 0 65)).payload 6 34 = true ∧ (¬(v05.rd UPD_STAT_State ≠
      2 ∨ v05.fwu.coord ≠ none ∨ numAt (the (v05.ready 0 65)).payload 0 4 ≠ v05.rd UPD_BUNDLE_ID_Id)) ∧ v05.updRefused ≠ 0) ∧
    (v02.ready 0 65 = some (the (v02.ready 0 65)) ∧ zeroAt (the (v02.ready 0 65)).payload 6 34 = true ∧ (¬(v02.rd UPD_STAT_State ≠
      2 ∨ v02.fwu.coord ≠ none ∨ numAt (the (v02.ready 0 65)).payload 0 4 ≠ v02.rd UPD_BUNDLE_ID_Id)) ∧ v02.updRefused = 0 ∧ (∀ (q
      : UpdPart), q ∈ v02.fwu.parts → q.onChip = true)) ∧
    (v03.ready 0 65 = some (the (v03.ready 0 65)) ∧ zeroAt (the (v03.ready 0 65)).payload 6 34 = true ∧ (¬(v03.rd UPD_STAT_State ≠
      2 ∨ v03.fwu.coord ≠ none ∨ numAt (the (v03.ready 0 65)).payload 0 4 ≠ v03.rd UPD_BUNDLE_ID_Id)) ∧ v03.updRefused = 0 ∧ (∃ (e
      : Nat), e ∈ v03.switchOrder ∧ e < 24)) ∧
    (v06.fwu.tag = some 0 ∧ v06.findCmd 0 = some (cm 65 0 (pl [(0, 9), (4, 30)])) ∧ max 1 (v06.rd UPD_CFG_PrepFrames) < v06.frame
      - v06.fwu.since) ∧
    ((v01.fwu.tag = none ∨ v01.frame - v01.fwu.since ≤ max 1 (v01.rd UPD_CFG_PrepFrames))) ∧
    (v08.fwu.toldAt = some 5 ∧ v08.fwu.order = [19, 2, 24] ∧ v08.fwu.coord = none ∧ v08.rd UPD_RUN_LIMIT_Frames < v08.frame - 5 ∧
      v08.fwu.nv.act = some act1 ∧ v08.on (FLT_SRC_CFG_Assigned 243) = true) ∧
    ((v01.fwu.toldAt = none ∨ v01.fwu.order = [] ∨ v01.fwu.coord ≠ none ∨ ∃ (t0 : Nat), v01.fwu.toldAt = some t0 ∧ v01.frame - t0
      ≤ v01.rd UPD_RUN_LIMIT_Frames)) ∧
    (LinkTaken v10 hdr1 ∧ v10.fwu.coord = some 3 ∧ v10.rd UPD_STAT_State = 2 ∧ numAt [9, 0, 0, 0] 0 4 = v10.rd UPD_BUNDLE_ID_Id ∧
      v10.updRefused = 0) ∧
    (LinkTaken v08 hdr1 ∧ (v08.fwu.coord ≠ some 3 ∨ v08.rd UPD_STAT_State ≠ 2 ∨ ¬numAt [9, 0, 0, 0] 0 4 = v08.rd UPD_BUNDLE_ID_Id
      ∨ v08.updRefused ≠ 0)) ∧
    (LinkTaken v08 hdr1 ∧ (v08.fwu.tag = none ∨ ¬numAt [9, 0, 0, 0] 0 4 = v08.rd UPD_BUNDLE_ID_Id ∨ (peersOf
      v08.fwu.parts).contains 3 = false)) ∧
    (LinkTaken v12 hdr1 ∧ v12.fwu.tag = some 0 ∧ numAt [9, 0, 0, 0, 1] 0 4 = v12.rd UPD_BUNDLE_ID_Id ∧ (peersOf
      v12.fwu.parts).contains 3 = true ∧ v12.findCmd 0 = some (cm 65 0 (pl [(0, 9), (4, 30)])) ∧ numAt [9, 0, 0, 0, 1] 4 1 ≠ 0) ∧
    (LinkTaken v13 hdr1 ∧ v13.fwu.tag = some 0 ∧ numAt [9, 0, 0, 0] 0 4 = v13.rd UPD_BUNDLE_ID_Id ∧ (peersOf
      v13.fwu.parts).contains 3 = true ∧ v13.findCmd 0 = some (cm 65 0 (pl [(0, 9), (4, 30)])) ∧ numAt [9, 0, 0, 0] 4 1 = 0 ∧
      v13.fwu.armed.contains (16 + 3) = false ∧ (∃ (e : Nat), e ∈ v13.switchOrder ∧ e < 24 ∧ e ≠ 16 + 3 ∧ v13.fwu.armed.contains e
      = false)) ∧
    (LinkTaken v12 hdr1 ∧ v12.fwu.tag = some 0 ∧ numAt [9, 0, 0, 0] 0 4 = v12.rd UPD_BUNDLE_ID_Id ∧ (peersOf
      v12.fwu.parts).contains 3 = true ∧ v12.findCmd 0 = some (cm 65 0 (pl [(0, 9), (4, 30)])) ∧ numAt [9, 0, 0, 0] 4 1 = 0 ∧ (∀
      (e : Nat), e ∈ v12.switchOrder → e < 24 → e = 16 + 3 ∨ v12.fwu.armed.contains e = true)) ∧
    (LinkTaken v11 hdr1 ∧ v11.fwu.coord = some 3 ∧ v11.rd UPD_STAT_State = 3 ∧ numAt [9, 0, 0, 0] 0 4 = v11.rd UPD_BUNDLE_ID_Id ∧
      v11.fwu.nv.act = none) ∧
    (LinkTaken v08 hdr1 ∧ (v08.fwu.coord ≠ some 3 ∨ v08.rd UPD_STAT_State ≠ 3 ∨ ¬numAt [9, 0, 0, 0] 0 4 = v08.rd UPD_BUNDLE_ID_Id
      ∨ v08.fwu.nv.act ≠ none)) ∧
    (LinkTaken v08 hdr1 ∧ v08.fwu.order = [16 + 3, 2, 24] ∧ v08.fwu.toldAt ≠ none ∧ numAt [9, 0, 0, 0] 0 4 = v08.rd
      UPD_BUNDLE_ID_Id ∧ numAt [9, 0, 0, 0] 4 1 = 0) ∧
    (LinkTaken v08 hdr1 ∧ v08.fwu.order = [16 + 3, 2, 24] ∧ v08.fwu.toldAt ≠ none ∧ numAt [9, 0, 0, 0, 1] 0 4 = v08.rd
      UPD_BUNDLE_ID_Id ∧ numAt [9, 0, 0, 0, 1] 4 1 ≠ 0 ∧ v08.fwu.nv.act = some act1 ∧ v08.on (FLT_SRC_CFG_Assigned 243) = true) ∧
    (LinkTaken v08 hdr1 ∧ (v08.fwu.order.head? ≠ some (16 + 3) ∨ v08.fwu.toldAt = none ∨ ¬numAt [8, 0, 0, 0] 0 4 = v08.rd
      UPD_BUNDLE_ID_Id)) ∧
    (LinkTaken v10 hdr1 ∧ v10.fwu.coord = some 3 ∧ numAt [9, 0, 0, 0] 0 4 = v10.rd UPD_BUNDLE_ID_Id) ∧
    (LinkTaken v08 hdr1 ∧ (v08.fwu.coord ≠ some 3 ∨ ¬numAt [9, 0, 0, 0] 0 4 = v08.rd UPD_BUNDLE_ID_Id)) := by
  repeat' first
    | with_reducible exact linkTaken_of (by decide +kernel)
    | with_reducible exact xferOn_of (by decide +kernel)
    | with_reducible exact canXferOn_of (by decide +kernel)
    | with_reducible apply And.intro
  all_goals first | decide +kernel | exact .inl (by decide +kernel) | exact ⟨5, by decide +kernel, by decide +kernel⟩

/-- Witnesses of UpdateConfirmation: for each clause with hypotheses, a state and operands that meet them all. -/
theorem witness_UpdateConfirmation :
    (w01.ready 0 66 = some (the (w01.ready 0 66)) ∧ w01.fwu.nv.act = none) ∧
    (w03.ready 0 66 = some (the (w03.ready 0 66)) ∧ w03.fwu.nv.act = some (the w03.fwu.nv.act) ∧ (!zeroAt (the (w03.ready 0
      66)).payload 4 36 || w03.rd UPD_STAT_State != 4 || numAt (the (w03.ready 0 66)).payload 0 4 != (the w03.fwu.nv.act).bundle
      || w03.updExpired || w03.fwu.coord.isSome) = true) ∧
    (w02.ready 0 66 = some (the (w02.ready 0 66)) ∧ w02.fwu.nv.act = some (the w02.fwu.nv.act) ∧ (!zeroAt (the (w02.ready 0
      66)).payload 4 36 || w02.rd UPD_STAT_State != 4 || numAt (the (w02.ready 0 66)).payload 0 4 != (the w02.fwu.nv.act).bundle
      || w02.updExpired || w02.fwu.coord.isSome) = false) ∧
    (LinkTaken v14 hdr1 ∧ v14.fwu.nv.act = some (the v14.fwu.nv.act) ∧ (the v14.fwu.nv.act).coord = some 3 ∧ numAt [9, 0, 0, 0] 0
      4 = (the v14.fwu.nv.act).bundle ∧ v14.rd UPD_STAT_State = 4) ∧
    (LinkTaken w09 hdr1 ∧ (w09.fwu.nv.act = none ∨ w09.rd UPD_STAT_State ≠ 4)) ∧
    (w04.updExpired = true ∧ w04.on UPD_STAT_Expired = false ∧ w04.fwu.restart = false ∧ w04.on (FLT_SRC_CFG_Assigned 244) = true)
      ∧
    ((w01.updExpired = false ∨ w01.on UPD_STAT_Expired = true ∨ w01.fwu.restart = true)) ∧
    (w06.on DBG_LOCK_Lock = true ∧ w06.on (FLT_SRC_CFG_Assigned 247) = true) ∧
    (w01.on DBG_LOCK_Lock = false) ∧
    (w01.on DBG_LOCK_Lock = false ∧ w01.fwu.nv.keyHash = none ∧ (List.replicate 97 5).length = 97) ∧
    (bytes1.length = 232 ∧ w01.on (FLT_SRC_CFG_Assigned 241) = true) ∧
    (w01.on (FLT_SRC_CFG_Assigned 241) = true) ∧
    ((w07.rd UPD_STAT_State = 1 ∨ w07.rd UPD_STAT_State = 2)) ∧
    (w01.rd UPD_STAT_State ≠ 1 ∧ w01.rd UPD_STAT_State ≠ 2) := by
  repeat' first
    | with_reducible exact linkTaken_of (by decide +kernel)
    | with_reducible exact xferOn_of (by decide +kernel)
    | with_reducible exact canXferOn_of (by decide +kernel)
    | with_reducible apply And.intro
  all_goals first | decide +kernel | exact .inl (by decide +kernel) | exact ⟨5, by decide +kernel, by decide +kernel⟩

/-- Witnesses of Resets: for each clause with hypotheses, a state and operands that meet them all. -/
theorem witness_Resets :
    (x02.pwr.phase ≠ Phase.held) ∧
    (x01.pwr.phase = Phase.held) ∧
    (x01.pwr.vhv = true) ∧
    (x06.pwr.vhv = false) ∧
    (x02.pwr.phase = Phase.running) ∧
    (x04.pwr.phase = Phase.booted) ∧
    (x09.flt.chipReset = some (the x09.flt.chipReset) ∧ (x09.frm.coreRst = true ∨ ∀ (q : RecReq), q ∈ x09.onx.fifo → q.force =
      false) ∧ x09.rd HU_STAT_State ≠ 2) ∧
    ((x01.flt.chipReset = none ∨ x01.rd HU_STAT_State = 2)) ∧
    ((x02.pwr.vhv = false ∨ x02.pwr.vio.testBit 0 = false ∨ x02.pwr.phase = Phase.booted ∨ x02.pwr.phase = Phase.running)) ∧
    (x01.pwr.vhv = true ∧ x01.pwr.vio.testBit 0 = true ∧ x01.pwr.phase = Phase.held) ∧
    (x01.pwr.vhv = true ∧ x01.pwr.vio.testBit 0 = true ∧ x01.pwr.phase = Phase.held ∧ boot1.loaderOk = false) ∧
    (x01.pwr.vhv = true ∧ x01.pwr.vio.testBit 0 = true ∧ x01.pwr.phase = Phase.held ∧ boot2.loaderOk = true ∧ (∀ (k : Nat), k < 6
      → boot2.imagesOk.toNat.testBit k = true) ∧ x01.fwu.nv.act = none ∧ (∀ (k : Nat), k < 6 → x01.fwu.nv.counter ≤
      x01.fwu.nv.secVers.getD k 0) ∧ x01.fwu.nv.banks = [0, 0, 0]) := by
  repeat' apply And.intro
  all_goals decide +kernel

/-- Witnesses of SuppliesAndRestart: for each clause with hypotheses, a state and operands that meet them all. -/
theorem witness_SuppliesAndRestart :
    (y02.pwr.phase ≠ Phase.held) ∧
    (y02.pwr.phase ≠ Phase.held ∧ y02.on (FLT_SRC_CFG_Assigned 251) = true) ∧
    (y01.pwr.phase = Phase.held) ∧
    (y01.on (FLT_SRC_CFG_Assigned 252) = true) ∧
    (0 < y01.rdS PWR_VHV_WARN_V ∧ y01.on PWR_STAT_VhvWarn = false ∧ (y01.pwr.warned = false ∨ y01.pwr.warnAt + 100 ≤ y01.frame) ∧
      y01.on (FLT_SRC_CFG_Assigned 253) = true) ∧
    (0 < y06.rdS PWR_VHV_WARN_V ∧ y06.on PWR_STAT_VhvWarn = false ∧ y06.pwr.warned = true ∧ y06.frame < y06.pwr.warnAt + 100) ∧
    (y04.rdS PWR_VHV_WARN_V ≤ 1048576 ∧ y04.on PWR_STAT_VhvWarn = true) ∧
    (y01.on PWR_STAT_VhvWarn = decide (1048576 < y01.rdS PWR_VHV_WARN_V)) ∧
    (y01.on CLK_CHECK_CFG_RefEn = true ∧ decide (1000 * max 1 (y01.rd CLK_CHECK_CFG_RefTol) < (satS 16 (signed 16 0 - y01.rdS
      CLK_TRIM_Trim)).natAbs) = false) ∧
    (y01.on CLK_CHECK_CFG_RefEn = true ∧ decide (1000 * max 1 (y01.rd CLK_CHECK_CFG_RefTol) < (satS 16 (signed 16 32768 - y01.rdS
      CLK_TRIM_Trim)).natAbs) = true ∧ y01.on (FLT_SRC_CFG_Assigned 254) = true) ∧
    (y01.on (FLT_SRC_CFG_Assigned 254) = true) ∧
    (y09.fwu.restart = true ∧ y09.plans = [] ∧ y09.frm.coreRst = false ∧ y09.pwr.phase = Phase.running) ∧
    ((y01.fwu.restart = false ∨ y01.plans ≠ [] ∨ y01.frm.coreRst = true ∨ y01.pwr.phase ≠ Phase.running)) ∧
    (y01.frm.coreRst = false) ∧
    (y10.frm.coreRst = true ∧ y10.fwu.nv.act = none ∧ y10.onx.lostPend = 0 ∧ y10.onx.fifo.length < 256) := by
  repeat' apply And.intro
  all_goals decide +kernel

/-- Witnesses of DebugLockRefusesInjection: for each clause with hypotheses, a state and operands that meet them all. -/
theorem witness_DebugLockRefusesInjection :
    (z02.on DBG_LOCK_Lock = true) ∧
    (z01.pwr.lockSet = false ∧ z01.on DBG_LOCK_PermLock = false) := by
  repeat' apply And.intro
  all_goals decide +kernel


/-! ### The machine's own statements -/

/-- Whether an outcome is a next state. -/
def isNext (o : Host.Outcome State Fault Refusal) : Bool := match o with | .next _ => true | _ => false

/-- Reset with two commands waiting, the first a write of a register that the host cannot write. -/
def queued : State := { State.reset with pending := [.registerWrite 0 0x12345678 15, .busMasterEnableWrite] }

theorem exists_next {o : Host.Outcome State Fault Refusal} (h : isNext o = true) : ∃ t, o = .next t := by
  cases o with
  | next t => exact ⟨t, rfl⟩
  | fault _ => cases h
  | refused _ => cases h

theorem witness_EmptyQueueIdles : State.reset.pending = [] := rfl

theorem witness_StepKeepsTheCanonicalForm : queued.canonical = true ∧ ∃ t, step queued = .next t :=
  ⟨by decide +kernel, exists_next (by decide +kernel)⟩

theorem witness_StepKeepsTheStatusShown : queued.shown ∧ ∃ t, step queued = .next t :=
  ⟨by unfold State.shown; decide +kernel, exists_next (by decide +kernel)⟩

/-- The front command leaves the queue, the one behind it stays. -/
theorem test_step_takes_the_front : (∃ t, step queued = .next t ∧ t.pending = [.busMasterEnableWrite]) := by
  have h : (match step queued with | .next t => decide (t.pending = [.busMasterEnableWrite]) | _ => false) = true := by decide +kernel
  cases e : step queued with
  | next t => rw [e] at h; exact ⟨t, rfl, of_decide_eq_true h⟩
  | fault _ => rw [e] at h; cases h
  | refused _ => rw [e] at h; cases h

/-! ### Ill-formed commands are refused -/

/-- A link header. -/
def hd : LinkHdr := ⟨0, 1, 0, true, 0, 0, 0⟩

theorem test_wf_write_odd_offset : (Instr.registerWrite 2 0 15).wellFormed = false := by decide
theorem test_wf_write_word : (Instr.registerWrite 4 0 15).wellFormed = true := by decide
theorem test_wf_payloads :
    [Instr.hello hd [0], .heartbeat hd [], .surrender hd [], .throttle hd [], .mirror hd [], .subscribe hd [], .subNack hd [],
      .fwd hd [], .pwrite hd [], .pwriteAck hd [], .updMan hd [], .updData hd [], .updAck hd [], .updPrepare hd [],
      .updReady hd [], .updCommit hd [], .updDone hd [], .updRevert hd [], .updConfirm hd []].all (fun i => !i.wellFormed) = true := by
  decide
theorem test_wf_take_thirteen : (Instr.take hd (List.replicate 13 (0, 0, 0))).wellFormed = false := by decide
theorem test_wf_feed_nine : (Instr.feedReport hd (List.replicate 9 ⟨0, 0, 0, 0, 0, 0⟩)).wellFormed = false := by decide
theorem test_wf_fetch_empty : (Instr.descriptorFetch 0 (some [])).wellFormed = false := by decide
theorem test_wf_directory_short : (Instr.directoryResolve 0 ⟨true, [0], false, []⟩).wellFormed = false := by decide
theorem test_wf_tokens_short :
    [Instr.onyxClear 0 (some []), .lockOp (some [0]), .provision false (some [])].all (fun i => !i.wellFormed) = true := by decide
theorem test_wf_can_long_classical :
    (Instr.canReceive 0 false 5 false 9 (List.replicate 12 0)).wellFormed = false := by decide
theorem test_wf_can_wide_identifier : (Instr.canReceive 0 false 0x800 true 0 []).wellFormed = false := by decide
theorem test_wf_can_refresh : (Instr.canFrameStart 0 (.refresh 0) true).wellFormed = false := by decide
theorem test_wf_settings_odd :
    [Instr.coreRestartEnd [(1, 0)], .updPartVerify 0 [(2, 0)],
      .logicResetRelease ⟨false, 0, 0, false⟩ (some ⟨true, 0, 0, 0, [(3, 0)], [], 0, none⟩)].all (fun i => !i.wellFormed) = true := by
  decide
theorem test_wf_role_take_five : (Instr.roleTake (List.replicate 5 [])).wellFormed = false := by decide
theorem test_wf_transit_short : (Instr.tlTransitForward 0 (.bytes 1 [])).wellFormed = false := by decide

/-! ### Values that the spec states -/

/-- GLB_ID after reset, from the register table. -/
theorem test_reset_id : State.reset.word GLB_ID = 0x78403101 := by decide +kernel

/-- A write of GLB_ID, which is read-only, is discarded. -/
theorem test_write_id_discarded : (match step queued with | .next t => t.word GLB_ID == 0x78403101 | _ => false) = true := by
  decide +kernel

/-- The check values of R14: "123456789". -/
theorem test_crc32c_check : crc32c ((List.range 9).map (fun i => BitVec.ofNat 8 (0x31 + i))) = 0xE3069283 := by decide +kernel
theorem test_crc16_check : crc16 ((List.range 9).map (fun i => BitVec.ofNat 8 (0x31 + i))) = 0x29B1 := by decide +kernel

/-- The 24-bit pattern of chapter 00's Q2.22 example: 0xC0_0000 is minus one. -/
theorem test_q2_22_example : signed 24 0xC00000 = -(2 ^ 22 : Int) := by decide

/-- No row of the table gives bits, so no word spells a command. -/
theorem test_no_word_decodes : decodeTableWord 32 0x12345678 = none := rfl

theorem test_withFetchWord_unchanged : queued.withFetchWord 32 0x12345678 = queued := rfl

end Sys2Proof.Tests
end

section
/-!
SUPPORT. How a command's frame is built from what its effect keeps, before the state settles.
-/
namespace Sys2Proof.Machine

/-- A write of a listed field leaves what was left. -/
theorem Keeps.wr {s x : State} {fs : List Fld} (h : Keeps s x fs) {g : Fld} (v : Nat) (hm : g ∈ fs) (hg : g.ok = true) :
    Keeps s (x.wr g v) fs := fun f hp hf =>
  (State.rd_wr_apart x v hg (List.all_eq_true.1 hf g hm)).trans (h f hp hf)

/-- A write of a listed register leaves what was left. -/
theorem Keeps.setWord {s x : State} {fs : List Fld} (h : Keeps s x fs) {o : Nat} (v : Word) (hm : (⟨o, 31, 0⟩ : Fld) ∈ fs) :
    Keeps s (x.setWord o v) fs := fun f hp hf =>
  (State.rd_setWord_apart x v (List.all_eq_true.1 hf _ hm)).trans (h f hp hf)

/-- What `Part.same` says of a part, said of an effect before the state settles. -/
def Part.kept (p : Part) (s x : State) : Prop :=
  match p with
  | .shadow => x.shadow = s.shadow
  | .records => x.onx = { s.onx with fifo := x.onx.fifo, lostPend := x.onx.lostPend, lossSeen := x.onx.lossSeen }
  | .flt => x.flt = s.flt
  | p => p.same s x

theorem Part.kept_refl (p : Part) (s : State) : p.kept s s := by
  cases p
  case irq => exact ⟨rfl, rfl⟩
  case requests => exact ⟨rfl, rfl, rfl⟩
  case bus => exact ⟨rfl, rfl, rfl, rfl, rfl⟩
  all_goals exact Eq.refl _

/-- A part that an effect keeps is the same once the state has settled. -/
theorem Part.same_of_kept {p : Part} {s x : State} (q : List Instr) (h : p.kept s x) : p.same s (x.settle.requeue q) := by
  cases p
  case shadow => exact (State.settle_shadow x).trans (congrArg RegFile.norm h)
  case flt => exact (State.settle_flt x).trans (congrArg (fun f : FltState => { f with alertNew := false }) h)
  case records =>
    have hx : x.onx = { s.onx with fifo := x.onx.fifo, lostPend := x.onx.lostPend, lossSeen := x.onx.lossSeen } := h
    simp only [Part.same, State.requeue_onx, State.settle_onx]
    rw [hx]
  all_goals simpa [Part.kept, Part.same] using h

/-- The effect that takes `s` to `x` reaches only the listed fields and parts: a frame before the state settles. -/
structure Reach (s x : State) (fs : List Fld) (ps : List Part) : Prop where
  regs : Keeps s x fs
  parts : ∀ p : Part, p ∉ ps → p.kept s x

namespace Reach
variable {s x : State} {fs : List Fld} {ps : List Part}

/-- What an effect reaches is all that its command changes. -/
theorem frame (h : Reach s x fs ps) (q : List Instr) : Frame s (x.settle.requeue q) fs ps :=
  ⟨fun f hf ha => (State.settle_rd x hf).trans (h.regs f hf ha), fun p hp => Part.same_of_kept q (h.parts p hp)⟩

theorem refl (s : State) (fs : List Fld) (ps : List Part) : Reach s s fs ps := ⟨fun _ _ _ => rfl, fun p _ => p.kept_refl s⟩

theorem wr (h : Reach s x fs ps) {g : Fld} (v : Nat) (hm : g ∈ fs) (hg : g.ok = true) : Reach s (x.wr g v) fs ps :=
  ⟨h.regs.wr v hm hg, fun p hp => by cases p <;> exact h.parts _ hp⟩

theorem setWord (h : Reach s x fs ps) {o : Nat} (v : Word) (hm : (⟨o, 31, 0⟩ : Fld) ∈ fs) : Reach s (x.setWord o v) fs ps :=
  ⟨h.regs.setWord v hm, fun p hp => by cases p <;> exact h.parts _ hp⟩

theorem emit (h : Reach s x fs ps) (o : Output) (hm : Part.out ∈ ps) : Reach s (x.emit o) fs ps := by
  refine ⟨h.regs, fun p hp => ?_⟩
  cases p
  case out => exact absurd hm hp
  all_goals exact h.parts _ hp

theorem modPwr (h : Reach s x fs ps) (g : PwrSt → PwrSt) (hm : Part.pwr ∈ ps) : Reach s (x.modPwr g) fs ps := by
  refine ⟨h.regs, fun p hp => ?_⟩
  cases p
  case pwr => exact absurd hm hp
  all_goals exact h.parts _ hp

theorem modFlt (h : Reach s x fs ps) (g : FltState → FltState) (hm : Part.flt ∈ ps) : Reach s (x.modFlt g) fs ps := by
  refine ⟨h.regs, fun p hp => ?_⟩
  cases p
  case flt => exact absurd hm hp
  all_goals exact h.parts _ hp

theorem setShadow (h : Reach s x fs ps) (l : RegFile) (hm : Part.shadow ∈ ps) : Reach s { x with shadow := l } fs ps := by
  refine ⟨h.regs, fun p hp => ?_⟩
  cases p
  case shadow => exact absurd hm hp
  all_goals exact h.parts _ hp

end Reach

/-- A field that is no status field reads after a command what its effect left in it. -/
theorem State.answer_on (x : State) (q : List Instr) {f : Fld} (h : f.plain = true) : (x.settle.requeue q).on f = x.on f :=
  State.settle_on x h

end Sys2Proof.Machine
end

section
/-!
SUPPORT. What a register write does, bit by bit (R9, R509), and what the debug lock's write does (R516).
-/
namespace Sys2Proof.Machine

/-! ### Bits of words -/

@[simp] theorem testBit_maskOff (m n b : Nat) : (maskOff m n).testBit b = (m.testBit b && !n.testBit b) := by
  simp only [maskOff, Nat.testBit_xor, Nat.testBit_and]
  cases m.testBit b <;> simp

/-- A field of one bit is on where the bit is set. -/
theorem State.on_bit (s : State) (o b : Nat) : s.on ⟨o, b, b⟩ = (s.word o).toNat.testBit b := by
  rw [State.on, State.rd, Fld.of, bits, Nat.testBit_eq_decide_div_mod_eq, Nat.add_sub_cancel_left, pow_one]
  rcases Nat.mod_two_eq_zero_or_one ((s.word o).toNat / 2 ^ b) with h | h <;> simp [h]

/-- A field of a whole register reads its word. -/
theorem State.rd_word (s : State) (o : Nat) : s.rd ⟨o, 31, 0⟩ = (s.word o).toNat := by
  simp [State.rd, Fld.of, bits, Nat.mod_eq_of_lt (s.word o).isLt]

/-! ### Writes by access code -/

/-- R9: an RW bit takes the value, a 1 clears a W1C bit, every other bit stays. -/
theorem State.plainWrite_bit (s : State) (r : RegSpec) (o v : Nat) {b : Nat} (h : b < 32) :
    ((s.plainWrite r o v).word o).toNat.testBit b =
      if r.rw.testBit b then v.testBit b else (s.word o).toNat.testBit b && !(r.w1c.testBit b && v.testBit b) := by
  rw [State.plainWrite, State.word_setWord_same, BitVec.toNat_ofNat, Nat.testBit_mod_two_pow]
  cases hr : r.rw.testBit b <;> simp [h, hr, Bool.and_comm]

/-- R509: a merged word has the shadow's bits where the shadow holds bits, and those in force elsewhere. -/
theorem mergeWord_bit (o : Nat) (live shadow : Word) {b : Nat} (h : b < 32) :
    (mergeWord o live shadow).toNat.testBit b =
      if (shadowMask o).testBit b then shadow.toNat.testBit b else live.toNat.testBit b := by
  rw [mergeWord, BitVec.toNat_ofNat, Nat.testBit_mod_two_pow]
  cases hm : (shadowMask o).testBit b <;> simp [h, hm]

/-- The shadow of a register holds its writable bits. -/
theorem shadowMask_of_regAt {o i j : Nat} {r : RegSpec} (ho : o < 2 ^ 18) (h : regAt o = some (r, i, j)) : shadowMask o = r.rw := by
  rw [shadowMask, if_neg (by omega), h]

/-- A write of a live register without a further effect is one by its access codes. -/
theorem State.regWrite_of_live {s : State} {o v i j : Nat} {r : RegSpec} {window : Bool} (h : regAt o = some (r, i, j))
    (hs : r.shadowed = false) (ha : s.writeAct r o v window = none) : s.regWrite o v window = s.plainWrite r o v := by
  simp [State.regWrite, h, hs, ha]

/-- A write of a shadowed register without W1C bits goes to its shadow alone. -/
theorem State.regWrite_of_shadowed (s : State) {o i j : Nat} (v : Nat) {r : RegSpec} (window : Bool) (h : regAt o = some (r, i, j))
    (hs : r.shadowed = true) (hw : r.w1c = 0) :
    s.regWrite o v window = s.shadowWrite o (mergeWord o (resetWord o) (BitVec.ofNat 32 v)) := by
  simp [State.regWrite, h, hs, hw]

theorem exec_registerWrite (offset : BitVec 18) (value : BitVec 32) (be : BitVec 4) (s : State) :
    exec (.registerWrite offset value be) s =
      done s (if be = 15 ∧ offset.toNat % 4 = 0 then s.regWrite offset.toNat value.toNat false else s) := rfl

/-- R12: a write of a whole aligned word is served. -/
theorem exec_registerWrite_word {offset : BitVec 18} (value : BitVec 32) (s : State) (h : offset.toNat % 4 = 0) :
    exec (.registerWrite offset value 15) s = done s (s.regWrite offset.toNat value.toNat false) := by
  rw [exec_registerWrite, if_pos ⟨rfl, h⟩]

/-- R12: any other write is discarded. -/
theorem exec_registerWrite_discarded {offset : BitVec 18} (value : BitVec 32) {be : BitVec 4} (s : State)
    (h : be ≠ 15 ∨ offset.toNat % 4 ≠ 0) : exec (.registerWrite offset value be) s = done s s := by
  rw [exec_registerWrite, if_neg (by tauto)]

/-- Settles O10: every bit by its access code (R9), the rest of the state by the frame of one word's write. -/
theorem registerWriteByAccessCode : Obligations.RegisterWriteByAccessCode := by
  intro s offset value r i j ho hr hs ha
  rw [exec_registerWrite_word value s ho, State.regWrite_of_live hr hs ha, answers_done]
  refine ⟨fun b hb hp => ?_, ((Reach.refl s _ _).setWord _ (List.mem_singleton_self _)).frame _⟩
  rw [State.answer_on _ _ hp, State.on_bit, State.plainWrite_bit s r _ _ hb, State.on_bit]

/-! ### Shadow writes -/

theorem GLB_SHADOW_Dirty_plain : GLB_SHADOW_Dirty.plain = true := by decide +kernel

theorem State.shadowWrite_shadow (s : State) (o : Nat) (w : Word) : (s.shadowWrite o w).shadow = s.shadow.put o w := rfl

/-- A shadow write marks the shadows as changed. -/
theorem State.shadowWrite_dirty (s : State) (o : Nat) (w : Word) : (s.shadowWrite o w).on GLB_SHADOW_Dirty = true :=
  State.on_wr_same _ GLB_SHADOW_Dirty _ (by decide)

/-- A shadow write reaches Dirty and the shadows alone. -/
theorem State.shadowWrite_reach (s : State) (o : Nat) (w : Word) : Reach s (s.shadowWrite o w) [GLB_SHADOW_Dirty] [.shadow] :=
  ((Reach.refl s _ _).setShadow _ (List.mem_singleton_self _)).wr _ (List.mem_singleton_self _) (by decide)

/-- Settles O11: the word goes to the shadow alone, merged over the reset value by the bits a shadow holds (R509). -/
theorem shadowedWriteWaitsForApply : Obligations.ShadowedWriteWaitsForApply := by
  intro s offset value r i j ho hr hs hw
  rw [exec_registerWrite_word value s ho, State.regWrite_of_shadowed s _ _ hr hs hw, answers_done]
  refine ⟨fun b hb => ?_, fun p hp => ?_, ?_, (State.shadowWrite_reach s _ _).frame _⟩
  · rw [State.requeue_shadow, State.settle_shadow, RegFile.get_norm, State.shadowWrite_shadow, RegFile.get_put_same,
      mergeWord_bit _ _ _ hb, shadowMask_of_regAt offset.isLt hr, BitVec.ofNat_toNat, BitVec.setWidth_eq]
  · rw [State.requeue_shadow, State.settle_shadow, RegFile.get_norm, State.shadowWrite_shadow, RegFile.get_put_other _ _ hp]
  · rw [State.answer_on _ _ GLB_SHADOW_Dirty_plain, State.shadowWrite_dirty]

/-! ### The latency read -/

theorem exec_latMaxRead (n : Fin 24) (s : State) : exec (.latMaxRead n) s =
    done s ((s.emit (.readData (LT_LAT_MAX n) (s.word (LT_LAT_MAX n)))).wr (LT_LAT_MAX_LatMax n) 0) := rfl

theorem LT_LAT_MAX_plain : ∀ n : Fin 24, (LT_LAT_MAX_LatMax n).plain = true ∧ (LT_LAT_MAX_LatLast n).plain = true := by decide +kernel

theorem LT_LAT_MAX_LatMax_ok (n : Nat) : (LT_LAT_MAX_LatMax n).ok = true := rfl

/-- The latest latency and the largest share a word and no bit. -/
theorem LT_LAT_MAX_apart (n : Nat) : (LT_LAT_MAX_LatLast n).apart (LT_LAT_MAX_LatMax n) = true := by
  simp [Fld.apart, LT_LAT_MAX_LatLast, LT_LAT_MAX_LatMax]

/-- R74, R10: the read returns the whole word, clears the largest latency and does nothing else. -/
theorem latMaxRead_answers (s : State) (n : Fin 24) : Answers (exec (.latMaxRead n) s) fun t =>
    t.out = .readData (LT_LAT_MAX n) (s.word (LT_LAT_MAX n)) :: s.out ∧ t.rd (LT_LAT_MAX_LatMax n) = 0 ∧
      t.rd (LT_LAT_MAX_LatLast n) = s.rd (LT_LAT_MAX_LatLast n) ∧ Frame s t [LT_LAT_MAX_LatMax n] [.out] := by
  obtain ⟨hmax, hlast⟩ := LT_LAT_MAX_plain n
  have hok := LT_LAT_MAX_LatMax_ok n
  have hreach := ((Reach.refl s [LT_LAT_MAX_LatMax n] [.out]).emit (.readData (LT_LAT_MAX n) (s.word (LT_LAT_MAX n)))
    (List.mem_singleton_self _)).wr 0 (List.mem_singleton_self _) hok
  rw [exec_latMaxRead, answers_done]
  refine ⟨?_, ?_, ?_, hreach.frame _⟩
  · rw [State.requeue_out, State.settle_out, State.wr_out, State.emit]
  · rw [State.requeue_settle_rd, State.settle_rd _ hmax, State.rd_wr_same _ _ _ hok, Nat.zero_mod]
  · rw [State.requeue_settle_rd, State.settle_rd _ hlast, State.rd_wr_apart _ _ hok (LT_LAT_MAX_apart n), State.emit_rd]

/-- Settles O12: a write that is no whole aligned word is discarded (R12); every read of the word clears its field. -/
theorem accessesAreWholeWords : Obligations.AccessesAreWholeWords := by
  intro s offset value be
  refine ⟨fun h => ?_, fun n => ?_⟩
  · rw [exec_registerWrite_discarded value s h, answers_done]
    exact (Reach.refl s [] []).frame _
  · obtain ⟨t, ht, hout, hmax, -, -⟩ := latMaxRead_answers s n
    exact ⟨t, ht, hout, hmax⟩

/-! ### The debug registers -/

theorem exec_glbScratchWrite (value : BitVec 32) (s : State) : exec (.glbScratchWrite value) s = done s (s.setWord GLB_SCRATCH value) := rfl
theorem exec_dbgLockWrite (lock : Bool) (s : State) : exec (.dbgLockWrite lock) s = done s (s.lockWrite lock) := rfl
theorem exec_dbgCtlWrite (b : Bool) (s : State) : exec (.dbgCtlWrite b) s = done s (s.latTest b) := rfl

theorem GLB_SCRATCH_plain : GLB_SCRATCH_Scratch.plain = true := by decide +kernel
theorem DBG_LOCK_Lock_plain : DBG_LOCK_Lock.plain = true := by decide +kernel
theorem DBG_CTL_LatTest_plain : DBG_CTL_LatTest.plain = true := by decide +kernel
theorem FLT_INJ_Armed_plain : FLT_INJ_Armed.plain = true := by decide +kernel

/-- A one-bit field reads the flag written to it. -/
theorem State.on_wr_flag (s : State) {f : Fld} (b : Bool) (h : f.ok = true) (h1 : f.hi = f.lo) : (s.wr f (b2n b)).on f = b := by
  rw [State.on_wr_same s f _ h, Fld.size, h1, Nat.add_sub_cancel_left]
  cases b <;> rfl

/-- R514: the scratch register holds what is written, and nothing else changes. -/
theorem glbScratchWrite_answers (s : State) (value : BitVec 32) : Answers (exec (.glbScratchWrite value) s) fun t =>
    t.rd GLB_SCRATCH_Scratch = value.toNat ∧ Frame s t [GLB_SCRATCH_Scratch] [] := by
  rw [exec_glbScratchWrite, answers_done]
  refine ⟨?_, ((Reach.refl s _ _).setWord value (List.mem_singleton_self GLB_SCRATCH_Scratch)).frame _⟩
  rw [State.requeue_settle_rd, State.settle_rd _ GLB_SCRATCH_plain, GLB_SCRATCH_Scratch, State.rd_word, State.word_setWord_same]

/-- R516: a lock that has been written, or is permanent, takes no write. -/
theorem State.lockWrite_of_fixed {s : State} (lock : Bool) (h : s.pwr.lockSet = true ∨ s.on DBG_LOCK_PermLock = true) :
    s.lockWrite lock = s := by
  rw [State.lockWrite, if_pos (by simpa using h)]

/-- The first write of the lock: the bit, and the mark that it has been written. -/
def State.lockFix (s : State) (lock : Bool) : State := (s.wr DBG_LOCK_Lock (b2n lock)).modPwr (fun p => { p with lockSet := true })

/-- An injection that waits is disarmed. -/
def State.disarm (s : State) : State := (s.wr FLT_INJ_Armed 0).modFlt (fun f => { f with armed := none })

theorem State.lockWrite_of_free {s : State} (lock : Bool) (h1 : s.pwr.lockSet = false) (h2 : s.on DBG_LOCK_PermLock = false) :
    s.lockWrite lock = (s.lockFix lock).when lock State.disarm := by
  rw [State.lockWrite, if_neg (by simp [h1, h2])]; rfl

theorem State.lockFix_on (s : State) (lock : Bool) : (s.lockFix lock).on DBG_LOCK_Lock = lock := by
  rw [State.lockFix, State.modPwr_on, State.on_wr_flag s lock (by decide) rfl]

theorem State.disarm_on_lock (s : State) : s.disarm.on DBG_LOCK_Lock = s.on DBG_LOCK_Lock := by
  rw [State.disarm, State.modFlt_on, State.on_wr_apart s _ (by decide) (by decide)]

theorem State.disarm_on_armed (s : State) : s.disarm.on FLT_INJ_Armed = false := by
  rw [State.disarm, State.modFlt_on, State.on_wr_same s _ _ (by decide), Nat.zero_mod]; rfl

theorem Reach.disarm {s x : State} {fs : List Fld} {ps : List Part} (h : Reach s x fs ps) (hf : FLT_INJ_Armed ∈ fs)
    (hp : Part.flt ∈ ps) : Reach s x.disarm fs ps :=
  (h.wr (g := FLT_INJ_Armed) 0 hf (by decide)).modFlt _ hp

/-- The first write of the lock reaches the lock bit, the injection and their parts of the state alone. -/
theorem State.lockFix_reach (s : State) (lock : Bool) :
    Reach s ((s.lockFix lock).when lock State.disarm) [DBG_LOCK_Lock, FLT_INJ_Armed] [.pwr, .flt] := by
  have hfix : Reach s (s.lockFix lock) [DBG_LOCK_Lock, FLT_INJ_Armed] [.pwr, .flt] :=
    ((Reach.refl s _ _).wr _ (by simp) (by decide)).modPwr _ (by simp)
  cases lock
  · exact hfix
  · exact hfix.disarm (by simp) (by simp)

/-- R428, R516: the first write of the lock fixes it; one that sets it disarms an injection. -/
theorem dbgLockWrite_first {s : State} (lock : Bool) (h1 : s.pwr.lockSet = false) (h2 : s.on DBG_LOCK_PermLock = false) :
    Answers (exec (.dbgLockWrite lock) s) fun t => t.on DBG_LOCK_Lock = lock ∧ t.pwr.lockSet = true ∧
      (lock = true → t.flt.armed = none ∧ t.on FLT_INJ_Armed = false) ∧ Frame s t [DBG_LOCK_Lock, FLT_INJ_Armed] [.pwr, .flt] := by
  rw [exec_dbgLockWrite, State.lockWrite_of_free lock h1 h2, answers_done, State.answer_on _ _ DBG_LOCK_Lock_plain,
    State.answer_on _ _ FLT_INJ_Armed_plain, State.requeue_pwr, State.settle_pwr, State.requeue_flt, State.settle_flt]
  refine ⟨?_, ?_, ?_, (State.lockFix_reach s lock).frame _⟩
  · cases lock
    · exact s.lockFix_on false
    · rw [State.when_true, State.disarm_on_lock, State.lockFix_on]
  · cases lock <;> rfl
  · rintro rfl
    exact ⟨rfl, State.disarm_on_armed _⟩

/-- R74, R516: the latency test bit takes the value while the lock is clear. -/
theorem dbgCtlWrite_unlocked {s : State} (b : Bool) (h : s.on DBG_LOCK_Lock = false) :
    Answers (exec (.dbgCtlWrite b) s) fun t => t.on DBG_CTL_LatTest = b ∧ Frame s t [DBG_CTL_LatTest] [] := by
  have hw : s.latTest b = s.wr DBG_CTL_LatTest (b2n b) := by simp [State.latTest, h]
  rw [exec_dbgCtlWrite, hw, answers_done, State.answer_on _ _ DBG_CTL_LatTest_plain, State.on_wr_flag s b (by decide) rfl]
  exact ⟨rfl, ((Reach.refl s _ _).wr _ (List.mem_singleton_self _) (by decide)).frame _⟩

/-- R516: while the lock is set the write raises source 247 and has no other effect. -/
theorem dbgCtlWrite_locked {s : State} (b : Bool) (h : s.on DBG_LOCK_Lock = true) :
    Answers (exec (.dbgCtlWrite b) s) fun t => t.on DBG_CTL_LatTest = s.on DBG_CTL_LatTest ∧ FrameFault s t [] [] := by
  have hw : s.latTest b = s.raise 247 0 := by simp [State.latTest, h]
  have hr : FaultSide s (s.raise 247 0) := FaultSide.raise s 247 0 (by decide)
  have hoff : offFault DBG_CTL_LatTest.off := by simp [offFault, DBG_CTL_LatTest, DBG_CTL, ONX_LOST_CNT]
  rw [exec_dbgCtlWrite, hw, answers_done, State.answer_on _ _ DBG_CTL_LatTest_plain]
  exact ⟨hr.on hoff, hr.frame ((Reach.refl s [] []).frame _)⟩

/-- Settles O13: scratch register, debug lock, latency test and latency read, each by its own rule. -/
theorem debugRegisters : Obligations.DebugRegisters := by
  intro s
  refine ⟨glbScratchWrite_answers s, fun lock h1 h2 => dbgLockWrite_first lock h1 h2, fun lock h => ?_,
    fun b h => dbgCtlWrite_unlocked b h, fun b h => dbgCtlWrite_locked b h, latMaxRead_answers s⟩
  rw [exec_dbgLockWrite, State.lockWrite_of_fixed lock h, answers_done]
  exact (Reach.refl s [] []).frame _

end Sys2Proof.Machine
end

section
/-!
SUPPORT. Every command answers with a settled state, and no status value reads a status field: what showing the status fields leaves as
it was.
-/
namespace Sys2Proof.Machine

/-! ### Every command ends by settling -/

/-- The answer is the settled form of some state, with the queue of the state `s`. -/
def SettledAnswer (s : State) (r : Res) : Prop := ∃ x, r = done s x

namespace SettledAnswer

theorem done (s x : State) : SettledAnswer s (done s x) := ⟨x, rfl⟩

theorem ite {s : State} {c : Prop} [Decidable c] {a b : Res} (ha : SettledAnswer s a) (hb : SettledAnswer s b) :
    SettledAnswer s (if c then a else b) := by
  split_ifs
  · exact ha
  · exact hb

end SettledAnswer

theorem execProvision_settled (coSign : Bool) (key : Option (List Byte)) (s : State) :
    SettledAnswer s (execProvision coSign key s) := .ite (.done _ _) (.ite (.done _ _) (.done _ _))

theorem execLockOp_settled (token : Option (List Byte)) (s : State) : SettledAnswer s (execLockOp token s) :=
  .ite (.done _ _) (.done _ _)

theorem execUpdAbandon_settled (s : State) : SettledAnswer s (execUpdAbandon s) := .ite (.done _ _) (.done _ _)

/-- Three commands choose between answers; every other one is `done` of its effect as it stands. -/
theorem exec_settled (i : Instr) (s : State) : SettledAnswer s (exec i s) := by
  cases i with
  | provision coSign key => exact execProvision_settled coSign key s
  | lockOp token => exact execLockOp_settled token s
  | updAbandon => exact execUpdAbandon_settled s
  | _ => exact .done s _

/-! ### What showing the status fields leaves -/

@[simp] theorem State.show_hif (s : State) : s.show.hif = s.hif := by rw [State.show]
@[simp] theorem State.show_onx (s : State) : s.show.onx = s.onx := by rw [State.show]
@[simp] theorem State.show_flt (s : State) : s.show.flt = s.flt := by rw [State.show]
@[simp] theorem State.show_frm (s : State) : s.show.frm = s.frm := by rw [State.show]
@[simp] theorem State.show_sense (s : State) : s.show.sense = s.sense := by rw [State.show]
@[simp] theorem State.show_lt (s : State) : s.show.lt = s.lt := by rw [State.show]
@[simp] theorem State.show_sl (s : State) : s.show.sl = s.sl := by rw [State.show]
@[simp] theorem State.show_tl (s : State) : s.show.tl = s.tl := by rw [State.show]
@[simp] theorem State.show_red (s : State) : s.show.red = s.red := by rw [State.show]
@[simp] theorem State.show_rbt (s : State) : s.show.rbt = s.rbt := by rw [State.show]
@[simp] theorem State.show_pwr (s : State) : s.show.pwr = s.pwr := by rw [State.show]
@[simp] theorem State.show_ltc (s : State) (n : Nat) : s.show.ltc n = s.ltc n := by rw [State.ltc, State.show_lt, State.ltc]
@[simp] theorem State.show_slc (s : State) (m : Nat) : s.show.slc m = s.slc m := by rw [State.slc, State.show_sl, State.slc]
@[simp] theorem State.show_pairComps (s : State) (n : Nat) : s.show.pairComps n = s.pairComps n := by
  rw [State.pairComps, State.show_hif, State.pairComps]

theorem State.show_on (s : State) {f : Fld} (h : f.plain = true) : s.show.on f = s.on f := by
  rw [State.on, s.show_rd h, State.on]

theorem State.show_rdS (s : State) {f : Fld} (h : f.plain = true) : s.show.rdS f = s.rdS f := by
  rw [State.rdS, s.show_rd h, State.rdS]

/-! ### The instances of a field that status values read -/

theorem TMR_STAT_Match_plain : ∀ i < 16, (TMR_STAT_Match i).plain = true := by decide +kernel
theorem HIF_CQ_plain : ∀ n < 4, (HIF_CQ_CFG_SizeLog2 n).plain = true ∧ (HIF_CQ_HEAD_Seq n).plain = true ∧
    (HIF_CQ_POSTED_SEQ_Seq n).plain = true := by decide +kernel
theorem PNT_DRV_CFG_En_plain : ∀ i < 128, (PNT_DRV_CFG_En i).plain = true := by decide +kernel
theorem EF_STAT_State_plain : ∀ e < 16, (EF_STAT_State e).plain = true := by decide +kernel
theorem SEQ_RAIL_STAT_Demand_plain : ∀ r < 32, (SEQ_RAIL_STAT_Demand r).plain = true := by decide +kernel
theorem SEQ_RAIL_STAT_State_plain : ∀ r < 32, (SEQ_RAIL_STAT_State r).plain = true := by decide +kernel
theorem LT_REF_plain : ∀ n < 24, (LT_REF_CUR_R n).plain = true ∧ (LT_REF_TGT_R n).plain = true := by decide +kernel
theorem LT_REF_limits_plain : ∀ n < 24, (LT_REF_MIN_V n).plain = true ∧ (LT_REF_MAX_V n).plain = true := by decide +kernel
theorem LT_REF_code_plain : ∀ n < 24, (LT_REF_SCALE_Scale n).plain = true ∧ (LT_REF_OFS_Ofs n).plain = true := by decide +kernel
theorem SL_MEM_STAT_Present_plain : ∀ m < 16, ∀ k < 8, (SL_MEM_STAT_Present m k).plain = true := by decide +kernel
theorem CAN_plain : ∀ c < 4, (CAN_CTL_En c).plain = true ∧ (CAN_CFG_ShelfBus c).plain = true := by decide +kernel

end Sys2Proof.Machine
end

section
/-!
SUPPORT. Showing the status fields changes no status value, so a settled state shows its status. Of a field without an index, `plain` is
a closed fact, which the simplifier decides where it needs it.
-/
namespace Sys2Proof.Machine

/-! ### What the status values are computed from -/

theorem State.show_dmaOk (s : State) : s.show.dmaOk = s.dmaOk := by
  simp (disch := decide +kernel) only [State.dmaOk, State.show_on]

theorem State.show_noCredit (s : State) {n : Nat} (h : n < 4) : s.show.noCredit n = s.noCredit n := by
  obtain ⟨hsize, hhead, hposted⟩ := HIF_CQ_plain n h
  have hring : s.show.ringSize (cqRegs n) = s.ringSize (cqRegs n) := by
    rw [State.ringSize, cqRegs, s.show_rd hsize, State.ringSize]
  have hused : s.show.ringUsed (cqRegs n) = s.ringUsed (cqRegs n) := by
    rw [State.ringUsed, cqRegs, s.show_rd hhead, s.show_rd hposted, State.ringUsed]
  rw [State.noCredit, hring, hused, State.show_pairComps, State.show_hif, State.noCredit]

theorem State.show_afterGasp (s : State) : s.show.afterGasp = s.afterGasp := by
  simp (disch := decide +kernel) only [State.afterGasp, State.show_rd]

theorem State.show_oldestSeq (s : State) : s.show.oldestSeq = s.oldestSeq := by
  simp (disch := decide +kernel) only [State.oldestSeq, State.show_rd, State.show_onx]

theorem State.show_mcAvail (s : State) : s.show.mcAvail = s.mcAvail := by
  simp (disch := decide +kernel) only [State.mcAvail, State.unacked, State.show_rd, State.show_on, State.show_sense]

theorem State.show_ltRef (s : State) {n : Nat} (h : n < 24) : s.show.ltRef n = s.ltRef n := s.show_rdS (LT_REF_plain n h).1

theorem State.show_ltCode (s : State) {n : Nat} (h : n < 24) (v : Int) : s.show.ltCode n v = s.ltCode n v := by
  obtain ⟨hscale, hofs⟩ := LT_REF_code_plain n h
  simp only [State.ltCode, s.show_rd hscale, s.show_rdS hofs]

theorem State.show_ltTarget (s : State) {n : Nat} (h : n < 24) : s.show.ltTarget n = s.ltTarget n := by
  obtain ⟨hmin, hmax⟩ := LT_REF_limits_plain n h
  simp only [State.ltTarget, State.show_ltc, s.show_ltCode h, s.show_rdS hmin, s.show_rdS hmax, s.show_rdS (LT_REF_plain n h).2]

theorem State.show_slMode (s : State) (m : Nat) : s.show.slMode m = s.slMode m := by
  simp (disch := decide +kernel) only [State.slMode, State.show_on, State.show_slc]

theorem State.show_canRestricted (s : State) {c : Nat} (h : c < 4) : s.show.canRestricted c = s.canRestricted c := by
  simp (disch := decide +kernel) only [State.canRestricted, State.canMaster, s.show_on (CAN_plain c h).2,
    State.show_on (f := GLB_STAT_ShelfMaster)]

theorem State.show_me (s : State) : s.show.me = s.me := s.show_rd (by decide +kernel)

theorem State.show_frame (s : State) : s.show.frame = s.frame := by
  simp (disch := decide +kernel) only [State.frame, State.show_rd]

theorem State.show_isLive (s : State) : s.show.isLive = s.isLive := by
  funext q
  rw [State.isLive, State.show_me, State.show_frame, State.show_tl, State.isLive]

theorem State.show_nbrOf (s : State) : s.show.nbrOf = s.nbrOf := by
  funext p
  simp (disch := decide +kernel) only [State.nbrOf, State.show_rd]

theorem State.show_inSync (s : State) : s.show.inSync = s.inSync := by
  simp (disch := decide +kernel) only [State.inSync, State.redState, State.show_rd, State.show_red]

/-! ### The pin entries -/

theorem filterMap_assocPut {β γ : Type} (f : Nat × β → Option γ) (l : List (Nat × β)) {k : Nat} (b : β)
    (h : ∀ c, f (k, c) = none) : (assocPut l k b).filterMap f = l.filterMap f := by
  induction l with
  | nil => simp [assocPut, h]
  | cons e t ih =>
    obtain ⟨i, c⟩ := e
    simp only [assocPut]
    split_ifs with hlt heq
    · simp [h]
    · subst heq; simp [h]
    · simp only [List.filterMap_cons, ih]

theorem filterMap_assocDel {β γ : Type} (f : Nat × β → Option γ) (l : List (Nat × β)) {k : Nat} (h : ∀ c, f (k, c) = none) :
    (assocDel l k).filterMap f = l.filterMap f := by
  induction l with
  | nil => rfl
  | cons e t ih =>
    obtain ⟨i, c⟩ := e
    rw [assocDel] at ih ⊢
    by_cases hi : i = k
    · subst hi; simp [h, ih]
    · simp [hi, List.filterMap_cons, ih]

/-- A write below the pin entries leaves them. -/
theorem pinsOf_putFld (l : RegFile) {f : Fld} (v : Nat) (h : f.off < 0x100000) : pinsOf (l.putFld f v) = pinsOf l := by
  rw [RegFile.putFld, RegFile.put]
  split_ifs
  · exact filterMap_assocDel _ _ (fun _ => if_neg (by simp [Nat.not_le.2 h]))
  · exact filterMap_assocPut _ _ _ (fun _ => if_neg (by simp [Nat.not_le.2 h]))

theorem pinsOf_fold_putFld (es : List (Fld × Nat)) (l : RegFile) (h : ∀ e ∈ es, e.1.off < 0x100000) :
    pinsOf (es.foldl (fun l e => l.putFld e.1 e.2) l) = pinsOf l := by
  induction es generalizing l with
  | nil => rfl
  | cons e t ih =>
    rw [List.foldl_cons, ih _ (fun x hx => h x (List.mem_cons_of_mem _ hx)), pinsOf_putFld _ _ (h e (by simp))]

theorem statusFlds_below_pins : ∀ f ∈ statusFlds, f.off < 0x100000 := by decide +kernel

theorem State.show_regs (s : State) : s.show.regs = s.status.foldl (fun l e => l.putFld e.1 e.2) s.regs := by rw [State.show]

theorem State.show_pins (s : State) : pinsOf s.show.regs = pinsOf s.regs := by
  have hbelow : ∀ e ∈ s.status, e.1.off < 0x100000 := fun e he =>
    statusFlds_below_pins e.1 (by rw [← status_flds s]; exact List.mem_map_of_mem he)
  rw [State.show_regs, pinsOf_fold_putFld _ _ hbelow]

/-! ### Masks and lists over instances -/

/-- A mask over instances of a field that is no status field. -/
theorem State.show_mask (s : State) {n : Nat} {F : Nat → Fld} (h : ∀ i < n, (F i).plain = true) (p : Nat → Bool) :
    maskOf n (fun i => p (s.show.rd (F i))) = maskOf n (fun i => p (s.rd (F i))) :=
  List.foldl_ext _ _ _ fun _ i hi => by simp only [s.show_rd (h i (List.mem_range.1 hi))]

theorem State.show_mask_on (s : State) {n : Nat} {F : Nat → Fld} (h : ∀ i < n, (F i).plain = true) :
    maskOf n (fun i => s.show.on (F i)) = maskOf n (fun i => s.on (F i)) := s.show_mask h (· != 0)

/-- Lists built over the same indexes by functions that agree there. -/
theorem foldr_range_congr {β : Type} {n : Nat} {f g : Nat → β → β} (b : β) (h : ∀ i < n, ∀ l, f i l = g i l) :
    (List.range n).foldr f b = (List.range n).foldr g b :=
  List.foldr_ext _ _ _ fun i hi => h i (List.mem_range.1 hi)

/-- A demanded rail that is not up (R270). -/
theorem State.show_railDown (s : State) :
    (List.range 32).any (fun r => s.show.on (SEQ_RAIL_STAT_Demand r) && s.show.rd (SEQ_RAIL_STAT_State r) != 4) =
      (List.range 32).any (fun r => s.on (SEQ_RAIL_STAT_Demand r) && s.rd (SEQ_RAIL_STAT_State r) != 4) := by
  rw [Bool.eq_iff_iff, List.any_eq_true, List.any_eq_true]
  refine exists_congr fun r => and_congr_right fun hr => ?_
  rw [List.mem_range] at hr
  rw [s.show_on (SEQ_RAIL_STAT_Demand_plain r hr), s.show_rd (SEQ_RAIL_STAT_State_plain r hr)]

/-! ### Showing changes no status value -/

theorem State.show_statusHost (s : State) : s.show.statusHost = s.statusHost := by
  have hcredit : ∀ n < 4, s.show.noCredit n = s.noCredit n := fun n hn => s.show_noCredit hn
  simp (disch := decide +kernel) only [State.statusHost, List.any_cons, List.any_nil, List.foldr_cons, List.foldr_nil,
    State.show_on, State.show_rd, State.show_dmaOk, s.show_mask_on TMR_STAT_Match_plain, hcredit, State.show_pairComps]

theorem State.show_statusFault (s : State) : s.show.statusFault = s.statusFault := by
  have hdrv : (List.range 128).countP (fun i => s.show.on (PNT_DRV_CFG_En i)) =
      (List.range 128).countP (fun i => s.on (PNT_DRV_CFG_En i)) :=
    List.countP_congr fun i hi => by rw [s.show_on (PNT_DRV_CFG_En_plain i (List.mem_range.1 hi))]
  simp (disch := decide +kernel) only [State.statusFault, State.show_flt, State.show_pwr, State.show_onx, State.show_rbt,
    State.show_rd, State.show_on, State.show_afterGasp, State.show_oldestSeq, State.show_mcAvail, State.show_pins, hdrv]

theorem State.show_statusPower (s : State) : s.show.statusPower = s.statusPower := by
  refine congrArg₂ _ (congrArg₂ _ (congrArg₂ _ ?_ (foldr_range_congr _ fun n hn l => ?_)) (foldr_range_congr _ fun m hm l => ?_))
    (foldr_range_congr _ fun c hc l => ?_)
  · rw [s.show_mask EF_STAT_State_plain (· == 5), s.show_mask EF_STAT_State_plain (fun v => v == 6 || v == 7),
      s.show_mask_on SEQ_RAIL_STAT_Demand_plain, s.show_mask SEQ_RAIL_STAT_State_plain (· == 4),
      s.show_mask SEQ_RAIL_STAT_State_plain (· == 7), s.show_rd (f := SEQ_STAT_State) (by decide +kernel), s.show_railDown]
  · rw [s.show_ltRef hn, s.show_ltTarget hn]
  · rw [s.show_slMode, s.show_mask_on (SL_MEM_STAT_Present_plain m hm)]
  · rw [s.show_on (CAN_plain c hc).1, s.show_canRestricted hc]

theorem State.show_statusSet (s : State) : s.show.statusSet = s.statusSet := by
  simp (disch := decide +kernel) only [State.statusSet, State.show_rd, State.show_on, State.show_inSync, State.show_isLive,
    State.show_me, State.show_frm, State.show_nbrOf, State.portBad, List.any_cons, List.any_nil]

theorem State.show_status (s : State) : s.show.status = s.status := by
  rw [State.status, State.show_statusHost, State.show_statusFault, State.show_statusPower, State.show_statusSet, State.status]

/-! ### A settled state shows its status -/

theorem State.show_shown (s : State) : s.show.shown := by
  intro e he
  rw [State.show_status] at he
  exact s.show_rd_status he

theorem State.shown_requeue (s : State) (q : List Instr) : (s.requeue q).shown ↔ s.shown := Iff.rfl

/-- Whatever a command did before it settles, its answer shows the status. -/
theorem done_shown {s x t : State} (h : done s x = .next t) : t.shown := by
  cases h
  exact (State.shown_requeue _ _).2 x.alertPin.tidy.show_shown

theorem exec_shown {i : Instr} {s t : State} (h : exec i s = .next t) : t.shown := by
  obtain ⟨x, hx⟩ := exec_settled i s
  exact done_shown (hx ▸ h)

/-- Settles O6: an empty queue keeps the state, and a command's answer is settled. -/
theorem stepKeepsTheStatusShown : Obligations.StepKeepsTheStatusShown := by
  intro s t hs hstep
  rw [step] at hstep
  split at hstep
  · cases hstep
    exact hs
  · exact exec_shown hstep

end Sys2Proof.Machine
end

section
/-!
SUPPORT. What an effect reaches, composed step by step: the frames of Safety.lean before the state settles, with and without a fault raise,
and what a settled answer reads.
-/
namespace Sys2Proof.Machine

-- A fact decided in the kernel waits for the kernel: theorems elaborated one after the other do not wait side by side.
set_option Elab.async false

/-! ### Reading an answer -/

/-- A field that is no status field reads after a command what its effect left in it. -/
theorem State.answer_rd (x : State) (q : List Instr) {f : Fld} (h : f.plain = true) : (x.settle.requeue q).rd f = x.rd f :=
  State.settle_rd x h

theorem State.answer_frame (x : State) (q : List Instr) : (x.settle.requeue q).frame = x.frame := by
  simp (disch := decide +kernel) only [State.frame, State.answer_rd]

theorem State.rd_setWord_same (s : State) {f : Fld} {o : Nat} (v : Word) (h : f.off = o) : (s.setWord o v).rd f = f.of v := by
  rw [State.rd, h, State.word_setWord_same]

theorem State.on_setWord_off (s : State) {f : Fld} {o : Nat} (v : Word) (h : f.off ≠ o) : (s.setWord o v).on f = s.on f := by
  rw [State.on, State.rd_setWord_off s v h, State.on]

theorem State.cause_rd (s : State) (c : Nat) (f : Fld) : (s.cause c).rd f = s.rd f := by
  rw [State.rd_regs, State.cause_regs, State.rd_regs]

theorem State.cause_on (s : State) (c : Nat) (f : Fld) : (s.cause c).on f = s.on f := by
  rw [State.on, State.cause_rd, State.on]

/-! ### Chains of effects -/

theorem Part.kept_trans {p : Part} {s x y : State} (h : p.kept s x) (k : p.kept x y) : p.kept s y := by
  cases p
  case irq => exact ⟨k.1.trans h.1, k.2.trans h.2⟩
  case requests =>
    obtain ⟨h1, h2, h3⟩ := h
    obtain ⟨k1, k2, k3⟩ := k
    exact ⟨k1.trans h1, k2.trans h2, k3.trans h3⟩
  case bus =>
    obtain ⟨h1, h2, h3, h4, h5⟩ := h
    obtain ⟨k1, k2, k3, k4, k5⟩ := k
    exact ⟨k1.trans h1, k2.trans h2, k3.trans h3, k4.trans h4, k5.trans h5⟩
  case rings =>
    have h' : x.hif = { s.hif with vecs := x.hif.vecs, pba := x.hif.pba } := h
    have k' : y.hif = { x.hif with vecs := y.hif.vecs, pba := y.hif.pba } := k
    show y.hif = { s.hif with vecs := y.hif.vecs, pba := y.hif.pba }
    rw [k', h']
  case records =>
    have h' : x.onx = { s.onx with fifo := x.onx.fifo, lostPend := x.onx.lostPend, lossSeen := x.onx.lossSeen } := h
    have k' : y.onx = { x.onx with fifo := y.onx.fifo, lostPend := y.onx.lostPend, lossSeen := y.onx.lossSeen } := k
    show y.onx = { s.onx with fifo := y.onx.fifo, lostPend := y.onx.lostPend, lossSeen := y.onx.lossSeen }
    rw [k', h']
  all_goals exact Eq.trans k h

namespace Reach
variable {s x y : State} {fs : List Fld} {ps : List Part}

theorem trans (h : Reach s x fs ps) (k : Reach x y fs ps) : Reach s y fs ps :=
  ⟨fun f hf ha => (k.regs f hf ha).trans (h.regs f hf ha), fun p hp => Part.kept_trans (h.parts p hp) (k.parts p hp)⟩

/-- An effect reaches at most what a longer list names. -/
theorem mono {fs' : List Fld} {ps' : List Part} (h : Reach s x fs ps) (hf : ∀ f ∈ fs, f ∈ fs') (hp : ∀ p ∈ ps, p ∈ ps') :
    Reach s x fs' ps' :=
  ⟨fun f pl ha => h.regs f pl (List.all_eq_true.2 fun g hg => List.all_eq_true.1 ha g (hf g hg)),
   fun p hn => h.parts p (fun hm => hn (hp p hm))⟩

/-- Choices between effects that both stay within the lists. -/
theorem ite {c : Prop} [Decidable c] (h : Reach s x fs ps) (k : Reach s y fs ps) : Reach s (if c then x else y) fs ps := by
  split_ifs
  · exact h
  · exact k

theorem when (b : Bool) {g : State → State} (h : Reach s x fs ps) (k : Reach s (g x) fs ps) : Reach s (x.when b g) fs ps := by
  cases b
  · exact h
  · exact k

/-! Effects on one part of the state. -/

theorem setSnap (h : Reach s x fs ps) (v : Option RegFile) (hm : Part.snap ∈ ps) : Reach s { x with snap := v } fs ps := by
  refine ⟨h.regs, fun p hp => ?_⟩
  cases p
  case snap => exact absurd hm hp
  all_goals exact h.parts _ hp

theorem modFrm (h : Reach s x fs ps) (g : FrmState → FrmState) (hm : Part.frm ∈ ps) : Reach s (x.modFrm g) fs ps := by
  refine ⟨h.regs, fun p hp => ?_⟩
  cases p
  case frm => exact absurd hm hp
  all_goals exact h.parts _ hp

theorem modTl (h : Reach s x fs ps) (g : TlState → TlState) (hm : Part.tl ∈ ps) : Reach s (x.modTl g) fs ps := by
  refine ⟨h.regs, fun p hp => ?_⟩
  cases p
  case tl => exact absurd hm hp
  all_goals exact h.parts _ hp

theorem modEf (h : Reach s x fs ps) (e : Nat) (g : EfCh → EfCh) (hm : Part.ef ∈ ps) : Reach s (x.modEf e g) fs ps := by
  refine ⟨h.regs, fun p hp => ?_⟩
  cases p
  case ef => exact absurd hm hp
  all_goals exact h.parts _ hp

theorem modLt (h : Reach s x fs ps) (n : Nat) (g : LtCh → LtCh) (hm : Part.lt ∈ ps) : Reach s (x.modLt n g) fs ps := by
  refine ⟨h.regs, fun p hp => ?_⟩
  cases p
  case lt => exact absurd hm hp
  all_goals exact h.parts _ hp

/-- An effect on the buses. -/
theorem setBus (h : Reach s x fs ps) (v : BusSt) (hm : Part.bus ∈ ps) : Reach s { x with bus := v } fs ps := by
  refine ⟨h.regs, fun p hp => ?_⟩
  cases p
  case bus => exact absurd hm hp
  all_goals exact h.parts _ hp

/-- An effect on the host interface that leaves the interrupts that wait. -/
theorem setRings (h : Reach s x fs ps) {v : HifState} (hv : v.vecs = x.hif.vecs) (hp : v.pba = x.hif.pba) (hm : Part.rings ∈ ps) :
    Reach s { x with hif := v } fs ps := by
  refine ⟨h.regs, fun p hq => ?_⟩
  cases p
  case rings => exact absurd hm hq
  case irq =>
    obtain ⟨h1, h2⟩ : x.hif.vecs = s.hif.vecs ∧ x.hif.pba = s.hif.pba := h.parts _ hq
    exact ⟨hv.trans h1, hp.trans h2⟩
  all_goals exact h.parts _ hq

/-- An effect on the interrupts that wait, and on what is sent. -/
theorem setIrq (h : Reach s x fs ps) (vecs : List VecPend) (pba : Nat) (out : List Output) (hm : Part.irq ∈ ps) (ho : Part.out ∈ ps) :
    Reach s { x with hif := { x.hif with vecs := vecs, pba := pba }, out := out } fs ps := by
  refine ⟨h.regs, fun p hq => ?_⟩
  cases p
  case irq => exact absurd hm hq
  case out => exact absurd ho hq
  case rings =>
    have hr : x.hif = { s.hif with vecs := x.hif.vecs, pba := x.hif.pba } := h.parts _ hq
    show { x.hif with vecs := vecs, pba := pba } = { s.hif with vecs := vecs, pba := pba }
    rw [hr]
  all_goals exact h.parts _ hq

end Reach

/-! ### Effects with a fault raise -/

/-- The effect that takes `s` to `x` reaches only the listed fields and parts, and what a fault raise or a record request may reach:
`FrameFault` before the state settles. -/
structure FaultReach (s x : State) (fs : List Fld) (ps : List Part) : Prop where
  regs : ∀ f : Fld, f.plain = true → fs.all f.apart = true → offFault f.off → x.rd f = s.rd f
  parts : ∀ p : Part, p ∉ ps → p ∉ [Part.irq, .requests, .flt, .out] → p.kept s x

namespace FaultReach
variable {s x y : State} {fs : List Fld} {ps : List Part}

theorem trans (h : FaultReach s x fs ps) (k : FaultReach x y fs ps) : FaultReach s y fs ps :=
  ⟨fun f hf ha ho => (k.regs f hf ha ho).trans (h.regs f hf ha ho),
   fun p hp hq => Part.kept_trans (h.parts p hp hq) (k.parts p hp hq)⟩

theorem frame (h : FaultReach s x fs ps) (q : List Instr) : FrameFault s (x.settle.requeue q) fs ps :=
  ⟨fun f hf ha h1 h2 => (State.settle_rd x hf).trans (h.regs f hf ha ⟨h1, h2⟩), fun p hp hq => Part.same_of_kept q (h.parts p hp hq)⟩

/-- Effects before a raise and after it. -/
theorem andThen (h : FaultReach s x fs ps) (k : Reach x y fs ps) : FaultReach s y fs ps :=
  h.trans ⟨fun f hf ha _ => k.regs f hf ha, fun p hp _ => k.parts p hp⟩

end FaultReach

theorem Reach.fault {s x : State} {fs : List Fld} {ps : List Part} (h : Reach s x fs ps) : FaultReach s x fs ps :=
  ⟨fun f hf ha _ => h.regs f hf ha, fun p hp _ => h.parts p hp⟩

theorem FaultSide.reach {s x : State} (h : FaultSide s x) (fs : List Fld) (ps : List Part) : FaultReach s x fs ps := by
  refine ⟨fun f _ _ ho => h.rd ho, fun p _ hq => ?_⟩
  rw [h.eq]
  cases p
  case irq | requests | flt | out => exact absurd (by decide) hq
  case bus => exact ⟨rfl, rfl, rfl, rfl, rfl⟩
  all_goals exact Eq.refl _

theorem FaultReach.raise {s x : State} {fs : List Fld} {ps : List Part} (h : FaultReach s x fs ps) {src : Nat} (syn : Nat)
    (hs : src < 256) : FaultReach s (x.raise src syn) fs ps :=
  h.trans ((FaultSide.raise x src syn hs).reach fs ps)

end Sys2Proof.Machine
end

section
/-!
SUPPORT. Compile, its end, apply and abandon (R47, R48, R509).
-/
namespace Sys2Proof.Machine

-- A fact decided in the kernel waits for the kernel: theorems elaborated one after the other do not wait side by side.
set_option Elab.async false

theorem exec_compile (s : State) : exec .compile s = done s s.compileReq := rfl
theorem exec_compileFinish (placement : List Nat) (vioLow : BitVec 4) (s : State) :
    exec (.compileFinish placement vioLow) s = done s (s.compileFinish placement vioLow.toNat) := rfl
theorem exec_apply (s : State) : exec .apply s = done s s.applyReq := rfl
theorem exec_abandon (s : State) : exec .abandon s = done s s.abandon := rfl

/-- The snapshot a compile works on is replaced. -/
def State.withSnap (s : State) (v : Option RegFile) : State := { s with snap := v }

@[simp] theorem State.withSnap_rd (s : State) (v : Option RegFile) (f : Fld) : (s.withSnap v).rd f = s.rd f := rfl
@[simp] theorem State.withSnap_on (s : State) (v : Option RegFile) (f : Fld) : (s.withSnap v).on f = s.on f := rfl

theorem State.dropSnap_eq (s : State) : s.dropSnap = (s.wrB GLB_SHADOW_Snap false).withSnap none := rfl

/-! ### A compile request -/

theorem State.compileReq_of_free {s : State} (h1 : s.on FRM_STAT_Compiling = false) (h2 : s.on FRM_STAT_Pending = false) :
    s.compileReq = s.startCompile false := by simp [State.compileReq, h1, h2]

theorem State.compileReq_of_busy {s : State} (h : s.on FRM_STAT_Compiling = true ∨ s.on FRM_STAT_Pending = true) :
    s.compileReq = s := by
  rw [State.compileReq, if_pos (by simpa using h)]

theorem State.startCompile_eq (s : State) (own : Bool) : s.startCompile own =
    (((((s.modFrm (fun f => { f with compiled := none, prev := s.word FRM_COMPILE_STAT, own := own })).withSnap (some s.shadow)).wrB
      GLB_SHADOW_Snap true).wrB GLB_SHADOW_Dirty false).wrB FRM_STAT_Compiling true).setWord FRM_COMPILE_STAT 0xF := rfl

theorem State.startCompile_reach (s : State) (own : Bool) : Reach s (s.startCompile own)
    [FRM_STAT_Compiling, GLB_SHADOW_Snap, GLB_SHADOW_Dirty, ⟨FRM_COMPILE_STAT, 31, 0⟩] [.snap, .frm] := by
  rw [State.startCompile_eq]
  refine Reach.setWord ?_ _ (by simp)
  refine Reach.wr ?_ _ (by simp) (by decide)
  refine Reach.wr ?_ _ (by simp) (by decide)
  refine Reach.wr ?_ _ (by simp) (by decide)
  exact ((Reach.refl s _ _).modFrm _ (by simp)).setSnap _ (by simp)

/-- R48, R509: a compile reads BUSY and shows its snapshot. -/
theorem State.startCompile_shows (s : State) (own : Bool) :
    (s.startCompile own).rd FRM_COMPILE_STAT_Result = 0xF ∧ (s.startCompile own).on FRM_STAT_Compiling = true ∧
      (s.startCompile own).on GLB_SHADOW_Snap = true ∧ (s.startCompile own).on GLB_SHADOW_Dirty = false := by
  rw [State.startCompile_eq, State.rd_setWord_same _ _ (by rfl)]
  simp (disch := decide) [State.on_setWord_off, State.on_wr_same, State.on_wr_apart]
  decide

theorem compile_answers {s : State} (h1 : s.on FRM_STAT_Compiling = false) (h2 : s.on FRM_STAT_Pending = false) :
    Answers (exec .compile s) fun t => t.snap = some s.shadow ∧ t.frm.compiled = none ∧ t.rd FRM_COMPILE_STAT_Result = 0xF ∧
      t.on FRM_STAT_Compiling ∧ t.on GLB_SHADOW_Snap ∧ t.on GLB_SHADOW_Dirty = false ∧ t.rd FRM_STAT_Running = s.rd FRM_STAT_Running ∧
      Frame s t [FRM_STAT_Compiling, GLB_SHADOW_Snap, GLB_SHADOW_Dirty, ⟨FRM_COMPILE_STAT, 31, 0⟩] [.snap, .frm] := by
  obtain ⟨hres, hcomp, hsnap, hdirty⟩ := s.startCompile_shows false
  have hframe := (s.startCompile_reach false).frame s.pending
  rw [exec_compile, State.compileReq_of_free h1 h2, answers_done]
  refine ⟨?_, ?_, ?_, ?_, ?_, ?_, hframe.1 _ (by decide +kernel) (by decide), hframe⟩
  · rw [State.requeue_snap, State.settle_snap]; rfl
  · rw [State.requeue_frm, State.settle_frm]; rfl
  · rw [State.answer_rd _ _ (by decide +kernel), hres]
  · rw [State.answer_on _ _ (by decide +kernel), hcomp]
  · rw [State.answer_on _ _ (by decide +kernel), hsnap]
  · rw [State.answer_on _ _ (by decide +kernel), hdirty]

/-! ### A compile ends -/

/-- The compile no longer runs, its result is cleared, and interrupt cause 22 has been counted (R318). -/
def State.compileOver (s : State) : State := ((s.wrB FRM_STAT_Compiling false).setWord FRM_COMPILE_STAT 0).cause 22

theorem State.compileFinish_eq {s : State} {snap : RegFile} (placement : List Nat) (vioLow : Nat) (h1 : s.on FRM_STAT_Compiling = true)
    (h2 : s.frm.coreRst = false) (h3 : s.snap = some snap) :
    s.compileFinish placement vioLow = s.compileEnd (s.tabulate (s.trial snap) placement vioLow) := by
  simp [State.compileFinish, h1, h2, h3]

theorem State.compileEnd_of_passed {s : State} {b : Table} (h : firstBad b.bads = none) (own : s.frm.own = false) :
    s.compileEnd b = s.compileOver.compilePass b := by
  simp only [State.compileEnd, h, own, State.when_false]; rfl

theorem State.compileEnd_of_failed {s : State} {b : Table} {e : Bad} (h : firstBad b.bads = some e) (own : s.frm.own = false) :
    s.compileEnd b = s.compileOver.compileFail e := by
  simp only [State.compileEnd, h, own]; rfl

theorem State.compileOver_compiling (s : State) : s.compileOver.on FRM_STAT_Compiling = false := by
  rw [State.compileOver, State.cause_on, State.on_setWord_off _ _ (by decide), State.wrB_eq, State.on_wr_flag _ _ (by decide) rfl]

theorem State.compileOver_result (s : State) : s.compileOver.rd FRM_COMPILE_STAT_Result = 0 := by
  rw [State.compileOver, State.cause_rd, State.rd_setWord_same _ _ (by rfl)]; rfl

theorem State.compileOver_snap (s : State) : s.compileOver.snap = s.snap := by
  rw [State.compileOver, State.cause_snap]; rfl

/-- R47: a compile that passes shows OK and keeps its table and its snapshot. -/
theorem compileFinish_passed {s : State} {snap : RegFile} (placement : List Nat) (vioLow : BitVec 4)
    (h1 : s.on FRM_STAT_Compiling = true) (h2 : s.frm.coreRst = false) (h3 : s.snap = some snap) (own : s.frm.own = false)
    (h : firstBad (s.tabulate (s.trial snap) placement vioLow.toNat).bads = none) :
    Answers (exec (.compileFinish placement vioLow) s) fun t => t.on FRM_STAT_Compiling = false ∧ t.rd FRM_COMPILE_STAT_Result = 0 ∧
      t.snap = some snap ∧ t.frm.compiled.isSome := by
  rw [exec_compileFinish, State.compileFinish_eq placement _ h1 h2 h3, State.compileEnd_of_passed h own, answers_done,
    State.answer_on _ _ (by decide +kernel), State.answer_rd _ _ (by decide +kernel), State.compilePass, State.modFrm_on,
    State.modFrm_rd, State.compileOver_compiling, State.compileOver_result, State.requeue_snap, State.settle_snap, State.modFrm_snap,
    State.compileOver_snap, State.requeue_frm, State.settle_frm, State.modFrm_frm]
  exact ⟨rfl, rfl, h3, rfl⟩

/-- R47: what a failed compile shows. -/
theorem State.compileFail_shows (s : State) (e : Bad) : (s.compileFail e).rd FRM_COMPILE_STAT_Result = e.code % 16 ∧
    (s.compileFail e).rd FRM_COMPILE_STAT_Item = e.item % FRM_COMPILE_STAT_Item.size ∧ (s.compileFail e).on GLB_SHADOW_Snap = false ∧
    (s.compileFail e).on FRM_STAT_Compiling = s.on FRM_STAT_Compiling := by
  have hsize : FRM_COMPILE_STAT_Result.size = 16 := rfl
  simp (disch := decide) [State.compileFail, State.showBad, State.dropSnap_eq, State.on_wr_apart, State.on_wr_same,
    State.rd_wr_same, State.rd_wr_apart, hsize]
  decide

theorem compileFinish_failed {s : State} {snap : RegFile} {e : Bad} (placement : List Nat) (vioLow : BitVec 4)
    (h1 : s.on FRM_STAT_Compiling = true) (h2 : s.frm.coreRst = false) (h3 : s.snap = some snap) (own : s.frm.own = false)
    (h : firstBad (s.tabulate (s.trial snap) placement vioLow.toNat).bads = some e) :
    Answers (exec (.compileFinish placement vioLow) s) fun t => t.on FRM_STAT_Compiling = false ∧
      t.rd FRM_COMPILE_STAT_Result = e.code % 16 ∧ t.rd FRM_COMPILE_STAT_Item = e.item % FRM_COMPILE_STAT_Item.size ∧
      t.snap = none ∧ t.on GLB_SHADOW_Snap = false := by
  obtain ⟨hres, hitem, hsnap, hcomp⟩ := s.compileOver.compileFail_shows e
  rw [exec_compileFinish, State.compileFinish_eq placement _ h1 h2 h3, State.compileEnd_of_failed h own, answers_done,
    State.answer_on _ _ (by decide +kernel), State.answer_rd _ _ (by decide +kernel), State.answer_rd _ _ (by decide +kernel),
    State.answer_on _ _ (by decide +kernel), hres, hitem, hsnap, hcomp, State.compileOver_compiling, State.requeue_snap,
    State.settle_snap]
  exact ⟨rfl, rfl, rfl, rfl, rfl⟩

/-! ### Apply and abandon -/

theorem State.applyReq_of_table {s : State} (h : s.frm.compiled.isSome = true) (hr : s.rd FRM_COMPILE_STAT_Result = 0) :
    s.applyReq = s.wrB FRM_STAT_Pending true := by simp [State.applyReq, h, hr]

theorem State.applyReq_of_none {s : State} (h : s.frm.compiled = none ∨ s.rd FRM_COMPILE_STAT_Result ≠ 0) : s.applyReq = s := by
  rw [State.applyReq, if_neg]
  rcases h with h | h <;> simp [h]

theorem apply_answers {s : State} (h : s.frm.compiled.isSome = true) (hr : s.rd FRM_COMPILE_STAT_Result = 0) :
    Answers (exec .apply s) fun t => t.on FRM_STAT_Pending ∧ Frame s t [FRM_STAT_Pending] [] := by
  rw [exec_apply, State.applyReq_of_table h hr, answers_done, State.answer_on _ _ (by decide +kernel), State.wrB_eq,
    State.on_wr_flag _ _ (by decide) rfl]
  exact ⟨rfl, ((Reach.refl s _ _).wr _ (List.mem_singleton_self _) (by decide)).frame _⟩

/-- What abandoning clears once the result that showed before the compile is back (R48, R509). -/
def State.abandonAll (s : State) : State :=
  (((s.dropSnap.wrB FRM_STAT_Compiling false).wrB FRM_STAT_Pending false).wrB GLB_SHADOW_Dirty false).modFrm
    (fun f => { f with compiled := none, own := false, load := if f.own then none else f.load })

theorem State.abandon_eq (s : State) : s.abandon = { (if s.on FRM_STAT_Compiling then s.setWord FRM_COMPILE_STAT s.frm.prev else
    s).abandonAll with shadow := shadowsOf s.regs } := rfl

theorem State.abandonAll_clears (s : State) : s.abandonAll.on FRM_STAT_Compiling = false ∧ s.abandonAll.on FRM_STAT_Pending = false ∧
    s.abandonAll.on GLB_SHADOW_Snap = false ∧ s.abandonAll.on GLB_SHADOW_Dirty = false := by
  simp (disch := decide) [State.abandonAll, State.dropSnap_eq, State.on_wr_apart, State.on_wr_same]
  decide

theorem abandon_answers (s : State) : Answers (exec .abandon s) fun t => t.snap = none ∧ t.frm.compiled = none ∧
    t.on FRM_STAT_Compiling = false ∧ t.on FRM_STAT_Pending = false ∧ t.on GLB_SHADOW_Snap = false ∧ t.on GLB_SHADOW_Dirty = false ∧
    ∀ o, t.shadow.get o = (shadowsOf s.regs).get o := by
  rw [exec_abandon, answers_done, State.abandon_eq]
  generalize (if s.on FRM_STAT_Compiling then s.setWord FRM_COMPILE_STAT s.frm.prev else s) = u
  obtain ⟨hcomp, hpend, hsnap, hdirty⟩ := u.abandonAll_clears
  refine ⟨?_, ?_, ?_, ?_, ?_, ?_, fun o => ?_⟩
  · rw [State.requeue_snap, State.settle_snap]; rfl
  · rw [State.requeue_frm, State.settle_frm]; rfl
  · rw [State.answer_on _ _ (by decide +kernel)]; exact hcomp
  · rw [State.answer_on _ _ (by decide +kernel)]; exact hpend
  · rw [State.answer_on _ _ (by decide +kernel)]; exact hsnap
  · rw [State.answer_on _ _ (by decide +kernel)]; exact hdirty
  · rw [State.requeue_shadow, State.settle_shadow, RegFile.get_norm]

/-- A command whose effect is to leave the state as it is. -/
theorem answers_unchanged {s : State} {r : Res} (h : r = done s s) : Answers r fun t => Frame s t [] [] := by
  rw [h, answers_done]
  exact (Reach.refl s [] []).frame _

/-- Settles O7: each command's effect is a chain of field writes; what the compile itself builds is never unfolded. -/
theorem compileApplyAbandon : Obligations.CompileApplyAbandon := fun s =>
  ⟨compile_answers,
   fun h => answers_unchanged (by rw [exec_compile, State.compileReq_of_busy h]),
   fun placement vioLow _ h1 h2 h3 own h => compileFinish_passed placement vioLow h1 h2 h3 own h,
   fun placement vioLow _ _ h1 h2 h3 own h => compileFinish_failed placement vioLow h1 h2 h3 own h,
   apply_answers,
   fun h => answers_unchanged (by rw [exec_apply, State.applyReq_of_none h]),
   abandon_answers s⟩

end Sys2Proof.Machine
end

section
/-!
SUPPORT. Lock to a timing source, its loss and return, markers and the timing master (R64-R71, R381).
-/
namespace Sys2Proof.Machine

set_option Elab.async false

theorem exec_syncLockDeclared (s : State) : exec .syncLockDeclared s = done s s.lockDeclare := rfl
theorem exec_syncLost (s : State) : exec .syncLost s =
    done s (if s.rd FRM_STAT_SyncSrc = 1 ∧ s.on FRM_STAT_Holdover = false then s.syncLose 0 else s) := rfl
theorem exec_syncInReturn (s : State) : exec .syncInReturn s =
    done s (if s.rd FRM_STAT_SyncSrc = 1 then (s.wrB FRM_STAT_Holdover false).modFrm (fun f => { f with lockRun := 0 }) else s) := rfl
theorem exec_frameMarker (port : Fin 2) (src : Fin 8) (setFrame : BitVec 64) (s : State) :
    exec (.frameMarker port src setFrame) s = done s (s.frameMarker port.val src.val setFrame.toNat) := rfl
theorem exec_markerLoss (port : Fin 2) (s : State) : exec (.markerLoss port) s = done s (s.markerLoss port.val) := rfl
theorem exec_timingMasterTakeover (s : State) : exec .timingMasterTakeover s = done s s.timingTakeover := rfl

/-! ### FRAME_CNT -/

/-- An effect that lists no field of FRAME_CNT leaves it. -/
theorem Reach.frame_cnt {s x : State} {fs : List Fld} {ps : List Part} (h : Reach s x fs ps)
    (hlo : fs.all FRM_FRAME_CNT_LO_Lo.apart = true) (hhi : fs.all FRM_FRAME_CNT_HI_Hi.apart = true) : x.frame = s.frame := by
  rw [State.frame, h.regs _ (by decide +kernel) hlo, h.regs _ (by decide +kernel) hhi, State.frame]

theorem FaultReach.frame_cnt {s x : State} {fs : List Fld} {ps : List Part} (h : FaultReach s x fs ps)
    (hlo : fs.all FRM_FRAME_CNT_LO_Lo.apart = true) (hhi : fs.all FRM_FRAME_CNT_HI_Hi.apart = true) : x.frame = s.frame := by
  rw [State.frame, h.regs _ (by decide +kernel) hlo (by simp [offFault, FRM_FRAME_CNT_LO_Lo, FRM_FRAME_CNT_LO, ONX_LOST_CNT]),
    h.regs _ (by decide +kernel) hhi (by simp [offFault, FRM_FRAME_CNT_HI_Hi, FRM_FRAME_CNT_HI, ONX_LOST_CNT]), State.frame]

/-! ### Lock is declared (R66, R70) -/

/-- The set frame offset at the first lock: 0 on SYNC_IN, else what the latest marker gave (R70). -/
def State.lockOffset (s : State) : Nat := if s.rd FRM_STAT_SyncSrc = 1 then 0 else s.frm.setDelta

theorem State.lockDeclare_eq {s : State} (h1 : 64 ≤ s.frm.lockRun) (h2 : s.rd FRM_STAT_SyncSrc ≠ 0) (h3 : s.on FRM_STAT_Locked = false)
    (h4 : s.on FRM_STAT_Holdover = false) : s.lockDeclare =
      if s.frm.everLock then s.wrB FRM_STAT_Locked true
      else (((s.wrB FRM_STAT_Locked true).wr FRM_SET_OFF_LO_Lo (s.lockOffset % 2 ^ 32)).wr FRM_SET_OFF_HI_Hi
        (s.lockOffset / 2 ^ 32)).modFrm (fun f => { f with everLock := true }) := by
  have hsrc : (s.wrB FRM_STAT_Locked true).rd FRM_STAT_SyncSrc = s.rd FRM_STAT_SyncSrc := s.rd_wr_apart _ (by decide) (by decide)
  rw [State.lockDeclare, if_neg (by simp [h1, h2, h3, h4]), State.lockOffset, ← hsrc]
  rfl

theorem State.lockDeclare_reach {s : State} (h1 : 64 ≤ s.frm.lockRun) (h2 : s.rd FRM_STAT_SyncSrc ≠ 0)
    (h3 : s.on FRM_STAT_Locked = false) (h4 : s.on FRM_STAT_Holdover = false) :
    Reach s s.lockDeclare [FRM_STAT_Locked, FRM_SET_OFF_LO_Lo, FRM_SET_OFF_HI_Hi] [.frm] := by
  have hlock : Reach s (s.wrB FRM_STAT_Locked true) [FRM_STAT_Locked, FRM_SET_OFF_LO_Lo, FRM_SET_OFF_HI_Hi] [.frm] :=
    (Reach.refl s _ _).wr _ (by simp) (by decide)
  rw [State.lockDeclare_eq h1 h2 h3 h4]
  refine hlock.ite (Reach.modFrm ?_ _ (by simp))
  exact (hlock.wr _ (by simp) (by decide)).wr _ (by simp) (by decide)

theorem State.lockOffset_lt {s : State} (h : s.frm.setDelta < 2 ^ 64) : s.lockOffset < 2 ^ 64 := by
  rw [State.lockOffset]; split_ifs <;> omega

theorem syncLockDeclared_answers {s : State} (h1 : 64 ≤ s.frm.lockRun) (h2 : s.rd FRM_STAT_SyncSrc ≠ 0)
    (h3 : s.on FRM_STAT_Locked = false) (h4 : s.on FRM_STAT_Holdover = false) (h5 : s.frm.setDelta < 2 ^ 64) :
    Answers (exec .syncLockDeclared s) fun t => t.on FRM_STAT_Locked ∧ t.frame = s.frame ∧ t.frm.everLock ∧
      (s.frm.everLock = false → t.rd FRM_SET_OFF_LO_Lo + 2 ^ 32 * t.rd FRM_SET_OFF_HI_Hi =
        if s.rd FRM_STAT_SyncSrc = 1 then 0 else s.frm.setDelta) ∧
      (s.frm.everLock → t.rd FRM_SET_OFF_LO_Lo = s.rd FRM_SET_OFF_LO_Lo ∧ t.rd FRM_SET_OFF_HI_Hi = s.rd FRM_SET_OFF_HI_Hi) ∧
      Frame s t [FRM_STAT_Locked, FRM_SET_OFF_LO_Lo, FRM_SET_OFF_HI_Hi] [.frm] := by
  have hreach := State.lockDeclare_reach h1 h2 h3 h4
  have hcnt : s.lockDeclare.frame = s.frame := hreach.frame_cnt (by decide) (by decide)
  have hlo : FRM_SET_OFF_LO_Lo.size = 2 ^ 32 := rfl
  have hhi : FRM_SET_OFF_HI_Hi.size = 2 ^ 32 := rfl
  have hd := s.lockOffset_lt h5
  rw [exec_syncLockDeclared, answers_done, State.answer_on _ _ (by decide +kernel), State.answer_frame, hcnt, State.requeue_frm,
    State.settle_frm, State.answer_rd _ _ (by decide +kernel), State.answer_rd _ _ (by decide +kernel)]
  refine ⟨?_, rfl, ?_, fun he => ?_, fun he => ?_, hreach.frame _⟩ <;> rw [State.lockDeclare_eq h1 h2 h3 h4]
  · split_ifs <;> simp (disch := decide) [State.on_wr_apart, State.on_wr_same] <;> decide
  · split_ifs with he
    · exact he
    · rfl
  · rw [if_neg (by simp [he])]
    simp (disch := decide) only [State.modFrm_rd, State.rd_wr_apart, State.rd_wr_same, hlo, hhi]
    rw [← State.lockOffset]
    omega
  · rw [if_pos he]
    simp (disch := decide) [State.rd_wr_apart]

/-! ### The source is lost, and returns (R67, R69) -/

theorem State.syncLose_reach (s : State) (why : Nat) :
    FaultReach s (s.syncLose why) [FRM_STAT_Holdover, FRM_STAT_SyncLost, FRM_STAT_Locked] [.frm] := by
  have hmarks : Reach s (((s.wrB FRM_STAT_Holdover true).wrB FRM_STAT_SyncLost true).wrB FRM_STAT_Locked false)
      [FRM_STAT_Holdover, FRM_STAT_SyncLost, FRM_STAT_Locked] [.frm] :=
    (((Reach.refl s _ _).wr _ (by simp) (by decide)).wr _ (by simp) (by decide)).wr _ (by simp) (by decide)
  rw [State.syncLose]
  exact (hmarks.fault.raise (src := 250) why (by decide)).andThen (Reach.modFrm (Reach.refl _ _ _) _ (List.mem_singleton_self Part.frm))

theorem State.syncLose_shows (s : State) (why : Nat) : (s.syncLose why).on FRM_STAT_Holdover = true ∧
    (s.syncLose why).on FRM_STAT_SyncLost = true ∧ (s.syncLose why).on FRM_STAT_Locked = false := by
  have hraise (x : State) {f : Fld} (hf : f.off = FRM_STAT) : (x.raise 250 why).on f = x.on f :=
    (FaultSide.raise x 250 why (by decide)).on (by rw [hf]; simp [offFault, FRM_STAT, ONX_LOST_CNT])
  simp only [State.syncLose, State.modFrm_on]
  rw [hraise _ rfl, hraise _ rfl, hraise _ rfl]
  simp (disch := decide) [State.on_wr_apart, State.on_wr_same]
  decide

theorem State.syncLose_lockRun (s : State) (why : Nat) : (s.syncLose why).frm.lockRun = 0 := rfl

theorem State.syncLose_markers (s : State) (why : Nat) : (s.syncLose why).frm.markers = s.frm.markers := by
  have hside := FaultSide.raise (((s.wrB FRM_STAT_Holdover true).wrB FRM_STAT_SyncLost true).wrB FRM_STAT_Locked false) 250 why (by decide)
  rw [State.syncLose, State.modFrm_frm, hside.frm]; rfl

theorem syncLost_answers {s : State} (h1 : s.rd FRM_STAT_SyncSrc = 1) (h2 : s.on FRM_STAT_Holdover = false) :
    Answers (exec .syncLost s) fun t => t.on FRM_STAT_Holdover ∧ t.on FRM_STAT_SyncLost ∧ t.on FRM_STAT_Locked = false ∧
      t.frame = s.frame ∧ t.frm.lockRun = 0 ∧ FrameFault s t [FRM_STAT_Holdover, FRM_STAT_SyncLost, FRM_STAT_Locked] [.frm] := by
  obtain ⟨hhold, hlost, hlock⟩ := s.syncLose_shows 0
  have hreach := s.syncLose_reach 0
  rw [exec_syncLost, if_pos ⟨h1, h2⟩, answers_done, State.answer_on _ _ (by decide +kernel), State.answer_on _ _ (by decide +kernel),
    State.answer_on _ _ (by decide +kernel), State.answer_frame, State.requeue_frm, State.settle_frm]
  exact ⟨hhold, hlost, hlock, hreach.frame_cnt (by decide) (by decide), s.syncLose_lockRun 0, hreach.frame _⟩

theorem syncInReturn_answers {s : State} (h : s.rd FRM_STAT_SyncSrc = 1) :
    Answers (exec .syncInReturn s) fun t => t.on FRM_STAT_Holdover = false ∧ t.frm.lockRun = 0 ∧
      Frame s t [FRM_STAT_Holdover] [.frm] := by
  rw [exec_syncInReturn, if_pos h, answers_done, State.answer_on _ _ (by decide +kernel), State.requeue_frm, State.settle_frm,
    State.modFrm_on, State.wrB_eq, State.on_wr_flag _ _ (by decide) rfl]
  exact ⟨rfl, rfl, (((Reach.refl s _ _).wr _ (by simp) (by decide)).modFrm _ (by simp)).frame _⟩

/-! ### Following a source (R69, R381) -/

/-- What following a source, or a marker, may change. -/
def syncFlds : List Fld := [FRM_STAT_TimingMaster, FRM_STAT_Holdover, FRM_STAT_SyncSrc, FRM_STAT_Locked]

theorem Reach.follow {s x : State} (h : Reach s x syncFlds [.frm, .tl]) (src : Nat) : Reach s (x.follow src) syncFlds [.frm, .tl] := by
  refine h.ite (Reach.modFrm ?_ _ (by simp))
  exact (h.wr _ (by simp [syncFlds]) (by decide)).wr _ (by simp [syncFlds]) (by decide)

/-- Following a source leaves every field of FRM_STAT but the source and the lock. -/
theorem State.follow_on (s : State) (src : Nat) {f : Fld} (h1 : f.apart FRM_STAT_SyncSrc = true) (h2 : f.apart FRM_STAT_Locked = true) :
    (s.follow src).on f = s.on f := by
  rw [State.follow]
  split_ifs
  · rfl
  · rw [State.modFrm_on, State.wrB_eq, State.on_wr_apart _ _ (by decide) h2, State.on_wr_apart _ _ (by decide) h1]

theorem State.follow_src (s : State) {src : Nat} (h : src < 4) : (s.follow src).rd FRM_STAT_SyncSrc = src := by
  have hsize : FRM_STAT_SyncSrc.size = 4 := rfl
  rw [State.follow]
  split_ifs with he
  · exact he
  · rw [State.modFrm_rd, State.wrB_eq, State.rd_wr_apart _ _ (by decide) (by decide), State.rd_wr_same _ _ _ (by decide), hsize,
      Nat.mod_eq_of_lt h]

/-- Following a source sets no field of the scheduler's own state but the run of frames near phase. -/
theorem State.follow_tmPos (s : State) (src : Nat) : (s.follow src).frm.tmPos = s.frm.tmPos := by
  rw [State.follow]
  split_ifs <;> rfl

theorem State.follow_tl (s : State) (src : Nat) : (s.follow src).tl = s.tl := by
  rw [State.follow]
  split_ifs <;> rfl

theorem State.routeOf_lt {s : State} {dest p : Nat} (h : s.routeOf dest = some p) : p < 2 := by
  simp only [State.routeOf] at h
  split_ifs at h <;> simp_all <;> omega

/-- The port of the shorter way to a sender is one of two. -/
theorem State.routeOf_getD_lt (s : State) (dest : Nat) : (s.routeOf dest).getD 1 < 2 := by
  cases h : s.routeOf dest with
  | none => decide
  | some p => exact State.routeOf_lt h

theorem State.markerSrc_range (s : State) (src : Nat) : 2 ≤ s.markerSrc src ∧ s.markerSrc src < 4 := by
  have hp := s.routeOf_getD_lt src
  simp only [State.markerSrc]
  split_ifs <;> omega

/-! ### A marker arrives (R69, R381) -/

/-- The marker noted: its port, its sender, the offset it gives; this device is no timing master. -/
def State.markerNote (s : State) (port src setFrame : Nat) : State :=
  ((s.wrB FRM_STAT_TimingMaster false).modFrm (fun f => { f with
    markers := setBit f.markers port true, tmPos := src,
    setDelta := (setFrame + 2 ^ 64 - s.frame % 2 ^ 64) % 2 ^ 64 })).modTl
      (fun t => { t with noMarker := 0 })

/-- The marker followed. -/
def State.markerFollow (s : State) (src : Nat) : State :=
  if s.rd FRM_STAT_SyncSrc < 2 then s.follow (s.markerSrc src) else s.wr FRM_STAT_SyncSrc (s.markerSrc src)

/-- Holdover ends. -/
def State.holdoverEnd (s : State) : State :=
  if s.on FRM_STAT_Holdover then (s.wrB FRM_STAT_Holdover false).modFrm (fun f => { f with lockRun := 0 }) else s

theorem State.frameMarker_eq {s : State} {src : Nat} (port setFrame : Nat) (h1 : s.on TL_CFG_En = true) (h2 : src ≠ s.me)
    (h3 : s.on FRM_STAT_TimingMaster = false ∨ src < s.me) :
    s.frameMarker port src setFrame = ((s.markerNote port src setFrame).markerFollow src).holdoverEnd := by
  have hguard : (!s.on TL_CFG_En || src == s.me || (s.on FRM_STAT_TimingMaster && decide (s.me < src))) = false := by
    rcases h3 with h3 | h3
    · simp [h1, h2, h3]
    · simp [h1, h2, Nat.le_of_lt h3]
  rw [State.frameMarker, hguard]
  rfl

theorem State.markerFollow_reach {s x : State} (h : Reach s x syncFlds [.frm, .tl]) (src : Nat) :
    Reach s (x.markerFollow src) syncFlds [.frm, .tl] :=
  (h.follow _).ite (h.wr _ (by simp [syncFlds]) (by decide))

theorem State.markerFollow_on (s : State) (src : Nat) {f : Fld} (h1 : f.apart FRM_STAT_SyncSrc = true)
    (h2 : f.apart FRM_STAT_Locked = true) : (s.markerFollow src).on f = s.on f := by
  rw [State.markerFollow]
  split_ifs
  · exact s.follow_on _ h1 h2
  · exact s.on_wr_apart _ (by decide) h1

theorem State.markerFollow_src (s : State) (src : Nat) : 2 ≤ (s.markerFollow src).rd FRM_STAT_SyncSrc := by
  obtain ⟨hlo, hhi⟩ := s.markerSrc_range src
  have hsize : FRM_STAT_SyncSrc.size = 4 := rfl
  rw [State.markerFollow]
  split_ifs
  · rwa [State.follow_src _ hhi]
  · rwa [State.rd_wr_same _ _ _ (by decide), hsize, Nat.mod_eq_of_lt hhi]

theorem State.markerFollow_tmPos (s : State) (src : Nat) : (s.markerFollow src).frm.tmPos = s.frm.tmPos := by
  rw [State.markerFollow]
  split_ifs
  · exact s.follow_tmPos _
  · rfl

theorem State.markerFollow_tl (s : State) (src : Nat) : (s.markerFollow src).tl = s.tl := by
  rw [State.markerFollow]
  split_ifs
  · exact s.follow_tl _
  · rfl

theorem State.holdoverEnd_reach {s x : State} (h : Reach s x syncFlds [.frm, .tl]) : Reach s x.holdoverEnd syncFlds [.frm, .tl] :=
  ((h.wr _ (by simp [syncFlds]) (by decide)).modFrm _ (by simp)).ite h

theorem State.holdoverEnd_rd (s : State) {f : Fld} (h : f.apart FRM_STAT_Holdover = true) : s.holdoverEnd.rd f = s.rd f := by
  rw [State.holdoverEnd]
  split_ifs
  · rw [State.modFrm_rd, State.wrB_eq, State.rd_wr_apart _ _ (by decide) h]
  · rfl

theorem State.holdoverEnd_holdover (s : State) : s.holdoverEnd.on FRM_STAT_Holdover = false := by
  rw [State.holdoverEnd]
  split_ifs with h
  · rw [State.modFrm_on, State.wrB_eq, State.on_wr_flag _ _ (by decide) rfl]
  · simpa using h

theorem State.holdoverEnd_tmPos (s : State) : s.holdoverEnd.frm.tmPos = s.frm.tmPos := by
  rw [State.holdoverEnd]
  split_ifs <;> rfl

theorem State.holdoverEnd_tl (s : State) : s.holdoverEnd.tl = s.tl := by
  rw [State.holdoverEnd]
  split_ifs <;> rfl

theorem frameMarker_answers {s : State} (port : Fin 2) {src : Fin 8} (setFrame : BitVec 64) (h1 : s.on TL_CFG_En = true)
    (h2 : src.val ≠ s.me) (h3 : s.on FRM_STAT_TimingMaster = false ∨ src.val < s.me) :
    Answers (exec (.frameMarker port src setFrame) s) fun t => t.on FRM_STAT_TimingMaster = false ∧ t.on FRM_STAT_Holdover = false ∧
      t.frm.tmPos = src.val ∧ t.tl.noMarker = 0 ∧ 2 ≤ t.rd FRM_STAT_SyncSrc ∧ t.frame = s.frame := by
  have hnote : Reach s (s.markerNote port src setFrame.toNat) syncFlds [.frm, .tl] :=
    (((Reach.refl s _ _).wr _ (by simp [syncFlds]) (by decide)).modFrm _ (by simp)).modTl _ (by simp)
  have hreach := State.holdoverEnd_reach (State.markerFollow_reach hnote src)
  rw [exec_frameMarker, State.frameMarker_eq _ _ h1 h2 h3, answers_done, State.answer_on _ _ (by decide +kernel),
    State.answer_on _ _ (by decide +kernel), State.answer_rd _ _ (by decide +kernel), State.answer_frame, State.requeue_frm,
    State.settle_frm, State.requeue_tl, State.settle_tl]
  refine ⟨?_, State.holdoverEnd_holdover _, ?_, ?_, ?_, hreach.frame_cnt (by decide) (by decide)⟩
  · rw [State.on, State.holdoverEnd_rd _ (by decide), ← State.on, State.markerFollow_on _ _ (by decide) (by decide), State.markerNote,
      State.modTl_on, State.modFrm_on, State.wrB_eq, State.on_wr_flag _ _ (by decide) rfl]
  · rw [State.holdoverEnd_tmPos, State.markerFollow_tmPos]; rfl
  · rw [State.holdoverEnd_tl, State.markerFollow_tl]; rfl
  · rw [State.holdoverEnd_rd _ (by decide)]
    exact State.markerFollow_src _ _

/-! ### A marker is lost (R69) -/

/-- The state without the marker of a port. -/
def State.dropMarker (s : State) (port : Nat) : State := s.modFrm (fun f => { f with markers := setBit f.markers port false })

theorem State.markerLoss_eq {s : State} {port : Nat} (h1 : s.frm.markers.testBit port = true) (h2 : 2 ≤ s.rd FRM_STAT_SyncSrc) :
    s.markerLoss port = if setBit s.frm.markers port false = 0 then (s.dropMarker port).syncLose 1
      else (s.dropMarker port).wr FRM_STAT_SyncSrc ((s.dropMarker port).markerSrc s.frm.tmPos) := by
  rw [State.markerLoss, h1]
  exact if_neg (Nat.not_lt.2 h2)

/-- With one marker left, its port is followed. -/
theorem State.markerSrc_of_one {s : State} {p : Nat} (src : Nat) (hp : p < 2) (h : s.frm.markers = 2 ^ p) : s.markerSrc src = 2 + p := by
  have hr := s.routeOf_getD_lt src
  simp only [State.markerSrc, h, Nat.testBit_two_pow, decide_eq_true_eq]
  split_ifs <;> omega

theorem setBit_three (port : Fin 2) : setBit 3 port.val false = 2 ^ (1 - port.val) := by revert port; decide
theorem two_pow_other (port : Fin 2) : 2 ^ (1 - port.val) = 3 - 2 ^ port.val := by revert port; decide
theorem setBit_only (port : Fin 2) : setBit (2 ^ port.val) port.val false = 0 := by revert port; decide

theorem markerLoss_one_left {s : State} (port : Fin 2) (h1 : s.frm.markers = 3) (h2 : 2 ≤ s.rd FRM_STAT_SyncSrc) :
    Answers (exec (.markerLoss port) s) fun t => t.frm.markers = 3 - 2 ^ port.val ∧ t.rd FRM_STAT_SyncSrc = 2 + (1 - port.val) ∧
      t.on FRM_STAT_Holdover = s.on FRM_STAT_Holdover := by
  have hbit : s.frm.markers.testBit port.val = true := by rw [h1]; revert port; decide
  have hleft : (s.dropMarker port.val).frm.markers = 2 ^ (1 - port.val) := by
    rw [State.dropMarker, State.modFrm_frm, h1]; exact setBit_three port
  have hsize : FRM_STAT_SyncSrc.size = 4 := rfl
  rw [exec_markerLoss, State.markerLoss_eq hbit h2, h1, setBit_three, if_neg (Nat.two_pow_pos _).ne',
    State.markerSrc_of_one _ (by omega) hleft, answers_done, State.answer_rd _ _ (by decide +kernel),
    State.answer_on _ _ (by decide +kernel), State.rd_wr_same _ _ _ (by decide), State.on_wr_apart _ _ (by decide) (by decide),
    State.requeue_frm, State.settle_frm, State.wr_frm, hleft, hsize, Nat.mod_eq_of_lt (by omega)]
  exact ⟨two_pow_other port, rfl, rfl⟩

theorem markerLoss_none_left {s : State} (port : Fin 2) (h1 : s.frm.markers = 2 ^ port.val) (h2 : 2 ≤ s.rd FRM_STAT_SyncSrc) :
    Answers (exec (.markerLoss port) s) fun t => t.frm.markers = 0 ∧ t.on FRM_STAT_Holdover ∧ t.on FRM_STAT_SyncLost := by
  obtain ⟨hhold, hlost, -⟩ := (s.dropMarker port.val).syncLose_shows 1
  have hbit : s.frm.markers.testBit port.val = true := by rw [h1, Nat.testBit_two_pow_self]
  rw [exec_markerLoss, State.markerLoss_eq hbit h2, h1, setBit_only, if_pos rfl, answers_done, State.answer_on _ _ (by decide +kernel),
    State.answer_on _ _ (by decide +kernel), State.requeue_frm, State.settle_frm, State.syncLose_markers, State.dropMarker,
    State.modFrm_frm, h1]
  exact ⟨setBit_only port, hhold, hlost⟩

/-! ### The lowest live device takes over (R381) -/

theorem timingMasterTakeover_answers {s : State} (h1 : 4 ≤ s.tl.noMarker) (h2 : s.lowestLive = true)
    (h3 : s.on FRM_STAT_TimingMaster = false) :
    Answers (exec .timingMasterTakeover s) fun t => t.on FRM_STAT_TimingMaster ∧ t.on FRM_STAT_Holdover = false ∧ t.frame = s.frame := by
  have hreach : Reach s s.timingTake syncFlds [.frm, .tl] :=
    Reach.follow (((Reach.refl s _ _).wr _ (by simp [syncFlds]) (by decide)).wr _ (by simp [syncFlds]) (by decide)) _
  have htake : s.timingTakeover = s.timingTake := by simp [State.timingTakeover, h1, h2, h3]
  rw [exec_timingMasterTakeover, htake, answers_done, State.answer_on _ _ (by decide +kernel), State.answer_on _ _ (by decide +kernel),
    State.answer_frame]
  refine ⟨?_, ?_, hreach.frame_cnt (by decide) (by decide)⟩
  · rw [State.timingTake, State.follow_on _ _ (by decide) (by decide), State.wrB_eq, State.on_wr_apart _ _ (by decide) (by decide),
      State.wrB_eq, State.on_wr_flag _ _ (by decide) rfl]
  · rw [State.timingTake, State.follow_on _ _ (by decide) (by decide), State.wrB_eq, State.on_wr_flag _ _ (by decide) rfl]

/-- Settles O8: lock, loss, return, markers and take-over, each by its own effect; none of them lists a field of FRAME_CNT. -/
theorem frameLock : Obligations.FrameLock := fun _ =>
  ⟨syncLockDeclared_answers, syncLost_answers, syncInReturn_answers, fun port _ setFrame => frameMarker_answers port setFrame,
   markerLoss_one_left, markerLoss_none_left, timingMasterTakeover_answers⟩

end Sys2Proof.Machine
end

section
/-!
SUPPORT. The first frame of a device without a configuration set, and the count of frames (R45, R478, R479).
-/
namespace Sys2Proof.Machine

set_option Elab.async false

theorem exec_firstFrame (us : BitVec 20) (gateGood : BitVec 16) (s : State) :
    exec (.firstFrame us gateGood) s = done s (s.firstFrame us.toNat gateGood.toNat) := rfl
theorem exec_frameBoundary (inp : BoundaryIn) (s : State) : exec (.frameBoundary inp) s = done s (s.nextFrame inp) := rfl

/-! ### FRAME_CNT -/

/-- FRAME_CNT holds 64 bits of what it is set to. -/
theorem State.frame_setFrame (s : State) (n : Nat) : (s.setFrame n).frame = n % 2 ^ 64 := by
  have hlo : FRM_FRAME_CNT_LO_Lo.size = 2 ^ 32 := rfl
  have hhi : FRM_FRAME_CNT_HI_Hi.size = 2 ^ 32 := rfl
  simp (disch := decide) only [State.setFrame, State.frame, State.rd_wr_same, State.rd_wr_apart, hlo, hhi]
  omega

theorem frameBoundary_counts {s : State} (inp : BoundaryIn) (h : s.pwr.phase = .running) (hr : s.resetDue = none) :
    Answers (exec (.frameBoundary inp) s) fun t => t.frame = (s.frame + 1) % 2 ^ 64 := by
  have hnext : s.nextFrame inp = (s.boundary inp).setFrame (s.frame + 1) := by
    simp [State.nextFrame, h, hr]
  rw [exec_frameBoundary, hnext, answers_done, State.answer_frame, State.frame_setFrame]

/-! ### The role of a device alone (R384) -/

/-- Fields that a change of role and its HELLO write. -/
def roleFlds : List Fld :=
  [GLB_STAT_ShelfMaster, GLB_STAT_Active, TL_GEN_Gen, FLT_INJ_Armed, TL_PORT_TX_CNT_Cnt 0, TL_PORT_TX_CNT_Cnt 1]

/-- Parts that a change of role and its HELLO change. -/
def roleParts : List Part := [.tl, .flt, .irq, .out]

/-- An armed injection that its target meets fires and is disarmed (R427). -/
theorem State.takeArmed_eq (s : State) (target inst : Nat) :
    (s.takeArmed target inst).2 = s ∨ (s.takeArmed target inst).2 = s.disarm := by
  rw [State.takeArmed]
  split
  · split_ifs
    · right
      simp only [State.disarm, State.modFlt, State.wrB_eq, State.wr_flt, b2n, Bool.false_eq_true, if_false]
    · exact .inl rfl
  · exact .inl rfl

theorem Reach.takeArmed {s x : State} {fs : List Fld} {ps : List Part} (h : Reach s x fs ps) (target inst : Nat)
    (hf : FLT_INJ_Armed ∈ fs) (hp : Part.flt ∈ ps) : Reach s (x.takeArmed target inst).2 fs ps := by
  rcases x.takeArmed_eq target inst with e | e <;> rw [e]
  · exact h
  · exact h.disarm hf hp

theorem Reach.cause {s x : State} {fs : List Fld} {ps : List Part} (h : Reach s x fs ps) (c : Nat) (hi : Part.irq ∈ ps)
    (ho : Part.out ∈ ps) : Reach s (x.cause c) fs ps := by
  have hside := (FaultSide.cause x c).irq_rings
  rw [State.cause_eq, hside]
  exact h.setIrq _ _ _ hi ho

theorem Reach.linkPort {s x : State} (h : Reach s x roleFlds roleParts) {p : Nat} (dest seq : Nat) (body : LinkBody) (hp : p < 2) :
    Reach s (x.linkPort p dest seq body) roleFlds roleParts := by
  have harm := h.takeArmed 8 p (by simp [roleFlds]) (by simp [roleParts])
  rw [State.linkPort]
  refine Reach.emit (harm.wr _ ?_ rfl) _ (by simp [roleParts])
  have : p = 0 ∨ p = 1 := by omega
  rcases this with rfl | rfl <;> simp [roleFlds]

theorem Reach.linkBroadcast {s x : State} (h : Reach s x roleFlds roleParts) (body : LinkBody) :
    Reach s (x.linkSend 8 body) roleFlds roleParts := by
  rw [State.linkSend]
  refine h.ite ?_
  have hseq := h.modTl (fun t => { t with txSeq := upd t.txSeq 8 (fun n => (n + 1) % 2 ^ 32) }) (by simp [roleParts])
  have hport (b : Bool) (p : Nat) (hp : p < 2) {y : State} (hy : Reach s y roleFlds roleParts) :
      Reach s (y.when b (fun s => s.linkPort p 8 (x.tl.txSeq.getD 8 0) body)) roleFlds roleParts := hy.when b (hy.linkPort _ _ _ hp)
  exact hport _ 1 (by decide) (hport _ 0 (by decide) hseq)

theorem Reach.sendHello {s x : State} (h : Reach s x roleFlds roleParts) : Reach s x.sendHello roleFlds roleParts :=
  (h.modTl _ (by simp [roleParts])).linkBroadcast _

theorem Reach.inc {s x : State} {fs : List Fld} {ps : List Part} (h : Reach s x fs ps) {f : Fld} (hm : f ∈ fs) (hf : f.ok = true) :
    Reach s (x.inc f) fs ps := h.wr _ hm hf

theorem Reach.setRole {s x : State} (h : Reach s x roleFlds roleParts) (master active : Bool) :
    Reach s (x.setRole master active) roleFlds roleParts := by
  have hbits := (h.wr (g := GLB_STAT_ShelfMaster) (b2n master) (by simp [roleFlds]) (by decide)).wr (g := GLB_STAT_Active) (b2n active)
    (by simp [roleFlds]) (by decide)
  have hgen := hbits.inc (f := TL_GEN_Gen) (by simp [roleFlds]) (by decide)
  have hcause := hgen.sendHello.cause 23 (by simp [roleParts]) (by simp [roleParts])
  exact h.ite (hcause.when _ (hcause.modTl _ (by simp [roleParts])))

theorem Reach.roleAlone {s x : State} (h : Reach s x roleFlds roleParts) : Reach s x.roleAlone roleFlds roleParts :=
  h.ite (h.setRole _ _)

/-! ### The use of the lanes (R42) -/

def laneFlds : List Fld := (List.range 23).flatMap fun k => [FRM_LANE_USE_Booked k, FRM_LANE_USE_Reserved k]

theorem mem_laneFlds {k : Nat} (h : k < 23) : FRM_LANE_USE_Booked k ∈ laneFlds ∧ FRM_LANE_USE_Reserved k ∈ laneFlds := by
  constructor <;> exact List.mem_flatMap.2 ⟨k, List.mem_range.2 h, by simp⟩

theorem Reach.eachN {s x : State} {fs : List Fld} {ps : List Part} (n : Nat) {f : State → Nat → State} (h : Reach s x fs ps)
    (hf : ∀ k < n, ∀ y, Reach s y fs ps → Reach s (f y k) fs ps) : Reach s (forN n x f) fs ps := by
  suffices H : ∀ l : List Nat, (∀ k ∈ l, k < n) → ∀ y, Reach s y fs ps → Reach s (l.foldl f y) fs ps from
    H _ (fun k hk => List.mem_range.1 hk) x h
  intro l
  induction l with
  | nil => exact fun _ y hy => hy
  | cons k t ih => exact fun hl y hy => ih (fun j hj => hl j (List.mem_cons_of_mem _ hj)) _ (hf k (hl k (by simp)) y hy)

theorem State.laneUse_reach (s : State) : Reach s (forN 23 s State.laneUse) laneFlds [] :=
  (Reach.refl s _ _).eachN 23 fun _ hk _ hy => (hy.wr _ (mem_laneFlds hk).1 rfl).wr _ (mem_laneFlds hk).2 rfl

/-! ### The first frame (R478 step 8) -/

/-- Frame 0 has begun: Running, FRAME_CNT 0, the boot time, the timing master of a set of one. -/
def State.frameZero (s : State) (us : Nat) : State :=
  let s := ((s.wrB GLB_STAT_Running true).wrB FRM_STAT_Running true).setFrame 0
  let s := (s.wr PWR_BOOT_TIME_Us us).modPwr (fun p => { p with phase := .running })
  s.wrB FRM_STAT_TimingMaster (s.rd TL_CFG_SetSize ≤ 1)

/-- What the boot has left for the first apply is dropped. -/
def State.bootDone (s : State) : State := s.modPwr (fun p => { p with live := [], table := {}, script := {} })

theorem State.frameZero_shows (s : State) {us : Nat} (h : us < 2 ^ 20) : (s.frameZero us).frame = 0 ∧
    (s.frameZero us).on GLB_STAT_Running = true ∧ (s.frameZero us).on FRM_STAT_Running = true ∧
    (s.frameZero us).rd PWR_BOOT_TIME_Us = us ∧ (s.frameZero us).on GLB_STAT_CfgValid = s.on GLB_STAT_CfgValid := by
  have hsize : PWR_BOOT_TIME_Us.size = 2 ^ 20 := rfl
  simp (disch := decide) [State.frameZero, State.setFrame, State.frame, State.on_wr_apart, State.on_wr_same, State.rd_wr_same,
    State.rd_wr_apart, hsize]
  exact ⟨by decide, by decide, h⟩

theorem State.firstFrame_of_invalid {s : State} (us gateGood : Nat) (h1 : s.pwr.phase = .booted)
    (h2 : (s.frameZero us).on GLB_STAT_CfgValid = false) :
    s.firstFrame us gateGood = forN 23 (s.frameZero us).roleAlone.bootDone State.laneUse := by
  have hphase : (s.pwr.phase != .booted) = false := by rw [h1]; rfl
  simp only [State.firstFrame, hphase]
  rw [← State.frameZero.eq_1, h2]
  rfl

theorem firstFrame_answers {s : State} (us : BitVec 20) (gateGood : BitVec 16) (h1 : s.pwr.phase = .booted)
    (h2 : s.on GLB_STAT_CfgValid = false) :
    Answers (exec (.firstFrame us gateGood) s) fun t => t.pwr.phase = .running ∧ t.frame = 0 ∧ t.on GLB_STAT_Running ∧
      t.on FRM_STAT_Running ∧ t.rd PWR_BOOT_TIME_Us = us.toNat := by
  obtain ⟨hcnt, hglb, hfrm, hboot, hvalid⟩ := s.frameZero_shows us.isLt
  have hrole := (Reach.refl (s.frameZero us.toNat) roleFlds roleParts).roleAlone
  have hlane := State.laneUse_reach (s.frameZero us.toNat).roleAlone.bootDone
  have hrd (f : Fld) (hf : f.plain = true) (hr : roleFlds.all f.apart = true) (hl : laneFlds.all f.apart = true) :
      (forN 23 (s.frameZero us.toNat).roleAlone.bootDone State.laneUse).rd f = (s.frameZero us.toNat).rd f :=
    (hlane.regs f hf hl).trans (hrole.regs f hf hr)
  rw [exec_firstFrame, State.firstFrame_of_invalid _ _ h1 (hvalid.trans h2), answers_done, State.answer_frame,
    State.answer_on _ _ (by decide +kernel), State.answer_on _ _ (by decide +kernel), State.answer_rd _ _ (by decide +kernel),
    State.requeue_pwr, State.settle_pwr]
  refine ⟨?_, ?_, ?_, ?_, ?_⟩
  · have hp : (forN 23 (s.frameZero us.toNat).roleAlone.bootDone State.laneUse).pwr = _ := hlane.parts .pwr (by simp)
    have hq : (s.frameZero us.toNat).roleAlone.pwr = _ := hrole.parts .pwr (by decide)
    rw [hp, State.bootDone, State.modPwr_pwr, hq]
    rfl
  · rw [← hcnt, State.frame, hrd _ (by decide +kernel) (by decide) (by decide +kernel), hrd _ (by decide +kernel) (by decide)
      (by decide +kernel), State.frame]
  · rw [State.on, hrd _ (by decide +kernel) (by decide) (by decide +kernel)]; exact hglb
  · rw [State.on, hrd _ (by decide +kernel) (by decide) (by decide +kernel)]; exact hfrm
  · rw [hrd _ (by decide +kernel) (by decide) (by decide +kernel), hboot]

/-- Settles O9: FRAME_CNT is what the boundary sets last, and 0 is what the first frame sets and nothing after it moves. -/
theorem framesCount : Obligations.FramesCount := by
  intro s
  refine ⟨fun us gateGood => firstFrame_answers us gateGood, fun inp => frameBoundary_counts inp,
    fun inp h => answers_unchanged ?_, fun us gateGood h => answers_unchanged ?_⟩
  · have hnext : s.nextFrame inp = s := by
      rw [State.nextFrame, if_pos (by simpa using h)]
    rw [exec_frameBoundary, hnext]
  · have hfirst : s.firstFrame us.toNat gateGood.toNat = s := by
      rw [State.firstFrame, if_pos (by simpa using h)]
    rw [exec_firstFrame, hfirst]

end Sys2Proof.Machine
end

section
/-!
SUPPORT. A raise leaves its source unacknowledged with the syndrome it was raised with (R422), and nothing later in the raise takes that
back.
-/
namespace Sys2Proof.Machine

set_option Elab.async false

/-- From `s` to `t` the source stays unacknowledged and keeps its syndrome. -/
structure MarkKept (src : Nat) (s t : State) : Prop where
  unacked : s.unacked src = true → t.unacked src = true
  syn : t.rd (FLT_SRC_CNT_Syn src) = s.rd (FLT_SRC_CNT_Syn src)

namespace MarkKept
variable {src : Nat} {s t u : State}

theorem refl (src : Nat) (s : State) : MarkKept src s s := ⟨id, rfl⟩

theorem trans (h : MarkKept src s t) (k : MarkKept src t u) : MarkKept src s u :=
  ⟨k.unacked ∘ h.unacked, k.syn.trans h.syn⟩

theorem of_regs (h : t.regs = s.regs) : MarkKept src s t :=
  ⟨fun hu => by rwa [State.unacked, State.rd_regs, h, ← State.rd_regs, ← State.unacked], by rw [State.rd_regs, h, State.rd_regs]⟩

/-- A write of a register that holds neither the status bits nor the counts of sources. -/
theorem wr (s : State) (f : Fld) (v : Nat) (h1 : f.off ≠ FLT_GRP_STAT (src / 32)) (h2 : f.off ≠ FLT_SRC_CNT src) :
    MarkKept src s (s.wr f v) :=
  ⟨fun hu => by rwa [State.unacked, State.rd_wr_off s v (Ne.symm h1), ← State.unacked], State.rd_wr_off s v (Ne.symm h2)⟩

theorem when (b : Bool) {g : State → State} (h : MarkKept src s (g s)) : MarkKept src s (s.when b g) := by
  cases b
  · exact refl src s
  · exact h

theorem requestRaw (hs : src < 256) (s : State) (r : RecReq) : MarkKept src s (s.requestRaw r) := by
  have hw : MarkKept src s (s.inc ONX_LOST_CNT_Cnt) :=
    wr s ONX_LOST_CNT_Cnt _ (by simp only [ONX_LOST_CNT_Cnt, ONX_LOST_CNT, FLT_GRP_STAT]; omega)
      (by simp only [ONX_LOST_CNT_Cnt, ONX_LOST_CNT, FLT_SRC_CNT]; omega)
  rw [State.requestRaw]
  split
  · exact of_regs rfl
  · exact hw.trans (of_regs rfl)

theorem raiseFirst (hs : src < 256) (s : State) (syn src' cls : Nat) (inj : Bool) : MarkKept src s (s.raiseFirst src' syn cls inj) := by
  have hwr (x : State) (f : Fld) (v : Nat) (hf : f.off < 0x5040) (k : MarkKept src s x) : MarkKept src s (x.wr f v) :=
    k.trans (wr x f v (by simp only [FLT_GRP_STAT]; omega) (by simp only [FLT_SRC_CNT]; omega))
  rw [State.raiseFirst]
  split
  · exact hwr _ _ _ (by decide) (refl src s)
  · refine hwr _ _ _ (by decide) (hwr _ _ _ (by decide) (hwr _ _ _ (by decide) (hwr _ _ _ (by decide) ?_)))
    exact hwr _ _ _ (by decide) (hwr _ _ _ (by decide) (refl src s))

theorem raiseReact (hs : src < 256) (s : State) (src' syn cls r : Nat) (u inj : Bool) :
    MarkKept src s (s.raiseReact src' syn cls r u inj) := by
  have hstep (x : State) (b : Bool) (g : State → State) (hg : MarkKept src x (g x)) (k : MarkKept src s x) : MarkKept src s (x.when b g) :=
    k.trans (hg.when b)
  have hblock (x : State) : MarkKept src x (x.askBlock src' syn) := by
    rw [State.askBlock]; split <;> exact of_regs rfl
  rw [State.raiseReact]
  refine hstep _ _ _ (requestRaw hs _ _) ?_
  refine hstep _ _ _ (of_regs rfl) (hstep _ _ _ (of_regs rfl) (hstep _ _ _ (hblock _) (hstep _ _ _ (of_regs rfl) ?_)))
  refine hstep _ _ _ (of_regs rfl) (hstep _ _ _ (of_regs rfl) ?_)
  exact hstep _ _ _ (of_regs (State.cause_regs _ _)) (refl src s)

end MarkKept

/-! ### The source of a raise is marked -/

/-- Counting a raise writes its source's own counter alone. -/
theorem State.raiseCount_unacked (s : State) (src syn src' : Nat) (hs' : src' < 256) :
    (s.raiseCount src syn).unacked src' = s.unacked src' := by
  have hoff : (FLT_GRP_STAT_Bits (src' / 32)).off ≠ FLT_SRC_CNT src := by
    simp only [FLT_GRP_STAT_Bits, FLT_GRP_STAT, FLT_SRC_CNT]; omega
  rw [State.raiseCount, State.incSat_eq, State.unacked, State.rd_wr_off _ _ hoff, State.rd_wr_off _ _ hoff, State.unacked]

theorem State.raiseCount_syn (s : State) (src syn : Nat) : (s.raiseCount src syn).rd (FLT_SRC_CNT_Syn src) = syn % 2 ^ 16 :=
  State.rd_wr_same _ (FLT_SRC_CNT_Syn src) _ rfl

/-- The registers of a state whose scheduler of faults alone differs. -/
theorem State.raiseMark_rd (s : State) (src cls : Nat) (u : Bool) {f : Fld} (h : f.off ≠ FLT_ESC_CNT) :
    (s.raiseMark src cls u).rd f =
      (s.wr (FLT_GRP_STAT_Bits (src / 32)) (s.rd (FLT_GRP_STAT_Bits (src / 32)) ||| 2 ^ (src % 32))).rd f := by
  cases u
  · rfl
  · exact State.rd_wr_off _ _ h

theorem State.raiseMark_group (s : State) (src cls : Nat) (u : Bool) :
    (s.raiseMark src cls u).rd (FLT_GRP_STAT_Bits (src / 32)) = s.rd (FLT_GRP_STAT_Bits (src / 32)) ||| 2 ^ (src % 32) := by
  have hlt : s.rd (FLT_GRP_STAT_Bits (src / 32)) ||| 2 ^ (src % 32) < 2 ^ 32 :=
    Nat.or_lt_two_pow (State.rd_lt s _) (Nat.pow_lt_pow_right (by decide) (Nat.mod_lt _ (by decide)))
  rw [State.raiseMark_rd _ _ _ _ (by simp only [FLT_GRP_STAT_Bits, FLT_GRP_STAT, FLT_ESC_CNT]; omega), State.rd_wr_same _ _ _ rfl]
  exact Nat.mod_eq_of_lt hlt

/-- Marking a source sets its bit and clears none. -/
theorem State.raiseMark_unacked (s : State) (src cls : Nat) (u : Bool) :
    (s.raiseMark src cls u).unacked src = true := by
  rw [State.unacked, State.raiseMark_group, Nat.testBit_or, Nat.testBit_two_pow_self, Bool.or_true]

theorem MarkKept.raiseMark (s : State) {src src' : Nat} (cls : Nat) (u : Bool) (hs : src < 256) (hs' : src' < 256) :
    MarkKept src s (s.raiseMark src' cls u) := by
  refine ⟨fun hu => ?_, ?_⟩
  · by_cases hg : src / 32 = src' / 32
    · rw [State.unacked, hg, State.raiseMark_group, Nat.testBit_or, ← hg, ← State.unacked, hu, Bool.true_or]
    · rw [State.unacked, State.raiseMark_rd _ _ _ _ (by simp only [FLT_GRP_STAT_Bits, FLT_GRP_STAT, FLT_ESC_CNT]; omega),
        State.rd_wr_off _ _ (by simp only [FLT_GRP_STAT_Bits, FLT_GRP_STAT]; omega), ← State.unacked, hu]
  · rw [State.raiseMark_rd _ _ _ _ (by simp only [FLT_SRC_CNT_Syn, FLT_SRC_CNT, FLT_ESC_CNT]; omega),
      State.rd_wr_off _ _ (by simp only [FLT_SRC_CNT_Syn, FLT_SRC_CNT, FLT_GRP_STAT_Bits, FLT_GRP_STAT]; omega)]

/-- A raise of another source keeps the mark. -/
theorem MarkKept.raiseCore (s : State) {src src' : Nat} (syn cls : Nat) (inj : Bool) (hs : src < 256) (hs' : src' < 256)
    (hne : src ≠ src') : MarkKept src s (s.raiseCore src' syn cls inj) := by
  have hoff : (FLT_SRC_CNT_Syn src).off ≠ FLT_SRC_CNT src' := by simp only [FLT_SRC_CNT_Syn, FLT_SRC_CNT]; omega
  have hcount : MarkKept src s (s.raiseCount src' syn) :=
    ⟨fun hu => by rwa [State.raiseCount_unacked _ _ _ _ hs],
     by rw [State.raiseCount, State.incSat_eq, State.rd_wr_off _ _ hoff, State.rd_wr_off _ _ hoff]⟩
  rw [State.raiseCore]
  split
  · exact MarkKept.refl src s
  · simp only
    split
    · exact hcount
    · exact ((hcount.trans (MarkKept.raiseMark _ _ _ hs hs')).trans (MarkKept.raiseFirst hs _ _ _ _ _)).trans
        (MarkKept.raiseReact hs _ _ _ _ _ _ _)

/-- A raise of an assigned source marks it, one that is counted only because it is unacknowledged already (R424) as well. -/
theorem State.raiseCore_raised (s : State) {src : Nat} (syn cls : Nat) (inj : Bool) (hs : src < 256)
    (ha : s.on (FLT_SRC_CFG_Assigned src) = true) : Raised (s.raiseCore src syn cls inj) src syn := by
  have hsyn := s.raiseCount_syn src syn
  rw [State.raiseCore, if_neg (by simp [ha])]
  simp only
  split
  next hu =>
    rw [Bool.and_eq_true] at hu
    exact ⟨(s.raiseCount_unacked src syn src hs).trans hu.1, hsyn⟩
  next =>
    generalize raiseClass (s.unacked src) (s.heldClass src) cls = k
    have hmark := MarkKept.raiseMark (s.raiseCount src syn) k (s.unacked src) hs hs
    have hfirst := MarkKept.raiseFirst hs ((s.raiseCount src syn).raiseMark src k (s.unacked src)) syn src k inj
    have hreact (r : Nat) (u : Bool) := hfirst.trans (MarkKept.raiseReact hs _ src syn k r u inj)
    exact ⟨(hreact _ _).unacked (State.raiseMark_unacked _ _ _ _), (hreact _ _).syn.trans (hmark.syn.trans hsyn)⟩

/-- The raise for a lost record (R408) is one of source 233. -/
theorem MarkKept.noteLoss (s : State) {src : Nat} (hs : src < 256) (hne : src ≠ 233) : MarkKept src s s.noteLoss := by
  rw [State.noteLoss]
  split
  · have hseen : MarkKept src s { s with onx := { s.onx with lossSeen := true } } := MarkKept.of_regs rfl
    exact hseen.trans (MarkKept.raiseCore _ _ _ _ hs (by decide) hne)
  · exact MarkKept.refl _ _

/-- R422: a raise leaves its source unacknowledged with its syndrome; the loss of a record (R408) raises source 233 alone. -/
theorem State.raise_raised (s : State) {src : Nat} (syn : Nat) (hs : src < 256) (hne : src ≠ 233)
    (ha : s.on (FLT_SRC_CFG_Assigned src) = true) : Raised (s.raise src syn) src syn := by
  obtain ⟨hu, hsyn⟩ := s.raiseCore_raised (syn % 2 ^ 16) (s.rd (FLT_SRC_CFG_Class src)) false hs ha
  have hloss := MarkKept.noteLoss (s.raiseCore src (syn % 2 ^ 16) (s.rd (FLT_SRC_CFG_Class src)) false) hs hne
  exact ⟨hloss.unacked hu, by rw [State.raise, hloss.syn, hsyn, Nat.mod_mod]⟩

/-! ### A raise, read after what follows it -/

theorem FLT_marks_plain : (∀ g < 8, (FLT_GRP_STAT_Bits g).plain = true) ∧ ∀ src < 256, (FLT_SRC_CNT_Syn src).plain = true := by
  decide +kernel

/-- What follows a raise and lists no field of the fault collector keeps it. -/
theorem Reach.raised {x y : State} {fs : List Fld} {ps : List Part} {src syn : Nat} (h : Reach x y fs ps) (hs : src < 256)
    (hf : ∀ f ∈ fs, f.off < 0x5000 ∨ 0x6000 ≤ f.off) (hr : Raised x src syn) : Raised y src syn := by
  obtain ⟨hu, hsyn⟩ := hr
  have hrd (f : Fld) (hp : f.plain = true) (h1 : 0x5000 ≤ f.off) (h2 : f.off < 0x6000) : y.rd f = x.rd f := by
    refine h.regs f hp (List.all_eq_true.2 fun g hg => ?_)
    have : f.off ≠ g.off := by have := hf g hg; omega
    simp [Fld.apart, this]
  refine ⟨?_, ?_⟩
  · rwa [State.unacked, hrd _ (FLT_marks_plain.1 _ (by omega)) (by simp only [FLT_GRP_STAT_Bits, FLT_GRP_STAT]; omega)
      (by simp only [FLT_GRP_STAT_Bits, FLT_GRP_STAT]; omega), ← State.unacked]
  · rw [hrd _ (FLT_marks_plain.2 _ hs) (by simp only [FLT_SRC_CNT_Syn, FLT_SRC_CNT]; omega)
      (by simp only [FLT_SRC_CNT_Syn, FLT_SRC_CNT]; omega), hsyn]

/-- A settled answer shows a raise. -/
theorem Raised.answer {x : State} {src syn : Nat} (hr : Raised x src syn) (hs : src < 256) (q : List Instr) :
    Raised (x.settle.requeue q) src syn := by
  obtain ⟨hu, hsyn⟩ := hr
  refine ⟨?_, ?_⟩
  · rwa [State.unacked, State.answer_rd _ _ (FLT_marks_plain.1 _ (by omega)), ← State.unacked]
  · rw [State.answer_rd _ _ (FLT_marks_plain.2 _ hs), hsyn]

end Sys2Proof.Machine
end

section
/-!
SUPPORT. An event of the event ring (R315): where there is room it waits with the frame in which it arose, else it is counted as lost.
-/
namespace Sys2Proof.Machine

set_option Elab.async false

theorem State.postEvent_of_room {s : State} (e : Event) (h : s.hif.events.length < 256) :
    s.postEvent e = { s with hif := { s.hif with events := s.hif.events ++ [{ e with frame := s.frame32 }] } } := if_pos h

theorem State.postEvent_rd (s : State) (e : Event) {f : Fld} (h : f.off ≠ HIF_EQ_LOST_CNT) : (s.postEvent e).rd f = s.rd f := by
  rw [State.postEvent]
  split
  · rfl
  · exact s.rd_wr_off (g := HIF_EQ_LOST_CNT_Cnt) _ h

theorem State.postEvent_on (s : State) (e : Event) {f : Fld} (h : f.off ≠ HIF_EQ_LOST_CNT) : (s.postEvent e).on f = s.on f := by
  rw [State.on, State.postEvent_rd s e h, State.on]

theorem Reach.postEvent {s x : State} {fs : List Fld} {ps : List Part} (h : Reach s x fs ps) (e : Event)
    (hf : HIF_EQ_LOST_CNT_Cnt ∈ fs) (hp : Part.rings ∈ ps) : Reach s (x.postEvent e) fs ps := by
  have hlost := h.wr (g := HIF_EQ_LOST_CNT_Cnt) (x.rd HIF_EQ_LOST_CNT_Cnt + 1) hf (by decide)
  rw [State.postEvent]
  split
  · exact h.setRings rfl rfl hp
  · exact hlost.setRings rfl rfl hp

/-- What posting an event reaches. -/
theorem State.postEvent_reach (s : State) (e : Event) : Reach s (s.postEvent e) [HIF_EQ_LOST_CNT_Cnt] [.rings] :=
  (Reach.refl s _ _).postEvent e (List.mem_singleton_self _) (List.mem_singleton_self _)

theorem State.postEvent_posts {s : State} (e : Event) (h : s.hif.events.length < 256) : Posts s (s.postEvent e) e := by
  rw [Posts, State.postEvent_of_room e h]

/-- An event waits in a settled answer as it was posted. -/
theorem Posts.answer {s x : State} {e : Event} (h : Posts s x e) (q : List Instr) : Posts s (x.settle.requeue q) e := by
  rw [Posts, State.requeue_hif, State.settle_hif, h]

end Sys2Proof.Machine
end

section
/-!
SUPPORT. Two-wire ports: enable, bus clear, stuck lines and alerts (R354-R356).
-/
namespace Sys2Proof.Machine

set_option Elab.async false

theorem exec_twPortEnable (p : Fin 12) (en : Bool) (s : State) : exec (.twPortEnable p en) s = done s (s.twEnable p.val en) := rfl
theorem exec_twPortClear (p : Fin 12) (s : State) : exec (.twPortClear p) s = done s (s.twClearWrite p.val) := rfl
theorem exec_twBusClear (p : Fin 12) (result : Option Bool) (s : State) :
    exec (.twBusClear p result) s = execTwBusClear p result s := rfl
theorem exec_twSclStuck (p : Fin 12) (s : State) : exec (.twSclStuck p) s = execTwSclStuck p s := rfl
theorem exec_twSclRecover (p : Fin 12) (sdaLow : Bool) (s : State) : exec (.twSclRecover p sdaLow) s = execTwSclRecover p sdaLow s := rfl
theorem exec_twAlertInput (p : Fin 12) (low : Bool) (s : State) : exec (.twAlertInput p low) s = execTwAlertInput p low s := rfl
theorem exec_twAraRead (p : Fin 12) (rx : Option (BitVec 8)) (pecOk : Bool) (s : State) :
    exec (.twAraRead p rx pecOk) s = execTwAraRead p rx pecOk s := rfl
theorem exec_twAlertLogRead (p : Fin 12) (s : State) : exec (.twAlertLogRead p) s = done s (s.readLog p.val) := rfl

/-! ### The ports -/

/-- The fields of a port that its rows write. -/
def twFlds (p : Nat) : List Fld :=
  [TW_PORT_CTL_En p, TW_PORT_STAT_Ready p, TW_PORT_STAT_Clearing p, TW_PORT_STAT_SdaStuck p, TW_PORT_STAT_SclStuck p,
   TW_PORT_STAT_Alert p, TW_PORT_CLR_CNT_Cnt p, TW_PORT_XFER_CNT_Cnt p, TW_PORT_NACK_CNT_Cnt p, TW_PORT_ALERT_LOG_Valid p,
   TW_PORT_ALERT_LOG_Addr p]

theorem twFlds_plain (p : Fin 12) : ∀ f ∈ twFlds p, f.plain = true := by revert p; decide +kernel

@[simp] theorem State.twp_wr (s : State) (f : Fld) (v p : Nat) : (s.wr f v).twp p = s.twp p := rfl
@[simp] theorem State.twp_modTgt (s : State) (g : TgtSt → TgtSt) (p : Nat) : (s.modTgt g).twp p = s.twp p := rfl
@[simp] theorem State.twp_emit (s : State) (o : Output) (p : Nat) : (s.emit o).twp p = s.twp p := rfl
@[simp] theorem State.twp_modTw (s : State) (p : Nat) (g : TwPort → TwPort) : (s.modTw p g).twp p = g (s.twp p) := nth_upd_same _ _ _
theorem State.answer_twp (x : State) (q : List Instr) (p : Nat) : (x.settle.requeue q).twp p = x.twp p := by
  rw [State.twp, State.requeue_bus, State.settle_tw, State.twp]

theorem Reach.modTw {s x : State} {fs : List Fld} {ps : List Part} (h : Reach s x fs ps) (p : Nat) (g : TwPort → TwPort)
    (hm : Part.bus ∈ ps) : Reach s (x.modTw p g) fs ps := h.setBus _ hm

theorem offFault_of_high {a : Nat} (h : 0x8000 ≤ a) : offFault a := ⟨by omega, by simp only [ONX_LOST_CNT]; omega⟩

/-- The status bits of a port lie outside what a raise writes. -/
theorem FaultSide.on_twStat {s t : State} (h : FaultSide s t) (p hi lo : Nat) : t.on ⟨TW_PORT_STAT p, hi, lo⟩ = s.on ⟨TW_PORT_STAT p, hi, lo⟩ :=
  h.on (offFault_of_high (by simp only [TW_PORT_STAT]; omega))

theorem State.postEvent_twp (s : State) (e : Event) (p : Nat) : (s.postEvent e).twp p = s.twp p := by
  rw [State.postEvent]
  split <;> rfl

/-! ### Enable (R355, R63) -/

/-- The port is enabled, Ready or not. -/
def State.twOn (s : State) (p : Nat) (ready : Bool) : State :=
  ((s.wrB (TW_PORT_CTL_En p) true).modTw p (fun t => { t with disPend := false })).wrB (TW_PORT_STAT_Ready p) ready

theorem State.twOn_shows (s : State) (p : Fin 12) (ready : Bool) : (s.twOn p ready).on (TW_PORT_CTL_En p) = true ∧
    (s.twOn p ready).on (TW_PORT_STAT_Ready p) = ready ∧ ((s.twOn p ready).twp p).disPend = false := by
  simp (disch := decide +revert +kernel) [State.twOn, State.on_wr_apart, State.on_wr_flag]

theorem State.twEnable_of_off {s : State} {p : Fin 12} (h : s.on (TW_PORT_CTL_En p) = false) :
    s.twEnable p true = s.twOn p (!(s.twp p).sclHeld && !s.on (TW_PORT_STAT_Clearing p)) := by
  have hclr : (s.wrB (TW_PORT_CTL_En p) true).on (TW_PORT_STAT_Clearing p) = s.on (TW_PORT_STAT_Clearing p) := by
    clear h; exact s.on_wr_apart _ rfl (by decide +revert +kernel)
  simp only [State.twEnable, h, hclr, State.twOn]; rfl

/-- Enabling makes the port Ready unless SCL is held or a clear runs. -/
theorem twPortEnable_on {s : State} {p : Fin 12} (h : s.on (TW_PORT_CTL_En p) = false) :
    Answers (exec (.twPortEnable p true) s) fun t => t.on (TW_PORT_CTL_En p) ∧
      t.on (TW_PORT_STAT_Ready p) = (!(s.twp p).sclHeld && !s.on (TW_PORT_STAT_Clearing p)) ∧ (t.twp p).disPend = false ∧
      Frame s t [TW_PORT_CTL_En p, TW_PORT_STAT_Ready p] [.bus] := by
  rw [exec_twPortEnable, State.twEnable_of_off h, answers_done, State.answer_on _ _ (twFlds_plain p _ (by simp [twFlds])),
    State.answer_on _ _ (twFlds_plain p _ (by simp [twFlds])), State.answer_twp]
  obtain ⟨hen, hready, hpend⟩ := s.twOn_shows p (!(s.twp p).sclHeld && !s.on (TW_PORT_STAT_Clearing p))
  exact ⟨hen, hready, hpend, ((((Reach.refl s _ _).wr _ (by simp) rfl).modTw _ _ (by simp)).wr _ (by simp) rfl).frame _⟩

/-- A disable waits for the boundary. -/
theorem twPortEnable_off {s : State} {p : Fin 12} (h : s.on (TW_PORT_CTL_En p) = true) :
    Answers (exec (.twPortEnable p false) s) fun t => t.on (TW_PORT_CTL_En p) = false ∧ (t.twp p).disPend ∧
      Frame s t [TW_PORT_CTL_En p] [.bus] := by
  have heq : s.twEnable p false = (s.wrB (TW_PORT_CTL_En p) false).modTw p (fun t => { t with disPend := true }) := by
    simp only [State.twEnable, h]; rfl
  rw [exec_twPortEnable, heq, answers_done, State.answer_on _ _ (twFlds_plain p _ (by simp [twFlds])), State.answer_twp,
    State.twp_modTw, State.modTw_on, State.wrB_eq, State.on_wr_flag _ _ rfl rfl]
  exact ⟨rfl, rfl, (((Reach.refl s _ _).wr _ (by simp) rfl).modTw _ _ (by simp)).frame _⟩

/-! ### Bus clear (R355) -/

def twClearFlds (p : Nat) : List Fld := [TW_PORT_STAT_Clearing p, TW_PORT_STAT_Ready p, TW_PORT_CLR_CNT_Cnt p]

theorem State.twClear_reach (s : State) (p : Nat) : Reach s (s.twClear p) (twClearFlds p) [] :=
  (((Reach.refl s _ _).wr _ (by simp [twClearFlds]) rfl).wr _ (by simp [twClearFlds]) rfl).wr _ (by simp [twClearFlds]) rfl

theorem State.twClear_shows (s : State) (p : Fin 12) : (s.twClear p).on (TW_PORT_STAT_Clearing p) = true ∧
    (s.twClear p).on (TW_PORT_STAT_Ready p) = false ∧
    (s.twClear p).rd (TW_PORT_CLR_CNT_Cnt p) = (s.rd (TW_PORT_CLR_CNT_Cnt p) + 1) % (TW_PORT_CLR_CNT_Cnt p).size := by
  simp (disch := decide +revert +kernel) [State.twClear, State.on_wr_apart, State.on_wr_flag, State.rd_wr_apart, State.rd_wr_same]

theorem State.twClear_twp (s : State) (p q : Nat) : (s.twClear p).twp q = s.twp q := by
  simp only [State.twClear, State.inc_eq, State.wrB_eq, State.twp_wr]

/-- What the answer shows once a clear has begun. -/
theorem twClear_answers (s x : State) (p : Fin 12) : Answers (done s (x.twClear p)) fun t => t.on (TW_PORT_STAT_Clearing p) ∧
    t.on (TW_PORT_STAT_Ready p) = false ∧
    t.rd (TW_PORT_CLR_CNT_Cnt p) = (x.rd (TW_PORT_CLR_CNT_Cnt p) + 1) % (TW_PORT_CLR_CNT_Cnt p).size := by
  rw [answers_done, State.answer_on _ _ (twFlds_plain p _ (by simp [twFlds])), State.answer_on _ _ (twFlds_plain p _ (by simp [twFlds])),
    State.answer_rd _ _ (twFlds_plain p _ (by simp [twFlds]))]
  exact x.twClear_shows p

/-- Both ways to begin a clear on an idle enabled port are the same. -/
theorem exec_twClear_idle {s : State} {p : Fin 12} (h1 : s.on (TW_PORT_CTL_En p) = true) (h2 : s.on (TW_PORT_STAT_Clearing p) = false)
    (h3 : (s.twp p).run = none) {i : Instr} (hi : i ∈ ([.twPortClear p, .twBusClear p none] : List Instr)) :
    exec i s = done s (s.twClear p) := by
  have hidle : (s.on (TW_PORT_CTL_En p) && !s.on (TW_PORT_STAT_Clearing p) && (s.twp p).run.isNone) = true := by simp [h1, h2, h3]
  simp only [List.mem_cons, List.not_mem_nil, or_false] at hi
  rcases hi with rfl | rfl
  · rw [exec_twPortClear, State.twClearWrite, if_pos hidle]
  · rw [exec_twBusClear, execTwBusClear]
    simp only [hidle, if_true]

theorem twClear_begins {s : State} {p : Fin 12} (h1 : s.on (TW_PORT_CTL_En p) = true) (h2 : s.on (TW_PORT_STAT_Clearing p) = false)
    (h3 : (s.twp p).run = none) : ∀ i ∈ ([.twPortClear p, .twBusClear p none] : List Instr),
    Answers (exec i s) fun t => t.on (TW_PORT_STAT_Clearing p) ∧ t.on (TW_PORT_STAT_Ready p) = false ∧
      t.rd (TW_PORT_CLR_CNT_Cnt p) = (s.rd (TW_PORT_CLR_CNT_Cnt p) + 1) % (TW_PORT_CLR_CNT_Cnt p).size ∧
      Frame s t [TW_PORT_STAT_Clearing p, TW_PORT_STAT_Ready p, TW_PORT_CLR_CNT_Cnt p] [] := by
  intro i hi
  obtain ⟨t, ht, hclr, hready, hcnt⟩ := twClear_answers s s p
  rw [exec_twClear_idle h1 h2 h3 hi]
  refine ⟨t, ht, hclr, hready, hcnt, ?_⟩
  cases ht
  exact (s.twClear_reach p).frame _

/-- The clear ends and SDA is free. -/
def State.twFreed (s : State) (p : Nat) : State :=
  ((s.wrB (TW_PORT_STAT_Clearing p) false).wrB (TW_PORT_STAT_SdaStuck p) false).wrB (TW_PORT_STAT_Ready p) true

/-- The clear ends and SDA is still held. -/
def State.twHeld (s : State) (p : Nat) : State := (s.wrB (TW_PORT_STAT_Clearing p) false).wrB (TW_PORT_STAT_SdaStuck p) true

theorem exec_twBusClear_end {s : State} {p : Fin 12} (h : s.on (TW_PORT_STAT_Clearing p) = true) (freed : Bool) :
    exec (.twBusClear p (some freed)) s = done s (if freed then s.twFreed p else (s.twHeld p).raise 192 p) := by
  rw [exec_twBusClear, execTwBusClear]
  simp only [h]; rfl

theorem State.twFreed_shows (s : State) (p : Fin 12) : (s.twFreed p).on (TW_PORT_STAT_Clearing p) = false ∧
    (s.twFreed p).on (TW_PORT_STAT_SdaStuck p) = false ∧ (s.twFreed p).on (TW_PORT_STAT_Ready p) = true := by
  simp (disch := decide +revert +kernel) [State.twFreed, State.on_wr_apart, State.on_wr_flag]

theorem State.twHeld_shows (s : State) (p : Fin 12) : (s.twHeld p).on (TW_PORT_STAT_Clearing p) = false ∧
    (s.twHeld p).on (TW_PORT_STAT_SdaStuck p) = true ∧ (s.twHeld p).on (TW_PORT_STAT_Ready p) = s.on (TW_PORT_STAT_Ready p) ∧
    ∀ src < 256, (s.twHeld p).on (FLT_SRC_CFG_Assigned src) = s.on (FLT_SRC_CFG_Assigned src) := by
  refine ⟨?_, ?_, ?_, fun src hs => ?_⟩
  rotate_right
  · have hoff (hi lo : Nat) : (FLT_SRC_CFG_Assigned src).apart ⟨TW_PORT_STAT p, hi, lo⟩ = true := by
      simp only [Fld.apart, FLT_SRC_CFG_Assigned, FLT_SRC_CFG, TW_PORT_STAT, Bool.or_eq_true, bne_iff_ne]; omega
    rw [State.twHeld, State.wrB_eq, State.on_wr_apart (g := TW_PORT_STAT_SdaStuck p) _ _ rfl (hoff _ _), State.wrB_eq,
      State.on_wr_apart (g := TW_PORT_STAT_Clearing p) _ _ rfl (hoff _ _)]
  all_goals simp (disch := decide +revert +kernel) [State.twHeld, State.on_wr_apart, State.on_wr_flag]

theorem twBusClear_freed {s : State} {p : Fin 12} (h : s.on (TW_PORT_STAT_Clearing p) = true) :
    Answers (exec (.twBusClear p (some true)) s) fun t => t.on (TW_PORT_STAT_Clearing p) = false ∧
      t.on (TW_PORT_STAT_SdaStuck p) = false ∧ t.on (TW_PORT_STAT_Ready p) ∧
      Frame s t [TW_PORT_STAT_Clearing p, TW_PORT_STAT_SdaStuck p, TW_PORT_STAT_Ready p] [] := by
  obtain ⟨hclr, hsda, hready⟩ := s.twFreed_shows p
  rw [exec_twBusClear_end h, if_pos rfl, answers_done, State.answer_on _ _ (twFlds_plain p _ (by simp [twFlds])),
    State.answer_on _ _ (twFlds_plain p _ (by simp [twFlds])), State.answer_on _ _ (twFlds_plain p _ (by simp [twFlds]))]
  exact ⟨hclr, hsda, hready, ((((Reach.refl s _ _).wr _ (by simp) rfl).wr _ (by simp) rfl).wr _ (by simp) rfl).frame _⟩

theorem twBusClear_held {s : State} {p : Fin 12} (h : s.on (TW_PORT_STAT_Clearing p) = true)
    (ha : s.on (FLT_SRC_CFG_Assigned 192) = true) :
    Answers (exec (.twBusClear p (some false)) s) fun t => t.on (TW_PORT_STAT_Clearing p) = false ∧
      t.on (TW_PORT_STAT_SdaStuck p) ∧ t.on (TW_PORT_STAT_Ready p) = s.on (TW_PORT_STAT_Ready p) ∧ Raised t 192 p ∧
      FrameFault s t [TW_PORT_STAT_Clearing p, TW_PORT_STAT_SdaStuck p] [] := by
  obtain ⟨hclr, hsda, hready, hassigned⟩ := s.twHeld_shows p
  have hside := FaultSide.raise (s.twHeld p) 192 p (by decide)
  have hreach : Reach s (s.twHeld p) [TW_PORT_STAT_Clearing p, TW_PORT_STAT_SdaStuck p] [] :=
    ((Reach.refl s _ _).wr _ (by simp) rfl).wr _ (by simp) rfl
  have hraised := State.raise_raised (s.twHeld p) p (by decide) (by decide) ((hassigned 192 (by decide)).trans ha)
  rw [exec_twBusClear_end h, if_neg (by decide), answers_done, State.answer_on _ _ (twFlds_plain p _ (by simp [twFlds])),
    State.answer_on _ _ (twFlds_plain p _ (by simp [twFlds])), State.answer_on _ _ (twFlds_plain p _ (by simp [twFlds]))]
  exact ⟨(hside.on_twStat p _ _).trans hclr, (hside.on_twStat p _ _).trans hsda, (hside.on_twStat p _ _).trans hready,
    hraised.answer (by decide) _, (hreach.fault.raise p (by decide)).frame _⟩

/-! ### SCL held low (R356) -/

/-- SCL is held: the port is not Ready and runs no clear; a transfer addressed to TW0 is abandoned. -/
def State.sclHold (s : State) (p : Nat) : State :=
  let s := ((s.wrB (TW_PORT_STAT_Ready p) false).wrB (TW_PORT_STAT_Clearing p) false).modTw p (fun t => { t with sclHeld := true })
  if p = 0 then s.modTgt (fun t => { t with addressed := false }) else s

theorem State.sclHold_reach (s : State) (p : Nat) :
    Reach s (s.sclHold p) [TW_PORT_STAT_SclStuck p, TW_PORT_STAT_Ready p, TW_PORT_STAT_Clearing p] [.bus] := by
  have hport : Reach s (((s.wrB (TW_PORT_STAT_Ready p) false).wrB (TW_PORT_STAT_Clearing p) false).modTw p
      (fun t => { t with sclHeld := true })) [TW_PORT_STAT_SclStuck p, TW_PORT_STAT_Ready p, TW_PORT_STAT_Clearing p] [.bus] :=
    (((Reach.refl s _ _).wr _ (by simp) rfl).wr _ (by simp) rfl).modTw _ _ (by simp)
  exact (hport.setBus _ (by simp)).ite hport

theorem State.sclHold_on (s : State) (p : Nat) (f : Fld) :
    (s.sclHold p).on f = ((s.wrB (TW_PORT_STAT_Ready p) false).wrB (TW_PORT_STAT_Clearing p) false).on f := by
  simp only [State.sclHold]
  split_ifs
  · rw [State.modTgt_on, State.modTw_on]
  · rw [State.modTw_on]

theorem State.sclHold_twp (s : State) (p : Nat) : (s.sclHold p).twp p = { s.twp p with sclHeld := true } := by
  simp only [State.sclHold]
  split_ifs
  · simp only [State.twp_modTgt, State.twp_modTw, State.wrB_eq, State.twp_wr]
  · simp only [State.twp_modTw, State.wrB_eq, State.twp_wr]

theorem State.sclHold_shows (s : State) (p : Fin 12) : (s.sclHold p).on (TW_PORT_STAT_SclStuck p) = s.on (TW_PORT_STAT_SclStuck p) ∧
    (s.sclHold p).on (TW_PORT_STAT_Ready p) = false ∧ (s.sclHold p).on (TW_PORT_STAT_Clearing p) = false := by
  simp (disch := decide +revert +kernel) [State.sclHold_on, State.on_wr_apart, State.on_wr_flag]

theorem exec_twSclStuck_idle {s : State} {p : Fin 12} (h1 : (s.twp p).sclHeld = false) (h2 : (s.twp p).run = none) :
    exec (.twSclStuck p) s = done s (((s.wrB (TW_PORT_STAT_SclStuck p) true).raise 193 p).sclHold p) := by
  have hside := FaultSide.raise (s.wrB (TW_PORT_STAT_SclStuck p) true) 193 p (by decide)
  have hlive : (((s.wrB (TW_PORT_STAT_SclStuck p) true).raise 193 p).sclHold p).twLive p = false := by
    rw [State.twLive, State.sclHold_twp, State.twp, hside.bus]
    show (match (s.twp p).run with | some r => r.preset.isNone | none => false) = false
    rw [h2]
  have heq : execTwSclStuck p s = done s (if (s.twp p).sclHeld then s
      else if (((s.wrB (TW_PORT_STAT_SclStuck p) true).raise 193 p).sclHold p).twLive p
        then (((s.wrB (TW_PORT_STAT_SclStuck p) true).raise 193 p).sclHold p).twFinish p .busError []
        else ((s.wrB (TW_PORT_STAT_SclStuck p) true).raise 193 p).sclHold p) := rfl
  rw [exec_twSclStuck, heq, h1, hlive]
  rfl

theorem twSclStuck_answers {s : State} {p : Fin 12} (h1 : (s.twp p).sclHeld = false) (h2 : (s.twp p).run = none)
    (ha : s.on (FLT_SRC_CFG_Assigned 193) = true) :
    Answers (exec (.twSclStuck p) s) fun t => (t.twp p).sclHeld ∧ t.on (TW_PORT_STAT_SclStuck p) ∧ t.on (TW_PORT_STAT_Ready p) = false ∧
      t.on (TW_PORT_STAT_Clearing p) = false ∧ Raised t 193 p ∧
      FrameFault s t [TW_PORT_STAT_SclStuck p, TW_PORT_STAT_Ready p, TW_PORT_STAT_Clearing p] [.bus] := by
  have hmark : Reach s (s.wrB (TW_PORT_STAT_SclStuck p) true) [TW_PORT_STAT_SclStuck p, TW_PORT_STAT_Ready p, TW_PORT_STAT_Clearing p]
      [.bus] := (Reach.refl s _ _).wr _ (by simp) rfl
  have hassigned : (s.wrB (TW_PORT_STAT_SclStuck p) true).on (FLT_SRC_CFG_Assigned 193) = true := by
    rw [State.wrB_eq, State.on_wr_apart _ _ rfl (by clear * -; decide +revert +kernel), ha]
  have hside := FaultSide.raise (s.wrB (TW_PORT_STAT_SclStuck p) true) 193 p (by decide)
  have hraised := State.raise_raised _ p (by decide) (by decide) hassigned
  have hstuck : (s.wrB (TW_PORT_STAT_SclStuck p) true).on (TW_PORT_STAT_SclStuck p) = true := s.on_wr_flag true rfl rfl
  rw [exec_twSclStuck_idle h1 h2, answers_done, State.answer_twp, State.sclHold_twp,
    State.answer_on _ _ (twFlds_plain p _ (by simp [twFlds])), State.answer_on _ _ (twFlds_plain p _ (by simp [twFlds])),
    State.answer_on _ _ (twFlds_plain p _ (by simp [twFlds]))]
  have hhigh : ∀ f ∈ [TW_PORT_STAT_SclStuck p, TW_PORT_STAT_Ready p, TW_PORT_STAT_Clearing p], f.off < 0x5000 ∨ 0x6000 ≤ f.off := by
    clear * -; revert p; decide +kernel
  have hreach := (hmark.fault.raise (src := 193) p (by decide)).andThen (State.sclHold_reach _ p)
  obtain ⟨hkept, hready, hclr⟩ := ((s.wrB (TW_PORT_STAT_SclStuck p) true).raise 193 p).sclHold_shows p
  refine ⟨rfl, ?_, hready, hclr, ?_, hreach.frame _⟩
  · rw [hkept]
    exact (hside.on_twStat p _ _).trans hstuck
  · exact ((State.sclHold_reach _ p).raised (by decide) hhigh hraised).answer (by decide) _

theorem exec_twSclRecover_held {s : State} {p : Fin 12} (h1 : (s.twp p).sclHeld = true) (h2 : s.on (TW_PORT_CTL_En p) = true)
    (sdaLow : Bool) : exec (.twSclRecover p sdaLow) s = done s (if sdaLow then (s.modTw p (fun t => { t with sclHeld := false })).twClear p
      else (s.modTw p (fun t => { t with sclHeld := false })).wrB (TW_PORT_STAT_Ready p) true) := by
  rw [exec_twSclRecover, execTwSclRecover]
  simp only [h1, State.modTw_on, h2]
  rfl

theorem twSclRecover_answers {s : State} {p : Fin 12} (h1 : (s.twp p).sclHeld = true) (h2 : s.on (TW_PORT_CTL_En p) = true) :
    (Answers (exec (.twSclRecover p false) s) fun t => (t.twp p).sclHeld = false ∧ t.on (TW_PORT_STAT_Ready p) ∧
      Frame s t [TW_PORT_STAT_Ready p] [.bus]) ∧
    (Answers (exec (.twSclRecover p true) s) fun t => (t.twp p).sclHeld = false ∧ t.on (TW_PORT_STAT_Clearing p) ∧
      t.on (TW_PORT_STAT_Ready p) = false) := by
  constructor
  · rw [exec_twSclRecover_held h1 h2, if_neg (by decide), answers_done, State.answer_twp,
      State.answer_on _ _ (twFlds_plain p _ (by simp [twFlds])), State.wrB_eq, State.on_wr_flag _ _ rfl rfl, State.twp_wr, State.twp_modTw]
    exact ⟨rfl, rfl, (((Reach.refl s _ _).modTw _ _ (by simp)).wr _ (by simp) rfl).frame _⟩
  · obtain ⟨t, ht, hclr, hready, -⟩ := twClear_answers s (s.modTw p (fun t => { t with sclHeld := false })) p
    rw [exec_twSclRecover_held h1 h2, if_pos rfl]
    refine ⟨t, ht, ?_, hclr, hready⟩
    cases ht
    rw [State.answer_twp, State.twClear_twp, State.twp_modTw]

/-! ### Alerts (R354) -/

theorem twAlertInput_answers {s : State} {p : Fin 12} (low : Bool) (h : s.on (TW_PORT_CFG_AlertEn p) = true) :
    Answers (exec (.twAlertInput p low) s) fun t => t.on (TW_PORT_STAT_Alert p) = low ∧ Frame s t [TW_PORT_STAT_Alert p] [] := by
  rw [exec_twAlertInput, execTwAlertInput, if_pos h, answers_done, State.answer_on _ _ (twFlds_plain p _ (by simp [twFlds])),
    State.wrB_eq, State.on_wr_flag _ _ rfl rfl]
  exact ⟨rfl, ((Reach.refl s _ _).wr _ (List.mem_singleton_self _) rfl).frame _⟩

/-- The log shows whether it holds an entry. -/
theorem State.showLog_valid (s : State) (p : Fin 12) : (s.showLog p).on (TW_PORT_ALERT_LOG_Valid p) = !(s.twp p).log.isEmpty := by
  rw [State.showLog]
  split
  next h => simp (disch := (clear * -; decide +revert +kernel)) [State.on_wr_apart, State.on_wr_flag, h]
  next h => simp (disch := (clear * -; decide +revert +kernel)) [State.on_wr_apart, State.on_wr_flag, h]

theorem State.showLog_reach (s : State) (p : Nat) : Reach s (s.showLog p) [TW_PORT_ALERT_LOG_Valid p, TW_PORT_ALERT_LOG_Addr p] [] := by
  rw [State.showLog]
  split <;> exact ((Reach.refl s _ _).wr _ (by simp) rfl).wr _ (by simp) rfl

theorem State.showLog_twp (s : State) (p q : Nat) : (s.showLog p).twp q = s.twp q := by
  rw [State.showLog]
  split <;> simp only [State.wrB_eq, State.twp_wr]

theorem State.showLog_out (s : State) (p : Nat) : (s.showLog p).out = s.out := by
  rw [State.showLog]
  split <;> simp only [State.wrB_eq, State.wr_out]

theorem twAlertLogRead_answers {s : State} {p : Fin 12} {a : Nat} {rest : List Nat} (h : (s.twp p).log = a :: rest) :
    Answers (exec (.twAlertLogRead p) s) fun t => (t.twp p).log = rest ∧
      t.out = .readData (TW_PORT_ALERT_LOG p) (s.word (TW_PORT_ALERT_LOG p)) :: s.out ∧
      t.on (TW_PORT_ALERT_LOG_Valid p) = !rest.isEmpty ∧
      Frame s t [TW_PORT_ALERT_LOG_Valid p, TW_PORT_ALERT_LOG_Addr p] [.bus, .out] := by
  have hread : s.readLog p = ((s.emit (.readData (TW_PORT_ALERT_LOG p) (s.word (TW_PORT_ALERT_LOG p)))).modTw p
      (fun t => { t with log := t.log.drop 1 })).showLog p := rfl
  have hreach : Reach s (s.readLog p) [TW_PORT_ALERT_LOG_Valid p, TW_PORT_ALERT_LOG_Addr p] [.bus, .out] := by
    rw [hread]
    exact (((Reach.refl s _ _).emit _ (by simp)).modTw _ _ (by simp)).trans ((State.showLog_reach _ p).mono (by simp) (by simp))
  rw [exec_twAlertLogRead, answers_done, State.answer_twp, State.answer_on _ _ (twFlds_plain p _ (by simp [twFlds])),
    State.requeue_out, State.settle_out]
  refine ⟨?_, ?_, ?_, hreach.frame _⟩ <;> rw [hread]
  · rw [State.showLog_twp, State.twp_modTw, State.twp_emit, h]; rfl
  · rw [State.showLog_out]; rfl
  · rw [State.showLog_valid, State.twp_modTw, State.twp_emit, h]; rfl

/-- An alert read has gone out (R373). -/
def State.araSent (s : State) (p : Nat) : State := (s.inc (TW_PORT_XFER_CNT_Cnt p)).emit (.busStart p [0x19])

/-- An address joins the log, which holds eight. -/
def State.logAlert (s : State) (p a : Nat) : State :=
  (s.modTw p (fun t => { t with log := (if t.log.length < 8 then t.log else t.log.drop 1) ++ [a] })).showLog p

theorem State.showLog_hif (s : State) (p : Nat) : (s.showLog p).hif = s.hif := by
  rw [State.showLog]
  split <;> simp only [State.wrB_eq, State.wr_hif]

theorem State.logAlert_hif (s : State) (p a : Nat) : (s.logAlert p a).hif = s.hif := State.showLog_hif _ p

/-- The log ends with the address, the register shows an entry, and frames are counted elsewhere. -/
theorem State.logAlert_shows (s : State) (p : Fin 12) (a : Nat) :
    ((s.logAlert p a).twp p).log = (if (s.twp p).log.length < 8 then (s.twp p).log else (s.twp p).log.drop 1) ++ [a] ∧
    (s.logAlert p a).on (TW_PORT_ALERT_LOG_Valid p) = true ∧ (s.logAlert p a).frame32 = s.frame32 := by
  have hfar : [TW_PORT_ALERT_LOG_Valid p, TW_PORT_ALERT_LOG_Addr p].all FRM_FRAME_CNT_LO_Lo.apart = true := by
    revert p; decide +kernel
  refine ⟨?_, ?_, ?_⟩ <;> rw [State.logAlert]
  · rw [State.showLog_twp, State.twp_modTw]
  · rw [State.showLog_valid, State.twp_modTw]
    simp
  · exact (State.showLog_reach _ p).regs FRM_FRAME_CNT_LO_Lo (by decide +kernel) hfar

/-- A port's protocol is set by its configuration alone; the alert read has been counted once. -/
theorem State.araSent_rd (s : State) (p : Fin 12) : (s.araSent p).rd (TW_PORT_CFG_Proto p) = s.rd (TW_PORT_CFG_Proto p) ∧
    (s.araSent p).rd (TW_PORT_NACK_CNT_Cnt p) = s.rd (TW_PORT_NACK_CNT_Cnt p) ∧ (s.araSent p).frame32 = s.frame32 := by
  simp only [State.araSent, State.inc_eq, State.frame32, State.emit_rd]
  refine ⟨?_, ?_, ?_⟩ <;> exact State.rd_wr_apart _ _ rfl (by decide +revert +kernel)

section AlertRead
variable {s : State} {p : Fin 12} (h1 : s.on (TW_PORT_CFG_AlertEn p) = true) (h2 : s.on (TW_PORT_ARA_AraEn p) = true)
  (h3 : s.on (TW_PORT_STAT_Alert p) = true) (h4 : s.on (TW_PORT_STAT_Ready p) = true) (h5 : (s.twp p).run = none)
  (h6 : s.twMaster p = true)
include h1 h2 h3 h4 h5 h6

theorem exec_twAraRead_unanswered (pecOk : Bool) :
    exec (.twAraRead p none pecOk) s = done s ((s.araSent p).inc (TW_PORT_NACK_CNT_Cnt p)) := by
  rw [exec_twAraRead, execTwAraRead]
  simp only [h1, h2, h3, h4, h5, h6]
  rfl

theorem exec_twAraRead_answered {b : BitVec 8} (pecOk : Bool) (hproto : s.rd (TW_PORT_CFG_Proto p) ≠ 2) :
    exec (.twAraRead p (some b) pecOk) s = done s (((s.araSent p).logAlert p (b.toNat / 2)).event 0x0400 p (b.toNat / 2) 0) := by
  obtain ⟨hkeep, -, -⟩ := s.araSent_rd p
  have hne : (s.araSent p).rd (TW_PORT_CFG_Proto p) ≠ 2 := by rwa [hkeep]
  have heq (x : State) (hx : x.rd (TW_PORT_CFG_Proto p) ≠ 2) :
      (match if x.rd (TW_PORT_CFG_Proto p) = 2 then x.takeArmed 0xA p else (0, x) with
        | (inv, y) => if y.rd (TW_PORT_CFG_Proto p) == 2 && !(pecOk && inv == 0)
            then (((y.wrB (TW_PORT_STAT_PecErr p) true).inc (TW_PORT_PEC_CNT_Cnt p)).inc (TW_PORT_ERR_CNT_Cnt p)).raise 195 (p + 16 * 0x0C)
            else (y.logAlert p (b.toNat / 2)).event 0x0400 p (b.toNat / 2) 0) =
        (x.logAlert p (b.toNat / 2)).event 0x0400 p (b.toNat / 2) 0 := by
    rw [if_neg hx]
    exact if_neg (by simp [hx])
  rw [exec_twAraRead, execTwAraRead]
  simp only [h1, h2, h3, h4, h5, h6]
  exact congrArg (done s) (heq (s.araSent p) hne)

theorem twAraRead_unanswered (pecOk : Bool) : Answers (exec (.twAraRead p none pecOk) s) fun t =>
    t.out = .busStart p [0x19] :: s.out ∧
    t.rd (TW_PORT_NACK_CNT_Cnt p) = (s.rd (TW_PORT_NACK_CNT_Cnt p) + 1) % (TW_PORT_NACK_CNT_Cnt p).size ∧
    Frame s t [TW_PORT_XFER_CNT_Cnt p, TW_PORT_NACK_CNT_Cnt p] [.out] := by
  rw [exec_twAraRead_unanswered h1 h2 h3 h4 h5 h6, answers_done, State.answer_rd _ _ (twFlds_plain p _ (by simp [twFlds])),
    State.requeue_out, State.settle_out]
  refine ⟨rfl, ?_, ((((Reach.refl s _ _).inc (by simp) rfl).emit _ (by simp)).inc (by simp) rfl).frame _⟩
  rw [State.inc_eq, State.rd_wr_same _ _ _ rfl, (s.araSent_rd p).2.1]

theorem twAraRead_answered {b : BitVec 8} (pecOk : Bool) (hproto : s.rd (TW_PORT_CFG_Proto p) ≠ 2) (hlog : (s.twp p).log.length < 8)
    (hev : s.hif.events.length < 256) : Answers (exec (.twAraRead p (some b) pecOk) s) fun t =>
      (t.twp p).log = (s.twp p).log ++ [b.toNat / 2] ∧ Posts s t { code := 0x0400, unit := p, p0 := b.toNat / 2 } ∧
      t.on (TW_PORT_ALERT_LOG_Valid p) := by
  have hframe := (s.araSent_rd p).2.2
  rw [exec_twAraRead_answered h1 h2 h3 h4 h5 h6 pecOk hproto, answers_done, State.answer_twp,
    State.answer_on _ _ (twFlds_plain p _ (by simp [twFlds]))]
  generalize hsent : s.araSent p = x at hframe
  have htwp : x.twp p = s.twp p := by rw [← hsent, State.araSent, State.twp_emit, State.inc_eq, State.twp_wr]
  have hhif : x.hif = s.hif := by rw [← hsent, State.araSent, State.emit_hif, State.inc_eq, State.wr_hif]
  obtain ⟨hlogged, hvalid, hpost⟩ := x.logAlert_shows p (b.toNat / 2)
  rw [htwp, if_pos hlog] at hlogged
  have hroom : (x.logAlert p (b.toNat / 2)).hif.events.length < 256 := by rw [State.logAlert_hif, hhif]; exact hev
  refine ⟨?_, ?_, ?_⟩
  · rw [State.event, State.postEvent_twp, hlogged]
  · have hposts := State.postEvent_posts { code := 0x0400, unit := p, p0 := b.toNat / 2, p1 := 0 } hroom
    rw [Posts, State.logAlert_hif, hhif, hpost, hframe] at hposts
    exact Posts.answer hposts _
  · rw [State.event, State.postEvent_on _ _ (by simp only [TW_PORT_ALERT_LOG_Valid, TW_PORT_ALERT_LOG, HIF_EQ_LOST_CNT]; omega), hvalid]

end AlertRead

/-- Settles O17: enable, bus clear, stuck lines and alerts, each by its own effect on the port. -/
theorem twoWirePorts : Obligations.TwoWirePorts := fun _ _ =>
  ⟨twPortEnable_on, twPortEnable_off, twClear_begins, fun h => ⟨twBusClear_freed h, twBusClear_held h⟩, twSclStuck_answers,
   twSclRecover_answers, twAlertInput_answers,
   fun h1 h2 h3 h4 h5 h6 => ⟨twAraRead_unanswered h1 h2 h3 h4 h5 h6, fun _ pecOk => twAraRead_answered h1 h2 h3 h4 h5 h6 pecOk⟩,
   fun _ _ => twAlertLogRead_answers⟩

end Sys2Proof.Machine
end

section
/-!
SUPPORT. Commands in flight and their completion (R301, R304, R309, R310): what finds a command, what runs its slot, what its completion
leaves.
-/
namespace Sys2Proof.Machine

set_option Elab.async false

/-! ### Commands in flight -/

theorem State.findCmd_tag {s : State} {tag : Nat} {c : Cmd} (h : s.findCmd tag = some c) : c.tag = tag := by
  simpa using List.find?_some h

/-- A command that waits for its execution slot. -/
theorem State.ready_eq_some {s : State} {tag opcode : Nat} {c : Cmd} :
    s.ready tag opcode = some c ↔ s.findCmd tag = some c ∧ c.opcode = opcode ∧ c.begun = false := by
  rw [State.ready]
  cases s.findCmd tag with
  | none => simp
  | some d =>
    simp only [Bool.and_eq_true, Option.some.injEq, decide_eq_true_eq, Bool.not_eq_true']
    split_ifs with h
    · simp only [Option.some.injEq]
      exact ⟨fun e => e ▸ ⟨rfl, h⟩, fun e => e.1⟩
    · simp only [false_iff]
      rintro ⟨rfl, he⟩
      exact h he

theorem State.findCmd_of_hif {s x : State} (h : x.hif.cmds = s.hif.cmds) (tag : Nat) : x.findCmd tag = s.findCmd tag := by
  rw [State.findCmd, h, State.findCmd]

theorem State.findCmd_wr (s : State) (f : Fld) (v tag : Nat) : (s.wr f v).findCmd tag = s.findCmd tag :=
  State.findCmd_of_hif (by rw [State.wr_hif]) tag

/-- The table after a change that keeps the tag. -/
theorem State.findCmd_modCmd (s : State) (tag : Nat) {g : Cmd → Cmd} (hg : ∀ c, (g c).tag = c.tag) :
    (s.modCmd tag g).findCmd tag = (s.findCmd tag).map g := by
  rw [State.findCmd, State.modCmd_hif, State.findCmd]
  induction s.hif.cmds with
  | nil => rfl
  | cons c cs ih =>
    by_cases hc : c.tag = tag
    · simp [hc, hg]
    · simpa [hc] using ih

theorem State.findCmd_ran {s : State} {tag : Nat} {c : Cmd} (h : s.findCmd tag = some c) (k : List PortionKind) :
    (s.modCmd tag (fun c => c.ran k)).findCmd tag = some (c.ran k) := by
  rw [s.findCmd_modCmd tag (g := fun c => c.ran k) (fun _ => rfl), h, Option.map_some]

theorem State.answer_findCmd (x : State) (q : List Instr) (tag : Nat) : (x.settle.requeue q).findCmd tag = x.findCmd tag :=
  State.findCmd_of_hif (by rw [State.requeue_hif, State.settle_hif]) tag

theorem Reach.modCmd {s x : State} {fs : List Fld} {ps : List Part} (h : Reach s x fs ps) (tag : Nat) (g : Cmd → Cmd)
    (hm : Part.rings ∈ ps) : Reach s (x.modCmd tag g) fs ps := h.setRings rfl rfl hm

/-! ### Completion -/

/-- A register range without a status field. -/
theorem Fld.plain_of_range {f : Fld} {lo hi : Nat} (h : statusFlds.all (fun g => decide (g.off < lo) || decide (hi ≤ g.off)) = true)
    (h1 : lo ≤ f.off) (h2 : f.off < hi) : f.plain = true := by
  refine List.all_eq_true.2 fun g hg => ?_
  have hout := List.all_eq_true.1 h g hg
  simp only [Bool.or_eq_true, decide_eq_true_eq] at hout
  have hne : f.off ≠ g.off := by omega
  simp [Fld.apart, hne]

theorem tagFld_plain {f : Fld} (h1 : 0x2C800 ≤ f.off) (h2 : f.off < 0x2CC00) : f.plain = true :=
  Fld.plain_of_range (by decide +kernel) h1 h2

theorem HIF_TAG_State_plain (tag : Fin 256) : (HIF_TAG_State tag).plain = true :=
  tagFld_plain (by simp only [HIF_TAG_State, HIF_TAG]; omega) (by simp only [HIF_TAG_State, HIF_TAG]; omega)

/-- The registers of a completion: an armed injection has fired, the tag is Held, and a refusal at admission is counted. -/
def State.holdTag (x : State) (c : Cmd) (st : Status) : State :=
  ((x.takeArmed 7 c.pair).2.wr (HIF_TAG_State c.tag) 2).when (st == .notAdmitted) (fun s => s.incSat FRM_REFUSED_CNT_Cnt)

theorem State.completeCmd_eq (x : State) (c : Cmd) (st : Status) (result : Nat) : x.completeCmd c st result =
    { x.holdTag c st with hif := { (x.holdTag c st).hif with
        cmds := (x.holdTag c st).hif.cmds.filter (fun d => d.tag != c.tag),
        comps := (x.holdTag c st).hif.comps ++ [{ pair := c.pair, sqSeq := c.sqSeq, tag := c.tag, gen := c.gen, status := st.code,
                                                   result := result % 2 ^ 64, frame := (x.holdTag c st).frame32, noIrq := c.noIrq,
                                                   dropped := c.dropped, inv := (x.takeArmed 7 c.pair).1 }] } } := by
  rw [State.completeCmd, State.holdTag]


theorem State.takeArmed_hif (s : State) (target inst : Nat) : (s.takeArmed target inst).2.hif = s.hif := by
  rcases s.takeArmed_eq target inst with e | e <;> rw [e]
  rw [State.disarm, State.modFlt_hif, State.wr_hif]

theorem State.takeArmed_rd (s : State) (target inst : Nat) {f : Fld} (h : f.off ≠ FLT_INJ) : (s.takeArmed target inst).2.rd f = s.rd f := by
  rcases s.takeArmed_eq target inst with e | e <;> rw [e]
  rw [State.disarm, State.modFlt_rd, State.rd_wr_off (g := FLT_INJ_Armed) _ _ h]

theorem State.holdTag_hif (x : State) (c : Cmd) (st : Status) : (x.holdTag c st).hif = x.hif := by
  rw [State.holdTag]
  cases st == .notAdmitted
  · rw [State.when_false, State.wr_hif, State.takeArmed_hif]
  · rw [State.when_true, State.incSat_eq, State.wr_hif, State.wr_hif, State.takeArmed_hif]

/-- A field of another register than those of a completion. -/
theorem State.holdTag_rd (x : State) (c : Cmd) (st : Status) {f : Fld} (h1 : f.off ≠ FLT_INJ) (h2 : f.off ≠ HIF_TAG c.tag)
    (h3 : f.off ≠ FRM_REFUSED_CNT) : (x.holdTag c st).rd f = x.rd f := by
  have htag : ((x.takeArmed 7 c.pair).2.wr (HIF_TAG_State c.tag) 2).rd f = x.rd f := by
    rw [State.rd_wr_off (g := HIF_TAG_State c.tag) _ _ h2, State.takeArmed_rd _ _ _ h1]
  rw [State.holdTag]
  cases st == .notAdmitted
  · exact htag
  · rw [State.when_true, State.incSat_eq, State.rd_wr_off (g := FRM_REFUSED_CNT_Cnt) _ _ h3, htag]

theorem State.holdTag_frame32 (x : State) (c : Cmd) (st : Status) : (x.holdTag c st).frame32 = x.frame32 :=
  x.holdTag_rd c st (by decide) (by simp only [FRM_FRAME_CNT_LO_Lo, FRM_FRAME_CNT_LO, HIF_TAG]; omega) (by decide)

theorem State.holdTag_tag (x : State) (c : Cmd) (st : Status) : (x.holdTag c st).rd (HIF_TAG_State c.tag) = 2 := by
  have htag (y : State) : (y.wr (HIF_TAG_State c.tag) 2).rd (HIF_TAG_State c.tag) = 2 := State.rd_wr_same y (HIF_TAG_State c.tag) 2 rfl
  rw [State.holdTag]
  cases st == .notAdmitted
  · exact htag _
  · rw [State.when_true, State.incSat_eq, State.rd_wr_off, htag]
    simp only [HIF_TAG_State, HIF_TAG, FRM_REFUSED_CNT_Cnt, FRM_REFUSED_CNT]
    omega

/-- A completion meets what O-statements say of one. -/
theorem State.completeCmd_completes (x : State) (c : Cmd) (st : Status) (result : Nat) : Completes x (x.completeCmd c st result) c st result := by
  refine ⟨⟨(x.takeArmed 7 c.pair).1, ?_⟩, ?_, ?_⟩ <;> rw [State.completeCmd_eq]
  · simp only [State.holdTag_hif, State.holdTag_frame32]
  · rw [State.findCmd, List.find?_eq_none]
    intro d hd
    simpa using (List.mem_filter.1 hd).2
  · exact x.holdTag_tag c st

theorem State.complete_of_find {x : State} {tag : Nat} {c : Cmd} (h : x.findCmd tag = some c) (st : Status) (result : Nat) :
    x.complete tag st result = x.completeCmd c st result := by
  rw [State.complete, h]

/-- A completion reaches its tag and the injection it may meet. -/
theorem Reach.completeCmd {s x : State} {fs : List Fld} {ps : List Part} (h : Reach s x fs ps) (c : Cmd) {st : Status} (result : Nat)
    (hst : st ≠ .notAdmitted) (ht : HIF_TAG_State c.tag ∈ fs) (hi : FLT_INJ_Armed ∈ fs) (hr : Part.rings ∈ ps) (hf : Part.flt ∈ ps) :
    Reach s (x.completeCmd c st result) fs ps := by
  have hhold : Reach s (x.holdTag c st) fs ps := by
    rw [State.holdTag, show (st == .notAdmitted) = false from beq_eq_false_iff_ne.2 hst]
    exact (h.takeArmed 7 c.pair hi hf).wr _ ht rfl
  exact hhold.setRings rfl rfl hr

theorem State.completeCmd_bus (x : State) (c : Cmd) (st : Status) (result : Nat) : (x.completeCmd c st result).bus = x.bus := by
  have harm : (x.takeArmed 7 c.pair).2.bus = x.bus := by
    rcases x.takeArmed_eq 7 c.pair with e | e <;> rw [e]
    rw [State.disarm, State.modFlt_bus, State.wr_bus]
  rw [State.completeCmd_eq]
  show (x.holdTag c st).bus = x.bus
  rw [State.holdTag]
  cases st == .notAdmitted
  · rw [State.when_false, State.wr_bus, harm]
  · rw [State.when_true, State.incSat_eq, State.wr_bus, State.wr_bus, harm]

/-- A completion seen from a state before it in which nothing was completed. -/
theorem Completes.from {s x t : State} {c : Cmd} {st : Status} {result : Nat} (h : Completes x t c st result)
    (hc : x.hif.comps = s.hif.comps) (hf : x.frame32 = s.frame32) : Completes s t c st result := by
  obtain ⟨⟨inv, hcomps⟩, hrest⟩ := h
  exact ⟨⟨inv, by rw [hcomps, hc, hf]⟩, hrest⟩

/-- A settled answer shows a completion. -/
theorem Completes.answer {s x : State} {c : Cmd} {st : Status} {result : Nat} (h : Completes s x c st result) (hc : c.tag < 256)
    (q : List Instr) : Completes s (x.settle.requeue q) c st result := by
  obtain ⟨hcomps, hfind, htag⟩ := h
  refine ⟨?_, ?_, ?_⟩
  · rwa [State.requeue_hif, State.settle_hif]
  · rwa [State.answer_findCmd]
  · rwa [State.answer_rd _ _ (HIF_TAG_State_plain ⟨c.tag, hc⟩)]

/-- A command that completes after changes of the table of commands alone has no other effect. -/
theorem complete_alone {s x : State} {tag : Fin 256} {c : Cmd} (h : x.findCmd tag = some c) (hx : Reach s x [] [.rings])
    (hcomps : x.hif.comps = s.hif.comps) {st : Status} (result : Nat) (hst : st ≠ .notAdmitted) :
    Answers (done s (x.complete tag st result)) fun t => CompletesAlone s t c st result := by
  have hc : c.tag < 256 := by rw [State.findCmd_tag h]; exact tag.2
  have hreach : Reach s (x.completeCmd c st result) [HIF_TAG_State c.tag, FLT_INJ_Armed] [.rings, .flt] :=
    (hx.mono (by simp) (by simp)).completeCmd c result hst List.mem_cons_self (by simp) (by simp) (by simp)
  have hframe : x.frame32 = s.frame32 := hx.regs FRM_FRAME_CNT_LO_Lo (by decide +kernel) rfl
  rw [answers_done, State.complete_of_find h]
  exact ⟨((x.completeCmd_completes c st result).from hcomps hframe).answer hc _, hreach.frame _⟩

/-- A command whose slot completes it at once, and that has no other effect. -/
theorem complete_ran_alone {s : State} {tag : Fin 256} {c : Cmd} (h : s.findCmd tag = some c) (k : List PortionKind) {st : Status}
    (result : Nat) (hst : st ≠ .notAdmitted) :
    Answers (done s ((s.modCmd tag (fun c => c.ran k)).complete tag st result)) fun t => CompletesAlone s t c st result :=
  complete_alone (State.findCmd_ran h k) ((Reach.refl s _ _).modCmd _ _ (by simp)) rfl result hst

end Sys2Proof.Machine
end

section
/-!
SUPPORT. CAN controllers: frames, reception, error states and transceivers (R364-R370).
-/
namespace Sys2Proof.Machine

set_option Elab.async false

theorem exec_canXfer (tag : Fin 256) (s : State) : exec (.canXfer tag) s = done s (s.canXferCmd tag) := rfl
theorem exec_canFrameStart (c : Fin 4) (use : BusUse) (idle : Bool) (s : State) :
    exec (.canFrameStart c use idle) s = done s (s.canStart c use idle) := rfl
theorem exec_canReceive (c : Fin 4) (ide : Bool) (id : BitVec 29) (fd : Bool) (dlc : Fin 16) (data : List Byte) (s : State) :
    exec (.canReceive c ide id fd dlc data) s = done s (s.canReceive c ide id.toNat fd dlc data) := rfl
theorem exec_canErrorStateChange (c : Fin 4) (st : Fin 3) (tec rxe : BitVec 8) (s : State) :
    exec (.canErrorStateChange c st tec rxe) s = execCanErrorStateChange c st tec rxe s := rfl
theorem exec_canBusOffRecovery (c : Fin 4) (s : State) : exec (.canBusOffRecovery c) s = execCanBusOffRecovery c s := rfl
theorem exec_canRecover (c : Fin 4) (s : State) : exec (.canRecover c) s = done s (s.canRecover c) := rfl
theorem exec_canTxDominant (c : Fin 4) (s : State) : exec (.canTxDominant c) s = execCanTxDominant c s := rfl
theorem exec_canXcvrFault (c : Fin 4) (thermal : Bool) (s : State) :
    exec (.canXcvrFault c thermal) s = done s ((s.wrB (CAN_STAT_XcvrFault c) true).raise 201 (c + 4 * b2n thermal)) := rfl

/-! ### The controllers -/

/-- The fields of a controller that its rows write. -/
def canFlds (c : Nat) : List Fld :=
  [CAN_STAT_ErrState c, CAN_STAT_Idle c, CAN_STAT_XcvrFault c, CAN_ERR_CNT_Tec c, CAN_ERR_CNT_Rec c, CAN_TX_CNT_Cnt c, CAN_RX_CNT_Cnt c,
   CAN_LOST_CNT_Cnt c, CAN_CFG_Retry c]

theorem canFlds_plain (c : Fin 4) : ∀ f ∈ canFlds c, f.plain = true := by revert c; decide +kernel

@[simp] theorem State.canc_wr (s : State) (f : Fld) (v c : Nat) : (s.wr f v).canc c = s.canc c := rfl
@[simp] theorem State.canc_emit (s : State) (o : Output) (c : Nat) : (s.emit o).canc c = s.canc c := rfl
@[simp] theorem State.canc_modCmd (s : State) (tag : Nat) (g : Cmd → Cmd) (c : Nat) : (s.modCmd tag g).canc c = s.canc c := rfl
@[simp] theorem State.canc_modSl (s : State) (m : Nat) (g : SlSt → SlSt) (c : Nat) : (s.modSl m g).canc c = s.canc c := rfl
@[simp] theorem State.canc_modCan (s : State) (c : Nat) (g : CanCtrl → CanCtrl) : (s.modCan c g).canc c = g (s.canc c) := nth_upd_same _ _ _
theorem State.answer_canc (x : State) (q : List Instr) (c : Nat) : (x.settle.requeue q).canc c = x.canc c := by
  rw [State.canc, State.requeue_bus, State.settle_can, State.canc]

theorem State.canc_postEvent (s : State) (e : Event) (c : Nat) : (s.postEvent e).canc c = s.canc c := by
  rw [State.postEvent]
  split <;> rfl

theorem FaultSide.canc {s t : State} (h : FaultSide s t) (c : Nat) : t.canc c = s.canc c := by rw [State.canc, h.bus, State.canc]

theorem Reach.modCan {s x : State} {fs : List Fld} {ps : List Part} (h : Reach s x fs ps) (c : Nat) (g : CanCtrl → CanCtrl)
    (hm : Part.bus ∈ ps) : Reach s (x.modCan c g) fs ps := h.setBus _ hm

/-! ### CAN_XFER (R367) -/

/-- What the payload is judged by does not change with the table of commands. -/
theorem State.canBad_modCmd (s : State) (tag : Nat) (g : Cmd → Cmd) (p : List Byte) : (s.modCmd tag g).canBad p = s.canBad p := rfl

theorem State.canXferCmd_of_ready {s : State} {tag : Nat} {c : Cmd} (h : s.ready tag 0x21 = some c) :
    s.canXferCmd tag = if s.canBad c.payload then (s.modCmd tag (fun c => c.ran [.start])).complete tag .refusedState 0
      else if !s.on (CAN_CTL_En (numAt c.payload 0 1)) then (s.modCmd tag (fun c => c.ran [.start])).complete tag .disabled 0
      else s.modCmd tag (fun c => c.ran [.start]) := by
  rw [State.canXferCmd, h]
  simp only [State.canBad_modCmd, State.modCmd_on]

theorem canXfer_answers {s : State} {tag : Fin 256} {c : Cmd} (h : s.ready tag 0x21 = some c) :
    (s.canBad c.payload = true → Answers (exec (.canXfer tag) s) fun t => Completes s t c .refusedState 0) ∧
    (s.canBad c.payload = false → s.on (CAN_CTL_En (numAt c.payload 0 1)) = false →
      Answers (exec (.canXfer tag) s) fun t => Completes s t c .disabled 0) ∧
    (s.canBad c.payload = false → s.on (CAN_CTL_En (numAt c.payload 0 1)) = true →
      Answers (exec (.canXfer tag) s) fun t => t.findCmd tag.val = some (c.ran [.start]) ∧ Frame s t [] [.rings]) := by
  have hfind := (State.ready_eq_some.1 h).1
  rw [exec_canXfer, State.canXferCmd_of_ready h]
  refine ⟨fun hbad => ?_, fun hbad hen => ?_, fun hbad hen => ?_⟩
  · rw [if_pos hbad]
    exact (complete_ran_alone hfind [.start] 0 (by decide)).imp fun _ ⟨ht, hc, _⟩ => ⟨ht, hc⟩
  · rw [if_neg (by simp [hbad]), if_pos (by simp [hen])]
    exact (complete_ran_alone hfind [.start] 0 (by decide)).imp fun _ ⟨ht, hc, _⟩ => ⟨ht, hc⟩
  · rw [if_neg (by simp [hbad]), if_neg (by simp [hen]), answers_done, State.answer_findCmd]
    exact ⟨State.findCmd_ran hfind _, ((Reach.refl s _ _).modCmd _ _ (by simp)).frame _⟩

/-! ### A frame's start (R366) -/

/-- What a frame's start takes: the value that waits for a member, or the command's own work. -/
def State.canLoads (s : State) (c : Nat) (use : BusUse) (idle : Bool) : State :=
  match use with
  | .member m k => s.modSl m.val (fun t => { t with wr := assocDel t.wr k.val })
  | .cmd tag => s.modCmd tag.val (fun d => { (d.ran [.bus]) with
      commit := idle && s.rd (CAN_STAT_ErrState c) != 2,
      result := if d.opcode = 0x11 then writeResult (s.cached d.point) else d.result })
  | _ => s

theorem State.canLoads_keeps (s : State) (c : Nat) (use : BusUse) (idle : Bool) : (s.canLoads c use idle).regs = s.regs ∧
    (s.canLoads c use idle).out = s.out := by
  cases use <;> exact ⟨rfl, rfl⟩

theorem State.canStart_free {s : State} {c : Nat} {use : BusUse} {r : BusRun} (idle : Bool) (h1 : s.busWork use = some r)
    (h2 : s.canOf r = some c) (h3 : (s.canc c).run = none) (h4 : s.canRestricted c = false) (h5 : s.on (CAN_CTL_En c) = true)
    (h6 : s.rd (CAN_STAT_ErrState c) ≠ 2) : ∃ id data, s.canStart c use idle =
      (((s.canLoads c use idle).modCan c (fun t => { t with run := some r })).wrB (CAN_STAT_Idle c) false).emit (.canStart c id data) := by
  have hrd : (s.canLoads c use idle).rd (CAN_STAT_ErrState c) ≠ 2 := by
    rwa [State.rd_regs, (s.canLoads_keeps c use idle).1, ← State.rd_regs]
  have heq : s.canStart c use idle = if (s.canLoads c use idle).rd (CAN_STAT_ErrState c) = 2
      then (s.canLoads c use idle).modCan c (fun t => { t with run := some { r with preset := some 10 } })
      else (((s.canLoads c use idle).modCan c (fun t => { t with run := some r })).wrB (CAN_STAT_Idle c) false).emit
        (.canStart c ((s.canLoads c use idle).canFrame r).1 ((s.canLoads c use idle).canFrame r).2) := by
    have hfree : ¬ (s.canOf r ≠ some c ∨ (s.canc c).run.isSome = true ∨ s.canRestricted c = true ∨ s.on (CAN_CTL_En c) = false) := by
      simp [h2, h3, h4, h5]
    unfold State.canStart
    rw [h1]
    dsimp only
    rw [if_neg hfree]
    cases use <;> rfl
  exact ⟨_, _, heq.trans (if_neg hrd)⟩

theorem canFrameStart_answers {s : State} {k : Fin 4} {use : BusUse} {r : BusRun} (idle : Bool) (h1 : s.busWork use = some r)
    (h2 : s.canOf r = some k.val) (h3 : (s.canc k).run = none) (h4 : s.canRestricted k = false) (h5 : s.on (CAN_CTL_En k) = true)
    (h6 : s.rd (CAN_STAT_ErrState k) ≠ 2) : Answers (exec (.canFrameStart k use idle) s) fun t => (t.canc k).run = some r ∧
      t.on (CAN_STAT_Idle k) = false ∧ ∃ id data, t.out = .canStart k id data :: s.out := by
  obtain ⟨id, data, heq⟩ := State.canStart_free idle h1 h2 h3 h4 h5 h6
  rw [exec_canFrameStart, heq, answers_done, State.answer_canc, State.answer_on _ _ (canFlds_plain k _ (by simp [canFlds])),
    State.requeue_out, State.settle_out]
  refine ⟨?_, ?_, id, data, ?_⟩
  · rw [State.canc_emit, State.wrB_eq, State.canc_wr, State.canc_modCan]
  · rw [State.emit_on, State.wrB_eq, State.on_wr_flag _ _ rfl rfl]
  · rw [← (s.canLoads_keeps k use idle).2]
    rfl

/-! ### A frame's end (R366) -/

/-- A frame was sent: the controller is free and counts it. -/
def State.canSent (s : State) (c : Nat) : State :=
  ((s.modCan c (fun t => { t with run := none })).wrB (CAN_STAT_Idle c) true).inc (CAN_TX_CNT_Cnt c)

/-- The error counters as the bus shows them. -/
def State.canErrs (s : State) (c tec rxe : Nat) : State := (s.wr (CAN_ERR_CNT_Tec c) tec).wr (CAN_ERR_CNT_Rec c) rxe

theorem State.canErrs_rd (s : State) (c : Fin 4) (tec rxe : BitVec 8) :
    (s.canErrs c tec.toNat rxe.toNat).rd (CAN_ERR_CNT_Tec c) = tec.toNat ∧ (s.canErrs c tec.toNat rxe.toNat).rd (CAN_ERR_CNT_Rec c) = rxe.toNat := by
  have htec : tec.toNat < 2 ^ 8 := tec.isLt
  have hrec : rxe.toNat < 2 ^ 8 := rxe.isLt
  constructor
  · rw [State.canErrs, State.rd_wr_apart _ _ rfl (by clear * -; decide +revert +kernel), State.rd_wr_same _ _ _ rfl]
    exact Nat.mod_eq_of_lt htec
  · rw [State.canErrs, State.rd_wr_same _ _ _ rfl]
    exact Nat.mod_eq_of_lt hrec

theorem State.canErrs_off (s : State) (c tec rxe : Nat) {f : Fld} (h : f.off ≠ CAN_ERR_CNT c) : (s.canErrs c tec rxe).rd f = s.rd f := by
  rw [State.canErrs, State.rd_wr_off (g := CAN_ERR_CNT_Rec c) _ _ h, State.rd_wr_off (g := CAN_ERR_CNT_Tec c) _ _ h]

/-- What the controller shows after a frame was sent; the table of commands and its completions are as they were. -/
theorem State.canSent_shows (s : State) (c : Fin 4) : (s.canSent c).on (CAN_STAT_Idle c) = true ∧
    (s.canSent c).rd (CAN_TX_CNT_Cnt c) = (s.rd (CAN_TX_CNT_Cnt c) + 1) % (CAN_TX_CNT_Cnt c).size ∧
    (s.canSent c).rd (CAN_ERR_CNT_Tec c) = s.rd (CAN_ERR_CNT_Tec c) ∧ (s.canSent c).rd (CAN_ERR_CNT_Rec c) = s.rd (CAN_ERR_CNT_Rec c) := by
  simp (disch := decide +revert +kernel) [State.canSent, State.on_wr_apart, State.on_wr_flag, State.rd_wr_apart, State.rd_wr_same]

theorem State.canSent_keeps (s : State) (c : Nat) : (s.canSent c).hif = s.hif ∧ (s.canSent c).frame32 = s.frame32 := by
  have hoff (a : Nat) (h : 0x32000 ≤ a) : FRM_FRAME_CNT_LO_Lo.off ≠ a := by simp only [FRM_FRAME_CNT_LO_Lo, FRM_FRAME_CNT_LO]; omega
  constructor
  · rw [State.canSent, State.inc_eq, State.wrB_eq, State.wr_hif, State.wr_hif, State.modCan_hif]
  · rw [State.frame32, State.canSent, State.inc_eq, State.wrB_eq,
      State.rd_wr_off (g := CAN_TX_CNT_Cnt c) _ _ (hoff _ (by simp only [CAN_TX_CNT_Cnt, CAN_TX_CNT]; omega)),
      State.rd_wr_off (g := CAN_STAT_Idle c) _ _ (hoff _ (by simp only [CAN_STAT_Idle, CAN_STAT]; omega)), State.modCan_rd, State.frame32]

theorem State.canSent_canc (s : State) (c : Nat) : ((s.canSent c).canc c).run = none := by
  rw [State.canSent, State.inc_eq, State.wrB_eq, State.canc_wr, State.canc_wr, State.canc_modCan]

theorem State.canFinish_sent {s : State} {k : Nat} {c : Cmd} (h : CanXferOn s k c) (res : Nat) :
    s.canFinish k .ok res = (s.canSent k).completeCmd c .ok res := by
  obtain ⟨r, tag, hrun, -, horphan, huse, hfind, hop⟩ := h
  have hcmd : (s.canSent k).runCmd r = some c := by
    rw [State.runCmd, huse]
    simp only [horphan, Bool.false_eq_true, if_false]
    rw [State.findCmd_of_hif (s := s) (by rw [(s.canSent_keeps k).1]), hfind]
  have heq : s.canFinish k .ok res = match (s.canc k).run with
    | none => s
    | some r => match (s.canSent k).runCmd r with
      | some d => if d.opcode = 0x21 then (s.canSent k).complete d.tag .ok res else (s.canSent k).accessEnd r .ok none
      | none => match r.use with
        | .cmd _ => if r.orphan then (s.canSent k).accessEnd r .ok none else s.canSent k
        | _ => (s.canSent k).accessEnd r .ok none := rfl
  have htag : (s.canSent k).findCmd c.tag = some c := by
    rw [State.findCmd_tag hfind, State.findCmd_of_hif (s := s) (by rw [(s.canSent_keeps k).1]), hfind]
  rw [heq, hrun]
  simp only [hcmd, hop, if_true]
  exact State.complete_of_find htag .ok res

/-- A controller's register is none of those a completion writes. -/
theorem State.completeCmd_canRd (x : State) (c : Cmd) (st : Status) (result : Nat) (hc : c.tag < 256) {f : Fld} (h : 0x32000 ≤ f.off) :
    (x.completeCmd c st result).rd f = x.rd f := by
  rw [State.completeCmd_eq]
  exact x.holdTag_rd c st (by simp only [FLT_INJ]; omega) (by simp only [HIF_TAG]; omega) (by simp only [FRM_REFUSED_CNT]; omega)

theorem State.canErrs_hif (s : State) (c tec rxe : Nat) : (s.canErrs c tec rxe).hif = s.hif := by
  rw [State.canErrs, State.wr_hif, State.wr_hif]

theorem exec_canFrameDone_ok {s : State} {k : Fin 4} {c : Cmd} {attempts : Fin 5} (tec rxe : BitVec 8) (h : CanXferOn s k c)
    (hn : attempts.val ≤ 1 + s.rd (CAN_CFG_Retry k)) : exec (.canFrameDone k attempts 0 tec rxe) s =
      done s (((s.canErrs k tec.toNat rxe.toNat).canSent k).completeCmd c .ok (attempts.val + 256 * tec.toNat + 65536 * rxe.toNat)) := by
  have hon : CanXferOn (s.canErrs k tec.toNat rxe.toNat) k c := by
    obtain ⟨r, tag, hrun, hpre, horphan, huse, hfind, hop⟩ := h
    refine ⟨r, tag, ?_, hpre, horphan, huse, ?_, hop⟩
    · rw [State.canErrs, State.canc_wr, State.canc_wr, hrun]
    · rw [State.findCmd_of_hif (s := s) (by rw [State.canErrs_hif]), hfind]
  have hretry : (s.canErrs k tec.toNat rxe.toNat).rd (CAN_CFG_Retry k) = s.rd (CAN_CFG_Retry k) :=
    s.canErrs_off _ _ _ (by simp only [CAN_CFG_Retry, CAN_CFG, CAN_ERR_CNT]; omega)
  obtain ⟨r, tag, hrun, hpre, -⟩ := id h
  have heq : exec (.canFrameDone k attempts 0 tec rxe) s = done s (match (s.canc k).run with
    | none => s
    | some r => (s.canErrs k tec.toNat rxe.toNat).canFinish k (if r.preset.isSome then .busError else .ok)
        (min attempts.val (1 + (s.canErrs k tec.toNat rxe.toNat).rd (CAN_CFG_Retry k)) + 256 * tec.toNat + 65536 * rxe.toNat)) := rfl
  rw [heq, hrun]
  simp only [hpre, hretry, Nat.min_eq_left hn, Option.isSome_none, Bool.false_eq_true, if_false]
  rw [State.canFinish_sent hon]

theorem canFrameDone_answers {s : State} {k : Fin 4} {c : Cmd} {attempts : Fin 5} (tec rxe : BitVec 8) (h : CanXferOn s k c)
    (hn : attempts.val ≤ 1 + s.rd (CAN_CFG_Retry k)) : Answers (exec (.canFrameDone k attempts 0 tec rxe) s) fun t =>
      Completes s t c .ok (attempts.val + 256 * tec.toNat + 65536 * rxe.toNat) ∧ (t.canc k).run = none ∧ t.on (CAN_STAT_Idle k) ∧
      t.rd (CAN_TX_CNT_Cnt k) = (s.rd (CAN_TX_CNT_Cnt k) + 1) % 2 ^ 32 ∧ t.rd (CAN_ERR_CNT_Tec k) = tec.toNat ∧
      t.rd (CAN_ERR_CNT_Rec k) = rxe.toNat := by
  have hc : c.tag < 256 := by
    obtain ⟨r, tag, -, -, -, -, hfind, -⟩ := h
    rw [State.findCmd_tag hfind]; exact tag.2
  rw [exec_canFrameDone_ok tec rxe h hn, answers_done]
  obtain ⟨htec, hrec⟩ := s.canErrs_rd k tec rxe
  have htx : (s.canErrs k tec.toNat rxe.toNat).rd (CAN_TX_CNT_Cnt k) = s.rd (CAN_TX_CNT_Cnt k) :=
    s.canErrs_off _ _ _ (by simp only [CAN_TX_CNT_Cnt, CAN_TX_CNT, CAN_ERR_CNT]; omega)
  have hframe : (s.canErrs k tec.toNat rxe.toNat).frame32 = s.frame32 :=
    s.canErrs_off _ _ _ (by simp only [FRM_FRAME_CNT_LO_Lo, FRM_FRAME_CNT_LO, CAN_ERR_CNT]; omega)
  have hhif := s.canErrs_hif k tec.toNat rxe.toNat
  generalize s.canErrs k tec.toNat rxe.toNat = x at *
  obtain ⟨hsentHif, hsentFrame⟩ := x.canSent_keeps k
  obtain ⟨hidle, hcnt, hkeepTec, hkeepRec⟩ := x.canSent_shows k
  have hdone := ((x.canSent k).completeCmd_completes c .ok (attempts.val + 256 * tec.toNat + 65536 * rxe.toNat)).from (s := s)
    (by rw [hsentHif, hhif]) (hsentFrame.trans hframe)
  have hrd (f : Fld) (hf : f ∈ canFlds k) (ho : 0x32000 ≤ f.off) (q : List Instr) :
      (((x.canSent k).completeCmd c .ok (attempts.val + 256 * tec.toNat + 65536 * rxe.toNat)).settle.requeue q).rd f = (x.canSent k).rd f :=
    (State.answer_rd _ _ (canFlds_plain k f hf)).trans (State.completeCmd_canRd _ _ _ _ hc ho)
  refine ⟨hdone.answer hc _, ?_, ?_, ?_, ?_, ?_⟩
  · rw [State.answer_canc, State.canc, (State.completeCmd_bus _ _ _ _), ← State.canc, State.canSent_canc]
  · rw [State.on, hrd _ (by simp [canFlds]) (by simp only [CAN_STAT_Idle, CAN_STAT]; omega), ← State.on, hidle]
  · rw [hrd _ (by simp [canFlds]) (by simp only [CAN_TX_CNT_Cnt, CAN_TX_CNT]; omega), hcnt, htx]
    rfl
  · rw [hrd _ (by simp [canFlds]) (by simp only [CAN_ERR_CNT_Tec, CAN_ERR_CNT]; omega), hkeepTec, htec]
  · rw [hrd _ (by simp [canFlds]) (by simp only [CAN_ERR_CNT_Rec, CAN_ERR_CNT]; omega), hkeepRec, hrec]

/-! ### Reception (R368) -/

section Receive
variable {s : State} {k : Fin 4} {ide : Bool} {id : BitVec 29} (fd : Bool) (dlc : Fin 16) (data : List Byte)
  (hen : s.on (CAN_CTL_En k) = true)
  (hpass : (List.range 32).any (fun j => s.canPass k j ide (if ide then id.toNat else id.toNat % 2 ^ 11)) = true)
include hen hpass

omit hen in
theorem State.canFilters_some :
    ((List.range 32).filter (fun j => s.canPass k j ide (if ide then id.toNat else id.toNat % 2 ^ 11))).isEmpty = false := by
  obtain ⟨j, hj, hp⟩ := List.any_eq_true.1 hpass
  rw [List.isEmpty_eq_false_iff]
  exact List.ne_nil_of_mem (List.mem_filter.2 ⟨hj, hp⟩)

/-- A frame that a filter passes and no binding takes counts and takes a place in the receive buffer. -/
theorem State.canReceive_taken (hpins : s.canPins k ide (if ide then id.toNat else id.toNat % 2 ^ 11) = [])
    (hroom : (s.canc k).taken < 64) (hquiet : (List.range 32).all (fun j => !s.on (CAN_FLT_ID_ToEq k j)) = true) :
    s.canReceive k ide id.toNat fd dlc data = (s.inc (CAN_RX_CNT_Cnt k)).modCan k (fun t => { t with taken := t.taken + 1 }) := by
  have hquiet' : ∀ j ∈ (List.range 32).filter (fun j => s.canPass k j ide (if ide then id.toNat else id.toNat % 2 ^ 11)),
      ¬ ((s.inc (CAN_RX_CNT_Cnt k)).modCan k (fun t => { t with taken := t.taken + 1 })).on (CAN_FLT_ID_ToEq k j) = true := by
    intro j hj
    have hoff : (CAN_FLT_ID_ToEq k j).off ≠ CAN_RX_CNT k := by simp only [CAN_FLT_ID_ToEq, CAN_FLT_ID, CAN_RX_CNT]; omega
    have hsame : (s.inc (CAN_RX_CNT_Cnt k)).on (CAN_FLT_ID_ToEq k j) = s.on (CAN_FLT_ID_ToEq k j) := by
      rw [State.inc_eq, State.on, State.rd_wr_off (g := CAN_RX_CNT_Cnt k) _ _ hoff, State.on]
    rw [State.modCan_on, hsame]
    simpa using List.all_eq_true.1 hquiet j (List.mem_filter.1 hj).1
  have hfull : ¬ 64 ≤ (s.canc k).taken := by omega
  unfold State.canReceive
  simp only [hpins, hen, State.canFilters_some hpass, ge_iff_le, hfull, Bool.not_true, Bool.and_false, Bool.or_false, Bool.false_eq_true,
    if_false]
  exact if_neg (by simpa [forEach] using hquiet')

theorem canReceive_counts (hpins : s.canPins k ide (if ide then id.toNat else id.toNat % 2 ^ 11) = [])
    (hroom : (s.canc k).taken < 64) (hquiet : (List.range 32).all (fun j => !s.on (CAN_FLT_ID_ToEq k j)) = true) :
    Answers (exec (.canReceive k ide id fd dlc data) s) fun t => t.rd (CAN_RX_CNT_Cnt k) = (s.rd (CAN_RX_CNT_Cnt k) + 1) % 2 ^ 32 ∧
      (t.canc k).taken = (s.canc k).taken + 1 ∧ Frame s t [CAN_RX_CNT_Cnt k] [.bus] := by
  rw [exec_canReceive, State.canReceive_taken fd dlc data hen hpass hpins hroom hquiet, answers_done,
    State.answer_rd _ _ (canFlds_plain k _ (by simp [canFlds])), State.answer_canc, State.canc_modCan, State.inc_eq, State.canc_wr,
    State.modCan_rd, State.rd_wr_same _ _ _ rfl]
  exact ⟨rfl, rfl, (((Reach.refl s _ _).wr _ (List.mem_singleton_self _) rfl).modCan _ _ (List.mem_singleton_self _)).frame _⟩

/-- With 64 frames taken in this frame the next is lost. -/
theorem State.canReceive_lost (hfull : 64 ≤ (s.canc k).taken) :
    s.canReceive k ide id.toNat fd dlc data = (s.inc (CAN_LOST_CNT_Cnt k)).raise 200 k := by
  unfold State.canReceive
  simp only [hen, State.canFilters_some hpass, ge_iff_le, hfull, Bool.not_true, Bool.and_false, Bool.or_false, Bool.false_eq_true,
    if_false, if_true]

theorem canReceive_loses (hfull : 64 ≤ (s.canc k).taken) (ha : s.on (FLT_SRC_CFG_Assigned 200) = true) :
    Answers (exec (.canReceive k ide id fd dlc data) s) fun t => t.rd (CAN_LOST_CNT_Cnt k) = (s.rd (CAN_LOST_CNT_Cnt k) + 1) % 2 ^ 32 ∧
      Raised t 200 k ∧ FrameFault s t [CAN_LOST_CNT_Cnt k] [] := by
  have hreach : Reach s (s.inc (CAN_LOST_CNT_Cnt k)) [CAN_LOST_CNT_Cnt k] [] := (Reach.refl s _ _).inc (List.mem_singleton_self _) rfl
  have hassigned : (s.inc (CAN_LOST_CNT_Cnt k)).on (FLT_SRC_CFG_Assigned 200) = true := by
    rw [State.inc_eq, State.on, State.rd_wr_off (g := CAN_LOST_CNT_Cnt k) _ _ (by
      simp only [FLT_SRC_CFG_Assigned, FLT_SRC_CFG, CAN_LOST_CNT_Cnt, CAN_LOST_CNT]; omega), ← State.on, ha]
  have hside := FaultSide.raise (s.inc (CAN_LOST_CNT_Cnt k)) 200 k (by decide)
  rw [exec_canReceive, State.canReceive_lost fd dlc data hen hpass hfull, answers_done,
    State.answer_rd _ _ (canFlds_plain k _ (by simp [canFlds])),
    hside.rd (offFault_of_high (by simp only [CAN_LOST_CNT_Cnt, CAN_LOST_CNT]; omega)), State.inc_eq, State.rd_wr_same _ _ _ rfl]
  exact ⟨rfl, (State.raise_raised _ k (by decide) (by decide) hassigned).answer (by decide) _, (hreach.fault.raise k (by decide)).frame _⟩

end Receive

/-! ### Error states (R366) -/

/-- The controller shows a new error state and posts CAN_STATE. -/
def State.canShift (s : State) (c st : Nat) : State := (s.wr (CAN_STAT_ErrState c) st).event 0x0402 c st 0

theorem State.canState_passive {s : State} {c : Nat} (h : s.rd (CAN_STAT_ErrState c) ≠ 1) : s.canState c 1 = (s.canShift c 1).raise 198 c := by
  rw [State.canState, if_neg h]
  rfl

theorem State.canState_active {s : State} {c : Nat} (h : s.rd (CAN_STAT_ErrState c) ≠ 0) : s.canState c 0 = s.canShift c 0 := by
  rw [State.canState, if_neg h]
  rfl

theorem State.canShift_rd (s : State) (c st : Nat) {f : Fld} (h1 : f.off ≠ CAN_STAT c) (h2 : f.off ≠ HIF_EQ_LOST_CNT) :
    (s.canShift c st).rd f = s.rd f := by
  rw [State.canShift, State.event, State.postEvent_rd _ _ h2, State.rd_wr_off (g := CAN_STAT_ErrState c) _ _ h1]

theorem State.canShift_errState (s : State) (c : Nat) (st : Fin 3) : (s.canShift c st).rd (CAN_STAT_ErrState c) = st := by
  rw [State.canShift, State.event, State.postEvent_rd _ _ (by simp only [CAN_STAT_ErrState, CAN_STAT, HIF_EQ_LOST_CNT]; omega),
    State.rd_wr_same _ _ _ rfl]
  exact Nat.mod_eq_of_lt (st.isLt.trans (by decide : 3 < 2 ^ 2))

theorem State.canShift_posts (s : State) (c st : Nat) (h : s.hif.events.length < 256) :
    Posts s (s.canShift c st) { code := 0x0402, unit := c, p0 := st } := by
  have hframe : (s.wr (CAN_STAT_ErrState c) st).frame32 = s.frame32 :=
    s.rd_wr_off (g := CAN_STAT_ErrState c) _ (by simp only [FRM_FRAME_CNT_LO_Lo, FRM_FRAME_CNT_LO, CAN_STAT_ErrState, CAN_STAT]; omega)
  have hposts := State.postEvent_posts (s := s.wr (CAN_STAT_ErrState c) st) { code := 0x0402, unit := c, p0 := st } h
  rwa [Posts, State.wr_hif, hframe] at hposts

theorem State.canShift_canc (s : State) (c st : Nat) : (s.canShift c st).canc c = s.canc c := by
  rw [State.canShift, State.event, State.canc_postEvent, State.canc_wr]

theorem FaultSide.events {s t : State} (h : FaultSide s t) : t.hif.events = s.hif.events := by rw [h.irq_rings]

/-- The frame in which an event arises is that of a state with the same count. -/
theorem Posts.from {s x t : State} {e : Event} (h : Posts x t e) (he : x.hif.events = s.hif.events) (hf : x.frame32 = s.frame32) :
    Posts s t e := by
  rw [Posts] at h ⊢
  rw [h, he, hf]

theorem exec_canErrorStateChange_passive {s : State} {k : Fin 4} (tec rxe : BitVec 8) (h : s.rd (CAN_STAT_ErrState k) = 0) :
    exec (.canErrorStateChange k 1 tec rxe) s = done s (((s.canErrs k tec.toNat rxe.toNat).canShift k 1).raise 198 k) := by
  have hst : (s.canErrs k tec.toNat rxe.toNat).rd (CAN_STAT_ErrState k) = 0 := by
    rw [s.canErrs_off _ _ _ (by simp only [CAN_STAT_ErrState, CAN_STAT, CAN_ERR_CNT]; omega), h]
  have heq : execCanErrorStateChange k 1 tec rxe s = done s (if s.rd (CAN_STAT_ErrState k) = 3 then s
    else (s.canErrs k tec.toNat rxe.toNat).canState k 1) := rfl
  rw [exec_canErrorStateChange, heq, if_neg (by omega), State.canState_passive (by omega)]

theorem canErrorStateChange_passive {s : State} {k : Fin 4} (tec rxe : BitVec 8) (h : s.rd (CAN_STAT_ErrState k) = 0)
    (hev : s.hif.events.length < 256) (ha : s.on (FLT_SRC_CFG_Assigned 198) = true) :
    Answers (exec (.canErrorStateChange k 1 tec rxe) s) fun t => t.rd (CAN_STAT_ErrState k) = 1 ∧
      t.rd (CAN_ERR_CNT_Tec k) = tec.toNat ∧ t.rd (CAN_ERR_CNT_Rec k) = rxe.toNat ∧
      Posts s t { code := 0x0402, unit := k, p0 := 1 } ∧ Raised t 198 k := by
  obtain ⟨htec, hrec⟩ := s.canErrs_rd k tec rxe
  have hhif := s.canErrs_hif k tec.toNat rxe.toNat
  have hframe : (s.canErrs k tec.toNat rxe.toNat).frame32 = s.frame32 :=
    s.canErrs_off _ _ _ (by simp only [FRM_FRAME_CNT_LO_Lo, FRM_FRAME_CNT_LO, CAN_ERR_CNT]; omega)
  have hassigned : (s.canErrs k tec.toNat rxe.toNat).on (FLT_SRC_CFG_Assigned 198) = true := by
    rw [State.on, s.canErrs_off _ _ _ (by simp only [FLT_SRC_CFG_Assigned, FLT_SRC_CFG, CAN_ERR_CNT]; omega), ← State.on, ha]
  rw [exec_canErrorStateChange_passive tec rxe h, answers_done]
  generalize s.canErrs k tec.toNat rxe.toNat = x at *
  have hside := FaultSide.raise (x.canShift k 1) 198 k (by decide)
  have hrd (f : Fld) (hf : f ∈ canFlds k) (ho : 0x32000 ≤ f.off) (q : List Instr) :
      (((x.canShift k 1).raise 198 k).settle.requeue q).rd f = (x.canShift k 1).rd f :=
    (State.answer_rd _ _ (canFlds_plain k f hf)).trans (hside.rd (offFault_of_high (by omega)))
  have hkeep (f : Fld) (h1 : f.off = CAN_ERR_CNT k) : (x.canShift k 1).rd f = x.rd f :=
    x.canShift_rd _ _ (by rw [h1]; simp only [CAN_ERR_CNT, CAN_STAT]; omega) (by rw [h1]; simp only [CAN_ERR_CNT, HIF_EQ_LOST_CNT]; omega)
  have hposts := (x.canShift_posts k 1 (by rwa [hhif])).from (s := s) (by rw [hhif]) hframe
  have hraised := State.raise_raised (x.canShift k 1) k (src := 198) (by decide) (by decide) (by
    rwa [State.on, x.canShift_rd _ _ (by simp only [FLT_SRC_CFG_Assigned, FLT_SRC_CFG, CAN_STAT]; omega) (by decide), ← State.on])
  refine ⟨?_, ?_, ?_, ?_, hraised.answer (by decide) _⟩
  · rw [hrd _ (by simp [canFlds]) (by simp only [CAN_STAT_ErrState, CAN_STAT]; omega)]
    exact x.canShift_errState k 1
  · rw [hrd _ (by simp [canFlds]) (by simp only [CAN_ERR_CNT_Tec, CAN_ERR_CNT]; omega), hkeep _ rfl, htec]
  · rw [hrd _ (by simp [canFlds]) (by simp only [CAN_ERR_CNT_Rec, CAN_ERR_CNT]; omega), hkeep _ rfl, hrec]
  · refine Posts.answer ?_ _
    rw [Posts, hside.events, hposts]

/-- What a recovery starts from: nothing is asked for, and both error counters are 0. -/
def State.canFresh (s : State) (c : Nat) : State := (s.modCan c (fun t => { t with recover := false })).canErrs c 0 0

theorem exec_canBusOffRecovery_allowed {s : State} {k : Fin 4} (h : s.rd (CAN_STAT_ErrState k) = 2)
    (hr : s.on (CAN_CFG_AutoRecover k) = true ∨ (s.canc k).recover = true) :
    exec (.canBusOffRecovery k) s = done s ((s.canFresh k).canShift k 0) := by
  have hst : (s.canFresh k).rd (CAN_STAT_ErrState k) ≠ 0 := by
    rw [State.canFresh, State.canErrs_off _ _ _ _ (by simp only [CAN_STAT_ErrState, CAN_STAT, CAN_ERR_CNT]; omega), State.modCan_rd, h]
    decide
  have heq : execCanBusOffRecovery k s = done s (if s.rd (CAN_STAT_ErrState k) = 2 ∧
      (s.on (CAN_CFG_AutoRecover k) || (s.canc k).recover) = true then (s.canFresh k).canState k 0 else s) := rfl
  rw [exec_canBusOffRecovery, heq, if_pos ⟨h, by simpa using hr⟩, State.canState_active hst]

theorem canBusOffRecovery_answers {s : State} {k : Fin 4} (h : s.rd (CAN_STAT_ErrState k) = 2)
    (hr : s.on (CAN_CFG_AutoRecover k) = true ∨ (s.canc k).recover = true) (hev : s.hif.events.length < 256) :
    Answers (exec (.canBusOffRecovery k) s) fun t => t.rd (CAN_STAT_ErrState k) = 0 ∧ t.rd (CAN_ERR_CNT_Tec k) = 0 ∧
      t.rd (CAN_ERR_CNT_Rec k) = 0 ∧ (t.canc k).recover = false ∧ Posts s t { code := 0x0402, unit := k, p0 := 0 } := by
  obtain ⟨htec, hrec⟩ := (s.modCan k (fun t => { t with recover := false })).canErrs_rd k 0 0
  have hhif : (s.canFresh k).hif = s.hif := by rw [State.canFresh, State.canErrs_hif, State.modCan_hif]
  have hframe : (s.canFresh k).frame32 = s.frame32 := by
    rw [State.frame32, State.canFresh, State.canErrs_off _ _ _ _ (by simp only [FRM_FRAME_CNT_LO_Lo, FRM_FRAME_CNT_LO, CAN_ERR_CNT]; omega),
      State.modCan_rd, State.frame32]
  have hcanc : ((s.canFresh k).canc k).recover = false := by
    rw [State.canFresh, State.canErrs, State.canc_wr, State.canc_wr, State.canc_modCan]
  have htec' : (s.canFresh k).rd (CAN_ERR_CNT_Tec k) = 0 := htec
  have hrec' : (s.canFresh k).rd (CAN_ERR_CNT_Rec k) = 0 := hrec
  rw [exec_canBusOffRecovery_allowed h hr, answers_done]
  generalize s.canFresh k = x at *
  have hkeep (f : Fld) (h1 : f.off = CAN_ERR_CNT k) : (x.canShift k 0).rd f = x.rd f :=
    x.canShift_rd _ _ (by rw [h1]; simp only [CAN_ERR_CNT, CAN_STAT]; omega) (by rw [h1]; simp only [CAN_ERR_CNT, HIF_EQ_LOST_CNT]; omega)
  have hposts := (x.canShift_posts k 0 (by rwa [hhif])).from (s := s) (by rw [hhif]) hframe
  refine ⟨?_, ?_, ?_, ?_, hposts.answer _⟩
  · rw [State.answer_rd _ _ (canFlds_plain k _ (by simp [canFlds]))]
    exact x.canShift_errState k 0
  · rw [State.answer_rd _ _ (canFlds_plain k _ (by simp [canFlds])), hkeep _ rfl, htec']
  · rw [State.answer_rd _ _ (canFlds_plain k _ (by simp [canFlds])), hkeep _ rfl, hrec']
  · rw [State.answer_canc, State.canShift_canc, hcanc]

theorem canRecover_answers {s : State} {k : Fin 4} (h : s.rd (CAN_STAT_ErrState k) = 2) :
    Answers (exec (.canRecover k) s) fun t => (t.canc k).recover ∧ Frame s t [] [.bus] := by
  rw [exec_canRecover, State.canRecover, if_pos h, answers_done, State.answer_canc, State.canc_modCan]
  exact ⟨rfl, ((Reach.refl s _ _).modCan _ _ (List.mem_singleton_self _)).frame _⟩

/-! ### Transceivers (R370) -/

theorem canTxDominant_answers {s : State} {k : Fin 4} (h : s.on (CAN_CFG_XcvrEn k) = true) (ha : s.on (FLT_SRC_CFG_Assigned 199) = true) :
    Answers (exec (.canTxDominant k) s) fun t => Raised t 199 k ∧ FrameFault s t [] [] := by
  rw [exec_canTxDominant, execCanTxDominant, if_pos h, answers_done]
  exact ⟨(State.raise_raised s k (by decide) (by decide) ha).answer (by decide) _,
    ((Reach.refl s _ _).fault.raise k (by decide)).frame _⟩

theorem canXcvrFault_answers {s : State} {k : Fin 4} (thermal : Bool) (ha : s.on (FLT_SRC_CFG_Assigned 201) = true) :
    Answers (exec (.canXcvrFault k thermal) s) fun t => t.on (CAN_STAT_XcvrFault k) ∧ Raised t 201 (k + 4 * b2n thermal) ∧
      FrameFault s t [CAN_STAT_XcvrFault k] [] := by
  have hreach : Reach s (s.wrB (CAN_STAT_XcvrFault k) true) [CAN_STAT_XcvrFault k] [] := (Reach.refl s _ _).wr _ (List.mem_singleton_self _) rfl
  have hassigned : (s.wrB (CAN_STAT_XcvrFault k) true).on (FLT_SRC_CFG_Assigned 201) = true := by
    rw [State.wrB_eq, State.on_wr_apart _ _ rfl (by clear * -; decide +revert +kernel), ha]
  have hside := FaultSide.raise (s.wrB (CAN_STAT_XcvrFault k) true) 201 (k + 4 * b2n thermal) (by decide)
  rw [exec_canXcvrFault, answers_done, State.answer_on _ _ (canFlds_plain k _ (by simp [canFlds])),
    hside.on (offFault_of_high (by simp only [CAN_STAT_XcvrFault, CAN_STAT]; omega)), State.wrB_eq, State.on_wr_flag _ _ rfl rfl]
  exact ⟨rfl, (State.raise_raised _ _ (by decide) (by decide) hassigned).answer (by decide) _,
    (hreach.fault.raise _ (by decide)).frame _⟩

/-- Settles O18: each row of the controllers by its own effect. -/
theorem canControllers : Obligations.CanControllers := fun _ _ =>
  ⟨fun _ _ => canXfer_answers, fun _ _ idle => canFrameStart_answers idle, fun _ _ tec rxe => canFrameDone_answers tec rxe,
   fun _ _ fd dlc data hen hpins hpass => canReceive_counts fd dlc data hen hpass hpins,
   fun _ _ fd dlc data => canReceive_loses fd dlc data, canErrorStateChange_passive, canBusOffRecovery_answers, canRecover_answers,
   canTxDominant_answers, canXcvrFault_answers⟩

end Sys2Proof.Machine
end

section
/-!
SUPPORT. NOP, FENCE, ABORT and the completion seal (R44, R55, R60-R62, R313, R319).
-/
namespace Sys2Proof.Machine

set_option Elab.async false

theorem exec_nop (tag : Fin 256) (s : State) : exec (.nop tag) s = done s (s.nop tag) := rfl
theorem exec_fence (tag : Fin 256) (s : State) : exec (.fence tag) s = done s (s.fence tag) := rfl
theorem exec_abort (tag : Fin 256) (s : State) : exec (.abort tag) s = done s (s.abort tag) := rfl
theorem exec_completionSeal (s : State) : exec .completionSeal s = done s (s.stage State.completionSeal) := rfl

theorem State.stage_eq (s : State) (f : State → State) : s.stage f = if s.frm.coreRst then s else f s := rfl

/-- A command past its commit point. -/
theorem State.findCmd_commit {s : State} {tag : Nat} {c : Cmd} (h : s.findCmd tag = some c) :
    (s.commit tag).findCmd tag = some { c with commit := true } := by
  rw [State.commit, s.findCmd_modCmd tag (g := fun c => { c with commit := true }) (fun _ => rfl), h, Option.map_some]

/-- A command that passes its commit point and completes, with no other effect. -/
theorem complete_commit_alone {s x : State} {tag : Fin 256} {c : Cmd} (h : x.findCmd tag = some c) (hx : Reach s x [] [.rings])
    (hcomps : x.hif.comps = s.hif.comps) {st : Status} (result : Nat) (hst : st ≠ .notAdmitted) :
    Answers (done s ((x.commit tag).complete tag st result)) fun t => CompletesAlone s t c st result :=
  complete_alone (State.findCmd_commit h) (hx.modCmd _ _ (by simp)) hcomps result hst

/-! ### NOP (R55, R306) -/

theorem nop_answers {s : State} {tag : Fin 256} {c : Cmd} (h : s.ready tag 0x00 = some c) :
    (zeroAt c.payload 0 40 = true → Answers (exec (.nop tag) s) fun t => CompletesAlone s t c .ok 0) ∧
    (zeroAt c.payload 0 40 = false → Answers (exec (.nop tag) s) fun t => CompletesAlone s t c .refusedState 0) := by
  have hfind := (State.ready_eq_some.1 h).1
  have heq : s.nop tag = if !zeroAt c.payload 0 40 then s.complete tag .refusedState 0 else (s.commit tag).complete tag .ok 0 := by
    rw [State.nop, h]
  rw [exec_nop, heq]
  refine ⟨fun hz => ?_, fun hz => ?_⟩ <;> rw [hz]
  · exact complete_commit_alone hfind (Reach.refl s _ _) rfl 0 (by decide)
  · exact complete_alone hfind (Reach.refl s _ _) rfl 0 (by decide)

theorem nop_unknown {s : State} {tag : Fin 256} (h : s.ready tag 0x00 = none) : Answers (exec (.nop tag) s) fun t => Frame s t [] [] := by
  have heq : s.nop tag = s := by rw [State.nop, h]
  rw [exec_nop, heq]
  exact answers_unchanged rfl

/-! ### FENCE (R61) -/

/-- Whether a fence holds does not change as commands run. -/
theorem State.fenceHeld_ran (s : State) (tag : Nat) (k : List PortionKind) (c : Cmd) :
    (s.modCmd tag (fun c => c.ran k)).fenceHeld c = s.fenceHeld c := by
  rw [State.fenceHeld, State.modCmd_hif, State.fenceHeld, List.any_map]
  refine congrArg (List.any s.hif.cmds) (funext fun d => ?_)
  simp only [Function.comp]
  split_ifs <;> rfl

theorem fence_answers {s : State} {tag : Fin 256} {c : Cmd} (h : s.ready tag 0x01 = some c) :
    (zeroAt c.payload 0 40 = false → Answers (exec (.fence tag) s) fun t => CompletesAlone s t c .refusedState 0) ∧
    (zeroAt c.payload 0 40 = true → s.fenceHeld c = false → Answers (exec (.fence tag) s) fun t => CompletesAlone s t c .ok 0) ∧
    (zeroAt c.payload 0 40 = true → s.fenceHeld c = true → Answers (exec (.fence tag) s) fun t =>
      t.findCmd tag.val = some (c.ran [.start]) ∧ Frame s t [] [.rings]) := by
  have hfind := (State.ready_eq_some.1 h).1
  have htag : c.tag = tag := State.findCmd_tag hfind
  have hran : Reach s (s.modCmd tag (fun c => c.ran [.start])) [] [.rings] := (Reach.refl s _ _).modCmd _ _ (by simp)
  have heq : s.fence tag = if !zeroAt c.payload 0 40 then s.complete tag .refusedState 0
      else if s.fenceHeld c then s.modCmd tag (fun c => c.ran [.start])
      else ((s.modCmd tag (fun c => c.ran [.start])).commit tag).complete tag .ok 0 := by
    rw [State.fence, h]
    simp only [State.fenceTry, State.fenceHeld_ran, htag]
  rw [exec_fence, heq]
  refine ⟨fun hz => ?_, fun hz hheld => ?_, fun hz hheld => ?_⟩
  · rw [hz]
    exact complete_alone hfind (Reach.refl s _ _) rfl 0 (by decide)
  · rw [hz, hheld]
    exact complete_commit_alone (State.findCmd_ran hfind [.start]) hran rfl 0 (by decide)
  · rw [hz, hheld, if_neg (by decide), if_pos rfl, answers_done, State.answer_findCmd]
    exact ⟨State.findCmd_ran hfind _, hran.frame _⟩

/-! ### ABORT (R62, R313) -/

theorem abort_answers {s : State} {tag : Fin 256} {c : Cmd} (h : s.ready tag 0x02 = some c) :
    (∀ st, c.commit = true → Status.ofCode c.result = some st → st ≠ .notAdmitted → Answers (exec (.abort tag) s) fun t =>
      CompletesAlone s t c st 0) ∧
    (c.commit = false → Answers (exec (.abort tag) s) fun t => Frame s t [] []) := by
  have hfind := (State.ready_eq_some.1 h).1
  have heq : s.abort tag = if c.commit then s.complete tag ((Status.ofCode c.result).getD .badTag) 0 else s := by rw [State.abort, h]
  rw [exec_abort, heq]
  refine ⟨fun st hcommit hof hst => ?_, fun hcommit => ?_⟩
  · rw [if_pos hcommit, hof]
    exact complete_alone hfind (Reach.refl s _ _) rfl 0 hst
  · rw [if_neg (by simp [hcommit])]
    exact answers_unchanged rfl

/-! ### The completion seal (R44, R60, R319) -/

theorem exec_completionSeal_runs {s : State} (h : s.frm.coreRst = false) :
    exec .completionSeal s = done s ((s.fences.beTimeouts).sealVecs) := by
  rw [exec_completionSeal, State.stage_eq, h, if_neg (by decide), State.completionSeal]

theorem State.beTimeouts_off {s : State} (h : s.rd FRM_CTL_BeLimit = 0) : s.beTimeouts = s := by
  rw [State.beTimeouts, if_pos h]

theorem State.sealVecs_none {s : State} (h : s.hif.vecs = []) : s.sealVecs = s := by
  rw [State.sealVecs, h]; rfl

/-- With no command in flight the seal has vectors alone to see to. -/
theorem State.seal_noCmds {s : State} (h : s.hif.cmds = []) : s.fences.beTimeouts = s := by
  have hfence : s.fences = s := by rw [State.fences, h]; rfl
  rw [hfence, State.beTimeouts, h]
  exact ite_self s

theorem completionSeal_idle {s : State} (h : s.frm.coreRst = true ∨ (s.hif.cmds = [] ∧ s.hif.vecs = [])) :
    Answers (exec .completionSeal s) fun t => Frame s t [] [] := by
  rcases hrst : s.frm.coreRst
  case true =>
    rw [exec_completionSeal, State.stage_eq, if_pos hrst]
    exact answers_unchanged rfl
  case false =>
    obtain ⟨hcmds, hvecs⟩ := h.resolve_left (by simp [hrst])
    rw [exec_completionSeal_runs hrst, State.seal_noCmds hcmds, State.sealVecs_none hvecs]
    exact answers_unchanged rfl

/-- The only command in flight is found by its tag. -/
theorem State.findCmd_single {s : State} {c : Cmd} (h : s.hif.cmds = [c]) : s.findCmd c.tag = some c := by
  rw [State.findCmd, h, List.find?_cons_of_pos (by simp)]

/-- A fence on its own holds nothing. -/
theorem State.fences_single {s : State} {c : Cmd} (h : s.hif.cmds = [c]) (hop : c.opcode = 1) (hbegun : c.begun = true) :
    s.fences = (s.commit c.tag).complete c.tag .ok 0 := by
  have hheld : s.fenceHeld c = false := by simp [State.fenceHeld, h]
  rw [State.fences, h]
  simp [forEach, hop, hbegun, State.fenceTry, hheld]

theorem State.completeCmd_vecs (x : State) (c : Cmd) (st : Status) (result : Nat) : (x.completeCmd c st result).hif.vecs = x.hif.vecs := by
  rw [State.completeCmd_eq, State.holdTag_hif]

theorem completionSeal_fence {s : State} {c : Cmd} (hrst : s.frm.coreRst = false) (hcmds : s.hif.cmds = [c]) (hvecs : s.hif.vecs = [])
    (hop : c.opcode = 1) (hbegun : c.begun = true) (htag : c.tag < 256) (hlim : s.rd FRM_CTL_BeLimit = 0) :
    Answers (exec .completionSeal s) fun t => CompletesAlone s t c .ok 0 := by
  have hfind := State.findCmd_single hcmds
  have hdone := State.complete_of_find (State.findCmd_commit hfind) .ok 0
  have hlim' : ((s.commit c.tag).completeCmd { c with commit := true } .ok 0).rd FRM_CTL_BeLimit = 0 := by
    rw [State.completeCmd_eq]
    refine (State.holdTag_rd (s.commit c.tag) { c with commit := true } .ok (f := FRM_CTL_BeLimit) (by decide) ?_ (by decide)).trans hlim
    simp only [FRM_CTL_BeLimit, FRM_CTL, HIF_TAG]; omega
  have hvecs' : ((s.commit c.tag).completeCmd { c with commit := true } .ok 0).hif.vecs = [] := by
    rw [State.completeCmd_vecs]; exact hvecs
  rw [exec_completionSeal_runs hrst, State.fences_single hcmds hop hbegun, hdone, State.beTimeouts_off hlim', State.sealVecs_none hvecs',
    ← hdone]
  exact complete_commit_alone (tag := ⟨c.tag, htag⟩) hfind (Reach.refl s _ _) rfl 0 (by decide)

/-! ### A command that ends before its work -/

/-- The bus that a command of a controller may leave idle. -/
def idleFlds : List Fld := (List.range 4).map CAN_STAT_Idle

/-- What is forgotten of a command that ends early. -/
theorem State.dropWork_reach (s : State) (c : Cmd) : Reach s (s.dropWork c) idleFlds [.lt, .sl, .bus, .pnt, .tl] := by
  have hidle (b : Nat → State → Bool) : Reach s (forN 4 s fun y k => y.when (b k y) (fun y => y.wrB (CAN_STAT_Idle k) true)) idleFlds
      [.lt, .sl, .bus, .pnt, .tl] :=
    (Reach.refl s _ _).eachN 4 fun k hk y hy => hy.when _ (hy.wr _ (List.mem_map_of_mem (List.mem_range.2 hk)) rfl)
  refine Reach.trans (hidle _) ⟨fun _ _ _ => rfl, fun p hp => ?_⟩
  cases p
  case irq => exact ⟨rfl, rfl⟩
  case requests => exact ⟨rfl, rfl, rfl⟩
  case lt | sl | bus | pnt | tl => exact absurd (by decide) hp
  all_goals rfl

/-- An effect on neither the interrupts that wait nor the rest of the host interface leaves it whole. -/
theorem Reach.hif_eq {s x : State} {fs : List Fld} {ps : List Part} (h : Reach s x fs ps) (hi : Part.irq ∉ ps) (hr : Part.rings ∉ ps) :
    x.hif = s.hif := by
  obtain ⟨hvecs, hpba⟩ := h.parts _ hi
  have hrest : x.hif = { s.hif with vecs := x.hif.vecs, pba := x.hif.pba } := h.parts _ hr
  rw [hrest, hvecs, hpba]

/-- What is forgotten of a command that ends early lies outside the table of commands and the count of frames. -/
theorem State.dropWork_keeps (s : State) (c : Cmd) : (s.dropWork c).hif = s.hif ∧ (s.dropWork c).frame32 = s.frame32 :=
  ⟨(s.dropWork_reach c).hif_eq (by decide) (by decide), (s.dropWork_reach c).regs FRM_FRAME_CNT_LO_Lo (by decide +kernel) (by decide)⟩

/-- The completion of a command that BeLimit ends. -/
theorem completionSeal_late {s : State} {c : Cmd} (hrst : s.frm.coreRst = false) (hcmds : s.hif.cmds = [c]) (hvecs : s.hif.vecs = [])
    (hop : c.opcode = 0) (htag : c.tag < 256) (hdl : c.deadline = 0) (hlim : s.rd FRM_CTL_BeLimit ≠ 0)
    (hlate : c.arrival + s.rd FRM_CTL_BeLimit ≤ s.frame) : Answers (exec .completionSeal s) fun t => Completes s t c .timeout 0 := by
  have hfence : s.fences = s := by
    rw [State.fences, hcmds]
    simp [forEach, hop]
  have hprior : s.priorValue c = 0 := by simp [State.priorValue, hop]
  have hend : s.beTimeouts = (s.dropWork c).complete c.tag .timeout 0 := by
    rw [State.beTimeouts, if_neg hlim, hcmds]
    simp [forEach, hdl, hlate, State.endCmd, hprior]
  obtain ⟨hhif, hframe⟩ := s.dropWork_keeps c
  have hfind : (s.dropWork c).findCmd c.tag = some c := by rw [State.findCmd_of_hif (s := s) (by rw [hhif]), State.findCmd_single hcmds]
  rw [exec_completionSeal_runs hrst, hfence, hend, State.complete_of_find hfind, State.sealVecs_none (by
    rw [State.completeCmd_vecs, hhif, hvecs]), answers_done]
  exact (((s.dropWork c).completeCmd_completes c .timeout 0).from (by rw [hhif]) hframe).answer htag _

theorem completionSeal_vector {s : State} {p : VecPend} (hrst : s.frm.coreRst = false) (hcmds : s.hif.cmds = []) (hvecs : s.hif.vecs = [p])
    (hdue : s.vecDue p = true) (hmask : s.masked p.vec = false) (hdma : s.dmaOk = true) :
    Answers (exec .completionSeal s) fun t => t.out = .msix p.vec :: s.out ∧ t.hif.vecs = [] ∧ Frame s t [] [.irq, .out] := by
  have heq : s.sealVecs = (s.modHif (fun h => { h with vecs := [] })).sendMsix p.vec := by
    rw [State.sealVecs, hvecs]
    simp [forEach, hdue, State.modHif, hvecs]
  have hsend : (s.modHif (fun h => { h with vecs := [] })).sendMsix p.vec =
      { s with hif := { s.hif with vecs := [], pba := setBit s.hif.pba p.vec false }, out := .msix p.vec :: s.out } := by
    have hmask' : (s.modHif (fun h => { h with vecs := [] })).masked p.vec = false := hmask
    have hdma' : (s.modHif (fun h => { h with vecs := [] })).dmaOk = true := hdma
    rw [State.sendMsix, hmask', hdma', if_neg (by decide)]
    rfl
  rw [exec_completionSeal_runs hrst, State.seal_noCmds hcmds, heq, hsend, answers_done, State.requeue_out, State.settle_out,
    State.requeue_hif, State.settle_hif]
  exact ⟨rfl, rfl, ((Reach.refl s _ _).setIrq [] _ _ (by simp) (by simp)).frame _⟩

/-- Settles O41: each of the queue's own commands by its completion, and the seal by what is in flight. -/
theorem queueCommands : Obligations.QueueCommands := fun _ _ _ =>
  ⟨nop_answers, nop_unknown, fence_answers, abort_answers, completionSeal_idle, completionSeal_fence, completionSeal_late,
   fun _ => completionSeal_vector⟩

end Sys2Proof.Machine
end

section
/-!
SUPPORT. The admission stage takes a descriptor (R50-R52, R301, R305, R308, R310, R311).
-/
namespace Sys2Proof.Machine

set_option Elab.async false

theorem exec_admissionStage (s : State) : exec .admissionStage s = done s (s.stage State.admission) := rfl

/-! ### Reading a descriptor -/

theorem leNat_lt (l : List Byte) : leNat l < 256 ^ l.length := by
  induction l with
  | nil => decide
  | cons b t ih =>
    have hb : b.toNat < 256 := b.isLt
    rw [leNat, List.length_cons, Nat.pow_succ]
    omega

theorem numAt_lt (l : List Byte) (ofs len : Nat) : numAt l ofs len < 256 ^ len :=
  (leNat_lt _).trans_le (Nat.pow_le_pow_right (by decide) (List.length_take_le _ _))

/-- The sequence number that the next descriptor of a pair carries (R301). -/
def State.nextSeq (s : State) (n : Nat) : Nat := seqAdd (s.rd (HIF_SQ_ACCEPTED_SEQ_Seq n)) 1

/-- The command that a descriptor describes. -/
def State.descCmd (s : State) (d : Fetched) : Cmd :=
  let b := padTo 64 d.bytes
  { pair := d.pair, sqSeq := s.nextSeq d.pair, tag := numAt b 5 1, gen := numAt b 6 2, opcode := numAt b 4 1, deadline := numAt b 8 2,
    arrival := s.frame, point := numAt b 12 4 % 2 ^ 20, payload := slice b 16 40, noIrq := bit (numAt b 10 2) 0 }

theorem State.descCmd_tag (s : State) (d : Fetched) : (s.descCmd d).tag < 256 := numAt_lt _ 5 1

/-! ### One descriptor -/

/-- A descriptor leaves the fetched ones and is counted by its pair's sequence number. -/
def State.counted (s : State) (d : Fetched) : State :=
  (s.modHif (fun h => { h with fetch := h.fetch.erase d })).wr (HIF_SQ_ACCEPTED_SEQ_Seq d.pair) (s.nextSeq d.pair)

theorem State.counted_reach (s : State) (d : Fetched) : Reach s (s.counted d) [HIF_SQ_ACCEPTED_SEQ_Seq d.pair] [.rings] :=
  Reach.wr (x := s.modHif (fun h => { h with fetch := h.fetch.erase d })) ((Reach.refl s _ _).setRings rfl rfl (by simp)) _ (by simp) rfl

theorem State.counted_seq (s : State) (d : Fetched) : (s.counted d).rd (HIF_SQ_ACCEPTED_SEQ_Seq d.pair) = s.nextSeq d.pair := by
  rw [State.counted, State.rd_wr_same _ _ _ rfl]
  exact Nat.mod_mod _ _

theorem State.counted_rd (s : State) (d : Fetched) {f : Fld} (h : f.off ≠ HIF_SQ_ACCEPTED_SEQ d.pair) : (s.counted d).rd f = s.rd f := by
  rw [State.counted, State.rd_wr_off (g := HIF_SQ_ACCEPTED_SEQ_Seq d.pair) _ _ h, State.modHif_rd]

theorem State.counted_hif (s : State) (d : Fetched) : (s.counted d).hif = { s.hif with fetch := s.hif.fetch.erase d } := by
  rw [State.counted, State.wr_hif, State.modHif_hif]

theorem State.counted_frame32 (s : State) (d : Fetched) : (s.counted d).frame32 = s.frame32 :=
  s.counted_rd d (by simp only [FRM_FRAME_CNT_LO_Lo, FRM_FRAME_CNT_LO, HIF_SQ_ACCEPTED_SEQ]; omega)

theorem State.counted_frame (s : State) (d : Fetched) : (s.counted d).frame = s.frame := by
  simp only [State.frame]
  rw [s.counted_rd d (by simp only [FRM_FRAME_CNT_LO_Lo, FRM_FRAME_CNT_LO, HIF_SQ_ACCEPTED_SEQ]; omega),
    s.counted_rd d (by simp only [FRM_FRAME_CNT_HI_Hi, FRM_FRAME_CNT_HI, HIF_SQ_ACCEPTED_SEQ]; omega)]

/-- What a command without a point is judged disabled by lies in other registers than the sequence numbers. -/
theorem State.takeDisabled_counted (s : State) (d : Fetched) {op : Nat} (point : Nat) (p : List Byte) (hop : takesPoint op = false) :
    (s.counted d).takeDisabled op point p = s.takeDisabled op point p := by
  have hoff {a : Nat} (h : a % 64 ≠ 24) : a ≠ HIF_SQ_ACCEPTED_SEQ d.pair := by simp only [HIF_SQ_ACCEPTED_SEQ]; omega
  have hon (f : Fld) (h : f.off % 64 ≠ 24) : (s.counted d).on f = s.on f := by rw [State.on, s.counted_rd d (hoff h), State.on]
  have hef (e : Nat) : (s.counted d).on (EF_CTL_En e) = s.on (EF_CTL_En e) ∧ (s.counted d).on (EF_CFG_RailEn e) = s.on (EF_CFG_RailEn e) ∧
      (s.counted d).on (EF_STAT_ShedOff e) = s.on (EF_STAT_ShedOff e) ∧ (s.counted d).on (EF_STAT_HuOff e) = s.on (EF_STAT_HuOff e) ∧
      (s.counted d).efState e = s.efState e := by
    refine ⟨hon _ ?_, hon _ ?_, hon _ ?_, hon _ ?_, s.counted_rd d (hoff ?_)⟩ <;>
      simp only [EF_CTL_En, EF_CTL, EF_CFG_RailEn, EF_CFG, EF_STAT_ShedOff, EF_STAT_HuOff, EF_STAT_State, EF_STAT] <;> omega
  have hefuse : (s.counted d).efuseCheck p = s.efuseCheck p := by simp only [State.efuseCheck, hef]
  have hport : (s.counted d).on (TW_PORT_CTL_En (numAt p 0 1)) = s.on (TW_PORT_CTL_En (numAt p 0 1)) :=
    hon _ (by simp only [TW_PORT_CTL_En, TW_PORT_CTL]; omega)
  have hcan : (s.counted d).on (CAN_CTL_En (numAt p 0 1)) = s.on (CAN_CTL_En (numAt p 0 1)) :=
    hon _ (by simp only [CAN_CTL_En, CAN_CTL]; omega)
  unfold State.takeDisabled
  split
  case h_1 | h_2 | h_3 => exact absurd hop (by decide)
  case h_4 => rw [hefuse]
  case h_5 => rw [hon SEQ_CTL_En (by decide)]
  case h_6 => rw [hon CAP_CTL_En (by decide)]
  case h_7 => rw [hport]
  case h_8 => rw [hcan]
  case h_9 => rfl

/-- The faults of a descriptor's CRC and sequence number (R308). -/
def State.descFault (s : State) (d : Fetched) : Nat :=
  b2n (!crcGood (padTo 64 d.bytes)) + 2 * b2n (numAt (padTo 64 d.bytes) 0 4 != s.nextSeq d.pair)

/-- With no injection armed a descriptor is judged as it is. -/
theorem State.takeDesc_eq {s : State} (d : Fetched) (h : s.flt.armed = none) :
    (s.modHif (fun h => { h with fetch := h.fetch.erase d })).takeDesc d =
      if s.descFault d ≠ 0 then
        (((s.counted d).inc HIF_BADCRC_CNT_Cnt).raise 32 (d.pair + 4 * s.descFault d)).failTake (s.descCmd d) .badCrc (s.descFault d)
      else if (s.counted d).rd (HIF_TAG_State (s.descCmd d).tag) ≠ 0 ∨ (s.counted d).rd (HIF_TAG_Gen (s.descCmd d).tag) = (s.descCmd d).gen then
        (((s.counted d).inc HIF_BADTAG_CNT_Cnt).raise 39 (s.descCmd d).tag).failTake (s.descCmd d) .badTag
          ((s.counted d).word (HIF_TAG (s.descCmd d).tag)).toNat
      else if descBad (s.descCmd d).opcode (numAt (padTo 64 d.bytes) 10 2) (numAt (padTo 64 d.bytes) 12 4) (padTo 64 d.bytes) then
        (s.counted d).failTake (s.descCmd d) .refusedState 0
      else if (s.counted d).takeDisabled (s.descCmd d).opcode (s.descCmd d).point (s.descCmd d).payload then
        (s.counted d).failTake (s.descCmd d) .disabled 0
      else if takesPoint (s.descCmd d).opcode && !(s.counted d).pointKnown (s.descCmd d).point then
        (s.counted d).failTake (s.descCmd d) .pointUnknown 0
      else (s.counted d).admitCmd (s.descCmd d) := by
  have harm : (s.counted d).takeArmed 6 d.pair = (0, s.counted d) := by
    rw [State.takeArmed, State.counted, State.wr_flt, State.modHif_flt, h]
  have hframe : (s.counted d).frame = s.frame := s.counted_frame d
  have hcounted : (s.modHif (fun h => { h with fetch := h.fetch.erase d })).wr (HIF_SQ_ACCEPTED_SEQ_Seq d.pair)
      (seqAdd (s.rd (HIF_SQ_ACCEPTED_SEQ_Seq d.pair)) 1) = s.counted d := rfl
  unfold State.takeDesc
  simp only [State.modHif_rd, hcounted, harm, hframe, bne_self_eq_false, Bool.or_false]
  rfl

/-! ### The stage, limited to one descriptor (R50) -/

theorem State.nextFetched_pair {s : State} {d : Fetched} (h : s.nextFetched = some d) : d.pair < 4 := by
  rw [State.nextFetched] at h
  split_ifs at h
  obtain ⟨n, hn, hd⟩ := List.mem_filterMap.1 (List.mem_of_mem_head? h)
  split_ifs at hd
  have hpair := List.find?_some hd
  rw [beq_iff_eq] at hpair
  rw [hpair]
  exact List.mem_range.1 hn

theorem State.sendTakes_none {x : State} (h : x.red.takes = []) : x.sendTakes = x := by
  have hred : x.modRed (fun r => { r with takes := [] }) = x := by
    rw [State.modRed, ← h]
  rw [State.sendTakes, h, hred]
  rfl

theorem exec_admissionStage_runs {s : State} (h : s.frm.coreRst = false) : exec .admissionStage s = done s s.admission := by
  rw [exec_admissionStage, State.stage_eq, h, if_neg (by decide)]

theorem admissionStage_idle {s : State} (h : s.frm.coreRst = true ∨ (s.nextFetched = none ∧ s.red.takes = [])) :
    Answers (exec .admissionStage s) fun t => Frame s t [] [] := by
  rcases hrst : s.frm.coreRst
  case true =>
    rw [exec_admissionStage, State.stage_eq, if_pos hrst]
    exact answers_unchanged rfl
  case false =>
    obtain ⟨hnext, htakes⟩ := h.resolve_left (by simp [hrst])
    have hnone (k : Nat) : s.takeMany k = s := by
      cases k with
      | zero => rfl
      | succ j => rw [State.takeMany, hnext]
    rw [exec_admissionStage_runs hrst, State.admission]
    simp only [hnone, State.sendTakes_none htakes]
    exact answers_unchanged rfl

/-- One descriptor is taken, and nothing waits to be mirrored to a peer. -/
theorem exec_admissionStage_one {s y : State} {d : Fetched} (hrst : s.frm.coreRst = false) (hmax : s.rd FRM_CTL_AdmitMax = 1)
    (hnext : s.nextFetched = some d) (htakes : s.red.takes = [])
    (hy : (s.modHif (fun h => { h with fetch := h.fetch.erase d })).takeDesc d = y) (hred : y.red = s.red) :
    exec .admissionStage s = done s y := by
  have hone : s.takeMany 1 = y := by
    rw [State.takeMany, hnext]
    exact hy
  rw [exec_admissionStage_runs hrst, State.admission, hmax]
  show done s (s.takeMany 1).sendTakes = done s y
  rw [hone, State.sendTakes_none (by rw [hred, htakes])]

theorem State.counted_red (s : State) (d : Fetched) : (s.counted d).red = s.red := by
  rw [State.counted, State.wr_red, State.modHif_red]

/-! ### Descriptors that fail at take (R308) -/

theorem State.failTake_reach (x : State) (c : Cmd) (st : Status) (result : Nat) : Reach x (x.failTake c st result) [] [.rings] :=
  (Reach.refl x _ _).setRings rfl rfl (by simp)

/-- A completion that holds no tag. -/
theorem State.failTake_comps (x : State) (c : Cmd) (st : Status) (result : Nat) (q : List Instr) :
    ((x.failTake c st result).settle.requeue q).hif.cmds = x.hif.cmds ∧
    ∃ e : Comp, ((x.failTake c st result).settle.requeue q).hif.comps = x.hif.comps ++ [e] ∧ e.status = st.code ∧ e.tag = c.tag ∧
      e.hasTag = false := by
  rw [State.requeue_hif, State.settle_hif]
  exact ⟨rfl, _, rfl, rfl, rfl, rfl⟩

theorem HIF_SQ_ACCEPTED_SEQ_Seq_plain : ∀ n < 4, (HIF_SQ_ACCEPTED_SEQ_Seq n).plain = true := by decide +kernel

/-- A descriptor that is counted as bad and raised. -/
def State.rejects (s : State) (d : Fetched) (cnt : Fld) (src syn : Nat) (st : Status) (result : Nat) : State :=
  (((s.counted d).inc cnt).raise src syn).failTake (s.descCmd d) st result

theorem State.rejects_red (s : State) (d : Fetched) (cnt : Fld) {src : Nat} (syn : Nat) (st : Status) (result : Nat) (hs : src < 256) :
    (s.rejects d cnt src syn st result).red = s.red := by
  rw [State.rejects, State.failTake, State.modHif_red, (FaultSide.raise _ src syn hs).red, State.inc_eq, State.wr_red, State.counted_red]

def badCounts : List Fld := [HIF_BADCRC_CNT_Cnt, HIF_BADTAG_CNT_Cnt]

theorem badCounts_facts : ∀ f ∈ badCounts, f.plain = true ∧ f.ok = true ∧ 0x2C000 ≤ f.off ∧ f.off < 0x2C100 := by decide +kernel

theorem rejects_answers (s : State) (d : Fetched) {cnt : Fld} {src : Nat} (syn : Nat) (st : Status) (result : Nat)
    (hcnt : cnt ∈ badCounts) (hpair : d.pair < 4) (hs : src < 256) (hne : src ≠ 233) (ha : s.on (FLT_SRC_CFG_Assigned src) = true) :
    Answers (done s (s.rejects d cnt src syn st result)) fun t => t.rd (HIF_SQ_ACCEPTED_SEQ_Seq d.pair) = s.nextSeq d.pair ∧
      t.rd cnt = (s.rd cnt + 1) % cnt.size ∧ Raised t src syn ∧ t.hif.cmds = s.hif.cmds ∧
      (∃ c : Comp, t.hif.comps = s.hif.comps ++ [c] ∧ c.status = st.code ∧ c.tag = (s.descCmd d).tag ∧ c.hasTag = false) ∧
      FrameFault s t [HIF_SQ_ACCEPTED_SEQ_Seq d.pair, cnt] [.rings] := by
  obtain ⟨hplain, hok, hlo, hhi⟩ := badCounts_facts cnt hcnt
  have hoff : cnt.off ≠ HIF_SQ_ACCEPTED_SEQ d.pair := by simp only [HIF_SQ_ACCEPTED_SEQ]; omega
  have hassigned : ((s.counted d).inc cnt).on (FLT_SRC_CFG_Assigned src) = true := by
    rw [State.on, State.inc_eq, State.rd_wr_off (g := cnt) _ _ (by simp only [FLT_SRC_CFG_Assigned, FLT_SRC_CFG]; omega),
      s.counted_rd d (by simp only [FLT_SRC_CFG_Assigned, FLT_SRC_CFG, HIF_SQ_ACCEPTED_SEQ]; omega), ← State.on, ha]
  have hside := FaultSide.raise ((s.counted d).inc cnt) src syn hs
  have hraised := State.raise_raised _ syn hs hne hassigned
  have hcounted : Reach s ((s.counted d).inc cnt) [HIF_SQ_ACCEPTED_SEQ_Seq d.pair, cnt] [.rings] :=
    ((s.counted_reach d).mono (by simp) (by simp)).inc (by simp) hok
  have hfail := State.failTake_reach (((s.counted d).inc cnt).raise src syn) (s.descCmd d) st result
  obtain ⟨hcmds, e, hcomps, hstatus, htag, hnone⟩ := State.failTake_comps (((s.counted d).inc cnt).raise src syn) (s.descCmd d) st result
    s.pending
  have hhif : (((s.counted d).inc cnt).raise src syn).hif.cmds = s.hif.cmds ∧
      (((s.counted d).inc cnt).raise src syn).hif.comps = s.hif.comps := by
    rw [hside.irq_rings, State.inc_eq, State.wr_hif, State.counted_hif]
    exact ⟨rfl, rfl⟩
  rw [answers_done, State.answer_rd _ _ (HIF_SQ_ACCEPTED_SEQ_Seq_plain _ hpair), State.answer_rd _ _ hplain]
  refine ⟨?_, ?_, (hfail.raised hs (by simp) hraised).answer hs _, ?_, ⟨e, ?_, hstatus, htag, hnone⟩, ?_⟩
  · rw [State.rejects, hfail.regs _ (HIF_SQ_ACCEPTED_SEQ_Seq_plain _ hpair) rfl,
      hside.rd (offFault_of_high (by simp only [HIF_SQ_ACCEPTED_SEQ_Seq, HIF_SQ_ACCEPTED_SEQ]; omega)), State.inc_eq,
      State.rd_wr_off (g := cnt) _ _ (Ne.symm hoff), State.counted_seq]
  · rw [State.rejects, hfail.regs _ hplain rfl, hside.rd (offFault_of_high (by omega)), State.inc_eq, State.rd_wr_same _ _ _ hok,
      s.counted_rd d hoff]
  · exact hcmds.trans hhif.1
  · exact hcomps.trans (by rw [hhif.2])
  · exact (((hcounted.fault.raise syn hs).andThen (hfail.mono (by simp) (by simp)))).frame _

/-! ### A descriptor with a tag enters the table (R301, R310) -/

/-- The tag of a command is InFlight, with its pair and generation. -/
def State.takeTag (x : State) (c : Cmd) : State :=
  ((x.wr (HIF_TAG_State c.tag) 1).wr (HIF_TAG_Pair c.tag) c.pair).wr (HIF_TAG_Gen c.tag) c.gen

/-- The command has entered the table under its tag. -/
def State.enter (x : State) (c : Cmd) : State := (x.takeTag c).modHif (fun h => { h with cmds := h.cmds ++ [c] })

theorem State.takeTag_rd (x : State) (c : Cmd) {f : Fld} (h : f.off ≠ HIF_TAG c.tag) : (x.takeTag c).rd f = x.rd f := by
  rw [State.takeTag, State.rd_wr_off (g := HIF_TAG_Gen c.tag) _ _ h, State.rd_wr_off (g := HIF_TAG_Pair c.tag) _ _ h,
    State.rd_wr_off (g := HIF_TAG_State c.tag) _ _ h]

theorem State.takeTag_shows (x : State) (c : Cmd) : (x.takeTag c).rd (HIF_TAG_State c.tag) = 1 ∧
    (x.takeTag c).rd (HIF_TAG_Pair c.tag) = c.pair % 4 ∧ (x.takeTag c).rd (HIF_TAG_Gen c.tag) = c.gen % 2 ^ 16 := by
  have hap (a b : Fld) (h : a.hi < b.lo ∨ b.hi < a.lo) : a.apart b = true := by
    simp only [Fld.apart, Bool.or_eq_true, decide_eq_true_eq, bne_iff_ne]
    omega
  refine ⟨?_, ?_, ?_⟩ <;> rw [State.takeTag]
  · rw [State.rd_wr_apart _ _ rfl (hap _ _ (by simp [HIF_TAG_State, HIF_TAG_Gen])),
      State.rd_wr_apart _ _ rfl (hap _ _ (by simp [HIF_TAG_State, HIF_TAG_Pair])), State.rd_wr_same _ _ _ rfl]
    rfl
  · rw [State.rd_wr_apart _ _ rfl (hap _ _ (by simp [HIF_TAG_Pair, HIF_TAG_Gen])), State.rd_wr_same _ _ _ rfl]
    rfl
  · rw [State.rd_wr_same _ _ _ rfl]
    rfl

theorem State.takeTag_keeps (x : State) (c : Cmd) : (x.takeTag c).hif = x.hif ∧ (x.takeTag c).red = x.red := by
  rw [State.takeTag]
  exact ⟨by rw [State.wr_hif, State.wr_hif, State.wr_hif], by rw [State.wr_red, State.wr_red, State.wr_red]⟩

/-- Without an established pair nothing is mirrored to the peer (R397). -/
theorem State.admitCmd_alone {x : State} {c : Cmd} (hc : c.tag < 256) (h : x.redState = 0) : x.admitCmd c =
    if c.deadline = 0 then x.enter c
    else match (x.enter c).admitPlan c with
      | some l => (x.enter c).modCmd c.tag (fun d => { d with plan := l })
      | none => (x.enter c).complete c.tag .notAdmitted 0 := by
  have hstate : (x.takeTag c).redState ≠ 2 := by
    rw [State.redState, x.takeTag_rd c (f := RED_STAT_State) (by simp only [RED_STAT_State, RED_STAT, HIF_TAG]; omega), ← State.redState, h]
    decide
  have hred (y : State) (hy : y.redState ≠ 2) :
      y.modRed (fun r => { r with takes := if y.redState = 2 then r.takes ++ [(c.pair, c.tag, c.gen)] else r.takes }) = y := by
    simp only [if_neg hy]
    rfl
  have heq : x.admitCmd c = (fun y : State => if c.deadline = 0 then y else match y.admitPlan c with
      | some l => y.modCmd c.tag (fun d => { d with plan := l })
      | none => y.complete c.tag .notAdmitted 0)
    (((x.takeTag c).modRed (fun r => { r with takes :=
      if (x.takeTag c).redState = 2 then r.takes ++ [(c.pair, c.tag, c.gen)] else r.takes })).modHif
        (fun h => { h with cmds := h.cmds ++ [c] })) := rfl
  rw [heq, hred _ hstate]
  rfl

theorem HIF_TAG_plain (tag : Nat) (h : tag < 256) :
    (HIF_TAG_State tag).plain = true ∧ (HIF_TAG_Pair tag).plain = true ∧ (HIF_TAG_Gen tag).plain = true := by
  refine ⟨tagFld_plain ?_ ?_, tagFld_plain ?_ ?_, tagFld_plain ?_ ?_⟩ <;>
    simp only [HIF_TAG_State, HIF_TAG_Pair, HIF_TAG_Gen, HIF_TAG] <;> omega

theorem State.enter_reach {s x : State} {fs : List Fld} {ps : List Part} (h : Reach s x fs ps) (c : Cmd) (h1 : HIF_TAG_State c.tag ∈ fs)
    (h2 : HIF_TAG_Pair c.tag ∈ fs) (h3 : HIF_TAG_Gen c.tag ∈ fs) (hr : Part.rings ∈ ps) : Reach s (x.enter c) fs ps :=
  (((h.wr _ h1 rfl).wr _ h2 rfl).wr _ h3 rfl : Reach s (x.takeTag c) fs ps).setRings rfl rfl hr

theorem State.enter_hif (x : State) (c : Cmd) : (x.enter c).hif = { x.hif with cmds := x.hif.cmds ++ [c] } := by
  rw [State.enter, State.modHif_hif, (x.takeTag_keeps c).1]

theorem State.enter_red (x : State) (c : Cmd) : (x.enter c).red = x.red := by
  rw [State.enter, State.modHif_red, (x.takeTag_keeps c).2]

theorem State.enter_rd (x : State) (c : Cmd) (f : Fld) : (x.enter c).rd f = (x.takeTag c).rd f := by
  rw [State.enter, State.modHif_rd]

/-- A refusal at admission is counted and takes its tag (R51, R310). -/
theorem State.holdTag_refused (x : State) (c : Cmd) :
    (x.holdTag c .notAdmitted).rd FRM_REFUSED_CNT_Cnt = min (x.rd FRM_REFUSED_CNT_Cnt + 1) (2 ^ 32 - 1) := by
  have hcnt : ((x.takeArmed 7 c.pair).2.wr (HIF_TAG_State c.tag) 2).rd FRM_REFUSED_CNT_Cnt = x.rd FRM_REFUSED_CNT_Cnt := by
    rw [State.rd_wr_off (g := HIF_TAG_State c.tag) _ _ (by
      simp only [FRM_REFUSED_CNT_Cnt, FRM_REFUSED_CNT, HIF_TAG_State, HIF_TAG]; omega), State.takeArmed_rd _ _ _ (by decide)]
  rw [State.holdTag, beq_self_eq_true, State.when_true, State.incSat_eq, State.rd_wr_same _ _ _ rfl, hcnt]
  show min (x.rd FRM_REFUSED_CNT_Cnt + 1) (2 ^ 32 - 1) % 2 ^ 32 = _
  exact Nat.mod_eq_of_lt (by omega)

theorem State.completeCmd_red (x : State) (c : Cmd) (st : Status) (result : Nat) : (x.completeCmd c st result).red = x.red := by
  have harm : (x.takeArmed 7 c.pair).2.red = x.red := by
    rcases x.takeArmed_eq 7 c.pair with e | e <;> rw [e]
    rw [State.disarm, State.modFlt_red, State.wr_red]
  rw [State.completeCmd_eq]
  show (x.holdTag c st).red = x.red
  rw [State.holdTag]
  cases st == .notAdmitted
  · rw [State.when_false, State.wr_red, harm]
  · rw [State.when_true, State.incSat_eq, State.wr_red, State.wr_red, harm]

/-- Tags and sequence numbers lie apart. -/
theorem State.tag_off (tag : Nat) {n : Nat} (h : n < 4) : HIF_TAG tag ≠ HIF_SQ_ACCEPTED_SEQ n := by
  simp only [HIF_TAG, HIF_SQ_ACCEPTED_SEQ]
  omega

section Takes
variable {s : State} {d : Fetched} (hrst : s.frm.coreRst = false) (hmax : s.rd FRM_CTL_AdmitMax = 1) (hnext : s.nextFetched = some d)
  (harm : s.flt.armed = none) (hstate : s.redState = 0) (htakes : s.red.takes = [])
include hrst hmax hnext harm htakes

/-- A descriptor with a bad CRC or sequence number (R308). -/
theorem admissionStage_badCrc
    (hbad : crcGood (padTo 64 d.bytes) = false ∨ numAt (padTo 64 d.bytes) 0 4 ≠ s.nextSeq d.pair)
    (ha : s.on (FLT_SRC_CFG_Assigned 32) = true) : Answers (exec .admissionStage s) fun t =>
      t.rd (HIF_SQ_ACCEPTED_SEQ_Seq d.pair) = s.nextSeq d.pair ∧
      t.rd HIF_BADCRC_CNT_Cnt = (s.rd HIF_BADCRC_CNT_Cnt + 1) % HIF_BADCRC_CNT_Cnt.size ∧
      Raised t 32 (d.pair + 4 * s.descFault d) ∧ t.hif.cmds = s.hif.cmds ∧
      (∃ c : Comp, t.hif.comps = s.hif.comps ++ [c] ∧ c.status = 6 ∧ c.tag = (s.descCmd d).tag ∧ c.hasTag = false) ∧
      FrameFault s t [HIF_SQ_ACCEPTED_SEQ_Seq d.pair, HIF_BADCRC_CNT_Cnt] [.rings] := by
  have hfault : s.descFault d ≠ 0 := by
    rw [State.descFault]
    rcases hbad with hcrc | hseq
    · simp [hcrc, b2n]
    · simp [bne_iff_ne.2 hseq, b2n]
  have htake := State.takeDesc_eq d harm
  rw [if_pos hfault] at htake
  rw [exec_admissionStage_one hrst hmax hnext htakes htake (s.rejects_red d _ _ _ _ (by decide))]
  exact rejects_answers s d _ .badCrc _ (by simp [badCounts]) (State.nextFetched_pair hnext) (by decide) (by decide) ha

variable (hcrc : crcGood (padTo 64 d.bytes) = true) (hseq : numAt (padTo 64 d.bytes) 0 4 = s.nextSeq d.pair)
include hcrc hseq

omit hrst hmax htakes in
/-- With a good CRC and its sequence number a descriptor goes by its tag, its contents and its point. -/
theorem State.takeDesc_good : (s.modHif (fun h => { h with fetch := h.fetch.erase d })).takeDesc d =
      if s.rd (HIF_TAG_State (s.descCmd d).tag) ≠ 0 ∨ s.rd (HIF_TAG_Gen (s.descCmd d).tag) = (s.descCmd d).gen then
        s.rejects d HIF_BADTAG_CNT_Cnt 39 (s.descCmd d).tag .badTag ((s.counted d).word (HIF_TAG (s.descCmd d).tag)).toNat
      else if descBad (s.descCmd d).opcode (numAt (padTo 64 d.bytes) 10 2) (numAt (padTo 64 d.bytes) 12 4) (padTo 64 d.bytes) then
        (s.counted d).failTake (s.descCmd d) .refusedState 0
      else if (s.counted d).takeDisabled (s.descCmd d).opcode (s.descCmd d).point (s.descCmd d).payload then
        (s.counted d).failTake (s.descCmd d) .disabled 0
      else if takesPoint (s.descCmd d).opcode && !(s.counted d).pointKnown (s.descCmd d).point then
        (s.counted d).failTake (s.descCmd d) .pointUnknown 0
      else (s.counted d).admitCmd (s.descCmd d) := by
  have hfault : s.descFault d = 0 := by simp [State.descFault, hcrc, hseq, b2n]
  have hoff := State.tag_off (s.descCmd d).tag (State.nextFetched_pair hnext)
  rw [State.takeDesc_eq d harm, if_neg (by simp [hfault]), s.counted_rd d (f := HIF_TAG_State _) hoff,
    s.counted_rd d (f := HIF_TAG_Gen _) hoff]
  rfl

theorem admissionStage_badTag (hused : s.rd (HIF_TAG_State (s.descCmd d).tag) ≠ 0 ∨
      s.rd (HIF_TAG_Gen (s.descCmd d).tag) = (s.descCmd d).gen)
    (ha : s.on (FLT_SRC_CFG_Assigned 39) = true) : Answers (exec .admissionStage s) fun t =>
      t.rd (HIF_SQ_ACCEPTED_SEQ_Seq d.pair) = s.nextSeq d.pair ∧
      t.rd HIF_BADTAG_CNT_Cnt = (s.rd HIF_BADTAG_CNT_Cnt + 1) % HIF_BADTAG_CNT_Cnt.size ∧
      Raised t 39 (s.descCmd d).tag ∧ t.hif.cmds = s.hif.cmds ∧
      (∃ c : Comp, t.hif.comps = s.hif.comps ++ [c] ∧ c.status = 7 ∧ c.tag = (s.descCmd d).tag ∧ c.hasTag = false) ∧
      FrameFault s t [HIF_SQ_ACCEPTED_SEQ_Seq d.pair, HIF_BADTAG_CNT_Cnt] [.rings] := by
  have htake := State.takeDesc_good hnext harm hcrc hseq
  rw [if_pos hused] at htake
  rw [exec_admissionStage_one hrst hmax hnext htakes htake (s.rejects_red d _ _ _ _ (by decide))]
  exact rejects_answers s d _ .badTag _ (by simp [badCounts]) (State.nextFetched_pair hnext) (by decide) (by decide) ha

variable (hfree : s.rd (HIF_TAG_State (s.descCmd d).tag) = 0)
  (hgen : s.rd (HIF_TAG_Gen (s.descCmd d).tag) ≠ (s.descCmd d).gen)
include hfree hgen

theorem admissionStage_malformed (hbad : descBad (s.descCmd d).opcode (numAt (padTo 64 d.bytes) 10 2)
      (numAt (padTo 64 d.bytes) 12 4) (padTo 64 d.bytes) = true) : Answers (exec .admissionStage s) fun t =>
      (∃ c : Comp, t.hif.comps = s.hif.comps ++ [c] ∧ c.status = 8 ∧ c.tag = (s.descCmd d).tag ∧ c.hasTag = false) ∧
      t.hif.cmds = s.hif.cmds ∧ t.rd (HIF_SQ_ACCEPTED_SEQ_Seq d.pair) = s.nextSeq d.pair ∧
      Frame s t [HIF_SQ_ACCEPTED_SEQ_Seq d.pair] [.rings] := by
  have htake := State.takeDesc_good hnext harm hcrc hseq
  rw [if_neg (not_or.2 ⟨not_not.2 hfree, hgen⟩), if_pos hbad] at htake
  have hfail := (s.counted d).failTake_reach (s.descCmd d) .refusedState 0
  obtain ⟨hcmds, e, hcomps, hrest⟩ := (s.counted d).failTake_comps (s.descCmd d) .refusedState 0 s.pending
  have hplain := HIF_SQ_ACCEPTED_SEQ_Seq_plain _ (State.nextFetched_pair hnext)
  rw [exec_admissionStage_one hrst hmax hnext htakes htake (s.counted_red d), answers_done, State.answer_rd _ _ hplain,
    hfail.regs _ hplain rfl, State.counted_seq]
  rw [State.counted_hif] at hcmds hcomps
  exact ⟨⟨e, hcomps, hrest⟩, hcmds, rfl, ((s.counted_reach d).trans (hfail.mono (by simp) (by simp))).frame _⟩

variable (hwell : descBad (s.descCmd d).opcode (numAt (padTo 64 d.bytes) 10 2) (numAt (padTo 64 d.bytes) 12 4) (padTo 64 d.bytes) =
    false) (hop : takesPoint (s.descCmd d).opcode = false)
  (hon : s.takeDisabled (s.descCmd d).opcode (s.descCmd d).point (s.descCmd d).payload = false)
include hwell hop hon

omit hrst hmax htakes in
/-- A well-formed descriptor of an enabled block is judged by admission alone. -/
theorem State.takeDesc_admits : (s.modHif (fun h => { h with fetch := h.fetch.erase d })).takeDesc d =
    (s.counted d).admitCmd (s.descCmd d) := by
  have hon' : (s.counted d).takeDisabled (s.descCmd d).opcode (s.descCmd d).point (s.descCmd d).payload = false :=
    (s.takeDisabled_counted d _ _ hop).trans hon
  have hop' : takesPoint (s.descCmd d).opcode = false := hop
  have hwell' : descBad (s.descCmd d).opcode (numAt (padTo 64 d.bytes) 10 2) (numAt (padTo 64 d.bytes) 12 4) (padTo 64 d.bytes) = false := hwell
  rw [State.takeDesc_good hnext harm hcrc hseq, if_neg (not_or.2 ⟨not_not.2 hfree, hgen⟩), if_neg (by simp [hwell']),
    if_neg (by simp [hon']), if_neg (by simp [hop'])]

include hstate

omit hrst hmax hnext harm htakes hcrc hseq hfree hgen hwell hop hon in
theorem State.counted_redState : (s.counted d).redState = 0 := by
  rw [State.redState, s.counted_rd d (f := RED_STAT_State) (by simp only [RED_STAT_State, RED_STAT, HIF_SQ_ACCEPTED_SEQ]; omega), ← hstate,
    State.redState]

/-- A best-effort command enters the table. -/
theorem admissionStage_enters (hdl : (s.descCmd d).deadline = 0) : Answers (exec .admissionStage s) fun t =>
      t.rd (HIF_SQ_ACCEPTED_SEQ_Seq d.pair) = s.nextSeq d.pair ∧ t.hif.cmds = s.hif.cmds ++ [{ s.descCmd d with deadline := 0 }] ∧
      t.rd (HIF_TAG_State (s.descCmd d).tag) = 1 ∧ t.rd (HIF_TAG_Pair (s.descCmd d).tag) = d.pair % 4 ∧
      t.rd (HIF_TAG_Gen (s.descCmd d).tag) = (s.descCmd d).gen ∧
      Frame s t [HIF_SQ_ACCEPTED_SEQ_Seq d.pair, HIF_TAG_State (s.descCmd d).tag, HIF_TAG_Pair (s.descCmd d).tag,
        HIF_TAG_Gen (s.descCmd d).tag] [.rings] := by
  have htake := (State.takeDesc_admits hnext harm hcrc hseq hfree hgen hwell hop hon).trans
    (State.admitCmd_alone (s.descCmd_tag d) (State.counted_redState hstate))
  rw [if_pos (show (s.descCmd d).deadline = 0 from hdl)] at htake
  have hred := ((s.counted d).enter_red (s.descCmd d)).trans (s.counted_red d)
  have hcmds : ((s.counted d).enter (s.descCmd d)).hif.cmds = s.hif.cmds ++ [s.descCmd d] := by rw [State.enter_hif, State.counted_hif]
  have hreach : Reach s ((s.counted d).enter (s.descCmd d)) [HIF_SQ_ACCEPTED_SEQ_Seq d.pair, HIF_TAG_State (s.descCmd d).tag,
      HIF_TAG_Pair (s.descCmd d).tag, HIF_TAG_Gen (s.descCmd d).tag] [.rings] := State.enter_reach ((s.counted_reach d).mono (by simp) (by simp)) (s.descCmd d) (by simp) (by simp) (by simp) (by simp)
  have hseq' : ((s.counted d).enter (s.descCmd d)).rd (HIF_SQ_ACCEPTED_SEQ_Seq d.pair) = s.nextSeq d.pair := by
    rw [State.enter_rd, State.takeTag_rd (f := HIF_SQ_ACCEPTED_SEQ_Seq d.pair) _ _ (State.tag_off _ (State.nextFetched_pair hnext)).symm,
      State.counted_seq]
  obtain ⟨htag, hpair, hg⟩ := (s.counted d).takeTag_shows (s.descCmd d)
  rw [← State.enter_rd] at htag hpair hg
  obtain ⟨hp1, hp2, hp3⟩ := HIF_TAG_plain _ (s.descCmd_tag d)
  have hzero : { s.descCmd d with deadline := 0 } = s.descCmd d := by rw [← hdl]
  generalize (s.counted d).enter (s.descCmd d) = y at *
  rw [exec_admissionStage_one hrst hmax hnext htakes htake hred, answers_done]
  refine ⟨?_, ?_, ?_, ?_, ?_, hreach.frame _⟩
  · rw [State.answer_rd _ _ (HIF_SQ_ACCEPTED_SEQ_Seq_plain _ (State.nextFetched_pair hnext)), hseq']
  · rw [State.requeue_hif, State.settle_hif, hcmds, hzero]
  · rw [State.answer_rd _ _ hp1, htag]
  · rw [State.answer_rd _ _ hp2, hpair]
    rfl
  · rw [State.answer_rd _ _ hp3, hg]
    exact Nat.mod_eq_of_lt (numAt_lt _ 6 2)

/-- A lookup or an update with a deadline is refused (R52). -/
theorem admissionStage_refuses (hdl : (s.descCmd d).deadline ≠ 0)
    (hlook : (s.descCmd d).opcode = 0x31 ∨ (s.descCmd d).opcode = 0x40 ∨ (s.descCmd d).opcode = 0x41) :
    Answers (exec .admissionStage s) fun t =>
      (∃ c : Comp, t.hif.comps = s.hif.comps ++ [c] ∧ c.status = 1 ∧ c.tag = (s.descCmd d).tag ∧ c.hasTag) ∧
      t.rd FRM_REFUSED_CNT_Cnt = min (s.rd FRM_REFUSED_CNT_Cnt + 1) (2 ^ 32 - 1) ∧
      t.rd (HIF_TAG_State (s.descCmd d).tag) = 2 := by
  have htake := (State.takeDesc_admits hnext harm hcrc hseq hfree hgen hwell hop hon).trans
    (State.admitCmd_alone (s.descCmd_tag d) (State.counted_redState hstate))
  have hplan : ((s.counted d).enter (s.descCmd d)).admitPlan (s.descCmd d) = none := by rw [State.admitPlan, if_pos hlook]
  have hcmds : ((s.counted d).enter (s.descCmd d)).hif.cmds = s.hif.cmds ++ [s.descCmd d] := by rw [State.enter_hif, State.counted_hif]
  have hcomps : ((s.counted d).enter (s.descCmd d)).hif.comps = s.hif.comps := by rw [State.enter_hif, State.counted_hif]
  have hrefused : ((s.counted d).enter (s.descCmd d)).rd FRM_REFUSED_CNT_Cnt = s.rd FRM_REFUSED_CNT_Cnt := by
    rw [State.enter_rd, State.takeTag_rd _ _ (by simp only [FRM_REFUSED_CNT_Cnt, FRM_REFUSED_CNT, HIF_TAG]; omega),
      s.counted_rd d (by simp only [FRM_REFUSED_CNT_Cnt, FRM_REFUSED_CNT, HIF_SQ_ACCEPTED_SEQ]; omega)]
  have hred := ((s.counted d).enter_red (s.descCmd d)).trans (s.counted_red d)
  rw [if_neg hdl, hplan] at htake
  dsimp only at htake
  generalize (s.counted d).enter (s.descCmd d) = x at *
  obtain ⟨c, hfind⟩ : ∃ c, x.findCmd (s.descCmd d).tag = some c := by
    rw [State.findCmd, ← Option.isSome_iff_exists, List.find?_isSome]
    exact ⟨s.descCmd d, by rw [hcmds]; simp, by simp⟩
  have htag := State.findCmd_tag hfind
  rw [State.complete_of_find hfind] at htake
  obtain ⟨⟨inv, hdone⟩, -, hheld⟩ := x.completeCmd_completes c .notAdmitted 0
  rw [exec_admissionStage_one hrst hmax hnext htakes htake ((State.completeCmd_red _ _ _ _).trans hred), answers_done,
    State.requeue_hif, State.settle_hif, State.answer_rd _ _ (by decide +kernel : FRM_REFUSED_CNT_Cnt.plain = true),
    State.answer_rd _ _ (HIF_TAG_plain _ (s.descCmd_tag d)).1]
  refine ⟨⟨_, hdone.trans (by rw [hcomps]), rfl, htag, rfl⟩, ?_, ?_⟩
  · rw [State.completeCmd_eq]
    exact (x.holdTag_refused c).trans (by rw [hrefused])
  · rw [← htag]
    exact hheld

end Takes

/-- Settles O40: the stage takes nothing, or one descriptor, judged by its seal, its tag, its contents and its deadline. -/
theorem admissionTakes : Obligations.AdmissionTakes := fun _ =>
  ⟨admissionStage_idle, fun _ hrst hmax hnext harm hstate htakes =>
    ⟨admissionStage_badCrc hrst hmax hnext harm htakes, admissionStage_badTag hrst hmax hnext harm htakes,
     fun hcrc hseq hfree hgen => ⟨admissionStage_malformed hrst hmax hnext harm htakes hcrc hseq hfree hgen,
      fun hwell hop hon => ⟨admissionStage_enters hrst hmax hnext harm hstate htakes hcrc hseq hfree hgen hwell hop hon,
        admissionStage_refuses hrst hmax hnext harm hstate htakes hcrc hseq hfree hgen hwell hop hon⟩⟩⟩⟩

end Sys2Proof.Machine
end

section
/-!
SUPPORT. Control writes of an e-fuse channel (R63, R240, R241, R255, R256).
-/
namespace Sys2Proof.Machine

set_option Elab.async false

theorem exec_efEnWrite (e : Fin 16) (en : Bool) (s : State) : exec (.efEnWrite e en) s = done s (s.efEnable e en) := rfl
theorem exec_efOnWrite (e : Fin 16) (on : Bool) (s : State) :
    exec (.efOnWrite e on) s = done s (s.efSetOn e on (s.on (EF_CFG_SoftOff e))) := rfl
theorem exec_efClrWrite (e : Fin 16) (s : State) : exec (.efClrWrite e) s = done s (s.efClear e) := rfl

/-! ### A channel and its registers -/

@[simp] theorem State.efc_wr (s : State) (f : Fld) (v e : Nat) : (s.wr f v).efc e = s.efc e := rfl
@[simp] theorem State.efc_modEf (s : State) (e : Nat) (g : EfCh → EfCh) : (s.modEf e g).efc e = g (s.efc e) := nth_upd_same _ _ _
theorem State.answer_efc (x : State) (q : List Instr) (e : Nat) : (x.settle.requeue q).efc e = x.efc e := by
  rw [State.efc, State.requeue_ef, State.settle_ef, State.efc]

/-- The registers of the e-fuse channels hold no status field. -/
theorem efFld_plain {f : Fld} (h1 : 0x28000 ≤ f.off) (h2 : f.off < 0x29000) : f.plain = true :=
  Fld.plain_of_range (by decide +kernel) h1 h2

/-- The fields of a channel's control and status registers. -/
theorem efReg_plain (e : Fin 16) {f : Fld} (h : f.off = EF_CTL e ∨ f.off = EF_STAT e) : f.plain = true :=
  efFld_plain (by simp only [EF_CTL, EF_STAT] at h; omega) (by simp only [EF_CTL, EF_STAT] at h; omega)

theorem efCtl_apart {f g : Fld} {e : Nat} (h : f.off = EF_CTL e) (hg : g.off = EF_STAT e) : f.apart g = true := by
  simp only [Fld.apart, Bool.or_eq_true, bne_iff_ne, h, hg, EF_CTL, EF_STAT]
  omega

/-- The count of events lost is none of a channel's registers. -/
theorem efReg_lost {a e : Nat} (h : a = EF_CTL e ∨ a = EF_STAT e) : a ≠ HIF_EQ_LOST_CNT := by
  simp only [EF_CTL, EF_STAT, HIF_EQ_LOST_CNT] at h ⊢
  omega

theorem State.answer_efState (x : State) (q : List Instr) (e : Fin 16) : (x.settle.requeue q).efState e = x.efState e :=
  State.answer_rd x q (efReg_plain e (.inr rfl))

theorem State.postEvent_ef (s : State) (v : Event) : (s.postEvent v).ef = s.ef := by
  rw [State.postEvent]
  split <;> rfl

/-! ### Entering a state (R18, R245) -/

theorem State.efPg_ef (s : State) (e : Nat) (b : Bool) : (s.efPg e b).ef = s.ef := by
  rw [State.efPg]
  split
  · rfl
  · rw [State.event, State.postEvent_ef, State.wrB_eq, State.wr_ef]

theorem Reach.efPg {s x : State} {fs : List Fld} {ps : List Part} (h : Reach s x fs ps) (e : Nat) (b : Bool) (h1 : EF_STAT_Pg e ∈ fs)
    (h2 : HIF_EQ_LOST_CNT_Cnt ∈ fs) (hr : Part.rings ∈ ps) : Reach s (x.efPg e b) fs ps := by
  have hset := (h.wr (g := EF_STAT_Pg e) (b2n b) h1 rfl).postEvent { code := 0x0200, unit := e, p0 := b2n b, p1 := x.efState e }
    h2 hr
  rw [State.efPg]
  split
  · exact h
  · exact hset

theorem Reach.efEnter {s x : State} {fs : List Fld} {ps : List Part} (h : Reach s x fs ps) (e st : Nat) (fresh : Bool)
    (h0 : EF_STAT_State e ∈ fs) (h1 : EF_STAT_Pg e ∈ fs) (h2 : HIF_EQ_LOST_CNT_Cnt ∈ fs) (hf : Part.ef ∈ ps) (hr : Part.rings ∈ ps) :
    Reach s (x.efEnter e st fresh) fs ps := by
  have hset := (h.wr (g := EF_STAT_State e) st h0 rfl).modEf e (fun c => { c with
    fresh := fresh, insCnt := 0, inrCnt := 0, uvCnt := 0, gateLow := 0, waitCnt := 0, onCnt := 0, run := 0 }) hf
  exact hset.when (g := fun s => s.efPg e false) _ (hset.efPg e false h1 h2 hr)

/-- What entering a state leaves of the channel: its frame counts alone restart. -/
theorem State.efEnter_efc (s : State) (e st : Nat) (fresh : Bool) : (s.efEnter e st fresh).efc e = { s.efc e with
    fresh := fresh, insCnt := 0, inrCnt := 0, uvCnt := 0, gateLow := 0, waitCnt := 0, onCnt := 0, run := 0 } := by
  have hset : ((s.wr (EF_STAT_State e) st).modEf e (fun c => { c with
      fresh := fresh, insCnt := 0, inrCnt := 0, uvCnt := 0, gateLow := 0, waitCnt := 0, onCnt := 0, run := 0 })).efc e = { s.efc e with
      fresh := fresh, insCnt := 0, inrCnt := 0, uvCnt := 0, gateLow := 0, waitCnt := 0, onCnt := 0, run := 0 } := by
    rw [State.efc_modEf, State.efc_wr]
  rw [State.efEnter]
  cases st != 5
  · exact hset
  · rw [State.when_true, State.efc, State.efPg_ef, ← State.efc, hset]

/-- A write of Pg reads back neither as the state nor as another field of its register. -/
theorem State.efPg_rd (s : State) (e : Nat) (b : Bool) {f : Fld} (h1 : f.apart (EF_STAT_Pg e) = true) (h2 : f.off ≠ HIF_EQ_LOST_CNT) :
    (s.efPg e b).rd f = s.rd f := by
  rw [State.efPg]
  split
  · rfl
  · rw [State.event, State.postEvent_rd _ _ h2, State.wrB_eq, State.rd_wr_apart (g := EF_STAT_Pg e) _ _ rfl h1]

theorem State.efEnter_rd (s : State) (e st : Nat) (fresh : Bool) {f : Fld} (h0 : f.apart (EF_STAT_State e) = true)
    (h1 : f.apart (EF_STAT_Pg e) = true) (h2 : f.off ≠ HIF_EQ_LOST_CNT) : (s.efEnter e st fresh).rd f = s.rd f := by
  rw [State.efEnter]
  cases st != 5
  · rw [State.when_false, State.modEf_rd, State.rd_wr_apart (g := EF_STAT_State e) _ _ rfl h0]
  · rw [State.when_true, State.efPg_rd _ _ _ h1 h2, State.modEf_rd, State.rd_wr_apart (g := EF_STAT_State e) _ _ rfl h0]

theorem State.efEnter_state (s : State) (e : Nat) (fresh : Bool) {st : Nat} (h : st < 16) : (s.efEnter e st fresh).efState e = st := by
  have hap : (EF_STAT_State e).apart (EF_STAT_Pg e) = true := by simp [Fld.apart, EF_STAT_State, EF_STAT_Pg]
  have hset : (s.wr (EF_STAT_State e) st).rd (EF_STAT_State e) = st := (State.rd_wr_same s (EF_STAT_State e) st rfl).trans (Nat.mod_eq_of_lt h)
  rw [State.efEnter, State.efState]
  cases st != 5
  · rw [State.when_false, State.modEf_rd, hset]
  · rw [State.when_true, State.efPg_rd _ _ _ hap (efReg_lost (.inr rfl)), State.modEf_rd, hset]

/-- Entering Off, as every row of this file does. -/
theorem State.efEnter_off (s : State) (e : Nat) : (s.efEnter e 1 false).efState e = 1 := s.efEnter_state e false (by decide)

/-! ### The budget (R255) -/

theorem State.efBudget_retry (s : State) (e : Fin 16) : (s.efBudget e).rd (EF_STAT_RetryLeft e) =
    if s.rd (EF_RETRY_Mode e) = 1 then s.rd (EF_RETRY_Count e) else 0 := by
  rw [State.efBudget, State.modEf_rd, State.rd_wr_same _ _ _ rfl]
  refine Nat.mod_eq_of_lt ?_
  split
  · exact State.rd_lt s _
  · exact Nat.two_pow_pos _

theorem State.efBudget_rd (s : State) (e : Nat) {f : Fld} (h : f.apart (EF_STAT_RetryLeft e) = true) : (s.efBudget e).rd f = s.rd f := by
  rw [State.efBudget, State.modEf_rd, State.rd_wr_apart (g := EF_STAT_RetryLeft e) _ _ rfl h]

theorem State.efBudget_efc (s : State) (e : Nat) : (s.efBudget e).efc e = { s.efc e with budgetSet := true } := by
  rw [State.efBudget, State.efc_modEf, State.efc_wr]

theorem Reach.efBudget {s x : State} {fs : List Fld} {ps : List Part} (h : Reach s x fs ps) (e : Nat) (h1 : EF_STAT_RetryLeft e ∈ fs)
    (hf : Part.ef ∈ ps) : Reach s (x.efBudget e) fs ps := by
  rw [State.efBudget]
  exact (h.wr _ h1 rfl).modEf _ _ hf

/-! ### Enable (R240, R63) -/

/-- The enable bit is set and no disable waits. -/
def State.efOn (s : State) (e : Nat) : State := (s.wrB (EF_CTL_En e) true).modEf e (fun c => { c with disPend := false })

theorem State.efOn_off (s : State) (e : Nat) {f : Fld} (h : f.off ≠ EF_CTL e) : (s.efOn e).rd f = s.rd f := by
  rw [State.efOn, State.modEf_rd, State.wrB_eq, State.rd_wr_off (g := EF_CTL_En e) _ _ h]

theorem State.efOn_reach (s : State) (e : Nat) {fs : List Fld} {ps : List Part} (h1 : EF_CTL_En e ∈ fs) (hf : Part.ef ∈ ps) :
    Reach s (s.efOn e) fs ps := ((Reach.refl s _ _).wr (g := EF_CTL_En e) _ h1 rfl).modEf _ _ hf

theorem State.efOn_en (s : State) (e : Nat) : (s.efOn e).on (EF_CTL_En e) = true := by
  rw [State.efOn, State.modEf_on, State.wrB_eq, State.on_wr_flag _ _ rfl rfl]

/-- A disabled channel without a gate latch enters Off with its budget. -/
def State.efWake (s : State) (e : Nat) : State :=
  (((s.efOn e).efBudget e).modEf e (fun c => { c with budgetSet := false })).efEnter e 1 false

theorem State.efEnable_disabled {s : State} {e : Fin 16} (h1 : s.efState e = 0) (h2 : (s.efc e).latch = false) :
    s.efEnable e true = s.efWake e := by
  have hstate : (s.efOn e).efState e = 0 := (s.efOn_off e (by simp only [EF_STAT_State, EF_STAT, EF_CTL]; omega)).trans h1
  have heq : s.efEnable e true = if (s.efOn e).efState e = 0
      then (((s.efOn e).efBudget e).modEf e (fun c => { c with budgetSet := false })).efToOff e else s.efOn e := rfl
  have hlatch : ((((s.efOn e).efBudget e).modEf e (fun c => { c with budgetSet := false })).efc e).latch = false := by
    rw [State.efc_modEf, State.efBudget_efc, State.efOn, State.efc_modEf, State.wrB_eq, State.efc_wr]
    exact h2
  rw [heq, if_pos hstate, State.efToOff, if_neg (Bool.eq_false_iff.1 hlatch), State.efWake]

theorem efEnWrite_wakes {s : State} {e : Fin 16} (h1 : s.efState e = 0) (h2 : (s.efc e).latch = false) :
    Answers (exec (.efEnWrite e true) s) fun t => t.on (EF_CTL_En e) ∧ t.efState e = 1 ∧
      t.rd (EF_STAT_RetryLeft e) = (if s.rd (EF_RETRY_Mode e) = 1 then s.rd (EF_RETRY_Count e) else 0) ∧
      Frame s t [EF_CTL_En e, EF_STAT_State e, EF_STAT_RetryLeft e, EF_STAT_Pg e, HIF_EQ_LOST_CNT_Cnt] [.ef, .rings] := by
  have hret (g : Fld) (hg : g.off = EF_STAT e) (h : g.hi < 16) : (EF_STAT_RetryLeft e).apart g = true := by
    simp [Fld.apart, EF_STAT_RetryLeft, h]
  have hen : (s.efWake e).on (EF_CTL_En e) = true := by
    rw [State.on, State.efWake, State.efEnter_rd _ _ _ _ (efCtl_apart rfl rfl) (efCtl_apart rfl rfl) (efReg_lost (.inl rfl)), State.modEf_rd,
      State.efBudget_rd _ _ (efCtl_apart rfl rfl), ← State.on, State.efOn_en]
  have hretry : (s.efWake e).rd (EF_STAT_RetryLeft e) = if s.rd (EF_RETRY_Mode e) = 1 then s.rd (EF_RETRY_Count e) else 0 := by
    rw [State.efWake, State.efEnter_rd _ _ _ _ (hret _ rfl (by simp [EF_STAT_State])) (hret _ rfl (by simp [EF_STAT_Pg])) (efReg_lost (.inr rfl)), State.modEf_rd,
      State.efBudget_retry, s.efOn_off e (by simp only [EF_RETRY_Mode, EF_RETRY, EF_CTL]; omega),
      s.efOn_off e (by simp only [EF_RETRY_Count, EF_RETRY, EF_CTL]; omega)]
  rw [exec_efEnWrite, State.efEnable_disabled h1 h2, answers_done, State.answer_on _ _ (efReg_plain e (.inl rfl)), State.answer_efState,
    State.answer_rd _ _ (efReg_plain e (.inr rfl))]
  refine ⟨hen, State.efEnter_off _ _, hretry, Reach.frame ?_ _⟩
  exact (((s.efOn_reach e (by simp) (by simp)).efBudget e (by simp) (by simp)).modEf _ _ (by simp)).efEnter _ _ _ (by simp) (by simp)
    (by simp) (by simp) (by simp)

theorem State.efOn_ef (s : State) (e : Nat) : (s.efOn e).ef = (s.modEf e (fun c => { c with disPend := false })).ef := by
  rw [State.efOn, State.modEf_ef, State.wrB_eq, State.wr_ef, State.modEf_ef]

theorem efEnWrite_enabled {s : State} {e : Fin 16} (h : s.efState e ≠ 0) : Answers (exec (.efEnWrite e true) s) fun t =>
    t.on (EF_CTL_En e) ∧ t.ef = (s.modEf e fun c => { c with disPend := false }).ef ∧ Frame s t [EF_CTL_En e] [.ef] := by
  have hstate : (s.efOn e).efState e ≠ 0 := by
    rwa [State.efState, s.efOn_off e (by simp only [EF_STAT_State, EF_STAT, EF_CTL]; omega), ← State.efState]
  have heq : s.efEnable e true = if (s.efOn e).efState e = 0
      then (((s.efOn e).efBudget e).modEf e (fun c => { c with budgetSet := false })).efToOff e else s.efOn e := rfl
  rw [exec_efEnWrite, heq, if_neg hstate, answers_done, State.answer_on _ _ (efReg_plain e (.inl rfl)), State.requeue_ef, State.settle_ef]
  exact ⟨s.efOn_en e, s.efOn_ef e, (s.efOn_reach e (by simp) (by simp)).frame _⟩

theorem efEnWrite_off (s : State) (e : Fin 16) : Answers (exec (.efEnWrite e false) s) fun t => t.on (EF_CTL_En e) = false ∧
    t.ef = (s.modEf e fun c => { c with disPend := true }).ef ∧ Frame s t [EF_CTL_En e] [.ef] := by
  have heq : s.efEnable e false = (s.wrB (EF_CTL_En e) false).modEf e (fun c => { c with disPend := true }) := rfl
  rw [exec_efEnWrite, heq, answers_done, State.answer_on _ _ (efReg_plain e (.inl rfl)), State.requeue_ef, State.settle_ef, State.modEf_on,
    State.wrB_eq, State.on_wr_flag _ _ rfl rfl, State.modEf_ef, State.wr_ef]
  exact ⟨rfl, rfl, (((Reach.refl s _ _).wr _ (by simp) rfl).modEf _ _ (by simp)).frame _⟩

/-! ### On (R241) -/

/-- The On bit is written. -/
def State.efOnBit (s : State) (e : Nat) (on : Bool) : State := s.wrB (EF_CTL_On e) on

theorem State.efOnBit_off (s : State) (e : Nat) (on : Bool) {f : Fld} (h : f.off ≠ EF_CTL e) : (s.efOnBit e on).rd f = s.rd f := by
  rw [State.efOnBit, State.wrB_eq, State.rd_wr_off (g := EF_CTL_On e) _ _ h]

theorem State.efOnBit_on (s : State) (e : Nat) (on : Bool) : (s.efOnBit e on).on (EF_CTL_On e) = on := by
  rw [State.efOnBit, State.wrB_eq, State.on_wr_flag _ _ rfl rfl]

theorem State.efOnBit_reach (s : State) (e : Nat) (on : Bool) {fs : List Fld} {ps : List Part} (h : EF_CTL_On e ∈ fs) :
    Reach s (s.efOnBit e on) fs ps := (Reach.refl s _ _).wr (g := EF_CTL_On e) _ h rfl

/-- Whoever owns the demand, the requests of capping and hold-up are not written with On. -/
theorem State.efOnBit_demand (s : State) (e : Nat) (on : Bool) : (s.efOnBit e on).efDemand e =
    ((if s.on (EF_CFG_RailEn e) then s.on (SEQ_RAIL_STAT_Grant (s.rd (EF_CFG_Rail e))) else on) && !s.on (EF_STAT_ShedOff e) &&
      !s.on (EF_STAT_HuOff e)) := by
  have hstat {f : Fld} (h : f.off = EF_STAT e ∨ f.off = EF_CFG e) : (s.efOnBit e on).rd f = s.rd f :=
    s.efOnBit_off e on (by simp only [EF_STAT, EF_CFG, EF_CTL] at h ⊢; omega)
  have hrail (r : Nat) : (s.efOnBit e on).on (SEQ_RAIL_STAT_Grant r) = s.on (SEQ_RAIL_STAT_Grant r) := by
    rw [State.on, s.efOnBit_off e on (by simp only [SEQ_RAIL_STAT_Grant, SEQ_RAIL_STAT, EF_CTL]; omega), State.on]
  have hflag {f : Fld} (h : f.off = EF_STAT e ∨ f.off = EF_CFG e) : (s.efOnBit e on).on f = s.on f := by rw [State.on, hstat h, State.on]
  rw [State.efDemand, State.efOwner, State.efOnBit_on, hflag (f := EF_CFG_RailEn e) (.inr rfl),
    hflag (f := EF_STAT_ShedOff e) (.inl rfl), hflag (f := EF_STAT_HuOff e) (.inl rfl), hstat (f := EF_CFG_Rail e) (.inr rfl), hrail]

theorem State.efOnBit_state (s : State) (e : Nat) (on : Bool) : (s.efOnBit e on).efState e = s.efState e :=
  s.efOnBit_off e on (by simp only [EF_STAT_State, EF_STAT, EF_CTL]; omega)

/-- On is stored; where that ends the demand the channel turns off. -/
theorem State.efSetOn_eq (s : State) (e : Nat) (on soft : Bool) : s.efSetOn e on soft =
    if 2 ≤ s.efState e ∧ s.efState e ≤ 5 ∧ (s.efOnBit e on).efDemand e = false
    then ((s.efOnBit e on).when (s.efState e != 2) (fun s => s.efGateOff e soft)).efEnter e 1 false else s.efOnBit e on := by
  have heq : s.efSetOn e on soft = (s.efOnBit e on).efDemandEnd e soft := rfl
  rw [heq, State.efDemandEnd]
  simp only [State.efOnBit_state]

/-- On alone is stored while the demand stays, or where there is none to end. -/
theorem efOnWrite_stores {s : State} {e : Fin 16} (on : Bool)
    (h : ¬ (2 ≤ s.efState e ∧ s.efState e ≤ 5 ∧ (s.efOnBit e on).efDemand e = false)) :
    Answers (exec (.efOnWrite e on) s) fun t => t.on (EF_CTL_On e) = on ∧ Frame s t [EF_CTL_On e] [] := by
  rw [exec_efOnWrite, State.efSetOn_eq, if_neg h, answers_done, State.answer_on _ _ (efReg_plain e (.inl rfl))]
  exact ⟨s.efOnBit_on e on, (s.efOnBit_reach e on (by simp)).frame _⟩

/-! The gate turns off -/

theorem State.efGateOff_rd (s : State) (e : Nat) (soft : Bool) {f : Fld} (h : f.off ≠ EF_STAT e) : (s.efGateOff e soft).rd f = s.rd f := by
  rw [State.efGateOff, State.wrB_eq, State.rd_wr_off (g := EF_STAT_Limiting e) _ _ h, State.wrB_eq,
    State.rd_wr_off (g := EF_STAT_GateGood e) _ _ h, State.modEf_rd]

theorem State.efGateOff_efc (s : State) (e : Nat) (soft : Bool) : (s.efGateOff e soft).efc e = { s.efc e with gate := false, softOff := soft } := by
  rw [State.efGateOff, State.wrB_eq, State.efc_wr, State.wrB_eq, State.efc_wr, State.efc_modEf]

theorem Reach.efGateOff {s x : State} {fs : List Fld} {ps : List Part} (h : Reach s x fs ps) (e : Nat) (soft : Bool)
    (h1 : EF_STAT_GateGood e ∈ fs) (h2 : EF_STAT_Limiting e ∈ fs) (hf : Part.ef ∈ ps) : Reach s (x.efGateOff e soft) fs ps := by
  rw [State.efGateOff]
  exact ((h.modEf e _ hf).wr _ h1 rfl).wr _ h2 rfl

theorem efOnWrite_ends {s : State} {e : Fin 16} (hrail : s.on (EF_CFG_RailEn e) = false) (h2 : 2 ≤ s.efState e) (h5 : s.efState e ≤ 5) :
    Answers (exec (.efOnWrite e false) s) fun t => t.on (EF_CTL_On e) = false ∧ t.efState e = 1 ∧
      (s.efState e ≠ 2 → (t.efc e).gate = false ∧ (t.efc e).softOff = s.on (EF_CFG_SoftOff e)) ∧
      Frame s t [EF_CTL_On e, EF_STAT_State e, EF_STAT_GateGood e, EF_STAT_Limiting e, EF_STAT_Pg e, HIF_EQ_LOST_CNT_Cnt]
        [.ef, .rings] := by
  have hdemand : (s.efOnBit e false).efDemand e = false := by rw [State.efOnBit_demand, hrail]; rfl
  have hreach := s.efOnBit_reach e false (fs := [EF_CTL_On e, EF_STAT_State e, EF_STAT_GateGood e, EF_STAT_Limiting e, EF_STAT_Pg e,
    HIF_EQ_LOST_CNT_Cnt]) (ps := [.ef, .rings]) (by simp)
  have hoff := hreach.when (g := fun x => x.efGateOff e (s.on (EF_CFG_SoftOff e))) (s.efState e != 2)
    (hreach.efGateOff e _ (by simp) (by simp) (by simp))
  rw [exec_efOnWrite, State.efSetOn_eq, if_pos ⟨h2, h5, hdemand⟩, answers_done, State.answer_on _ _ (efReg_plain e (.inl rfl)), State.answer_efState,
    State.answer_efc, State.efEnter_efc]
  refine ⟨?_, State.efEnter_off _ _, fun hst => ?_, ?_⟩
  · rw [State.on, State.efEnter_rd _ _ _ _ (efCtl_apart rfl rfl) (efCtl_apart rfl rfl) (efReg_lost (.inl rfl)), ← State.on]
    cases s.efState e != 2
    · exact s.efOnBit_on e false
    · rw [State.when_true, State.on, State.efGateOff_rd _ _ _ (by simp only [EF_CTL_On, EF_CTL, EF_STAT]; omega)]
      exact s.efOnBit_on e false
  · rw [bne_iff_ne.2 hst, State.when_true, State.efGateOff_efc]
    exact ⟨rfl, rfl⟩
  · exact (hoff.efEnter e 1 false (by simp) (by simp) (by simp) (by simp) (by simp)).frame _

/-! ### Clear (R256) -/

/-- What leaves the channels and their registers alone. -/
structure KeepsFuses (s t : State) : Prop where
  ef : t.ef = s.ef
  rd : ∀ f : Fld, 0x28000 ≤ f.off → t.rd f = s.rd f

namespace KeepsFuses
variable {s t u : State}

theorem refl (s : State) : KeepsFuses s s := ⟨rfl, fun _ _ => rfl⟩

theorem trans (h : KeepsFuses s t) (k : KeepsFuses t u) : KeepsFuses s u := ⟨k.ef.trans h.ef, fun f hf => (k.rd f hf).trans (h.rd f hf)⟩

theorem wr (h : KeepsFuses s t) (g : Fld) (v : Nat) (hg : g.off < 0x28000) : KeepsFuses s (t.wr g v) :=
  ⟨(State.wr_ef t g v).trans h.ef, fun f hf => (t.rd_wr_off v (by omega)).trans (h.rd f hf)⟩

theorem modPg (h : KeepsFuses s t) (n : Nat) (g : PgCh → PgCh) : KeepsFuses s (t.modPg n g) := ⟨h.ef, h.rd⟩

/-- Changes one after the other. -/
theorem fold {α : Type} (l : List α) (g : State → α → State) (h : KeepsFuses s t) (hg : ∀ x, ∀ a ∈ l, KeepsFuses s x → KeepsFuses s (g x a)) :
    KeepsFuses s (l.foldl g t) :=
  List.foldlRecOn l g h fun x hx a ha => hg x a ha hx

theorem pgTripped (h : KeepsFuses s t) {n : Nat} (hn : n < 48) : KeepsFuses s (t.pgTripped n) := by
  have hwr {x : State} (k : KeepsFuses s x) (hi lo v : Nat) : KeepsFuses s (x.wr ⟨PG_CH_STAT n, hi, lo⟩ v) :=
    k.wr _ _ (by simp only [PG_CH_STAT]; omega)
  have hcode := hwr h 9 8 (t.chanAct n)
  unfold State.pgTripped
  dsimp only
  split_ifs
  · exact hcode
  · exact (hwr (hcode.modPg n _) 1 1 _).modPg n _
  · exact hcode.modPg n _
  · exact (hcode.modPg n _).modPg n _
  · exact hcode

/-- The trip lines reach the comparators' counts, the groups and the pulse channels alone. -/
theorem updTrips (s : State) : KeepsFuses s s.updTrips := by
  rw [State.updTrips]
  split
  · exact refl s
  · refine fold (List.range 48) (fun x n => x.pgTripped n) (fold _ _ ⟨rfl, fun _ _ => rfl⟩ fun x a ha hx => ?_)
      fun x n hn hx => hx.pgTripped (List.mem_range.1 hn)
    have hline : a < 16 := List.mem_range.1 (List.mem_filter.1 ha).1
    refine fold (List.range 12) _ (hx.wr (CMP_TRIP_CNT_Cnt a) _ (by simp only [CMP_TRIP_CNT_Cnt, CMP_TRIP_CNT]; omega)) fun y g hg hy => ?_
    have hgroup : g < 12 := List.mem_range.1 hg
    split
    · exact hy.wr (PG_GRP_STAT_TripLatch g) _ (by simp only [PG_GRP_STAT_TripLatch, PG_GRP_STAT]; omega)
    · exact hy

end KeepsFuses

/-- Without a comparator as its source a channel's gate latch is released. -/
theorem State.efRelease_free {s : State} {e : Nat} (h : s.rd (CMP_EF_SRC_Sel e) = 0) :
    s.efRelease e = (true, s.updTrips.modEf e (fun c => { c with latch := false, fastPend := false })) := by
  rw [State.efRelease, h]
  rfl

theorem State.efClear_released {s : State} {e : Nat} (h : s.efState e = 6 ∨ s.efState e = 7) (hsel : s.rd (CMP_EF_SRC_Sel e) = 0) :
    s.efClear e = (((s.updTrips.modEf e (fun c => { c with latch := false, fastPend := false })).efEnter e 1 false).efBudget e).modEf e
      (fun c => { c with restartReq := s.on (EF_CFG_RailEn e) }) := by
  have hrail : (s.updTrips.modEf e (fun c => { c with latch := false, fastPend := false })).on (EF_CFG_RailEn e) = s.on (EF_CFG_RailEn e) := by
    rw [State.modEf_on, State.on, (KeepsFuses.updTrips s).rd _ (by simp only [EF_CFG_RailEn, EF_CFG]; omega), State.on]
  rw [State.efClear, if_pos h, State.efRelease_free hsel]
  simp only [if_true, hrail]

theorem efClrWrite_clears {s : State} {e : Fin 16} (h : s.efState e = 6 ∨ s.efState e = 7) (hsel : s.rd (CMP_EF_SRC_Sel e) = 0) :
    Answers (exec (.efClrWrite e) s) fun t => t.efState e = 1 ∧
      t.rd (EF_STAT_RetryLeft e) = (if s.rd (EF_RETRY_Mode e) = 1 then s.rd (EF_RETRY_Count e) else 0) ∧ (t.efc e).latch = false ∧
      (t.efc e).restartReq = s.on (EF_CFG_RailEn e) := by
  have hap : (EF_STAT_State e).apart (EF_STAT_RetryLeft e) = true := by simp [Fld.apart, EF_STAT_State, EF_STAT_RetryLeft]
  have hkeep := KeepsFuses.updTrips s
  have hretry {f : Fld} (hf : f.off = EF_RETRY e) (fresh : Bool) :
      ((s.updTrips.modEf e (fun c => { c with latch := false, fastPend := false })).efEnter e 1 fresh).rd f = s.rd f := by
    have hfar (g : Fld) (hg : g.off = EF_STAT e) : f.apart g = true := by
      simp only [Fld.apart, Bool.or_eq_true, bne_iff_ne, hf, hg, EF_RETRY, EF_STAT]
      omega
    rw [State.efEnter_rd _ _ _ _ (hfar _ rfl) (hfar _ rfl) (by rw [hf]; simp only [EF_RETRY, HIF_EQ_LOST_CNT]; omega), State.modEf_rd,
      hkeep.rd _ (by rw [hf]; simp only [EF_RETRY]; omega)]
  rw [exec_efClrWrite, State.efClear_released h hsel, answers_done, State.answer_efState, State.answer_rd _ _ (efReg_plain e (.inr rfl)),
    State.answer_efc, State.efc_modEf, State.efBudget_efc, State.efEnter_efc, State.efc_modEf]
  refine ⟨?_, ?_, rfl, rfl⟩
  · rw [State.efState, State.modEf_rd, State.efBudget_rd _ _ hap]
    exact State.efEnter_off _ _
  · rw [State.modEf_rd, State.efBudget_retry, hretry rfl, hretry rfl]

theorem efClrWrite_idle {s : State} {e : Fin 16} (h6 : s.efState e ≠ 6) (h7 : s.efState e ≠ 7) :
    Answers (exec (.efClrWrite e) s) fun t => Frame s t [] [] := by
  rw [exec_efClrWrite, State.efClear, if_neg (not_or.2 ⟨h6, h7⟩)]
  exact answers_unchanged rfl

/-- Settles O29: each control write by the state of its channel. -/
theorem fuseControls : Obligations.FuseControls := by
  intro s e
  refine ⟨efEnWrite_wakes, efEnWrite_enabled, efEnWrite_off s e, efOnWrite_ends, fun hst on => ?_, fun hrail hshed hhu => ?_,
    fun hrail hdemand on => ?_, efClrWrite_clears, efClrWrite_idle⟩
  · exact efOnWrite_stores on (by omega)
  · have hdemand : (s.efOnBit e true).efDemand e = true := by rw [State.efOnBit_demand, hrail, hshed, hhu]; rfl
    exact efOnWrite_stores true (by simp [hdemand])
  · have hkept : (s.efOnBit e on).efDemand e = s.efDemand e := by
      rw [State.efOnBit_demand, State.efDemand, State.efOwner, if_pos hrail, if_pos hrail]
    exact efOnWrite_stores on (by simp [hkept, hdemand])

end Sys2Proof.Machine
end

section
/-!
SUPPORT. Commands and timers of a loop tile (R63, R146, R149-R152, R154, R155, R163, R166).
-/
namespace Sys2Proof.Machine

set_option Elab.async false

theorem exec_ltRetryExpiry (n : Fin 24) (s : State) : exec (.ltRetryExpiry n) s = done s (s.ltRetry n) := rfl
theorem exec_ltIlimLong (n : Fin 24) (s : State) : exec (.ltIlimLong n) s = done s (s.ltIlimLong n) := rfl
theorem exec_ltRetryBudgetRestore (n : Fin 24) (s : State) : exec (.ltRetryBudgetRestore n) s = done s (s.ltRestoreBudget n) := rfl
theorem exec_ltEnWrite (n : Fin 24) (en : Bool) (s : State) : exec (.ltEnWrite n en) s = done s (s.ltEnable n en) := rfl
theorem exec_ltClr (n : Fin 24) (s : State) : exec (.ltClr n) s = done s (s.ltClear n) := rfl
theorem exec_setpointSlew (tag : Fin 256) (s : State) : exec (.setpointSlew tag) s = done s (s.setpointSlew tag) := rfl
theorem exec_loopMode (tag : Fin 256) (s : State) : exec (.loopMode tag) s = done s (s.loopModeCmd tag) := rfl

/-! ### A tile and its registers -/

/-- The fields of a tile that its rows write. -/
def ltFlds (n : Nat) : List Fld := [LT_CTL_En n, LT_STAT_RetryLeft n, LT_STAT_Mode n, LT_STAT_RefClamp n, LT_REF_TGT_R n]

theorem ltFlds_plain (n : Fin 24) : ∀ f ∈ ltFlds n, f.plain = true := by revert n; decide +kernel

@[simp] theorem State.ltc_wr (s : State) (f : Fld) (v n : Nat) : (s.wr f v).ltc n = s.ltc n := rfl
@[simp] theorem State.ltc_modCmd (s : State) (tag : Nat) (g : Cmd → Cmd) (n : Nat) : (s.modCmd tag g).ltc n = s.ltc n := rfl
@[simp] theorem State.ltc_modLt (s : State) (n : Nat) (g : LtCh → LtCh) : (s.modLt n g).ltc n = g (s.ltc n) := nth_upd_same _ _ _
theorem State.ltc_modLt_other (s : State) {n k : Nat} (g : LtCh → LtCh) (h : k ≠ n) : (s.modLt n g).ltc k = s.ltc k := nth_upd_other _ _ h
theorem State.answer_ltc (x : State) (q : List Instr) (n : Nat) : (x.settle.requeue q).ltc n = x.ltc n := by
  rw [State.ltc, State.requeue_lt, State.settle_lt, State.ltc]

/-! ### Timers (R146, R163) -/

theorem ltRetryExpiry_due {s : State} {n : Fin 24} (h : s.ltRetryDue n = true) : Answers (exec (.ltRetryExpiry n) s) fun t =>
    t.lt = (s.modLt n fun c => { c with restartReq := true }).lt ∧ Frame s t [] [.lt] := by
  rw [exec_ltRetryExpiry, State.ltRetry, if_pos h, answers_done, State.requeue_lt, State.settle_lt]
  exact ⟨rfl, ((Reach.refl s _ _).modLt _ _ (by simp)).frame _⟩

theorem ltRetryExpiry_early {s : State} {n : Fin 24} (h : s.ltRetryDue n = false) :
    Answers (exec (.ltRetryExpiry n) s) fun t => Frame s t [] [] := by
  rw [exec_ltRetryExpiry, State.ltRetry, if_neg (by simp [h])]
  exact answers_unchanged rfl

theorem ltIlimLong_raises {s : State} {n : Fin 24} (k : Nat) (h : (s.ltc n).ilFrames = some k) (hmax : s.rd (LT_ILIM_CFG_MaxFrames n) ≠ 0)
    (hk : s.rd (LT_ILIM_CFG_MaxFrames n) ≤ k) (hfirst : (s.ltc n).ilRaised = false) (ha : s.on (FLT_SRC_CFG_Assigned 109) = true) :
    Answers (exec (.ltIlimLong n) s) fun t => Raised t 109 n ∧ t.lt = (s.modLt n fun c => { c with ilRaised := true }).lt ∧
      FrameFault s t [] [.lt] := by
  have hreach : Reach s (s.modLt n (fun c => { c with ilRaised := true })) [] [.lt] := (Reach.refl s _ _).modLt _ _ (by simp)
  have hraised := State.raise_raised (s.modLt n (fun c => { c with ilRaised := true })) n (src := 109) (by decide) (by decide) ha
  rw [exec_ltIlimLong, State.ltIlimLong, h]
  dsimp only
  rw [if_pos ⟨hmax, hk, hfirst⟩, answers_done, State.requeue_lt, State.settle_lt, (FaultSide.raise _ 109 n (by decide)).lt]
  exact ⟨hraised.answer (by decide) _, rfl, (hreach.fault.raise n (by decide)).frame _⟩

theorem ltIlimLong_quiet {s : State} {n : Fin 24}
    (h : s.rd (LT_ILIM_CFG_MaxFrames n) = 0 ∨ (s.ltc n).ilRaised = true ∨ (s.ltc n).ilFrames = none) :
    Answers (exec (.ltIlimLong n) s) fun t => Frame s t [] [] := by
  have hsame : s.ltIlimLong n = s := by
    rw [State.ltIlimLong]
    split
    next k hk =>
      refine if_neg fun ⟨hmax, _, hfirst⟩ => ?_
      rcases h with h | h | h
      · exact hmax h
      · simp [hfirst] at h
      · simp [hk] at h
    next => rfl
  rw [exec_ltIlimLong, hsame]
  exact answers_unchanged rfl

/-! ### The budget (R163) -/

theorem State.ltBudget_retry (s : State) (n : Nat) : (s.ltBudget n).rd (LT_STAT_RetryLeft n) =
    if s.rd (LT_RETRY_Mode n) = 1 then s.rd (LT_RETRY_Count n) else 0 := by
  rw [State.ltBudget, State.modLt_rd, State.rd_wr_same _ _ _ rfl]
  refine Nat.mod_eq_of_lt ?_
  split
  · exact State.rd_lt s _
  · exact Nat.two_pow_pos _

theorem State.ltBudget_mode (s : State) (n : Nat) : (s.ltBudget n).ltMode n = s.ltMode n := by
  have hap : (LT_STAT_Mode n).apart (LT_STAT_RetryLeft n) = true := by simp [Fld.apart, LT_STAT_Mode, LT_STAT_RetryLeft]
  rw [State.ltMode, State.ltBudget, State.modLt_rd, State.rd_wr_apart (g := LT_STAT_RetryLeft n) _ _ rfl hap, State.ltMode]

theorem State.ltBudget_reach (s : State) (n : Nat) : Reach s (s.ltBudget n) [LT_STAT_RetryLeft n] [.lt] :=
  ((Reach.refl s _ _).wr (g := LT_STAT_RetryLeft n) _ (by simp) rfl).modLt _ _ (by simp)

/-- What the answer shows where the budget returns and nothing else happens. -/
theorem ltBudget_answers (s : State) (n : Fin 24) : Answers (done s (s.ltBudget n)) fun t =>
    t.rd (LT_STAT_RetryLeft n) = (if s.rd (LT_RETRY_Mode n) = 1 then s.rd (LT_RETRY_Count n) else 0) ∧
    Frame s t [LT_STAT_RetryLeft n] [.lt] := by
  rw [answers_done, State.answer_rd _ _ (ltFlds_plain n _ (by simp [ltFlds])), State.ltBudget_retry]
  exact ⟨rfl, (s.ltBudget_reach n).frame _⟩

theorem ltRetryBudgetRestore_due {s : State} {n : Fin 24} (h1 : s.ltMode n = 3) (h2 : 100000 ≤ (s.ltc n).autoCnt) :
    Answers (exec (.ltRetryBudgetRestore n) s) fun t =>
      t.rd (LT_STAT_RetryLeft n) = (if s.rd (LT_RETRY_Mode n) = 1 then s.rd (LT_RETRY_Count n) else 0) ∧
      Frame s t [LT_STAT_RetryLeft n] [.lt] := by
  rw [exec_ltRetryBudgetRestore, State.ltRestoreBudget, if_pos ⟨h1, h2⟩]
  exact ltBudget_answers s n

theorem ltRetryBudgetRestore_early {s : State} {n : Fin 24} (h : s.ltMode n ≠ 3 ∨ (s.ltc n).autoCnt < 100000) :
    Answers (exec (.ltRetryBudgetRestore n) s) fun t => Frame s t [] [] := by
  rw [exec_ltRetryBudgetRestore, State.ltRestoreBudget, if_neg (by omega)]
  exact answers_unchanged rfl

/-! ### Enable (R63) -/

theorem ltEnWrite_answers (s : State) (n : Fin 24) (en : Bool) : Answers (exec (.ltEnWrite n en) s) fun t => t.on (LT_CTL_En n) = en ∧
    (t.ltc n).disPend = !en ∧ (∀ k ≠ n.val, t.ltc k = s.ltc k) ∧ Frame s t [LT_CTL_En n] [.lt] := by
  obtain ⟨g, heq, hpend⟩ : ∃ g : LtCh → LtCh, s.ltEnable n en = (s.wrB (LT_CTL_En n) en).modLt n g ∧ ∀ c, (g c).disPend = !en := by
    cases en
    · exact ⟨_, rfl, fun _ => rfl⟩
    · exact ⟨_, rfl, fun _ => rfl⟩
  rw [exec_ltEnWrite, heq, answers_done, State.answer_on _ _ (ltFlds_plain n _ (by simp [ltFlds])), State.answer_ltc, State.ltc_modLt,
    State.modLt_on, State.wrB_eq, State.on_wr_flag _ _ rfl rfl]
  refine ⟨rfl, hpend _, fun k hk => ?_, (((Reach.refl s _ _).wr _ (by simp) rfl).modLt _ _ (by simp)).frame _⟩
  rw [State.answer_ltc, State.ltc_modLt_other _ _ hk, State.ltc_wr]

/-! ### Clear (R155) -/

/-- The mode and the budget of a tile are kept. -/
structure TileKept (n : Nat) (s t : State) : Prop where
  mode : t.rd (LT_STAT_Mode n) = s.rd (LT_STAT_Mode n)
  retry : t.rd (LT_STAT_RetryLeft n) = s.rd (LT_STAT_RetryLeft n)

namespace TileKept
variable {n : Nat} {s t u : State}

theorem refl (n : Nat) (s : State) : TileKept n s s := ⟨rfl, rfl⟩

theorem trans (h : TileKept n s t) (k : TileKept n t u) : TileKept n s u := ⟨k.mode.trans h.mode, k.retry.trans h.retry⟩

theorem of_rd (h : ∀ f : Fld, f.off = LT_STAT n → t.rd f = s.rd f) : TileKept n s t := ⟨h _ rfl, h _ rfl⟩

theorem modLt (h : TileKept n s t) (k : Nat) (g : LtCh → LtCh) : TileKept n s (t.modLt k g) := ⟨h.mode, h.retry⟩

/-- A flag of the status register between the mode and the budget. -/
theorem flag (h : TileKept n s t) (i : Nat) (b : Bool) (h1 : 2 < i) (h2 : i < 12) : TileKept n s (t.wrB ⟨LT_STAT n, i, i⟩ b) := by
  have hmode : (LT_STAT_Mode n).apart ⟨LT_STAT n, i, i⟩ = true := by simp [Fld.apart, LT_STAT_Mode, h1]
  have hretry : (LT_STAT_RetryLeft n).apart ⟨LT_STAT n, i, i⟩ = true := by simp [Fld.apart, LT_STAT_RetryLeft, h2]
  exact h.trans ⟨by rw [State.wrB_eq, State.rd_wr_apart _ _ (by simp [Fld.ok]; omega) hmode],
    by rw [State.wrB_eq, State.rd_wr_apart _ _ (by simp [Fld.ok]; omega) hretry]⟩

/-- The completion of a command writes neither. -/
theorem complete (h : TileKept n s t) (hn : n < 24) (tag : Nat) (st : Status) (result : Nat) : TileKept n s (t.complete tag st result) := by
  refine h.trans ?_
  rw [State.complete]
  split
  next c _ =>
    refine of_rd fun f hf => ?_
    rw [State.completeCmd_eq]
    exact t.holdTag_rd c st (by rw [hf]; simp only [LT_STAT, FLT_INJ]; omega) (by rw [hf]; simp only [LT_STAT, HIF_TAG]; omega)
      (by rw [hf]; simp only [LT_STAT, FRM_REFUSED_CNT]; omega)
  next => exact refl n t

theorem ltFlushSlews (h : TileKept n s t) (hn : n < 24) (st : Status) : TileKept n s (t.ltFlushSlews n st) := by
  have hfold : TileKept n s (forEach (t.ltc n).waiting.dropLast (t.modLt n (fun c => { c with waiting := [] }))
      (fun s w => s.complete w.tag .superseded (unsigned 32 w.prev))) :=
    List.foldlRecOn _ _ (h.modLt n _) fun x hx w _ => hx.complete hn _ _ _
  rw [State.ltFlushSlews]
  split
  · exact hfold.complete hn _ _ _
  · exact hfold

theorem ltNoPre (h : TileKept n s t) (hn : n < 24) : TileKept n s (t.ltNoPre n) := by
  have hrest (x : State) (hx : TileKept n s x) : TileKept n s (((x.ltFlushSlews n .ok).modLt n (fun c => { c with running := none })).wrB
      (LT_STAT_AwActive n) false) := ((hx.ltFlushSlews hn .ok).modLt n _).flag 6 false (by decide) (by decide)
  rw [State.ltNoPre]
  split
  next w _ =>
    refine hrest _ ((h.modLt n (fun c => { c with tgtV := w.tgtV, step := w.step })).trans (of_rd fun f hf => ?_))
    exact State.rd_wr_off (g := LT_REF_TGT_R n) _ _ (by rw [hf]; simp only [LT_STAT, LT_REF_TGT_R, LT_REF_TGT]; omega)
  next => exact hrest _ h

end TileKept

theorem State.ltEnter_off (s : State) {n : Nat} (hn : n < 24) : (s.ltEnter n 0).ltMode n = 0 ∧
    (s.ltEnter n 0).rd (LT_STAT_RetryLeft n) = s.rd (LT_STAT_RetryLeft n) := by
  have hap : (LT_STAT_RetryLeft n).apart (LT_STAT_Mode n) = true := by simp [Fld.apart, LT_STAT_Mode, LT_STAT_RetryLeft]
  have hkept : TileKept n (s.wr (LT_STAT_Mode n) 0) (s.ltEnter n 0) :=
    ((((TileKept.refl n _).modLt n _).flag 3 false (by decide) (by decide)).flag 10 false (by decide) (by decide)).ltNoPre hn
  refine ⟨hkept.mode.trans (State.rd_wr_same s (LT_STAT_Mode n) 0 rfl), hkept.retry.trans ?_⟩
  rw [State.rd_wr_apart _ _ rfl hap]

theorem ltClr_faulted {s : State} {n : Fin 24} (h : s.ltMode n = 6) : Answers (exec (.ltClr n) s) fun t => t.ltMode n = 0 ∧
    t.rd (LT_STAT_RetryLeft n) = if s.rd (LT_RETRY_Mode n) = 1 then s.rd (LT_RETRY_Count n) else 0 := by
  obtain ⟨hmode, hretry⟩ := (s.ltBudget n).ltEnter_off n.2
  rw [exec_ltClr, State.ltClear]
  simp only [State.ltBudget_mode, h, if_true]
  rw [answers_done, State.ltMode, State.answer_rd _ _ (ltFlds_plain n _ (by simp [ltFlds])),
    State.answer_rd _ _ (ltFlds_plain n _ (by simp [ltFlds])), State.modLt_rd, State.modLt_rd, ← State.ltMode, hmode, hretry,
    State.ltBudget_retry]
  exact ⟨rfl, rfl⟩

theorem ltClr_running {s : State} {n : Fin 24} (h : s.ltMode n ≠ 6) : Answers (exec (.ltClr n) s) fun t =>
    t.rd (LT_STAT_RetryLeft n) = (if s.rd (LT_RETRY_Mode n) = 1 then s.rd (LT_RETRY_Count n) else 0) ∧
    Frame s t [LT_STAT_RetryLeft n] [.lt] := by
  rw [exec_ltClr, State.ltClear]
  simp only [State.ltBudget_mode, h, if_false]
  exact ltBudget_answers s n

/-! ### SETPOINT_SLEW (R149-R152) -/

/-- What a command that passes its commit point and completes leaves of the rest. -/
theorem commit_complete_keeps {x : State} {tag : Fin 256} {c : Cmd} (h : x.findCmd tag = some c) (result : Nat) :
    Completes x ((x.commit tag).complete tag .ok result) c .ok result ∧ (∀ n, ((x.commit tag).complete tag .ok result).ltc n = x.ltc n) ∧
    ∀ f : Fld, 0x6000 ≤ f.off → f.off < 0x2C800 → ((x.commit tag).complete tag .ok result).rd f = x.rd f := by
  have hreach := (Reach.refl (x.commit tag) [HIF_TAG_State c.tag, FLT_INJ_Armed] [.rings, .flt]).completeCmd
    { c with commit := true } (st := .ok) result (by decide) List.mem_cons_self (by simp) (by simp) (by simp)
  rw [State.complete_of_find (State.findCmd_commit h)]
  have hlt : ((x.commit tag).completeCmd { c with commit := true } .ok result).lt = x.lt := hreach.parts .lt (by simp)
  refine ⟨((x.commit tag).completeCmd_completes { c with commit := true } .ok result).from rfl rfl, fun n => ?_, ?_⟩
  · rw [State.ltc, hlt, State.ltc]
  intro f h1 h2
  rw [State.completeCmd_eq]
  exact State.holdTag_rd (x.commit tag) { c with commit := true } .ok (by simp only [FLT_INJ]; omega) (by simp only [HIF_TAG]; omega)
    (by simp only [FRM_REFUSED_CNT]; omega)

/-- A value within the format reads back as it was stored. -/
theorem signed_unsigned {x : Int} (h1 : -2 ^ 31 ≤ x) (h2 : x < 2 ^ 31) : signed 32 (unsigned 32 x) = x := by
  rw [signed, unsigned]
  split <;> omega

theorem satS_range (x : Int) : -2 ^ 31 ≤ satS 32 x ∧ satS 32 x < 2 ^ 31 := by
  rw [satS, clampI]
  omega

theorem unsigned_lt (x : Int) : unsigned 32 x < 2 ^ 32 := by
  rw [unsigned]
  omega

theorem State.ltCode_range (s : State) (n : Nat) (v : Int) : -2 ^ 31 ≤ s.ltCode n v ∧ s.ltCode n v < 2 ^ 31 := satS_range _

/-- A target in V within the limits of the tile. -/
def State.ltGoal (s : State) (n : Nat) (p : List Byte) : Int :=
  clampI (s.rdS (LT_REF_MIN_V n)) (s.rdS (LT_REF_MAX_V n)) (signed 32 (numAt p 0 4))

/-- The slew's slot has run, and a target beyond the limits shows. -/
def State.slewSeen (s : State) (tag n : Nat) (p : List Byte) : State :=
  ((s.modCmd tag (fun c => c.ran [.start])).ltClampTgt n (signed 32 (numAt p 0 4))).2

theorem State.slewSeen_reach (s : State) (tag n : Nat) (p : List Byte) : Reach s (s.slewSeen tag n p) [LT_STAT_RefClamp n] [.rings] := by
  have hran : Reach s (s.modCmd tag (fun c => c.ran [.start])) [LT_STAT_RefClamp n] [.rings] := (Reach.refl s _ _).modCmd _ _ (by simp)
  exact hran.when (g := fun x => x.wrB (LT_STAT_RefClamp n) true) _ (hran.wr _ (by simp) rfl)

theorem State.slewSeen_rd (s : State) (tag n : Nat) (p : List Byte) {f : Fld} (h : f.apart (LT_STAT_RefClamp n) = true) :
    (s.slewSeen tag n p).rd f = s.rd f := by
  have hmark (b : Bool) : ((s.modCmd tag (fun c => c.ran [.start])).when b (fun x => x.wrB (LT_STAT_RefClamp n) true)).rd f = s.rd f := by
    cases b
    · rw [State.when_false, State.modCmd_rd]
    · rw [State.when_true, State.wrB_eq, State.rd_wr_apart (g := LT_STAT_RefClamp n) _ _ rfl h, State.modCmd_rd]
  exact hmark _

theorem State.slewSeen_keeps (s : State) (tag n : Nat) (p : List Byte) :
    (s.slewSeen tag n p).hif = (s.modCmd tag (fun c => c.ran [.start])).hif ∧ (s.slewSeen tag n p).lt = s.lt := by
  have hmark (x : State) (b : Bool) : (x.when b (fun x => x.wrB (LT_STAT_RefClamp n) true)).hif = x.hif ∧
      (x.when b (fun x => x.wrB (LT_STAT_RefClamp n) true)).lt = x.lt := by
    cases b
    · exact ⟨rfl, rfl⟩
    · rw [State.when_true, State.wrB_eq]
      exact ⟨State.wr_hif _ _ _, State.wr_lt _ _ _⟩
  exact hmark (s.modCmd tag (fun c => c.ran [.start])) _

theorem State.slewSeen_ltc (s : State) (tag n : Nat) (p : List Byte) : (s.slewSeen tag n p).ltc n = s.ltc n := by
  rw [State.ltc, (s.slewSeen_keeps tag n p).2, State.ltc]

theorem State.slewSeen_code (s : State) (tag n : Nat) (p : List Byte) (v : Int) : (s.slewSeen tag n p).ltCode n v = s.ltCode n v := by
  have hoff (f : Fld) (h : f.off = LT_REF_SCALE n ∨ f.off = LT_REF_OFS n) : (s.slewSeen tag n p).rd f = s.rd f := by
    refine s.slewSeen_rd tag n p ?_
    simp only [Fld.apart, Bool.or_eq_true, bne_iff_ne, LT_STAT_RefClamp, LT_STAT, LT_REF_SCALE, LT_REF_OFS] at h ⊢
    omega
  rw [State.ltCode, State.ltCode, State.rdS, State.rdS, hoff _ (.inl rfl), hoff _ (.inr rfl)]

theorem State.slewSeen_mode (s : State) (tag n : Nat) (p : List Byte) : (s.slewSeen tag n p).ltMode n = s.ltMode n :=
  s.slewSeen_rd tag n p (by simp [Fld.apart, LT_STAT_Mode, LT_STAT_RefClamp])

/-- The slew that waits for the next precompute. -/
def State.slewOf (s : State) (tag n : Nat) (c : Cmd) : Slew :=
  { tag := tag, gen := c.gen, tgtV := s.ltGoal n c.payload, tgt := s.ltCode n (s.ltGoal n c.payload), prev := (s.ltc n).tgtV,
    step := (s.slewSeen tag n c.payload).ltOwnStep n (numAt c.payload 4 4) }

/-- The target that a tile without precompute stores. -/
def State.slewStored (s : State) (tag n : Nat) (c : Cmd) : State :=
  ((s.slewSeen tag n c.payload).modLt n (fun t => { t with tgtV := (s.slewOf tag n c).tgtV, step := (s.slewOf tag n c).step })).wrS
    (LT_REF_TGT_R n) (s.slewOf tag n c).tgt

theorem State.setpointSlew_eq {s : State} {tag : Nat} {n : Fin 24} {c : Cmd} (h : s.ready tag 0x12 = some c)
    (hp : c.point = 0x4000 + 32 * n.val) : s.setpointSlew tag =
      if !zeroAt c.payload 8 32 || s.slOwns c.point then
        (s.modCmd tag (fun c => c.ran [.start])).complete tag .refusedState (unsigned 32 (s.ltc n).tgtV)
      else if s.ltMode n = 0 ∨ s.ltMode n = 1 ∨ 5 ≤ s.ltMode n then
        ((s.slewStored tag n c).commit tag).complete tag .ok (unsigned 32 (s.ltc n).tgtV)
      else (s.slewSeen tag n c.payload).modLt n (fun t => { t with waiting := t.waiting ++ [s.slewOf tag n c] }) := by
  have hn : (c.point - 0x4000) / 32 = n := by omega
  have hgoal : ((s.modCmd tag (fun c => c.ran [.start])).ltClampTgt n (signed 32 (numAt c.payload 0 4))) =
      (s.ltGoal n c.payload, s.slewSeen tag n c.payload) := rfl
  have howns : (s.modCmd tag (fun c => c.ran [.start])).slOwns c.point = s.slOwns c.point := rfl
  rw [State.setpointSlew, h]
  simp only [hn, howns, hgoal, State.slewSeen_mode, State.slewSeen_code]
  rfl

section Slew
variable {s : State} {tag : Fin 256} {n : Fin 24} {c : Cmd} (h : s.ready tag 0x12 = some c) (hp : c.point = 0x4000 + 32 * n.val)
include h hp

theorem setpointSlew_refuses (hbad : zeroAt c.payload 8 32 = false ∨ s.slOwns c.point = true) :
    Answers (exec (.setpointSlew tag) s) fun t => Completes s t c .refusedState (unsigned 32 (s.ltc n).tgtV) := by
  rw [exec_setpointSlew, State.setpointSlew_eq h hp, if_pos (by rcases hbad with hb | hb <;> simp [hb])]
  exact (complete_ran_alone (State.ready_eq_some.1 h).1 [.start] _ (by decide)).imp fun _ ⟨ht, hc, _⟩ => ⟨ht, hc⟩

variable (hzero : zeroAt c.payload 8 32 = true) (hfree : s.slOwns c.point = false)
include hzero hfree

theorem setpointSlew_waits (h2 : 2 ≤ s.ltMode n) (h4 : s.ltMode n ≤ 4) : Answers (exec (.setpointSlew tag) s) fun t =>
    t.findCmd tag.val = some (c.ran [.start]) ∧ (∃ w : Slew, (t.ltc n).waiting = (s.ltc n).waiting ++ [w] ∧ w.tag = tag.val ∧
      w.prev = (s.ltc n).tgtV) ∧ Frame s t [LT_STAT_RefClamp n] [.rings, .lt] := by
  have hfind := State.findCmd_ran (State.ready_eq_some.1 h).1 [.start]
  have hreach := ((s.slewSeen_reach tag n c.payload).mono (fs' := [LT_STAT_RefClamp n]) (ps' := [.rings, .lt]) (by simp) (by simp)).modLt n
    (fun t => { t with waiting := t.waiting ++ [s.slewOf tag n c] }) (by simp)
  rw [exec_setpointSlew, State.setpointSlew_eq h hp, if_neg (by simp [hzero, hfree]), if_neg (by omega), answers_done, State.answer_ltc,
    State.ltc_modLt, State.slewSeen_ltc, State.answer_findCmd]
  refine ⟨?_, ⟨s.slewOf tag n c, rfl, rfl, rfl⟩, hreach.frame _⟩
  rw [← hfind]
  exact State.findCmd_of_hif (by rw [State.modLt_hif, (s.slewSeen_keeps tag n c.payload).1]) tag

theorem setpointSlew_stores (hm : s.ltMode n = 0 ∨ s.ltMode n = 1 ∨ 5 ≤ s.ltMode n) : Answers (exec (.setpointSlew tag) s) fun t =>
    Completes s t c .ok (unsigned 32 (s.ltc n).tgtV) ∧ (t.ltc n).tgtV = s.ltGoal n c.payload ∧
    t.rdS (LT_REF_TGT_R n) = s.ltCode n (s.ltGoal n c.payload) := by
  have hfind := State.findCmd_ran (State.ready_eq_some.1 h).1 [.start]
  have htag : c.tag < 256 := by rw [State.findCmd_tag (State.ready_eq_some.1 h).1]; exact tag.2
  have hhif : (s.slewStored tag n c).hif = (s.modCmd tag (fun c => c.ran [.start])).hif := by
    rw [State.slewStored, State.wrS_eq, State.wr_hif, State.modLt_hif, (s.slewSeen_keeps tag n c.payload).1]
  have hreach : Reach s (s.slewStored tag n c) [LT_STAT_RefClamp n, LT_REF_TGT_R n] [.rings, .lt] :=
    (((s.slewSeen_reach tag n c.payload).mono (by simp) (by simp)).modLt n _ (by simp)).wr (g := LT_REF_TGT_R n) _ (by simp) rfl
  have hframe : (s.slewStored tag n c).frame32 = s.frame32 :=
    hreach.regs FRM_FRAME_CNT_LO_Lo (by decide +kernel) (by clear * -; revert n; decide +kernel)
  have hltc : ((s.slewStored tag n c).ltc n).tgtV = s.ltGoal n c.payload := by
    rw [State.slewStored, State.wrS_eq, State.ltc_wr, State.ltc_modLt]
    rfl
  have hcode : (s.slewStored tag n c).rdS (LT_REF_TGT_R n) = s.ltCode n (s.ltGoal n c.payload) := by
    obtain ⟨h1, h2⟩ := s.ltCode_range n (s.ltGoal n c.payload)
    rw [State.rdS, State.slewStored, State.wrS_eq, State.rd_wr_same _ _ _ rfl]
    exact (congrArg (signed 32) (Nat.mod_eq_of_lt (unsigned_lt _))).trans (signed_unsigned h1 h2)
  rw [exec_setpointSlew, State.setpointSlew_eq h hp, if_neg (by simp [hzero, hfree]), if_pos hm]
  generalize s.slewStored tag n c = x at *
  have hfound : x.findCmd tag = some (c.ran [.start]) := by
    rw [← hfind]
    exact State.findCmd_of_hif (by rw [hhif]) tag
  obtain ⟨hdone, hltKept, hrd⟩ := commit_complete_keeps hfound (unsigned 32 (s.ltc n).tgtV)
  have hoff : 0x6000 ≤ (LT_REF_TGT_R n).off ∧ (LT_REF_TGT_R n).off < 0x2C800 := by simp only [LT_REF_TGT_R, LT_REF_TGT]; omega
  rw [answers_done, State.answer_ltc, hltKept, State.rdS, State.answer_rd _ _ (ltFlds_plain n _ (by simp [ltFlds])),
    hrd _ hoff.1 hoff.2, ← State.rdS]
  exact ⟨(hdone.from (by rw [hhif]; rfl) hframe).answer htag _, hltc, hcode⟩

end Slew

/-! ### LOOP_MODE (R154, R155) -/

theorem State.loopModeCmd_tile {s : State} {tag : Nat} {n : Fin 24} {c : Cmd} (h : s.ready tag 0x13 = some c)
    (hp : c.point = 0x4004 + 32 * n.val) : s.loopModeCmd tag =
      if !zeroAt c.payload 1 39 then s.complete tag .refusedState (s.ltMode n) else s.ltLoopMode tag n (numAt c.payload 0 1) := by
  have htile : 0x4000 ≤ c.point ∧ c.point < 0x4300 ∧ c.point % 32 = 4 := by omega
  have hn : (c.point - 0x4000) / 32 = n := by omega
  rw [State.loopModeCmd, h]
  simp only [if_pos htile, hn]

section Mode
variable {s : State} {tag : Fin 256} {n : Fin 24} {c : Cmd} (h : s.ready tag 0x13 = some c) (hp : c.point = 0x4004 + 32 * n.val)
include h hp

theorem loopMode_refuses (hbad : zeroAt c.payload 1 39 = false ∨ numAt c.payload 0 1 ∉ [0, 3, 4] ∨
      (numAt c.payload 0 1 = 0 ∧ s.ltRailed n = true) ∨ (numAt c.payload 0 1 ≠ 0 ∧ s.ltMode n ≠ 3 ∧ s.ltMode n ≠ 4)) :
    Answers (exec (.loopMode tag) s) fun t => Completes s t c .refusedState (s.ltMode n) := by
  have hfind := (State.ready_eq_some.1 h).1
  have hran := complete_ran_alone hfind [.start] (st := .refusedState) (s.ltMode n) (by decide)
  rw [exec_loopMode, State.loopModeCmd_tile h hp]
  cases hz : zeroAt c.payload 1 39
  case false => exact (complete_alone hfind (Reach.refl s _ _) rfl _ (by decide)).imp fun _ ⟨ht, hc, _⟩ => ⟨ht, hc⟩
  case true =>
    have hrefuse : s.ltLoopMode tag n (numAt c.payload 0 1) =
        (s.modCmd tag (fun c => c.ran [.start])).complete tag .refusedState (s.ltMode n) := by
      have hrailed : (s.modCmd tag (fun c => c.ran [.start])).ltRailed n = s.ltRailed n := rfl
      rw [State.ltLoopMode]
      rw [hrailed]
      split_ifs with h1 h2 h3
      · rfl
      · rfl
      · rfl
      · rcases hbad with hb | hb | hb | hb
        · simp [hz] at hb
        · exact absurd (by simpa using hb) h1
        · exact absurd hb h2
        · exact absurd hb h3
    exact hrefuse ▸ hran.imp fun _ ⟨ht, hc, _⟩ => ⟨ht, hc⟩

theorem loopMode_waits (hzero : zeroAt c.payload 1 39 = true) (hok : (numAt c.payload 0 1 = 0 ∧ s.ltRailed n = false) ∨
      (numAt c.payload 0 1 ∈ [3, 4] ∧ (s.ltMode n = 3 ∨ s.ltMode n = 4))) :
    Answers (exec (.loopMode tag) s) fun t => t.findCmd tag.val = some (c.ran [.start]) ∧
      t.lt = (s.modLt n fun l => { l with modePend := l.modePend ++ [(tag.val, numAt c.payload 0 1)] }).lt ∧
      Frame s t [] [.rings, .lt] := by
  have hfind := State.findCmd_ran (State.ready_eq_some.1 h).1 [.start]
  have hwait : s.ltLoopMode tag n (numAt c.payload 0 1) = (s.modCmd tag (fun c => c.ran [.start])).modLt n
      (fun l => { l with modePend := l.modePend ++ [(tag.val, numAt c.payload 0 1)] }) := by
    have hrailed : (s.modCmd tag (fun c => c.ran [.start])).ltRailed n = s.ltRailed n := rfl
    simp only [List.mem_cons, List.not_mem_nil, or_false] at hok
    rw [State.ltLoopMode]
    rw [hrailed, if_neg (by omega), if_neg (by rintro ⟨h0, h1⟩; simp [h1] at hok; omega), if_neg (by omega)]
  rw [exec_loopMode, State.loopModeCmd_tile h hp, if_neg (by simp [hzero]), hwait, answers_done, State.answer_findCmd, State.requeue_lt,
    State.settle_lt]
  exact ⟨hfind, rfl, (((Reach.refl s _ _).modCmd _ _ (by simp)).modLt _ _ (by simp)).frame _⟩

end Mode

/-- Settles O25: the timers and control writes of a tile, and its two commands by the mode of the tile. -/
theorem tileCommands : Obligations.TileCommands := fun s n =>
  ⟨ltRetryExpiry_due, ltRetryExpiry_early, ltIlimLong_raises, ltIlimLong_quiet, ltRetryBudgetRestore_due, ltRetryBudgetRestore_early,
   ltEnWrite_answers s n, ltClr_faulted, ltClr_running,
   fun _ _ h hp => ⟨setpointSlew_refuses h hp,
    fun hzero hfree => ⟨setpointSlew_stores h hp hzero hfree, setpointSlew_waits h hp hzero hfree⟩⟩,
   fun _ _ h hp => ⟨loopMode_refuses h hp, loopMode_waits h hp⟩⟩

end Sys2Proof.Machine
end

section
/-!
SUPPORT. The registers of sensing and comparators: bits of their words, the latches and raw events (R89-R95), and what leaves them alone.
-/
namespace Sys2Proof.Machine

set_option Elab.async false

/-! ### Registers and unit records -/

/-- The registers of sensing and comparators, AFE_STAT apart, hold no status field. -/
theorem senseFld_plain {f : Fld} (h1 : 0x8008 ≤ f.off) (h2 : f.off < 0x10000) : f.plain = true :=
  Fld.plain_of_range (by decide +kernel) h1 h2

/-- An effect on sensing. -/
theorem Reach.setSense {s x : State} {fs : List Fld} {ps : List Part} (h : Reach s x fs ps) (v : SenseState) (hm : Part.sense ∈ ps) :
    Reach s { x with sense := v } fs ps := by
  refine ⟨h.regs, fun p hp => ?_⟩
  cases p
  case sense => exact absurd hm hp
  all_goals exact h.parts _ hp

theorem Reach.modTm {s x : State} {fs : List Fld} {ps : List Part} (h : Reach s x fs ps) (k : Nat) (g : TmCh → TmCh)
    (hm : Part.sense ∈ ps) : Reach s (x.modTm k g) fs ps := h.setSense _ hm

theorem Reach.modCmp {s x : State} {fs : List Fld} {ps : List Part} (h : Reach s x fs ps) (n : Nat) (g : CmpSt → CmpSt)
    (hm : Part.sense ∈ ps) : Reach s (x.modCmp n g) fs ps := h.setSense _ hm

/-- Two changes of one unit record, one after the other. -/
theorem upd_upd {α : Type} [Inhabited α] (l : List α) (i : Nat) (f g : α → α) : upd (upd l i f) i g = upd l i (fun a => g (f a)) := by
  induction l, i using upd.induct <;> simp_all [upd]

theorem State.modCmp_modCmp (s : State) (n : Nat) (f g : CmpSt → CmpSt) :
    (s.modCmp n f).modCmp n g = s.modCmp n (fun c => g (f c)) := by
  rw [State.modCmp, State.modCmp_sense, State.modCmp, upd_upd]; rfl

@[simp] theorem State.cmp_wr (s : State) (f : Fld) (v n : Nat) : (s.wr f v).cmp n = s.cmp n := rfl
@[simp] theorem State.cmp_modCmp (s : State) (n : Nat) (g : CmpSt → CmpSt) : (s.modCmp n g).cmp n = g (s.cmp n) := nth_upd_same _ _ _
theorem State.answer_cmp (x : State) (q : List Instr) (n : Nat) : (x.settle.requeue q).cmp n = x.cmp n := by
  rw [State.cmp, State.requeue_sense, State.settle_sense, State.cmp]

/-- A loop whose every step leaves the state leaves it. -/
theorem forN_unchanged {n : Nat} {s : State} {f : State → Nat → State} (h : ∀ k < n, f s k = s) : forN n s f = s :=
  List.foldlRecOn (motive := fun x => x = s) _ f rfl fun _ hx k hk => hx ▸ h k (List.mem_range.1 hk)

/-! ### Bits of a word -/

/-- A power of two taken from a number that has its bit. -/
theorem testBit_sub_two_pow {m i : Nat} (h : m.testBit i = true) (j : Nat) :
    (m - 2 ^ i).testBit j = (m.testBit j && decide (j ≠ i)) := by
  induction i generalizing m j with
  | zero =>
    rw [Nat.testBit_zero, decide_eq_true_eq] at h
    cases j with
    | zero => simp [Nat.testBit_zero]; omega
    | succ j => simp only [Nat.testBit_succ, pow_zero, show (m - 1) / 2 = m / 2 by omega]; simp
  | succ i ih =>
    rw [Nat.testBit_succ] at h
    have hle := Nat.ge_two_pow_of_testBit h
    cases j with
    | zero => simp only [Nat.testBit_zero, pow_succ]; simp; omega
    | succ j => simp only [Nat.testBit_succ, pow_succ, show (m - 2 ^ i * 2) / 2 = m / 2 - 2 ^ i by omega, ih h]; simp

theorem testBit_setBit (m i j : Nat) (b : Bool) : (setBit m i b).testBit j = if j = i then b else m.testBit j := by
  by_cases hj : j = i
  · subst hj
    cases b <;> cases hm : m.testBit j <;> simp [setBit, hm, testBit_sub_two_pow]
  · cases b <;> cases hm : m.testBit i <;> simp [setBit, hm, hj, Ne.symm hj, testBit_sub_two_pow]

theorem setBit_lt {m i n : Nat} (b : Bool) (hm : m < 2 ^ n) (hi : i < n) : setBit m i b < 2 ^ n := by
  cases b with
  | true => exact Nat.or_lt_two_pow hm (Nat.pow_lt_pow_right (by decide) hi)
  | false =>
    have hle : setBit m i false ≤ m := by
      simp only [setBit, Bool.false_eq_true, if_false]
      split_ifs
      · exact Nat.sub_le _ _
      · exact le_rfl
    exact hle.trans_lt hm

/-- Setting or clearing a bit of a whole register. -/
theorem State.wr_setBit (s : State) (o : Nat) {i : Nat} (b : Bool) (hi : i < 32) (j : Nat) :
    ((s.wr ⟨o, 31, 0⟩ (setBit (s.rd ⟨o, 31, 0⟩) i b)).rd ⟨o, 31, 0⟩).testBit j =
      if j = i then b else (s.rd ⟨o, 31, 0⟩).testBit j := by
  have hlt : setBit (s.rd ⟨o, 31, 0⟩) i b < Fld.size ⟨o, 31, 0⟩ := setBit_lt b (s.rd_lt _) hi
  rw [State.rd_wr_same _ _ _ rfl, Nat.mod_eq_of_lt hlt, testBit_setBit]

/-! ### Latches and raw events -/

/-- A comparator half has a bit of its own in a four-word array (R95). -/
theorem cmpWord_inj {n m : Nat} (hn : n < 64) (hm : m < 64) (h k : Bool) :
    (cmpWord n h = cmpWord m k ∧ n % 32 = m % 32) ↔ n = m ∧ h = k := by
  cases h <;> cases k <;> simp [cmpWord] <;> omega

theorem cmpWord_lt {n : Nat} (hn : n < 64) (high : Bool) : cmpWord n high < 4 := by
  cases high <;> simp [cmpWord] <;> omega

theorem State.latched_setLatch (s : State) {n m : Nat} (hn : n < 64) (hm : m < 64) (h b k : Bool) :
    (s.setLatch n h b).latched m k = if n = m ∧ h = k then b else s.latched m k := by
  have hword : (CMP_LATCH_Latch (cmpWord m k)).off = (CMP_LATCH_Latch (cmpWord n h)).off ↔ cmpWord n h = cmpWord m k := by
    simp only [CMP_LATCH_Latch, CMP_LATCH]; omega
  simp only [← cmpWord_inj hn hm]
  by_cases hw : cmpWord n h = cmpWord m k
  · rw [State.latched, State.setLatch, State.latched, ← hw]
    exact (s.wr_setBit _ b (Nat.mod_lt _ (by decide)) _).trans (if_congr (by simp [eq_comm]) rfl rfl)
  · rw [State.latched, State.setLatch, State.rd_wr_off _ _ (mt hword.1 hw), if_neg (fun hc => hw hc.1), State.latched]

/-- A change of a latch leaves every register but the latch words. -/
theorem State.setLatch_rd (s : State) {n : Nat} (hn : n < 64) (h b : Bool) {f : Fld} (hf : f.off < 0xC010 ∨ 0xC020 ≤ f.off) :
    (s.setLatch n h b).rd f = s.rd f := by
  have := cmpWord_lt hn h
  exact s.rd_wr_off _ (by simp only [CMP_LATCH_Latch, CMP_LATCH]; omega)

theorem State.rawEvent_congr {s t : State} (n : Nat) (high : Bool) (hn : n < 64)
    (h : ∀ f : Fld, f.off < 0xC010 → t.rd f = s.rd f) : t.rawEvent n high = s.rawEvent n high := by
  have := cmpWord_lt hn high
  rw [State.rawEvent, h _ (by simp only [CMP_RAW_Raw, CMP_RAW]; omega), State.rawEvent]

/-- R93, R94: clearing takes back the one latch, unless its event stands unblanked. -/
theorem State.latched_latchClear (s : State) {n m : Nat} (hn : n < 64) (hm : m < 64) (h k : Bool) :
    (s.latchClear n h).latched m k =
      if n = m ∧ h = k then s.latched m k && (s.rawEvent m k && !s.blanked m) else s.latched m k := by
  rw [State.latchClear]
  split_ifs with hs he he
  · obtain ⟨rfl, rfl⟩ := he; simp [hs]
  · rfl
  · obtain ⟨rfl, rfl⟩ := he
    rw [State.latched_setLatch _ hn hn, if_pos ⟨rfl, rfl⟩, Bool.eq_false_iff.2 hs, Bool.and_false]
  · rw [State.latched_setLatch _ hn hm, if_neg he]

theorem State.latchClear_rd (s : State) {n : Nat} (hn : n < 64) (h : Bool) {f : Fld} (hf : f.off < 0xC010 ∨ 0xC020 ≤ f.off) :
    (s.latchClear n h).rd f = s.rd f := by
  rw [State.latchClear]
  split_ifs
  · rfl
  · exact s.setLatch_rd hn h false hf

theorem State.latchClear_sense (s : State) (n : Nat) (h : Bool) : (s.latchClear n h).sense = s.sense := by
  rw [State.latchClear]
  split_ifs <;> rfl

/-! ### What pulse generators and trip lines leave -/

/-- What leaves the comparators alone: their registers but the trip counts, and their blanking and tests. -/
structure KeepsCmp (s t : State) : Prop where
  cmp : t.sense.cmp = s.sense.cmp
  rd : ∀ f : Fld, f.off < 0xC900 → t.rd f = s.rd f

namespace KeepsCmp
variable {s t u : State}

theorem refl (s : State) : KeepsCmp s s := ⟨rfl, fun _ _ => rfl⟩

theorem trans (h : KeepsCmp s t) (k : KeepsCmp t u) : KeepsCmp s u := ⟨k.cmp.trans h.cmp, fun f hf => (k.rd f hf).trans (h.rd f hf)⟩

theorem wr (h : KeepsCmp s t) (g : Fld) (v : Nat) (hg : 0xC900 ≤ g.off) : KeepsCmp s (t.wr g v) :=
  ⟨h.cmp, fun f hf => (t.rd_wr_off v (by omega)).trans (h.rd f hf)⟩

theorem modPg (h : KeepsCmp s t) (n : Nat) (g : PgCh → PgCh) : KeepsCmp s (t.modPg n g) := ⟨h.cmp, h.rd⟩

theorem modLt (h : KeepsCmp s t) (n : Nat) (g : LtCh → LtCh) : KeepsCmp s (t.modLt n g) := ⟨h.cmp, h.rd⟩

theorem when (b : Bool) {g : State → State} (h : KeepsCmp s t) (k : KeepsCmp s (g t)) : KeepsCmp s (t.when b g) := by
  cases b
  · exact h
  · exact k

theorem ite {c : Prop} [Decidable c] (h : KeepsCmp s t) (k : KeepsCmp s u) : KeepsCmp s (if c then t else u) := by
  split_ifs
  · exact h
  · exact k

/-- Changes one after the other. -/
theorem fold {α : Type} (l : List α) (g : State → α → State) (h : KeepsCmp s t)
    (hg : ∀ x, ∀ a ∈ l, KeepsCmp s x → KeepsCmp s (g x a)) : KeepsCmp s (l.foldl g t) :=
  List.foldlRecOn l g h fun x hx a ha => hg x a ha hx

/-- A write of a channel's status register. -/
theorem stat (h : KeepsCmp s t) (n hi lo v : Nat) : KeepsCmp s (t.wr ⟨PG_CH_STAT n, hi, lo⟩ v) :=
  h.wr _ _ (by simp only [PG_CH_STAT]; omega)

theorem pgSafe (h : KeepsCmp s t) (n : Nat) : KeepsCmp s (t.pgSafe n) := (h.modPg n _).stat n 1 1 _

theorem pgStop (h : KeepsCmp s t) (n : Nat) : KeepsCmp s (t.pgStop n) :=
  (((h.pgSafe n).stat n 0 0 _).stat n 2 2 _).modPg n _

theorem pgTripped (h : KeepsCmp s t) (n : Nat) : KeepsCmp s (t.pgTripped n) := by
  have hcode := h.stat n 9 8 (t.chanAct n)
  rw [State.pgTripped]
  exact hcode.ite (((hcode.pgSafe n).modPg n _).ite (((hcode.modPg n _).ite ((hcode.modPg n _).modPg n _)).ite hcode))

/-- The trip lines reach their counts, the groups and the pulse channels alone. -/
theorem updTrips (s : State) : KeepsCmp s s.updTrips := by
  rw [State.updTrips]
  refine (refl s).ite (fold (List.range 48) _ (fold _ _ ⟨rfl, fun _ _ => rfl⟩ fun x a _ hx => ?_) fun x n _ hx => hx.pgTripped n)
  refine fold (List.range 12) _ (hx.wr (CMP_TRIP_CNT_Cnt a) _ (by simp only [CMP_TRIP_CNT_Cnt, CMP_TRIP_CNT]; omega)) fun y g _ hy => ?_
  exact (hy.wr (PG_GRP_STAT_TripLatch g) _ (by simp only [PG_GRP_STAT_TripLatch, PG_GRP_STAT]; omega)).ite hy

theorem placeEdges (h : KeepsCmp s t) (n : Nat) : KeepsCmp s (t.placeEdges n) := by
  have hskip {x : State} (k : KeepsCmp s x) : KeepsCmp s ((x.wrB (PG_CH_STAT_Skip n) true).inc (PG_CH_SKIP_CNT_Cnt n)) :=
    (k.stat n 5 5 _).wr _ _ (by simp only [PG_CH_SKIP_CNT_Cnt, PG_CH_SKIP_CNT]; omega)
  have hclamp {x : State} (k : KeepsCmp s x) : KeepsCmp s ((x.wrB (PG_CH_STAT_Clamp n) true).inc (PG_CH_CLAMP_CNT_Cnt n)) :=
    (k.stat n 4 4 _).wr _ _ (by simp only [PG_CH_CLAMP_CNT_Cnt, PG_CH_CLAMP_CNT]; omega)
  have hlimit {x : State} (k : KeepsCmp s x) (clamp skip : Bool) : KeepsCmp s ((x.when clamp
      (fun s => (s.wrB (PG_CH_STAT_Clamp n) true).inc (PG_CH_CLAMP_CNT_Cnt n))).when skip
      (fun s => (s.wrB (PG_CH_STAT_Skip n) true).inc (PG_CH_SKIP_CNT_Cnt n))) :=
    (k.when _ (hclamp k)).when _ (hskip (k.when _ (hclamp k)))
  rw [State.placeEdges]
  exact ((h.when _ (hskip h)).modPg n _).ite ((hlimit h _ _).modPg n _)

theorem rawEvent (h : KeepsCmp s t) {n : Nat} (hn : n < 64) (high : Bool) : t.rawEvent n high = s.rawEvent n high :=
  State.rawEvent_congr n high hn fun f hf => h.rd f (by omega)

theorem latched (h : KeepsCmp s t) {n : Nat} (hn : n < 64) (high : Bool) : t.latched n high = s.latched n high := by
  have := cmpWord_lt hn high
  rw [State.latched, h.rd _ (by simp only [CMP_LATCH_Latch, CMP_LATCH]; omega), State.latched]

end KeepsCmp

theorem State.answer_latched (x : State) (q : List Instr) {n : Nat} (hn : n < 64) (high : Bool) :
    (x.settle.requeue q).latched n high = x.latched n high := by
  have := cmpWord_lt hn high
  rw [State.latched, State.answer_rd _ _ (senseFld_plain (by simp only [CMP_LATCH_Latch, CMP_LATCH]; omega)
    (by simp only [CMP_LATCH_Latch, CMP_LATCH]; omega)), State.latched]

end Sys2Proof.Machine
end

section
/-!
SUPPORT. A period start clears the latches of the comparators in cycle mode that refer to the channel (R92, R93, R118).
-/
namespace Sys2Proof.Machine

set_option Elab.async false

theorem exec_periodStart (n : Fin 48) (j : Fin 20) (s : State) :
    exec (.periodStart n j) s = done s ((s.periodBegin n j).ltSwitched n) := rfl

/-- The strobe of a period start at one comparator: blanking begins at an on edge, a latch in cycle mode clears. -/
def State.strobe (onEdge : Bool) (s : State) (c : Nat) : State :=
  let s := s.when (onEdge && s.blanksAt c true) (fun s => s.beginBlank c)
  if s.on (CMP_CFG_Latch c) then s else (s.latchClear c true).latchClear c false

/-- What the channel does once the trip lines have followed the strobe: it stops, stays as it is, or starts, goes on or idles (R119,
R122-R124). -/
def State.periodEnd (s : State) (n : Nat) (stop runs idle : Bool) : State :=
  if stop then s.pgStop n
  else if !runs then s
  else
    let a := s.chanAct n
    let s := (s.wr (PG_CH_STAT_Trip n) a).wrB (PG_CH_STAT_Run n) true
    if a ≥ 2 then (s.pgSafe n).modPg n (fun c => { c with held := true, pulse := false })
    else
      let s := (s.modPg n (fun c => { c with held := false })).wrB (PG_CH_STAT_Safe n) false
      if idle then (s.drive n (s.idleOut n)).wrB (PG_CH_STAT_IdleSt n) true
      else
        let s := (s.wrB (PG_CH_STAT_IdleSt n) false).drive n (s.offOut n)
        s.when (a == 1) (fun s => s.modPg n (fun c => { c with cycEnd := true, pulse := false }))

/-- A period start: the edges placed, a strobe at each comparator that refers to the channel, the trip lines, the channel's part. -/
theorem State.periodBegin_eq (s : State) (n j : Nat) : ∃ (x : State) (onEdge stop runs idle : Bool), KeepsCmp s x ∧
    s.periodBegin n j = (forEach (s.referred n) x (State.strobe onEdge)).updTrips.periodEnd n stop runs idle := by
  refine ⟨_, _, _, _, _, ?_, rfl⟩
  exact ((KeepsCmp.refl s).modPg n _).when _ (((KeepsCmp.refl s).modPg n _).placeEdges n)

theorem State.periodEnd_keeps (s : State) (n : Nat) (stop runs idle : Bool) : KeepsCmp s (s.periodEnd n stop runs idle) := by
  have hs := KeepsCmp.refl s
  have hrun := (hs.stat n 9 8 (s.chanAct n)).stat n 0 0 (b2n true)
  have hlive := (hrun.modPg n (fun c => { c with held := false })).stat n 1 1 (b2n false)
  have hon := hlive.stat n 2 2 (b2n false)
  rw [State.periodEnd]
  exact (hs.pgStop n).ite (hs.ite (((hrun.pgSafe n).modPg n _).ite
    (((hlive.modPg n _).stat n 2 2 _).ite ((hon.modPg n _).when _ ((hon.modPg n _).modPg n _)))))

/-- Clearing both latches of a comparator. -/
theorem State.latched_clearBoth (s : State) {a c : Nat} (ha : a < 64) (hc : c < 64) (high : Bool) :
    ((s.latchClear a true).latchClear a false).latched c high =
      if a = c then s.latched c high && (s.rawEvent c high && !s.blanked c) else s.latched c high := by
  have hraw : (s.latchClear a true).rawEvent c high = s.rawEvent c high :=
    State.rawEvent_congr c high hc fun f hf => s.latchClear_rd ha true (.inl hf)
  have hblank : (s.latchClear a true).blanked c = s.blanked c := by
    rw [State.blanked, State.cmp, State.latchClear_sense, State.blanked, State.cmp]
  rw [State.latched_latchClear _ ha hc, State.latched_latchClear _ ha hc, hraw, hblank]
  cases high <;> by_cases h : a = c <;> simp [h]

theorem State.ltSwitched_keeps (s : State) (n : Nat) : KeepsCmp s (s.ltSwitched n) := by
  rw [State.ltSwitched]
  exact KeepsCmp.fold _ _ (KeepsCmp.refl s) fun _ k _ hx => (hx.modLt k _).ite hx

/-- What a strobe keeps of a comparator half: its mode and its event, and a latch that is clear. -/
structure StrobeKept (c : Nat) (high : Bool) (s t : State) : Prop where
  mode : t.on (CMP_CFG_Latch c) = s.on (CMP_CFG_Latch c)
  raw : t.rawEvent c high = s.rawEvent c high
  latched : s.latched c high = false → t.latched c high = false

namespace StrobeKept
variable {c : Nat} {high : Bool} {s t u : State}

theorem trans (h : StrobeKept c high s t) (k : StrobeKept c high t u) : StrobeKept c high s u :=
  ⟨k.mode.trans h.mode, k.raw.trans h.raw, k.latched ∘ h.latched⟩

theorem of_regs (h : t.regs = s.regs) : StrobeKept c high s t := by
  have hrd (f : Fld) : t.rd f = s.rd f := by rw [State.rd_regs, h, State.rd_regs]
  exact ⟨by rw [State.on, hrd, State.on], by rw [State.rawEvent, hrd, State.rawEvent], by rw [State.latched, State.latched, hrd]; exact id⟩

theorem clearBoth (s : State) {a : Nat} (ha : a < 64) (hc : c < 64) : StrobeKept c high s ((s.latchClear a true).latchClear a false) := by
  have hrd {f : Fld} (hf : f.off < 0xC010 ∨ 0xC020 ≤ f.off) : ((s.latchClear a true).latchClear a false).rd f = s.rd f := by
    rw [State.latchClear_rd _ ha _ hf, State.latchClear_rd _ ha _ hf]
  refine ⟨?_, State.rawEvent_congr c high hc fun f hf => hrd (.inl hf), fun hl => ?_⟩
  · rw [State.on, hrd (.inr (by simp only [CMP_CFG_Latch, CMP_CFG]; omega)), State.on]
  · rw [State.latched_clearBoth s ha hc, hl, Bool.false_and, ite_self]

end StrobeKept

/-- The blanking that a strobe begins touches no register. -/
theorem State.strobe_eq (onEdge : Bool) (s : State) (c : Nat) : ∃ x, x.regs = s.regs ∧
    s.strobe onEdge c = if s.on (CMP_CFG_Latch c) then x else (x.latchClear c true).latchClear c false := by
  rw [State.strobe]
  cases onEdge && s.blanksAt c true
  · exact ⟨s, rfl, rfl⟩
  · exact ⟨s.beginBlank c, rfl, rfl⟩

theorem State.strobe_keeps (onEdge : Bool) (s : State) {a c : Nat} (ha : a < 64) (hc : c < 64) (high : Bool) :
    StrobeKept c high s (s.strobe onEdge a) := by
  obtain ⟨x, hregs, hx⟩ := s.strobe_eq onEdge a
  rw [hx]
  split_ifs
  · exact .of_regs hregs
  · exact (StrobeKept.of_regs hregs).trans (.clearBoth x ha hc)

/-- A strobe of a comparator in cycle mode whose event does not stand clears its latch. -/
theorem State.strobe_clears (onEdge : Bool) (s : State) {c : Nat} (hc : c < 64) (high : Bool) (hmode : s.on (CMP_CFG_Latch c) = false)
    (hraw : s.rawEvent c high = false) : (s.strobe onEdge c).latched c high = false := by
  obtain ⟨x, hregs, hx⟩ := s.strobe_eq onEdge c
  have hraw' : x.rawEvent c high = false := (StrobeKept.of_regs (c := c) (high := high) hregs).raw.trans hraw
  rw [hx, if_neg (by simp [hmode]), State.latched_clearBoth x hc hc, if_pos rfl, hraw', Bool.false_and, Bool.and_false]

/-- Strobes at a list of comparators: each in cycle mode whose event does not stand ends with its latch clear. -/
theorem State.strobes_clear (onEdge : Bool) {l : List Nat} (hl : ∀ a ∈ l, a < 64) (s : State) {c : Nat} (hc : c ∈ l) (high : Bool)
    (hmode : s.on (CMP_CFG_Latch c) = false) (hraw : s.rawEvent c high = false) :
    (forEach l s (State.strobe onEdge)).latched c high = false := by
  have hc64 := hl c hc
  have hlow (l : List Nat) (hl : ∀ a ∈ l, a < 64) (s : State) (h : s.latched c high = false) :
      (forEach l s (State.strobe onEdge)).latched c high = false :=
    List.foldlRecOn (motive := fun x : State => x.latched c high = false) l _ h fun x hx a ha =>
      (x.strobe_keeps onEdge (hl a ha) hc64 high).latched hx
  induction l generalizing s with
  | nil => cases hc
  | cons a l ih =>
    have hl' : ∀ b ∈ l, b < 64 := fun b hb => hl b (List.mem_cons_of_mem _ hb)
    have hstep := s.strobe_keeps onEdge (hl a (by simp)) hc64 high
    by_cases hin : c ∈ l
    · exact ih hl' _ hin (hstep.mode.trans hmode) (hstep.raw.trans hraw)
    · obtain rfl : c = a := (List.mem_cons.1 hc).resolve_right hin
      exact hlow l hl' _ (s.strobe_clears onEdge hc64 high hmode hraw)

theorem State.referred_lt {s : State} {n c : Nat} (h : c ∈ s.referred n) : c < 64 := List.mem_range.1 (List.mem_filter.1 h).1

/-- Settles O22: of all that a period start does, only the strobe reaches the latch words, and it never sets a latch. -/
theorem periodStartClearsCycleLatches : Obligations.PeriodStartClearsCycleLatches := by
  intro s n j c high href hmode hraw
  have hc := State.referred_lt href
  obtain ⟨x, onEdge, stop, runs, idle, hx, hbegin⟩ := s.periodBegin_eq n j
  have hcycle : x.on (CMP_CFG_Latch c) = false := by
    rw [State.on, hx.rd _ (by simp only [CMP_CFG_Latch, CMP_CFG]; omega)]; exact hmode
  have hstrobes := State.strobes_clear onEdge (fun a ha => State.referred_lt ha) x href high hcycle ((hx.rawEvent hc high).trans hraw)
  have hend (y : State) := ((KeepsCmp.updTrips y).trans (State.periodEnd_keeps _ n.val stop runs idle)).trans (State.ltSwitched_keeps _ n.val)
  rw [exec_periodStart, answers_done, State.answer_latched _ _ hc, hbegin, (hend _).latched hc, hstrobes]

end Sys2Proof.Machine
end

section
/-!
SUPPORT. Comparators: their events, blanking, self-test, thresholds and latches (R89-R95, R100-R103).
-/
namespace Sys2Proof.Machine

set_option Elab.async false

theorem exec_comparatorEvent (n : Fin 64) (high asserted : Bool) (s : State) :
    exec (.comparatorEvent n high asserted) s = done s (s.cmpEvent n high asserted) := rfl
theorem exec_blankingEnd (n : Fin 64) (s : State) : exec (.blankingEnd n) s = done s (s.blankEnd n) := rfl
theorem exec_swapTest (n : Fin 64) (hi lo : Bool) (s : State) : exec (.swapTest n hi lo) s = done s (s.swapTest n hi lo) := rfl
theorem exec_tieTest (n : Fin 64) (lo hi : Bool) (s : State) : exec (.tieTest n lo hi) s = done s (s.tieTest n lo hi) := rfl
theorem exec_cmpUntested (n : Fin 64) (s : State) : exec (.cmpUntested n) s = done s (s.cmpUntested n) := rfl
theorem exec_cmpThrWrite (n : Fin 64) (hi lo : BitVec 10) (s : State) :
    exec (.cmpThrWrite n hi lo) s = done s (s.thrWrite n hi.toNat lo.toNat) := rfl
theorem exec_cmpLatchClear (i : Fin 4) (mask : BitVec 32) (s : State) :
    exec (.cmpLatchClear i mask) s = done s (s.latchWordClear i mask.toNat) := rfl

/-! ### Raw events (R89, R95) -/

/-- The raw bit of a comparator half written. -/
def State.setRaw (s : State) (n : Nat) (high b : Bool) : State :=
  s.wr (CMP_RAW_Raw (cmpWord n high)) (setBit (s.rd (CMP_RAW_Raw (cmpWord n high))) (n % 32) b)

theorem State.setRaw_rawEvent (s : State) (n : Nat) (high b : Bool) : (s.setRaw n high b).rawEvent n high = b :=
  (s.wr_setBit _ b (Nat.mod_lt _ (by decide)) _).trans (if_pos rfl)

theorem State.setRaw_reach (s : State) (n : Nat) (high b : Bool) : Reach s (s.setRaw n high b) [CMP_RAW_Raw (cmpWord n high)] [] :=
  (Reach.refl s _ _).wr _ (by simp) rfl

theorem State.setRaw_rd (s : State) {n : Nat} (hn : n < 64) (high b : Bool) {f : Fld} (hf : 0xC010 ≤ f.off) :
    (s.setRaw n high b).rd f = s.rd f := by
  have := cmpWord_lt hn high
  exact s.rd_wr_off _ (by simp only [CMP_RAW_Raw, CMP_RAW]; omega)

theorem State.answer_rawEvent (x : State) (q : List Instr) {n : Nat} (hn : n < 64) (high : Bool) :
    (x.settle.requeue q).rawEvent n high = x.rawEvent n high := by
  have := cmpWord_lt hn high
  rw [State.rawEvent, State.answer_rd _ _ (senseFld_plain (by simp only [CMP_RAW_Raw, CMP_RAW]; omega)
    (by simp only [CMP_RAW_Raw, CMP_RAW]; omega)), State.rawEvent]

theorem State.cmpEvent_disabled {s : State} {n : Nat} {high : Bool} (h : s.on (if high then CMP_CFG_HiEn n else CMP_CFG_LoEn n) = false) :
    s.cmpEvent n high true = s := by
  rw [State.cmpEvent, if_pos rfl, if_neg (by simp [h])]

theorem State.cmpEvent_enabled {s : State} {n : Nat} {high : Bool} (h : s.on (if high then CMP_CFG_HiEn n else CMP_CFG_LoEn n) = true) :
    s.cmpEvent n high true = if s.blanked n then s.setRaw n high true else (s.setRaw n high true).latchSet n high := by
  rw [State.cmpEvent, if_pos rfl, if_pos h]
  rfl

theorem State.cmpEvent_release (s : State) (n : Nat) (high : Bool) : s.cmpEvent n high false = s.setRaw n high false := rfl

/-! ### Trip lines and e-fuse channels that stay as they are -/

/-- No trip line asserts: no mask selects a latch, and none was asserted before (R96). -/
def State.tripsQuiet (s : State) : Prop := (∀ l < 16, ∀ m < 4, s.rd (CMP_TRIP_MASK_Mask l m) = 0) ∧ s.sense.trips = 0

theorem State.updTrips_quiet {s : State} (h : s.tripsQuiet) : s.updTrips = s := by
  obtain ⟨hmask, htrips⟩ := h
  have hnow : s.tripsNow = 0 := by
    refine List.foldlRecOn (motive := fun a => a = 0) _ _ rfl fun a ha t ht => ?_
    have hany : ((List.range 4).any fun m => (s.rd (CMP_TRIP_MASK_Mask t m)) &&& (s.rd (CMP_LATCH_Latch m)) != 0) = false := by
      refine List.any_eq_false.2 fun m hm => ?_
      simp [hmask t (List.mem_range.1 ht) m (List.mem_range.1 hm)]
    rw [hany]
    exact ha
  rw [State.updTrips, hnow, htrips]
  rfl

section
variable {s x : State} {fs : List Fld} {ps : List Part} (h : Reach s x fs ps)
include h

/-- An effect on registers below another leaves that one. -/
theorem Reach.rd_above {b : Nat} (hf : ∀ g ∈ fs, g.off < b) {f : Fld} (h1 : b ≤ f.off) (h2 : f.plain = true) : x.rd f = s.rd f := by
  refine h.regs f h2 (List.all_eq_true.2 fun g hg => ?_)
  have hne : f.off ≠ g.off := by have := hf g hg; omega
  simp [Fld.apart, hne]

theorem Reach.tripsQuiet (hp : Part.sense ∉ ps) (hf : ∀ g ∈ fs, g.off < 0xC800) (hq : s.tripsQuiet) : x.tripsQuiet := by
  refine ⟨fun l hl m hm => ?_, ?_⟩
  · rw [h.rd_above hf (by simp only [CMP_TRIP_MASK_Mask, CMP_TRIP_MASK]; omega)
      (senseFld_plain (by simp only [CMP_TRIP_MASK_Mask, CMP_TRIP_MASK]; omega) (by simp only [CMP_TRIP_MASK_Mask, CMP_TRIP_MASK]; omega))]
    exact hq.1 l hl m hm
  · have hsense : x.sense = s.sense := h.parts .sense hp
    rw [hsense]
    exact hq.2

theorem Reach.feedsFuse (hf : ∀ g ∈ fs, g.off < 0xCA00) {e : Nat} (he : e < 16) (n : Nat) (high : Bool) :
    x.feedsFuse e n high = s.feedsFuse e n high := by
  have hrd {f : Fld} (ho : f.off = CMP_EF_SRC e) : x.rd f = s.rd f :=
    h.rd_above hf (by simp only [CMP_EF_SRC] at ho; omega)
      (senseFld_plain (by simp only [CMP_EF_SRC] at ho; omega) (by simp only [CMP_EF_SRC] at ho; omega))
  rw [State.feedsFuse, hrd rfl, hrd rfl, State.feedsFuse]

end

/-! ### A latch sets (R92, R95) -/

/-- A latch set and counted. -/
def State.latchCount (s : State) (n : Nat) (high : Bool) : State := (s.setLatch n high true).inc (CMP_CNT_Cnt n)

theorem State.latchCount_latched (s : State) {n m : Nat} (hn : n < 64) (hm : m < 64) (high k : Bool) :
    (s.latchCount n high).latched m k = if n = m ∧ high = k then true else s.latched m k := by
  have := cmpWord_lt hm k
  rw [State.latchCount, State.inc_eq, State.latched,
    State.rd_wr_off _ _ (by simp only [CMP_LATCH_Latch, CMP_LATCH, CMP_CNT_Cnt, CMP_CNT]; omega), ← State.latched,
    State.latched_setLatch _ hn hm]

theorem State.latchCount_cnt (s : State) {n : Nat} (hn : n < 64) (high : Bool) :
    (s.latchCount n high).rd (CMP_CNT_Cnt n) = (s.rd (CMP_CNT_Cnt n) + 1) % (CMP_CNT_Cnt n).size := by
  rw [State.latchCount, State.inc_eq, State.rd_wr_same _ _ _ rfl,
    State.setLatch_rd _ hn _ _ (.inr (by simp only [CMP_CNT_Cnt, CMP_CNT]; omega))]

theorem Reach.latchCount {s x : State} {fs : List Fld} {ps : List Part} (h : Reach s x fs ps) {n : Nat} {high : Bool}
    (h1 : CMP_LATCH_Latch (cmpWord n high) ∈ fs) (h2 : CMP_CNT_Cnt n ∈ fs) : Reach s (x.latchCount n high) fs ps :=
  (h.wr _ h1 rfl).inc h2 rfl

/-- The gate latch of an e-fuse channel that the event feeds (R252). -/
def State.fuseTrip (n : Nat) (high : Bool) (s : State) (e : Nat) : State :=
  if s.feedsFuse e n high then
    (s.modEf e (fun c => { c with latch := true, gate := false, fastPend := true, softOff := false })).wrB (EF_STAT_GateGood e) false
  else s

theorem State.latchSet_eq {s : State} {n : Nat} {high : Bool} (h : s.latched n high = false) : s.latchSet n high =
    (forN 16 ((s.latchCount n high).when ((s.latchCount n high).on (CMP_CFG_Irq n)) (fun s => s.cause 21))
      (State.fuseTrip n high)).updTrips := by
  rw [State.latchSet, if_neg (by simp [h])]
  rfl

/-- Beside the latch and its count, a latch that sets reaches interrupts, e-fuse channels and trip lines alone. -/
theorem State.latchSet_keeps {s : State} {n : Nat} {high : Bool} (h : s.latched n high = false) :
    KeepsCmp (s.latchCount n high) (s.latchSet n high) := by
  have hcause (x : State) : KeepsCmp x (x.cause 21) := ⟨by rw [State.cause_sense], fun f _ => State.cause_rd _ _ _⟩
  rw [State.latchSet_eq h]
  refine (KeepsCmp.fold _ _ ((KeepsCmp.refl _).when _ (hcause _)) fun x e _ hx => ?_).trans (KeepsCmp.updTrips _)
  have hfuse (g : EfCh → EfCh) : KeepsCmp (s.latchCount n high) (x.modEf e g) := ⟨hx.cmp, hx.rd⟩
  exact ((hfuse _).wr (EF_STAT_GateGood e) _ (by simp only [EF_STAT_GateGood, EF_STAT]; omega)).ite hx

/-- A latch that feeds no trip line, no e-fuse channel and no interrupt. -/
theorem State.latchSet_quiet {s : State} {n : Nat} {high : Bool} (hn : n < 64) (h : s.latched n high = false) (ht : s.tripsQuiet)
    (hi : s.on (CMP_CFG_Irq n) = false) (hf : ∀ e < 16, s.feedsFuse e n high = false) : s.latchSet n high = s.latchCount n high := by
  have := cmpWord_lt hn high
  have hreach : Reach s (s.latchCount n high) [CMP_LATCH_Latch (cmpWord n high), CMP_CNT_Cnt n] [] :=
    (Reach.refl s _ _).latchCount (by simp) (by simp)
  have hlow : ∀ g ∈ [CMP_LATCH_Latch (cmpWord n high), CMP_CNT_Cnt n], g.off < 0xC800 := by
    simp [CMP_LATCH_Latch, CMP_LATCH, CMP_CNT_Cnt, CMP_CNT]; omega
  have hirq : (s.latchCount n high).on (CMP_CFG_Irq n) = false := by
    rw [State.on, hreach.regs (CMP_CFG_Irq n) (senseFld_plain (by simp only [CMP_CFG_Irq, CMP_CFG]; omega)
      (by simp only [CMP_CFG_Irq, CMP_CFG]; omega))
      (by simp [Fld.apart, CMP_CFG_Irq, CMP_CFG, CMP_LATCH_Latch, CMP_LATCH, CMP_CNT_Cnt, CMP_CNT]; omega)]
    exact hi
  have hfuse : forN 16 (s.latchCount n high) (State.fuseTrip n high) = s.latchCount n high :=
    forN_unchanged fun e he => if_neg (by simp [hreach.feedsFuse (fun g hg => (hlow g hg).trans (by decide)) he, hf e he])
  rw [State.latchSet_eq h, hirq, State.when_false, hfuse, State.updTrips_quiet (hreach.tripsQuiet (by simp) hlow ht)]

/-- What setting a latch leaves: the raw events, blanking and tests. -/
theorem State.latchSet_rawEvent (s : State) {n m : Nat} (hn : n < 64) (hm : m < 64) (high k : Bool) :
    (s.latchSet n high).rawEvent m k = s.rawEvent m k := by
  cases h : s.latched n high
  case true => rw [State.latchSet, if_pos h]
  case false =>
    rw [(State.latchSet_keeps h).rawEvent hm]
    refine State.rawEvent_congr m k hm fun f hf => ?_
    rw [State.latchCount, State.inc_eq, State.rd_wr_off _ _ (by simp only [CMP_CNT_Cnt, CMP_CNT]; omega), State.setLatch_rd _ hn _ _ (.inl hf)]

theorem State.latchSet_cmp (s : State) (n : Nat) (high : Bool) : (s.latchSet n high).sense.cmp = s.sense.cmp := by
  cases h : s.latched n high
  case true => rw [State.latchSet, if_pos h]
  case false => exact (State.latchSet_keeps h).cmp

theorem State.latchSet_latched (s : State) {n m : Nat} (hn : n < 64) (hm : m < 64) (high k : Bool) :
    (s.latchSet n high).latched m k = if n = m ∧ high = k then true else s.latched m k := by
  cases h : s.latched n high
  case true =>
    rw [State.latchSet, if_pos h]
    split_ifs with he
    · obtain ⟨rfl, rfl⟩ := he; exact h
    · rfl
  case false => rw [(State.latchSet_keeps h).latched hm, State.latchCount_latched _ hn hm]

/-! ### COMPARATOR_EVENT -/

section Event
variable {s : State} {n : Fin 64} {high : Bool} (hen : s.on (if high then CMP_CFG_HiEn n else CMP_CFG_LoEn n) = true)
include hen

theorem comparatorEvent_blanked (hb : s.blanked n = true) : Answers (exec (.comparatorEvent n high true) s) fun t =>
    t.rawEvent n high ∧ Frame s t [CMP_RAW_Raw (cmpWord n high)] [] := by
  rw [exec_comparatorEvent, State.cmpEvent_enabled hen, if_pos hb, answers_done, State.answer_rawEvent _ _ n.isLt]
  exact ⟨s.setRaw_rawEvent _ _ _, (s.setRaw_reach _ _ _).frame _⟩

theorem comparatorEvent_latches (hb : s.blanked n = false) (hl : s.latched n high = false) :
    Answers (exec (.comparatorEvent n high true) s) fun t =>
      t.rawEvent n high ∧ t.latched n high ∧ t.rd (CMP_CNT_Cnt n) = (s.rd (CMP_CNT_Cnt n) + 1) % (CMP_CNT_Cnt n).size ∧
      ((∀ l < 16, ∀ m < 4, s.rd (CMP_TRIP_MASK_Mask l m) = 0) → s.sense.trips = 0 → s.on (CMP_CFG_Irq n) = false →
        (∀ e < 16, s.feedsFuse e n high = false) →
        Frame s t [CMP_RAW_Raw (cmpWord n high), CMP_LATCH_Latch (cmpWord n high), CMP_CNT_Cnt n] []) := by
  have hword := cmpWord_lt n.isLt high
  have hraw := s.setRaw_reach n high true
  have hlow : ∀ g ∈ [CMP_RAW_Raw (cmpWord n high)], g.off < 0xC010 := by simp [CMP_RAW_Raw, CMP_RAW]; omega
  have hfree : (s.setRaw n high true).latched n high = false := by
    rw [State.latched, State.setRaw_rd _ n.isLt _ _ (by simp only [CMP_LATCH_Latch, CMP_LATCH]; omega)]; exact hl
  rw [exec_comparatorEvent, State.cmpEvent_enabled hen, if_neg (by simp [hb]), answers_done, State.answer_rawEvent _ _ n.isLt,
    State.answer_latched _ _ n.isLt, State.answer_rd _ _ (senseFld_plain (by simp only [CMP_CNT_Cnt, CMP_CNT]; omega)
      (by simp only [CMP_CNT_Cnt, CMP_CNT]; omega))]
  refine ⟨?_, ?_, ?_, fun hmask htrips hirq hfuse => ?_⟩
  · rw [State.latchSet_rawEvent _ n.isLt n.isLt, State.setRaw_rawEvent]
  · rw [State.latchSet_latched _ n.isLt n.isLt, if_pos ⟨rfl, rfl⟩]
  · rw [(State.latchSet_keeps hfree).rd _ (by simp only [CMP_CNT_Cnt, CMP_CNT]; omega), State.latchCount_cnt _ n.isLt,
      State.setRaw_rd _ n.isLt _ _ (by simp only [CMP_CNT_Cnt, CMP_CNT]; omega)]
  · have hirq' : (s.setRaw n high true).on (CMP_CFG_Irq n) = false := by
      rw [State.on, State.setRaw_rd _ n.isLt _ _ (by simp only [CMP_CFG_Irq, CMP_CFG]; omega)]; exact hirq
    have hquiet : (s.setRaw n high true).tripsQuiet :=
      hraw.tripsQuiet (by simp) (fun g hg => (hlow g hg).trans (by decide)) ⟨hmask, htrips⟩
    rw [State.latchSet_quiet n.isLt hfree hquiet hirq' fun e he => by
      rw [hraw.feedsFuse (fun g hg => (hlow g hg).trans (by decide)) he]; exact hfuse e he]
    exact ((hraw.mono (by simp) (by simp)).latchCount (by simp) (by simp)).frame _

end Event

theorem comparatorEvent_releases (s : State) (n : Fin 64) (high : Bool) : Answers (exec (.comparatorEvent n high false) s) fun t =>
    t.rawEvent n high = false ∧ Frame s t [CMP_RAW_Raw (cmpWord n high)] [] := by
  rw [exec_comparatorEvent, State.cmpEvent_release, answers_done, State.answer_rawEvent _ _ n.isLt]
  exact ⟨s.setRaw_rawEvent _ _ _, (s.setRaw_reach _ _ _).frame _⟩

/-! ### BLANKING_END (R91) -/

/-- A standing event sets its latch. -/
def State.latchStanding (s : State) (n : Nat) (high : Bool) : State := s.when (s.rawEvent n high) (fun s => s.latchSet n high)

theorem State.latchStanding_released {s : State} {n : Nat} {high : Bool} (h : s.rawEvent n high = false) : s.latchStanding n high = s := by
  rw [State.latchStanding, h, State.when_false]

theorem State.latchStanding_latched (s : State) {n m : Nat} (hn : n < 64) (hm : m < 64) (high k : Bool) :
    (s.latchStanding n high).latched m k = if n = m ∧ high = k ∧ s.rawEvent n high = true then true else s.latched m k := by
  rw [State.latchStanding]
  cases h : s.rawEvent n high
  · simp
  · rw [State.when_true, State.latchSet_latched _ hn hm]; simp

theorem State.latchStanding_keeps (s : State) {n m : Nat} (hn : n < 64) (hm : m < 64) (high k : Bool) :
    (s.latchStanding n high).rawEvent m k = s.rawEvent m k ∧ (s.latchStanding n high).sense.cmp = s.sense.cmp := by
  rw [State.latchStanding]
  cases s.rawEvent n high
  · exact ⟨rfl, rfl⟩
  · exact ⟨s.latchSet_rawEvent hn hm high k, s.latchSet_cmp n high⟩

/-- The state of a comparator without blanking. -/
def State.unblank (s : State) (n : Nat) : State := s.modCmp n (fun c => { c with blank := false })

theorem State.blankEnd_eq {s : State} {n : Nat} (h : s.blanked n = true) :
    s.blankEnd n = ((s.unblank n).latchStanding n true).latchStanding n false := by
  rw [State.blankEnd, if_neg (by simp [h])]
  rfl

theorem blankingEnd_released {s : State} {n : Fin 64} (hb : s.blanked n = true) (hh : s.rawEvent n true = false)
    (hl : s.rawEvent n false = false) : Answers (exec (.blankingEnd n) s) fun t =>
      t.sense = (s.modCmp n fun c => { c with blank := false }).sense ∧ Frame s t [] [.sense] := by
  have hhigh : (s.unblank n).rawEvent n true = false := hh
  have hlow : (s.unblank n).rawEvent n false = false := hl
  rw [exec_blankingEnd, State.blankEnd_eq hb, State.latchStanding_released hhigh, State.latchStanding_released hlow, answers_done,
    State.requeue_sense, State.settle_sense]
  exact ⟨rfl, ((Reach.refl s _ _).modCmp _ _ (by simp)).frame _⟩

theorem blankingEnd_latches {s : State} {n : Fin 64} {high : Bool} (hb : s.blanked n = true) (h : s.rawEvent n high = true) :
    Answers (exec (.blankingEnd n) s) fun t => t.blanked n = false ∧ t.latched n high := by
  have hstand : (s.unblank n).rawEvent n high = true := h
  have hkept := (s.unblank n).latchStanding_keeps n.isLt n.isLt true
  have hlatched := (s.unblank n).latchStanding_latched n.isLt n.isLt true
  rw [exec_blankingEnd, State.blankEnd_eq hb, answers_done, State.answer_latched _ _ n.isLt, State.blanked, State.answer_cmp, State.cmp,
    (State.latchStanding_keeps _ n.isLt n.isLt false false).2, (hkept true).2, ← State.cmp,
    State.latchStanding_latched _ n.isLt n.isLt, (hkept false).1, hlatched]
  refine ⟨?_, ?_⟩
  · rw [State.unblank, State.cmp_modCmp]
  · cases high <;> simp [hstand]

/-! ### Self-test (R100-R103) -/

/-- The coverage word of a comparator. -/
abbrev covFld (n : Nat) : Fld := if n < 32 then AFE_ST_COV0_Cov else AFE_ST_COV1_Cov

theorem covFld_eq (n : Nat) : covFld n = ⟨0x8010, 31, 0⟩ ∨ covFld n = ⟨0x8014, 31, 0⟩ := by
  rw [covFld]
  split_ifs
  · exact .inl rfl
  · exact .inr rfl

theorem covFld_plain (n : Nat) : (covFld n).plain = true := by
  rcases covFld_eq n with h | h <;> rw [h] <;> exact senseFld_plain (by decide) (by decide)

/-- The coverage bit of a comparator written. -/
def State.setCov (s : State) (n : Nat) (b : Bool) : State := s.wr (covFld n) (setBit (s.rd (covFld n)) (n % 32) b)

theorem State.setCov_bit (s : State) (n : Nat) (b : Bool) : ((s.setCov n b).rd (covFld n)).testBit (n % 32) = b := by
  have hbit (o : Nat) := (s.wr_setBit o b (Nat.mod_lt n (by decide)) (n % 32)).trans (if_pos rfl)
  rw [State.setCov]
  rcases covFld_eq n with h | h <;> rw [h] <;> exact hbit _

theorem Reach.setCov {s x : State} {fs : List Fld} {ps : List Part} (h : Reach s x fs ps) (n : Nat) (b : Bool) (hm : covFld n ∈ fs) :
    Reach s (x.setCov n b) fs ps :=
  h.wr _ hm (by rcases covFld_eq n with h | h <;> rw [h] <;> rfl)

theorem State.cmpPass_eq (s : State) (n : Nat) :
    s.cmpPass n = (s.modCmp n (fun c => { c with lastPass := s.frame, raised := false })).setCov n true := rfl

theorem Reach.cmpPass {s x : State} {fs : List Fld} {ps : List Part} (h : Reach s x fs ps) (n : Nat) (hm : covFld n ∈ fs)
    (hp : Part.sense ∈ ps) : Reach s (x.cmpPass n) fs ps := (h.modCmp n _ hp).setCov n true hm

/-- A passed test read in the settled answer. -/
theorem State.cmpPass_covers (x : State) (n : Nat) (q : List Instr) :
    (((x.cmpPass n).settle.requeue q).rd (covFld n)).testBit (n % 32) = true := by
  rw [State.answer_rd _ _ (covFld_plain n), State.cmpPass_eq, State.setCov_bit]

theorem State.swapTest_runs {s : State} {n : Nat} (hi lo : Bool) (ht : s.testable n = true) (hh : s.rawEvent n true = false)
    (hl : s.rawEvent n false = false) (hn : (s.cmp n).tieNext = false) : s.swapTest n hi lo =
      (s.modCmp n (fun c => { c with lastTest := some s.frame, tieNext := !(hi && lo) })).when (hi && lo) (fun s => s.cmpPass n) := by
  rw [State.swapTest, if_neg (by simp [ht, hh, hl, hn])]

theorem swapTest_untestable {s : State} {n : Fin 64} (h : s.testable n = false) (hi lo : Bool) :
    Answers (exec (.swapTest n hi lo) s) fun t => Frame s t [] [] := by
  rw [exec_swapTest, State.swapTest, if_pos (by simp [h])]
  exact answers_unchanged rfl

section Swap
variable {s : State} {n : Fin 64} (ht : s.testable n = true) (hh : s.rawEvent n true = false) (hl : s.rawEvent n false = false)
  (hn : (s.cmp n).tieNext = false)
include ht hh hl hn

theorem swapTest_passes : Answers (exec (.swapTest n true true) s) fun t => (t.rd (covFld n)).testBit (n.val % 32) ∧
    t.sense = (s.modCmp n fun c => { c with lastTest := some s.frame, tieNext := false, lastPass := s.frame, raised := false }).sense ∧
    Frame s t [covFld n] [.sense] := by
  rw [exec_swapTest, State.swapTest_runs _ _ ht hh hl hn, Bool.and_self, State.when_true, answers_done, State.cmpPass_covers,
    State.requeue_sense, State.settle_sense, State.cmpPass_eq, State.modCmp_modCmp]
  exact ⟨rfl, rfl, (((Reach.refl s _ _).modCmp _ _ (by simp)).setCov _ _ (by simp)).frame _⟩

theorem swapTest_fails {hi lo : Bool} (hbad : (hi && lo) = false) : Answers (exec (.swapTest n hi lo) s) fun t =>
    t.sense = (s.modCmp n fun c => { c with lastTest := some s.frame, tieNext := true }).sense ∧ Frame s t [] [.sense] := by
  rw [exec_swapTest, State.swapTest_runs _ _ ht hh hl hn, hbad, State.when_false, answers_done, State.requeue_sense, State.settle_sense]
  exact ⟨rfl, ((Reach.refl s _ _).modCmp _ _ (by simp)).frame _⟩

end Swap

/-- A tie test that has run (R101). -/
def State.tied (s : State) (n : Nat) : State := s.modCmp n (fun c => { c with lastTest := some s.frame, tieNext := false })

theorem State.tieTest_runs {s : State} {n : Nat} (lo hi : Bool) (ht : (s.cmp n).tieNext = true) (hb : s.blanked n = true) :
    s.tieTest n lo hi =
      if (decide (s.rd (CMP_THR_Lo n) ≥ 8) && !lo) || (decide (s.rd (CMP_THR_Hi n) ≤ 1015) && !hi) then
        (s.tied n).raise 69 (n + 64 * b2n (decide (s.rd (CMP_THR_Lo n) ≥ 8) && !lo) + 128 * b2n (decide (s.rd (CMP_THR_Hi n) ≤ 1015) && !hi))
      else (s.tied n).cmpPass n := by
  rw [State.tieTest, if_neg (by simp [ht, hb])]
  rfl

section Tie
variable {s : State} {n : Fin 64} (ht : (s.cmp n).tieNext = true) (hb : s.blanked n = true)

include ht hb in
theorem tieTest_passes : Answers (exec (.tieTest n true true) s) fun t =>
    (t.rd (covFld n)).testBit (n.val % 32) ∧ (t.cmp n).tieNext = false ∧ Frame s t [covFld n] [.sense] := by
  rw [exec_tieTest, State.tieTest_runs _ _ ht hb, if_neg (by simp), answers_done, State.cmpPass_covers, State.answer_cmp]
  refine ⟨rfl, ?_, (((Reach.refl s _ _).modCmp _ _ (by simp)).cmpPass _ (by simp) (by simp)).frame _⟩
  rw [State.cmpPass_eq, State.setCov, State.cmp_wr, State.cmp_modCmp, State.tied, State.cmp_modCmp]

/-- A failed tie test, read in the settled answer. -/
theorem tied_raise_answers (s : State) (n : Nat) {syn : Nat} (ha : s.on (FLT_SRC_CFG_Assigned 69) = true) :
    Answers (done s ((s.tied n).raise 69 syn)) fun t => Raised t 69 syn ∧ (t.cmp n).tieNext = false ∧ FrameFault s t [] [.sense] := by
  have hraised := State.raise_raised (s.tied n) syn (src := 69) (by decide) (by decide) ha
  have hreach : Reach s (s.tied n) [] [.sense] := (Reach.refl s _ _).modCmp _ _ (by simp)
  rw [answers_done, State.answer_cmp, State.cmp, (FaultSide.raise (s.tied n) 69 syn (by decide)).sense, ← State.cmp]
  refine ⟨hraised.answer (by decide) _, ?_, (hreach.fault.raise _ (by decide)).frame _⟩
  rw [State.tied, State.cmp_modCmp]

include ht hb

theorem tieTest_low_fails (h : 8 ≤ s.rd (CMP_THR_Lo n)) (ha : s.on (FLT_SRC_CFG_Assigned 69) = true) :
    Answers (exec (.tieTest n false true) s) fun t => Raised t 69 (n + 64) ∧ (t.cmp n).tieNext = false ∧ FrameFault s t [] [.sense] := by
  rw [exec_tieTest, State.tieTest_runs _ _ ht hb, if_pos (by simp [h])]
  simp only [ge_iff_le, h, decide_true, Bool.not_false, Bool.not_true, Bool.and_true, Bool.and_false]
  exact tied_raise_answers s n ha

theorem tieTest_high_fails (h : s.rd (CMP_THR_Hi n) ≤ 1015) (ha : s.on (FLT_SRC_CFG_Assigned 69) = true) :
    Answers (exec (.tieTest n true false) s) fun t => Raised t 69 (n + 128) ∧ (t.cmp n).tieNext = false ∧ FrameFault s t [] [.sense] := by
  rw [exec_tieTest, State.tieTest_runs _ _ ht hb, if_pos (by simp [h])]
  simp only [h, decide_true, Bool.not_false, Bool.not_true, Bool.and_true, Bool.and_false]
  exact tied_raise_answers s n ha

end Tie

/-! ### CMP_UNTESTED (R103) -/

/-- A comparator found uncovered. -/
def State.uncover (s : State) (n : Nat) : State := (s.modCmp n (fun c => { c with raised := true })).setCov n false

theorem State.cmpUntested_due {s : State} {n m : Nat} (hm : s.maxAge = some m) (he : s.on (CMP_CFG_StEn n) = true)
    (hr : (s.cmp n).raised = false) (hage : (s.cmp n).lastPass + m ≤ s.frame) : s.cmpUntested n = (s.uncover n).raise 70 n := by
  rw [State.cmpUntested, hm]
  exact if_pos (by simp [he, hr, hage])

theorem cmpUntested_raises {s : State} {n : Fin 64} (m : Nat) (hm : s.maxAge = some m) (he : s.on (CMP_CFG_StEn n) = true)
    (hr : (s.cmp n).raised = false) (hage : (s.cmp n).lastPass + m ≤ s.frame) (ha : s.on (FLT_SRC_CFG_Assigned 70) = true) :
    Answers (exec (.cmpUntested n) s) fun t => Raised t 70 n ∧ (t.rd (covFld n)).testBit (n.val % 32) = false ∧
      FrameFault s t [covFld n] [.sense] := by
  have hreach : Reach s (s.uncover n) [covFld n] [.sense] := ((Reach.refl s _ _).modCmp _ _ (by simp)).setCov _ _ (by simp)
  have hassigned : (s.uncover n).on (FLT_SRC_CFG_Assigned 70) = true := by
    rw [State.uncover, State.setCov, State.on]
    rw [State.rd_wr_off _ _ (by rcases covFld_eq n with h | h <;> rw [h] <;> decide)]
    exact ha
  have hraised := State.raise_raised (s.uncover n) n (src := 70) (by decide) (by decide) hassigned
  have hcov : offFault (covFld n).off := offFault_of_high (by rcases covFld_eq n with h | h <;> rw [h] <;> decide)
  rw [exec_cmpUntested, State.cmpUntested_due hm he hr hage, answers_done, State.answer_rd _ _ (covFld_plain n),
    (FaultSide.raise _ 70 n (by decide)).rd hcov]
  exact ⟨hraised.answer (by decide) _, State.setCov_bit _ _ _, (hreach.fault.raise _ (by decide)).frame _⟩

/-! ### CMP_THR_WRITE (R90) -/

theorem cmpThrWrite_answers (s : State) (n : Fin 64) (hi lo : BitVec 10) : Answers (exec (.cmpThrWrite n hi lo) s) fun t =>
    t.rd (CMP_THR_Hi n) = hi.toNat ∧ t.rd (CMP_THR_Lo n) = lo.toNat ∧
    t.sense = (s.modCmp n fun c => { c with voidHi := c.voidHi || hi.toNat != s.rd (CMP_THR_Hi n),
                                            voidLo := c.voidLo || lo.toNat != s.rd (CMP_THR_Lo n) }).sense ∧
    Frame s t [CMP_THR_Hi n, CMP_THR_Lo n] [.sense] := by
  have hplain {f : Fld} (hf : f.off = CMP_THR n) : f.plain = true :=
    senseFld_plain (by simp only [CMP_THR] at hf; omega) (by simp only [CMP_THR] at hf; omega)
  have hap : (CMP_THR_Hi n).apart (CMP_THR_Lo n) = true := by simp [Fld.apart, CMP_THR_Hi, CMP_THR_Lo]
  rw [exec_cmpThrWrite, State.thrWrite, answers_done, State.answer_rd _ _ (hplain rfl), State.answer_rd _ _ (hplain rfl),
    State.rd_wr_same _ _ _ rfl, State.rd_wr_apart _ _ rfl hap, State.rd_wr_same _ _ _ rfl, State.requeue_sense, State.settle_sense]
  exact ⟨Nat.mod_eq_of_lt hi.isLt, Nat.mod_eq_of_lt lo.isLt, rfl,
    ((((Reach.refl s _ _).modCmp _ _ (by simp)).wr _ (by simp) rfl).wr _ (by simp) rfl).frame _⟩

/-! ### CMP_LATCH_CLEAR (R94) -/

/-- Latches of a list of comparator halves cleared. -/
def State.latchClears (s : State) (high : Bool) (l : List Nat) : State := forEach l s (fun s c => s.latchClear c high)

theorem State.latchWordClear_eq (s : State) (i mask : Nat) : s.latchWordClear i mask =
    (s.latchClears (decide (i < 2)) ((bitsOf 32 mask).map fun b => 32 * (i % 2) + b)).updTrips := by
  rw [State.latchWordClear, State.latchClears, forEach, forEach, List.foldl_map]

theorem State.latchClears_latched (s : State) (high : Bool) {l : List Nat} (hl : ∀ c ∈ l, c < 64) {m : Nat} (hm : m < 64) :
    (s.latchClears high l).latched m high =
      (s.latched m high && !(decide (m ∈ l) && !(s.rawEvent m high && !s.blanked m))) := by
  induction l generalizing s with
  | nil => simp [State.latchClears, forEach]
  | cons c l ih =>
    have hc := hl c (by simp)
    have hraw : (s.latchClear c high).rawEvent m high = s.rawEvent m high :=
      State.rawEvent_congr m high hm fun f hf => s.latchClear_rd hc high (.inl hf)
    have hblank : (s.latchClear c high).blanked m = s.blanked m := by
      rw [State.blanked, State.cmp, State.latchClear_sense, State.blanked, State.cmp]
    rw [show s.latchClears high (c :: l) = (s.latchClear c high).latchClears high l from rfl,
      ih _ (fun a ha => hl a (List.mem_cons_of_mem _ ha)), hraw, hblank, State.latched_latchClear _ hc hm]
    by_cases he : c = m
    · subst he
      cases s.latched c high <;> cases s.rawEvent c high && !s.blanked c <;> simp
    · simp [he, Ne.symm he]

/-- A bit of a latch word is the latch of a comparator half. -/
theorem State.latchWord_bit (s : State) {i b : Nat} (hi : i < 4) (hb : b < 32) :
    (s.rd (CMP_LATCH_Latch i)).testBit b = s.latched (32 * (i % 2) + b) (decide (i < 2)) := by
  have hword : cmpWord (32 * (i % 2) + b) (decide (i < 2)) = i := by
    by_cases h : i < 2 <;> simp [cmpWord, h] <;> omega
  rw [State.latched, hword, show (32 * (i % 2) + b) % 32 = b by omega]

theorem Reach.latchClears {s x : State} {fs : List Fld} {ps : List Part} (h : Reach s x fs ps) (high : Bool) {l : List Nat}
    (hl : ∀ c ∈ l, CMP_LATCH_Latch (cmpWord c high) ∈ fs) : Reach s (x.latchClears high l) fs ps :=
  List.foldlRecOn (motive := fun y => Reach s y fs ps) l _ h fun _ hy c hc => hy.ite (hy.wr _ (hl c hc) rfl)

theorem cmpLatchClear_answers (s : State) (i : Fin 4) (mask : BitVec 32) : Answers (exec (.cmpLatchClear i mask) s) fun t =>
    (∀ b < 32, (t.rd (CMP_LATCH_Latch i)).testBit b = ((s.rd (CMP_LATCH_Latch i)).testBit b &&
      !(mask.toNat.testBit b && !(s.rawEvent (32 * (i % 2) + b) (decide (i.val < 2)) && !s.blanked (32 * (i % 2) + b))))) ∧
    ((∀ l < 16, ∀ m < 4, s.rd (CMP_TRIP_MASK_Mask l m) = 0) → s.sense.trips = 0 → Frame s t [CMP_LATCH_Latch i] []) := by
  have hbits : ∀ b ∈ bitsOf 32 mask.toNat, b < 32 := fun b hb => List.mem_range.1 (List.mem_filter.1 hb).1
  have hlist : ∀ c ∈ (bitsOf 32 mask.toNat).map fun b => 32 * (i.val % 2) + b, c < 64 ∧ cmpWord c (decide (i.val < 2)) = i := by
    intro c hc
    obtain ⟨b, hb, rfl⟩ := List.mem_map.1 hc
    have := hbits b hb
    refine ⟨by omega, ?_⟩
    by_cases h : i.val < 2 <;> simp [cmpWord, h] <;> omega
  have hreach := (Reach.refl s [CMP_LATCH_Latch i] []).latchClears (decide (i.val < 2)) fun c hc =>
    (congrArg CMP_LATCH_Latch (hlist c hc).2) ▸ List.mem_singleton_self _
  rw [exec_cmpLatchClear, State.latchWordClear_eq, answers_done]
  refine ⟨fun b hb => ?_, fun hmask htrips => ?_⟩
  · have hmem : (32 * (i.val % 2) + b ∈ (bitsOf 32 mask.toNat).map fun b => 32 * (i.val % 2) + b) ↔ mask.toNat.testBit b = true := by
      simp [bitsOf, hb]
    rw [State.latchWord_bit _ i.isLt hb, State.latchWord_bit _ i.isLt hb, State.answer_latched _ _ (by omega),
      (KeepsCmp.updTrips _).latched (by omega), State.latchClears_latched _ _ (fun c hc => (hlist c hc).1) (by omega)]
    simp only [hmem, Bool.decide_eq_true]
  · rw [State.updTrips_quiet (hreach.tripsQuiet (by simp) (by simp [CMP_LATCH_Latch, CMP_LATCH]; omega) ⟨hmask, htrips⟩)]
    exact hreach.frame _

/-- Settles O20: each command by its guard; only a latch that sets or clears can move a trip line. -/
theorem comparators : Obligations.Comparators := fun s n high =>
  ⟨fun h => answers_unchanged (by rw [exec_comparatorEvent, State.cmpEvent_disabled h]),
   comparatorEvent_blanked, comparatorEvent_latches, comparatorEvent_releases s n high,
   fun h => answers_unchanged (by rw [exec_blankingEnd, State.blankEnd, if_pos (by simp [h])]),
   blankingEnd_released, blankingEnd_latches, swapTest_untestable,
   fun ht hh hl hn => ⟨swapTest_passes ht hh hl hn, fun _ _ => swapTest_fails ht hh hl hn⟩,
   fun ht hb => ⟨tieTest_passes ht hb, tieTest_low_fails ht hb, tieTest_high_fails ht hb⟩,
   cmpUntested_raises, cmpThrWrite_answers s n, cmpLatchClear_answers s⟩

end Sys2Proof.Machine
end

section
/-!
SUPPORT. The converters: codes of a sequence entry, results and readbacks of the main converter, extremes (R76-R88, R99).
-/
namespace Sys2Proof.Machine

set_option Elab.async false

theorem exec_fcCodeReady (k : Fin 24) (cycle : Fin 200) (code : BitVec 12) (par : BitVec 2) (s : State) :
    exec (.fcCodeReady k cycle code par) s =
      done s (if s.on (AFE_FC_CFG_En k) then s.fcCode k cycle code.toNat par.toNat else s) := rfl
theorem exec_peakClr (k : Fin 256) (s : State) : exec (.peakClr k) s = done s (s.modTm k (fun c => { c with pkClr := true })) := rfl
theorem exec_mcConversionDone_job (idx : Fin 10) (j : Fin 32) (src : BitVec 8) (code : BitVec 16) (par : BitVec 2) (late : Bool) (s : State) :
    exec (.mcConversionDone idx (.job j) src code par late) s =
      done s (s.mcDone idx (.job j) (s.rd (AFE_MC_JOB_Src j)) code.toNat par.toNat late) := rfl

/-- With no injection armed nothing fires (R427). -/
theorem State.takeArmed_none {s : State} (h : s.flt.armed = none) (target inst : Nat) : s.takeArmed target inst = (0, s) := by
  rw [State.takeArmed, h]

/-! ### Fast-converter codes (R76, R77) -/

theorem State.fcInject_none {s : State} (h : s.flt.armed = none) (k par : Nat) : s.fcInject k par = (par, s) := by
  rw [State.fcInject, State.takeArmed_none h]
  rfl

theorem State.capWord_off {s : State} (h : ∀ j < 4, s.on (CAPU_CFG_En j) = false) (k cycle code mux : Nat) (loop ok : Bool) :
    s.capWord k cycle code mux loop ok = s :=
  forN_unchanged fun j hj => if_neg (by simp [h j hj])

/-- Without a power channel no sample is paired (R87). -/
theorem State.tmPairs_none {s : State} (h : ∀ p < 256, s.rd (AFE_TM_CFG_SrcType p) ≠ 2) (k : Nat) (v : Int) (ok par miss : Bool) :
    s.tmPairs k v ok par miss = s :=
  forN_unchanged fun p hp => if_neg (by simp [h p hp])

/-- A sample that enters the window of its channel (R84, R85). -/
def State.tmCount (s : State) (k code : Nat) : State :=
  s.modTm k fun c => { c with
    latest := s.tmValue k code 0,
    cur := { c.cur with sum := c.cur.sum + code, n := c.cur.n + 1,
                        mn := if c.cur.n = 0 then s.tmValue k code 0 else min c.cur.mn (s.tmValue k code 0),
                        mx := if c.cur.n = 0 then s.tmValue k code 0 else max c.cur.mx (s.tmValue k code 0) } }

theorem State.tmSample_inRange {s : State} {k code top : Nat} (hpairs : ∀ p < 256, s.rd (AFE_TM_CFG_SrcType p) ≠ 2)
    (hsat : satS 32 (s.tmValue k code 0) = s.tmValue k code 0) (h0 : code ≠ 0) (htop : code ≠ top) :
    s.tmSample k code top = s.tmCount k code := by
  have hflag : (satS 32 (s.tmValue k code 0) != s.tmValue k code 0 || code == 0 || code == top) = false := by simp [hsat, h0, htop]
  rw [State.tmSample, hflag, hsat, State.tmPairs_none (by exact hpairs), State.tmTake, State.when_false, State.tmCount]
  simp only [Bool.or_false]

/-- A code that fails its parity at its channel (R88). -/
def State.tmBad (s : State) (k : Nat) : State := (s.wrB (AFE_TM_STAT_Par k) true).tmDrop k

/-- A code reaches the one channel of its sequence entry. -/
def State.fcTake (s : State) (k mux code ch : Nat) (ok : Bool) : State :=
  if ok then s.tmSample ch code 0xFFF
  else ((s.tmBad ch).raise 64 (k + 32 * mux + 128 * (0x100 + ch))).tmPairs ch 0 false true false

/-- A code reaches an e-fuse channel whose current it is (R251). -/
def State.fcFuse (k mux code ch : Nat) (ok : Bool) (s : State) (e : Nat) : State :=
  if s.on (EF_CTL_En e) && [ch].contains (s.rd (EF_MEAS_IinCh e)) then
    let live := s.efState e == 4 || s.efState e == 5
    let s := s.when (!ok && live) (fun s => s.raise 64 (k + 32 * mux + 128 * (0x20 + e)))
    s.efCode e code ok
  else s

section Code
variable {s : State} {k cycle use ch : Nat} (harm : s.flt.armed = none)
  (hplan : s.sense.fcPlan.find? (fun e => e.1 == k && e.2.1 == cycle) = some (k, cycle, use)) (huse : use < 8)
  (hch : s.tmOfSeq k use = [ch]) (hcap : ∀ j < 4, s.on (CAPU_CFG_En j) = false)
include harm hplan huse hch hcap

theorem State.fcCode_eq (code par : Nat) : s.fcCode k cycle code par =
    forN 16 (s.fcTake k (s.cycleMux k use) code ch (par == parity12 code))
      (State.fcFuse k (s.cycleMux k use) code ch (par == parity12 code)) := by
  rw [State.fcCode, State.fcInject_none harm]
  simp only [hplan, bne_self_eq_false, Bool.false_and, Bool.false_eq_true, if_false, State.capWord_off hcap, hch,
    if_neg (Nat.not_le.2 huse)]
  rfl

end Code

/-- Disabled e-fuse channels take no code. -/
theorem State.fcFuse_off {s : State} (h : ∀ e < 16, s.on (EF_CTL_En e) = false) (k mux code ch : Nat) (ok : Bool) :
    forN 16 s (State.fcFuse k mux code ch ok) = s :=
  forN_unchanged fun e he => if_neg (by simp [h e he])

theorem State.tmOfSeq_lt {s : State} {k use ch : Nat} (h : s.tmOfSeq k use = [ch]) : ch < 256 := by
  have hmem : ch ∈ s.tmOfSeq k use := h ▸ List.mem_singleton_self ch
  exact List.mem_range.1 (List.mem_filter.1 hmem).1

theorem AFE_TM_STAT_Par_plain {k : Nat} (h : k < 256) : (AFE_TM_STAT_Par k).plain = true :=
  senseFld_plain (by simp only [AFE_TM_STAT_Par, AFE_TM_STAT]; omega) (by simp only [AFE_TM_STAT_Par, AFE_TM_STAT]; omega)

theorem State.tmBad_rd (s : State) (k : Nat) {f : Fld} (h : f.off ≠ AFE_TM_STAT k) : (s.tmBad k).rd f = s.rd f :=
  s.rd_wr_off (g := AFE_TM_STAT_Par k) _ h

/-- A raise after a bad code leaves every register but the channel's status and the fault collector. -/
theorem State.tmBad_raise_rd (s : State) (k syn : Nat) {f : Fld} (h : f.off ≠ AFE_TM_STAT k) (hf : 0x8000 ≤ f.off) :
    ((s.tmBad k).raise 64 syn).rd f = s.rd f := by
  rw [(FaultSide.raise _ 64 syn (by decide)).rd (offFault_of_high hf), State.tmBad_rd _ _ h]

section CodeReady
variable {s : State} {k : Fin 24} {cycle : Fin 200} {code : BitVec 12} {par : BitVec 2} {use ch : Nat} (hen : s.on (AFE_FC_CFG_En k) = true)
  (harm : s.flt.armed = none)
  (hplan : s.sense.fcPlan.find? (fun e => e.1 == k.val && e.2.1 == cycle.val) = some (k.val, cycle.val, use)) (huse : use < 8)
  (hch : s.tmOfSeq k use = [ch]) (hcap : ∀ j < 4, s.on (CAPU_CFG_En j) = false) (hef : ∀ e < 16, s.on (EF_CTL_En e) = false)
  (hpairs : ∀ p < 256, s.rd (AFE_TM_CFG_SrcType p) ≠ 2)
include hen harm hplan huse hch hcap hef hpairs

theorem fcCodeReady_counts (hpar : par.toNat = parity12 code.toNat)
    (hsat : satS 32 (s.tmValue ch code.toNat 0) = s.tmValue ch code.toNat 0) (h0 : code ≠ 0) (htop : code ≠ 0xFFF) :
    Answers (exec (.fcCodeReady k cycle code par) s) fun t => t.sense = (s.tmCount ch code.toNat).sense ∧ Frame s t [] [.sense] := by
  have h0' : code.toNat ≠ 0 := fun h => h0 (BitVec.eq_of_toNat_eq h)
  have htop' : code.toNat ≠ 0xFFF := fun h => htop (BitVec.eq_of_toNat_eq h)
  have hok : (par.toNat == parity12 code.toNat) = true := by simp [hpar]
  rw [exec_fcCodeReady, if_pos hen, State.fcCode_eq harm hplan huse hch hcap, hok, State.fcTake, if_pos rfl,
    State.tmSample_inRange hpairs hsat h0' htop', State.fcFuse_off (by exact hef), answers_done, State.requeue_sense, State.settle_sense]
  exact ⟨rfl, ((Reach.refl s _ _).modTm _ _ (by simp)).frame _⟩

theorem fcCodeReady_bad (hpar : par.toNat ≠ parity12 code.toNat) (ha : s.on (FLT_SRC_CFG_Assigned 64) = true) :
    Answers (exec (.fcCodeReady k cycle code par) s) fun t =>
      t.on (AFE_TM_STAT_Par ch) ∧ t.sense = (s.tmDrop ch).sense ∧ Raised t 64 (k.val + 32 * s.cycleMux k use + 128 * (0x100 + ch)) ∧
      FrameFault s t [AFE_TM_STAT_Par ch] [.sense] := by
  have hlt := State.tmOfSeq_lt hch
  have hbad : (par.toNat == parity12 code.toNat) = false := by simp [hpar]
  have hreach : Reach s (s.tmBad ch) [AFE_TM_STAT_Par ch] [.sense] := ((Reach.refl s _ _).wr _ (by simp) rfl).modTm _ _ (by simp)
  have hassigned : (s.tmBad ch).on (FLT_SRC_CFG_Assigned 64) = true := by
    rw [State.on, State.tmBad_rd _ _ (by simp only [FLT_SRC_CFG_Assigned, FLT_SRC_CFG, AFE_TM_STAT]; omega)]; exact ha
  have hside (syn : Nat) := FaultSide.raise (s.tmBad ch) 64 syn (by decide)
  have hnone (syn : Nat) : ∀ p < 256, ((s.tmBad ch).raise 64 syn).rd (AFE_TM_CFG_SrcType p) ≠ 2 := fun p hp => by
    rw [State.tmBad_raise_rd _ _ _ (by simp only [AFE_TM_CFG_SrcType, AFE_TM_CFG, AFE_TM_STAT]; omega)
      (by simp only [AFE_TM_CFG_SrcType, AFE_TM_CFG]; omega)]
    exact hpairs p hp
  have hfuse (syn : Nat) : ∀ e < 16, ((s.tmBad ch).raise 64 syn).on (EF_CTL_En e) = false := fun e he => by
    rw [State.on, State.tmBad_raise_rd _ _ _ (by simp only [EF_CTL_En, EF_CTL, AFE_TM_STAT]; omega) (by simp only [EF_CTL_En, EF_CTL]; omega)]
    exact hef e he
  rw [exec_fcCodeReady, if_pos hen, State.fcCode_eq harm hplan huse hch hcap, hbad, State.fcTake, if_neg (by decide),
    State.tmPairs_none (hnone _), State.fcFuse_off (hfuse _), answers_done, State.answer_on _ _ (AFE_TM_STAT_Par_plain hlt),
    (hside _).on (offFault_of_high (by simp only [AFE_TM_STAT_Par, AFE_TM_STAT]; omega)), State.requeue_sense, State.settle_sense, (hside _).sense]
  exact ⟨State.on_wr_flag s true rfl rfl, rfl, (State.raise_raised _ _ (by decide) (by decide) hassigned).answer (by decide) _,
    (hreach.fault.raise _ (by decide)).frame _⟩

end CodeReady

/-! ### The main converter (R79-R82, R99) -/

/-- The uses of a conversion beside the jobs. -/
def mcChecks : List McUse := [.reference, .readback, .tempScan, .core]

theorem exec_mcConversionDone_check {use : McUse} (h : use ∈ mcChecks) (idx : Fin 10) (src : BitVec 8) (code : BitVec 16) (par : BitVec 2)
    (late : Bool) (s : State) : exec (.mcConversionDone idx use src code par late) s =
      done s (s.mcDone idx use src.toNat code.toNat par.toNat late) := by
  simp only [mcChecks, List.mem_cons, List.not_mem_nil, or_false] at h
  rcases h with rfl | rfl | rfl | rfl <;> rfl

theorem State.mcMiss_check {use : McUse} (h : use ∈ mcChecks) (s : State) : s.mcMiss use = s := by
  simp only [mcChecks, List.mem_cons, List.not_mem_nil, or_false] at h
  rcases h with rfl | rfl | rfl | rfl <;> rfl

/-- What a conversion that fails its parity does at its use (R82, R88). -/
def State.mcBad (s : State) (use : McUse) : State :=
  match use with
  | .job j => forEach (s.tmOfJob j) s (fun s t => (s.wrB (AFE_TM_STAT_Par t) true).tmDrop t)
  | _ => s

theorem State.mcBad_check {use : McUse} (h : use ∈ mcChecks) (s : State) : s.mcBad use = s := by
  simp only [mcChecks, List.mem_cons, List.not_mem_nil, or_false] at h
  rcases h with rfl | rfl | rfl | rfl <;> rfl

/-- What a checked result does at its use (R80, R81, R99, R515). -/
def State.mcGood (s : State) (use : McUse) (src code : Nat) : State :=
  match use with
  | .job j =>
    let s := (s.wr (AFE_MC_RES_Res j) code).wrB (AFE_MC_RES_Valid j) true
    forEach (s.tmOfJob j) s (fun s t => s.tmSample t code 0xFFFF)
  | .reference =>
    if src = 0xEA then
      (if code > 0x8000 + 164 ∨ code < 0x8000 - 164 then s.raise 67 0 else s)
    else if src = 0xEB then (if code > 164 then s.raise 67 1 else s)
    else s
  | .readback => if 0x60 ≤ src ∧ src < 0xE0 then s.mcReadback src code else s
  | .tempScan => if 0xE0 ≤ src ∧ src ≤ 0xE2 then s.mcTemp src code else s
  | .core => s

section Done
variable {s : State}

theorem State.mcDone_unavailable (h : s.mcAvail = false) (idx : Nat) (use : McUse) (src code par : Nat) (late : Bool) :
    s.mcDone idx use src code par late = s.mcMiss use := by
  rw [State.mcDone, if_pos (by simp [h])]

theorem State.mcDone_late (h : s.mcAvail = true) (idx : Nat) (use : McUse) (src code par : Nat) :
    s.mcDone idx use src code par true = (s.raise 66 idx).mcMiss use := by
  rw [State.mcDone, if_neg (by simp [h]), if_pos rfl]

variable (h : s.mcAvail = true) (harm : s.flt.armed = none)
include h harm

theorem State.mcDone_checked (idx : Nat) (use : McUse) (src code par : Nat) : s.mcDone idx use src code par false =
    if par != parity16 code then (s.raise 65 src).mcBad use else s.mcGood use src code := by
  rw [State.mcDone, if_neg (by simp [h]), if_neg (by decide), State.takeArmed_none harm]
  rfl

theorem State.mcDone_good {idx : Nat} {use : McUse} {src code par : Nat} (hpar : par = parity16 code) :
    s.mcDone idx use src code par false = s.mcGood use src code := by
  rw [State.mcDone_checked h harm, if_neg (by simp [hpar])]

end Done

/-- A raise of an assigned source alone, read in the settled answer. -/
theorem raise_answers (s : State) {src : Nat} (syn : Nat) (hs : src < 256) (hne : src ≠ 233) (ha : s.on (FLT_SRC_CFG_Assigned src) = true) :
    Answers (done s (s.raise src syn)) fun t => Raised t src syn ∧ FrameFault s t [] [] := by
  rw [answers_done]
  exact ⟨(State.raise_raised s syn hs hne ha).answer hs _, ((Reach.refl s _ _).fault.raise _ hs).frame _⟩

theorem mcConversionDone_job {s : State} (idx : Fin 10) {j : Fin 32} (src : BitVec 8) {code : BitVec 16} {par : BitVec 2}
    (h : s.mcAvail = true) (harm : s.flt.armed = none) (hpar : par.toNat = parity16 code.toNat) (hjob : s.tmOfJob j = []) :
    Answers (exec (.mcConversionDone idx (.job j) src code par false) s) fun t =>
      t.rd (AFE_MC_RES_Res j) = code.toNat ∧ t.on (AFE_MC_RES_Valid j) ∧ Frame s t [AFE_MC_RES_Res j, AFE_MC_RES_Valid j] [] := by
  have hplain {f : Fld} (hf : f.off = AFE_MC_RES j) : f.plain = true :=
    senseFld_plain (by simp only [AFE_MC_RES] at hf; omega) (by simp only [AFE_MC_RES] at hf; omega)
  have hap : (AFE_MC_RES_Res j).apart (AFE_MC_RES_Valid j) = true := by simp [Fld.apart, AFE_MC_RES_Res, AFE_MC_RES_Valid]
  have hnone : ((s.wr (AFE_MC_RES_Res j) code.toNat).wrB (AFE_MC_RES_Valid j) true).tmOfJob j = [] := by
    rw [← hjob]
    refine List.filter_congr fun t ht => ?_
    have hrd {f : Fld} (hf : f.off = AFE_TM_CFG t) :
        ((s.wr (AFE_MC_RES_Res j) code.toNat).wrB (AFE_MC_RES_Valid j) true).rd f = s.rd f := by
      have hne : f.off ≠ AFE_MC_RES j := by rw [hf]; simp only [AFE_TM_CFG, AFE_MC_RES]; omega
      rw [State.wrB_eq, State.rd_wr_off _ _ hne, State.rd_wr_off _ _ hne]
    rw [State.on, hrd rfl, hrd rfl, hrd rfl, State.on]
  have hres : s.mcGood (.job j) (s.rd (AFE_MC_JOB_Src j)) code.toNat = (s.wr (AFE_MC_RES_Res j) code.toNat).wrB (AFE_MC_RES_Valid j) true := by
    rw [State.mcGood, hnone]
    rfl
  rw [exec_mcConversionDone_job, State.mcDone_good h harm hpar, hres, answers_done, State.answer_rd _ _ (hplain rfl),
    State.answer_on _ _ (hplain rfl), State.wrB_eq, State.on_wr_flag _ _ rfl rfl, State.rd_wr_apart _ _ rfl hap, State.rd_wr_same _ _ _ rfl]
  exact ⟨Nat.mod_eq_of_lt code.isLt, rfl, (((Reach.refl s _ _).wr _ (by simp) rfl).wr _ (by simp) rfl).frame _⟩

section Check
variable {s : State} {use : McUse} (hu : use ∈ mcChecks) (idx : Fin 10) (src : BitVec 8) (code : BitVec 16) (par : BitVec 2)
include hu

theorem mcConversionDone_unavailable (h : s.mcAvail = false) (late : Bool) :
    Answers (exec (.mcConversionDone idx use src code par late) s) fun t => Frame s t [] [] := by
  rw [exec_mcConversionDone_check hu, State.mcDone_unavailable h, State.mcMiss_check hu]
  exact answers_unchanged rfl

theorem mcConversionDone_late (h : s.mcAvail = true) (ha : s.on (FLT_SRC_CFG_Assigned 66) = true) :
    Answers (exec (.mcConversionDone idx use src code par true) s) fun t => Raised t 66 idx ∧ FrameFault s t [] [] := by
  rw [exec_mcConversionDone_check hu, State.mcDone_late h, State.mcMiss_check hu]
  exact raise_answers s idx (by decide) (by decide) ha

theorem mcConversionDone_bad (h : s.mcAvail = true) (harm : s.flt.armed = none) (hpar : par.toNat ≠ parity16 code.toNat)
    (ha : s.on (FLT_SRC_CFG_Assigned 65) = true) :
    Answers (exec (.mcConversionDone idx use src code par false) s) fun t => Raised t 65 src.toNat ∧ FrameFault s t [] [] := by
  rw [exec_mcConversionDone_check hu, State.mcDone_checked h harm, if_pos (by simp [hpar]), State.mcBad_check hu]
  exact raise_answers s _ (by decide) (by decide) ha

end Check

section Good
variable {s : State} (idx : Fin 10) {code : BitVec 16} {par : BitVec 2} (h : s.mcAvail = true) (harm : s.flt.armed = none)
  (hpar : par.toNat = parity16 code.toNat)
include h harm hpar

theorem exec_mcConversionDone_good {use : McUse} (hu : use ∈ mcChecks) (src : BitVec 8) :
    exec (.mcConversionDone idx use src code par false) s = done s (s.mcGood use src.toNat code.toNat) := by
  rw [exec_mcConversionDone_check hu, State.mcDone_good h harm hpar]

theorem mcConversionDone_reference_out (ha : s.on (FLT_SRC_CFG_Assigned 67) = true)
    (hout : 0x8000 + 164 < code.toNat ∨ code.toNat < 0x8000 - 164) :
    Answers (exec (.mcConversionDone idx .reference 0xEA code par false) s) fun t => Raised t 67 0 ∧ FrameFault s t [] [] := by
  have hgood : s.mcGood .reference (0xEA : BitVec 8).toNat code.toNat = s.raise 67 0 := by
    rw [State.mcGood]
    exact (if_pos rfl).trans (if_pos hout)
  rw [exec_mcConversionDone_good idx h harm hpar (by decide), hgood]
  exact raise_answers s 0 (by decide) (by decide) ha

theorem mcConversionDone_reference_in (hlo : 0x8000 - 164 ≤ code.toNat) (hhi : code.toNat ≤ 0x8000 + 164) :
    Answers (exec (.mcConversionDone idx .reference 0xEA code par false) s) fun t => Frame s t [] [] := by
  have hgood : s.mcGood .reference (0xEA : BitVec 8).toNat code.toNat = s := by
    rw [State.mcGood]
    exact (if_pos rfl).trans (if_neg (by omega))
  rw [exec_mcConversionDone_good idx h harm hpar (by decide), hgood]
  exact answers_unchanged rfl

end Good

/-- A readback of the high threshold of a comparator above its code by more than DacTol (R99). -/
theorem State.mcReadback_high {s : State} {n code : Nat} (hrb : s.on AFE_ST_CFG_RbEn = true) (hst : s.on (CMP_CFG_StEn n) = true)
    (hvoid : (s.cmp n).voidHi = false) (hfar : 64 * s.rd (CMP_THR_Hi n) + 64 * s.rd AFE_ST_CFG_DacTol < code) :
    s.mcReadback (0x60 + 2 * n + 1) code = s.raise 68 (n + 64) := by
  have hn : (0x60 + 2 * n + 1 - 0x60) / 2 = n := by omega
  have hhigh : ((0x60 + 2 * n + 1) % 2 == 1) = true := by simp; omega
  rw [State.mcReadback]
  simp only [hn, hhigh, hrb, hst, hvoid, if_true, Bool.and_self, Bool.not_true, Bool.false_eq_true, if_false, ge_iff_le]
  rw [if_pos (by omega : 64 * s.rd (CMP_THR_Hi n) ≤ code), if_pos (by omega)]
  rfl

theorem mcConversionDone_readback {s : State} (idx : Fin 10) {n : Fin 64} {code : BitVec 16} {par : BitVec 2} (h : s.mcAvail = true)
    (harm : s.flt.armed = none) (hpar : par.toNat = parity16 code.toNat) (ha : s.on (FLT_SRC_CFG_Assigned 68) = true)
    (hrb : s.on AFE_ST_CFG_RbEn = true) (hst : s.on (CMP_CFG_StEn n) = true) (hvoid : (s.cmp n).voidHi = false)
    (hfar : 64 * s.rd (CMP_THR_Hi n) + 64 * s.rd AFE_ST_CFG_DacTol < code.toNat) :
    Answers (exec (.mcConversionDone idx .readback (BitVec.ofNat 8 (0x60 + 2 * n + 1)) code par false) s) fun t =>
      Raised t 68 (n + 64) ∧ FrameFault s t [] [] := by
  have hsrc : (BitVec.ofNat 8 (0x60 + 2 * n.val + 1)).toNat = 0x60 + 2 * n.val + 1 := by
    rw [BitVec.toNat_ofNat]; omega
  have hgood : s.mcGood .readback (0x60 + 2 * n.val + 1) code.toNat = s.raise 68 (n.val + 64) := by
    rw [State.mcGood, State.mcReadback_high hrb hst hvoid hfar]
    exact if_pos (by omega)
  rw [exec_mcConversionDone_good idx h harm hpar (by decide), hsrc, hgood]
  exact raise_answers s _ (by decide) (by decide) ha

/-! ### The extremes restart (R86) -/

theorem peakClr_answers (s : State) (k : Fin 256) : Answers (exec (.peakClr k) s) fun t =>
    t.sense = (s.modTm k fun c => { c with pkClr := true }).sense ∧ Frame s t [] [.sense] := by
  rw [exec_peakClr, answers_done, State.requeue_sense, State.settle_sense]
  exact ⟨rfl, ((Reach.refl s _ _).modTm _ _ (by simp)).frame _⟩

/-- Settles O19: a code or a result by its checks, in the order in which the converter makes them. -/
theorem converters : Obligations.Converters := fun s =>
  ⟨fun k cycle code par h => answers_unchanged (by rw [exec_fcCodeReady, if_neg (by simp [h])]),
   fun _ _ _ _ _ _ hen harm hplan huse hch hcap hef hpairs =>
    ⟨fcCodeReady_counts hen harm hplan huse hch hcap hef hpairs, fcCodeReady_bad hen harm hplan huse hch hcap hef hpairs⟩,
   fun idx _ src _ _ => mcConversionDone_job idx src,
   fun _ idx src code par hu => ⟨mcConversionDone_unavailable hu idx src code par, mcConversionDone_late hu idx src code par,
    mcConversionDone_bad hu idx src code par⟩,
   fun idx _ _ h harm hpar ha => ⟨mcConversionDone_reference_out idx h harm hpar ha, mcConversionDone_reference_in idx h harm hpar⟩,
   fun idx _ _ _ => mcConversionDone_readback idx, peakClr_answers s⟩

end Sys2Proof.Machine
end

section
/-!
SUPPORT. Periods and edges of pulse channels that no comparator refers to and no trip acts on (R106-R128).
-/
namespace Sys2Proof.Machine

set_option Elab.async false

theorem exec_pulseEdge (n : Fin 48) (rise readH readL : Bool) (s : State) :
    exec (.pulseEdge n rise readH readL) s = done s (s.edge n rise readH readL) := rfl

/-! ### Channel registers and records -/

/-- The registers of the pulse generators hold no status field. -/
theorem pgFld_plain {f : Fld} (h1 : 0x10000 ≤ f.off) (h2 : f.off < 0x14000) : f.plain = true :=
  Fld.plain_of_range (by decide +kernel) h1 h2

theorem pgStat_plain (n : Fin 48) {f : Fld} (hf : f.off = PG_CH_STAT n) : f.plain = true :=
  pgFld_plain (by simp only [PG_CH_STAT] at hf; omega) (by simp only [PG_CH_STAT] at hf; omega)

theorem Reach.modPg {s x : State} {fs : List Fld} {ps : List Part} (h : Reach s x fs ps) (n : Nat) (g : PgCh → PgCh)
    (hm : Part.sense ∈ ps) : Reach s (x.modPg n g) fs ps := h.setSense _ hm

@[simp] theorem State.pg_wr (s : State) (f : Fld) (v n : Nat) : (s.wr f v).pg n = s.pg n := rfl
@[simp] theorem State.pg_modPg (s : State) (n : Nat) (g : PgCh → PgCh) : (s.modPg n g).pg n = g (s.pg n) := nth_upd_same _ _ _
theorem State.answer_pg (x : State) (q : List Instr) (n : Nat) : (x.settle.requeue q).pg n = x.pg n := by
  rw [State.pg, State.requeue_sense, State.settle_sense, State.pg]

theorem State.modPg_modPg (s : State) (n : Nat) (f g : PgCh → PgCh) : (s.modPg n f).modPg n g = s.modPg n (fun c => g (f c)) := by
  rw [State.modPg, State.modPg_sense, State.modPg, upd_upd]; rfl

/-! ### What a period start leaves -/

/-- The fields that a period start may write. -/
abbrev periodFlds (n : Nat) : List Fld := [PG_CH_STAT_Run n, PG_CH_STAT_Safe n, PG_CH_STAT_Trip n, PG_CH_STAT_IdleSt n, PG_CH_STAT_Skip n,
  PG_CH_STAT_Clamp n, PG_CH_SKIP_CNT_Cnt n, PG_CH_CLAMP_CNT_Cnt n]

/-- An effect that stays within a channel's status, its skip and clamp counts, and the channel records. -/
structure PulseReach (n : Nat) (s x : State) : Prop where
  reach : Reach s x (periodFlds n) [.sense]
  sense : x.sense = { s.sense with pg := x.sense.pg }

namespace PulseReach
variable {n : Nat} {s x : State}

theorem refl (n : Nat) (s : State) : PulseReach n s s := ⟨Reach.refl _ _ _, rfl⟩

theorem trans {y : State} (h : PulseReach n s x) (k : PulseReach n x y) : PulseReach n s y :=
  ⟨h.reach.trans k.reach, by rw [k.sense, h.sense]⟩

theorem wr (h : PulseReach n s x) {g : Fld} (v : Nat) (hm : g ∈ periodFlds n) (hg : g.ok = true) : PulseReach n s (x.wr g v) :=
  ⟨h.reach.wr v hm hg, h.sense⟩

/-- A flag set and counted. -/
theorem flagCount (h : PulseReach n s x) {f g : Fld} (hf : f ∈ periodFlds n) (hg : g ∈ periodFlds n) (hf' : f.ok = true)
    (hg' : g.ok = true) : PulseReach n s ((x.wrB f true).inc g) := (h.wr _ hf hf').wr _ hg hg'

theorem modPg (h : PulseReach n s x) (k : Nat) (g : PgCh → PgCh) : PulseReach n s (x.modPg k g) :=
  ⟨h.reach.modPg k g (by simp), by rw [State.modPg_sense, h.sense]⟩

theorem when (b : Bool) {g : State → State} (h : PulseReach n s x) (k : PulseReach n s (g x)) : PulseReach n s (x.when b g) := by
  cases b
  · exact h
  · exact k

/-- A register of sensing or of the pulse generators, other than the channel's status and counts, reads as before. -/
theorem rd (h : PulseReach n s x) {f : Fld} (h1 : 0x8008 ≤ f.off) (h2 : f.off < 0x14000) (ho : f.off ≠ PG_CH_STAT n)
    (hs : f.off ≠ PG_CH_SKIP_CNT n) (hc : f.off ≠ PG_CH_CLAMP_CNT n) : x.rd f = s.rd f := by
  have hplain : f.plain = true := Fld.plain_of_range (by decide +kernel) h1 h2
  refine h.reach.regs f hplain (List.all_eq_true.2 fun g hg => ?_)
  have hne : f.off ≠ g.off := by
    simp only [List.mem_cons, List.not_mem_nil, or_false] at hg
    rcases hg with rfl | rfl | rfl | rfl | rfl | rfl | rfl | rfl
    all_goals assumption
  simp [Fld.apart, hne]

/-- The configuration of a channel reads as before. -/
theorem cfg (h : PulseReach n s x) (hn : n < 48) {f : Fld} (hf : f.off = PG_CH_CFG n) : x.rd f = s.rd f := by
  simp only [PG_CH_CFG] at hf
  exact h.rd (by omega) (by omega) (by simp only [PG_CH_STAT]; omega) (by simp only [PG_CH_SKIP_CNT]; omega)
    (by simp only [PG_CH_CLAMP_CNT]; omega)

variable (h : PulseReach n s x) (hn : n < 48)
include h hn

theorem safeOut : x.safeOut n = s.safeOut n := by
  rw [State.safeOut, State.triState, h.cfg hn rfl, h.cfg hn rfl, h.cfg hn rfl, h.sense, State.safeOut, State.triState]

theorem idleOut : x.idleOut n = s.idleOut n := by
  rw [State.idleOut, State.triState, h.cfg hn rfl, State.idleOut, State.triState]

theorem offOut : x.offOut n = s.offOut n := by
  rw [State.offOut, h.cfg hn rfl, State.offOut]

theorem tripsQuiet (hq : s.tripsQuiet) : x.tripsQuiet := by
  obtain ⟨hmask, htrips⟩ := hq
  refine ⟨fun l hl m hm => ?_, by rw [h.sense]; exact htrips⟩
  rw [h.rd (by simp only [CMP_TRIP_MASK_Mask, CMP_TRIP_MASK]; omega) (by simp only [CMP_TRIP_MASK_Mask, CMP_TRIP_MASK]; omega)
    (by simp only [CMP_TRIP_MASK_Mask, CMP_TRIP_MASK, PG_CH_STAT]; omega)
    (by simp only [CMP_TRIP_MASK_Mask, CMP_TRIP_MASK, PG_CH_SKIP_CNT]; omega)
    (by simp only [CMP_TRIP_MASK_Mask, CMP_TRIP_MASK, PG_CH_CLAMP_CNT]; omega)]
  exact hmask l hl m hm

theorem tripLatch : x.rd (PG_GRP_STAT_TripLatch (n / 4)) = s.rd (PG_GRP_STAT_TripLatch (n / 4)) :=
  h.rd (by simp only [PG_GRP_STAT_TripLatch, PG_GRP_STAT]; omega) (by simp only [PG_GRP_STAT_TripLatch, PG_GRP_STAT]; omega)
    (by simp only [PG_GRP_STAT_TripLatch, PG_GRP_STAT, PG_CH_STAT]; omega)
    (by simp only [PG_GRP_STAT_TripLatch, PG_GRP_STAT, PG_CH_SKIP_CNT]; omega)
    (by simp only [PG_GRP_STAT_TripLatch, PG_GRP_STAT, PG_CH_CLAMP_CNT]; omega)

end PulseReach

/-- Without a trip line or a latched trip no action applies to a channel (R119, R120). -/
theorem State.chanAct_quiet {s : State} {n : Nat} (ht : s.sense.trips = 0) (hl : s.rd (PG_GRP_STAT_TripLatch (n / 4)) = 0) :
    s.chanAct n = 0 := by
  have hgroup : s.groupAct (n / 4) = 0 := by
    refine List.foldlRecOn (motive := fun a => a = 0) _ _ rfl fun a ha t _ => ?_
    simp [ha, hl, ht]
  rw [State.chanAct, hgroup, ite_self]

/-! ### Edges placed (R110, R111) -/

/-- A channel with its edges placed, by its alignment and limits. -/
def PgCh.placed (align minOn maxOn : Nat) (c : PgCh) : PgCh :=
  let d := (limitDuty c.duty c.len minOn maxOn).1
  if align = 3 then
    { c with dutyNow := c.duty, rise := c.duty % 65536, fall := min (c.duty / 65536) c.len,
             pulse := decide (c.duty % 65536 < c.duty / 65536 ∧ c.duty % 65536 < c.len) }
  else { c with dutyNow := d, rise := (edgesOf align d c.len).1, fall := (edgesOf align d c.len).2, pulse := decide (d ≠ 0) }

/-- The counts and flags of a duty that its limits changed. -/
def State.limitMarks (s : State) (n : Nat) (clamp skip : Bool) : State :=
  (s.when clamp (fun s => (s.wrB (PG_CH_STAT_Clamp n) true).inc (PG_CH_CLAMP_CNT_Cnt n))).when skip
    (fun s => (s.wrB (PG_CH_STAT_Skip n) true).inc (PG_CH_SKIP_CNT_Cnt n))

theorem State.limitMarks_reach (s : State) (n : Nat) (clamp skip : Bool) : PulseReach n s (s.limitMarks n clamp skip) := by
  have hclamp := (PulseReach.refl n s).when (g := fun s => (s.wrB (PG_CH_STAT_Clamp n) true).inc (PG_CH_CLAMP_CNT_Cnt n)) clamp
    ((PulseReach.refl n s).flagCount (by simp) (by simp) rfl rfl)
  exact hclamp.when skip (hclamp.flagCount (by simp) (by simp) rfl rfl)

@[simp] theorem State.limitMarks_pg (s : State) (n : Nat) (clamp skip : Bool) : (s.limitMarks n clamp skip).pg n = s.pg n := by
  cases clamp <;> cases skip <;> rfl

/-- Edges are placed on a state that differs in the counts and flags of the limits alone. -/
theorem State.placeEdges_eq (s : State) {n : Nat} (hn : n < 48) : ∃ (clamp skip : Bool) (g : PgCh → PgCh),
    s.placeEdges n = (s.limitMarks n clamp skip).modPg n g ∧
      g (s.pg n) = (s.pg n).placed (s.rd (PG_CH_CFG_Align n)) (s.rd (PG_CH_LIMIT_MinOn n)) (s.rd (PG_CH_LIMIT_MaxOn n)) := by
  rw [State.placeEdges]
  split_ifs with h
  · refine ⟨false, _, _, rfl, ?_⟩
    have hpulse (r f len : Nat) : (!decide (r ≥ f ∨ r ≥ len)) = decide (r < f ∧ r < len) := by
      rw [← decide_not]; exact decide_eq_decide.2 (by omega)
    rw [PgCh.placed, if_pos h, ← hpulse]
  · refine ⟨_, _, _, rfl, ?_⟩
    let l := limitDuty (s.pg n).duty (s.pg n).len (s.rd (PG_CH_LIMIT_MinOn n)) (s.rd (PG_CH_LIMIT_MaxOn n))
    have halign := (s.limitMarks_reach n l.2.1 l.2.2).cfg hn (f := PG_CH_CFG_Align n) rfl
    rw [PgCh.placed, if_neg h, ← halign]
    rfl

theorem State.placeEdges_reach (s : State) {n : Nat} (hn : n < 48) : PulseReach n s (s.placeEdges n) := by
  obtain ⟨clamp, skip, g, heq, -⟩ := s.placeEdges_eq hn
  rw [heq]
  exact (s.limitMarks_reach n clamp skip).modPg n g

theorem State.placeEdges_pg (s : State) {n : Nat} (hn : n < 48) : (s.placeEdges n).pg n =
    (s.pg n).placed (s.rd (PG_CH_CFG_Align n)) (s.rd (PG_CH_LIMIT_MinOn n)) (s.rd (PG_CH_LIMIT_MaxOn n)) := by
  obtain ⟨clamp, skip, g, heq, hg⟩ := s.placeEdges_eq hn
  rw [heq, State.pg_modPg, State.limitMarks_pg, hg]

/-! ### A period starts (R118, R122-R124) -/

/-- A channel stops at this period start (R123). -/
def State.periodStops (s : State) (n : Nat) : Bool :=
  (s.pg n).stopping || (s.on (PG_CH_STAT_Run n) && !s.pgMayRun n && !(s.pg n).stopPend)

/-- A channel starts at this period start (R122). -/
def State.periodStarts (s : State) (n : Nat) : Bool := (s.pg n).armed && s.pgMayRun n

/-- A channel starts or goes on. -/
def State.periodRuns (s : State) (n : Nat) : Bool := (s.on (PG_CH_STAT_Run n) && !s.periodStops n) || s.periodStarts n

/-- A channel idles in the period (R124, R161). -/
def State.periodIdles (s : State) (n j : Nat) : Bool :=
  s.on (PG_CH_CTL_Idle n) || ((s.pg n).relAt == some s.frame && j == 0 && s.rd (PG_CH_OFS_OfsCur n) == 0)

/-- The record of a channel at the start of its period. -/
def State.newPeriod (s : State) (n j : Nat) : State := s.modPg n (fun c => { c with
  len := periodLen (s.rd (PG_GRP_CFG_Mul (n / 4))) j,
  start := (periodStart (s.rd (PG_GRP_CFG_Mul (n / 4))) j + s.rd (PG_CH_OFS_OfsCur n)) % 64000,
  riseDone := false, fallDone := false, trans := false, cycEnd := false, armed := if s.periodStarts n then false else c.armed })

/-- The channel with its new period, its edges placed where it runs. -/
def State.periodPlan (s : State) (n j : Nat) : State := (s.newPeriod n j).when (s.periodRuns n) (fun s => s.placeEdges n)

/-- The channel runs without an action on it, and is not safe. -/
def State.pgLive (s : State) (n : Nat) : State :=
  (((s.wr (PG_CH_STAT_Trip n) 0).wrB (PG_CH_STAT_Run n) true).modPg n (fun c => { c with held := false })).wrB (PG_CH_STAT_Safe n) false

/-- The channel in a period of its own, idle or with H off. -/
def State.goOn (s : State) (n : Nat) (idle : Bool) : State :=
  ((s.pgLive n).wrB (PG_CH_STAT_IdleSt n) idle).drive n (if idle then s.idleOut n else s.offOut n)

theorem State.newPeriod_reach (s : State) (n j : Nat) : PulseReach n s (s.newPeriod n j) := (PulseReach.refl n s).modPg n _

/-- What the new record takes over: the length of the period, its edges to come, the duty last loaded. -/
theorem State.newPeriod_pg (s : State) (n j : Nat) : ((s.newPeriod n j).pg n).len = periodLen (s.rd (PG_GRP_CFG_Mul (n / 4))) j ∧
    ((s.newPeriod n j).pg n).duty = (s.pg n).duty ∧ ((s.newPeriod n j).pg n).riseDone = false ∧
    ((s.newPeriod n j).pg n).fallDone = false := by
  rw [State.newPeriod, State.pg_modPg]
  exact ⟨rfl, rfl, rfl, rfl⟩

theorem State.placed_pg (s : State) {n : Nat} (hn : n < 48) (j : Nat) : ((s.newPeriod n j).placeEdges n).pg n =
    ((s.newPeriod n j).pg n).placed (s.rd (PG_CH_CFG_Align n)) (s.rd (PG_CH_LIMIT_MinOn n)) (s.rd (PG_CH_LIMIT_MaxOn n)) :=
  State.placeEdges_pg _ hn

theorem State.placed_reach (s : State) {n : Nat} (hn : n < 48) (j : Nat) : PulseReach n s ((s.newPeriod n j).placeEdges n) :=
  (s.newPeriod_reach n j).trans (State.placeEdges_reach _ hn)

theorem State.periodPlan_reach (s : State) {n : Nat} (hn : n < 48) (j : Nat) : PulseReach n s (s.periodPlan n j) :=
  (s.newPeriod_reach n j).when _ (s.placed_reach hn j)

theorem State.periodBegin_quiet {s : State} {n : Nat} (hn : n < 48) (href : s.referred n = []) (hq : s.tripsQuiet) (j : Nat) :
    s.periodBegin n j = (s.periodPlan n j).periodEnd n (s.periodStops n) (s.periodRuns n) (s.periodIdles n j) := by
  have hbegin : s.periodBegin n j =
      (s.periodPlan n j).updTrips.periodEnd n (s.periodStops n) (s.periodRuns n) (s.periodIdles n j) := by
    rw [State.periodBegin, href]; rfl
  rw [hbegin, State.updTrips_quiet ((s.periodPlan_reach hn j).tripsQuiet hn hq)]

theorem State.pgLive_reach (s : State) (n : Nat) : PulseReach n s (s.pgLive n) :=
  ((((PulseReach.refl n s).wr (g := PG_CH_STAT_Trip n) _ (by simp) rfl).wr (g := PG_CH_STAT_Run n) _ (by simp) rfl).modPg n _).wr
    (g := PG_CH_STAT_Safe n) _ (by simp) rfl

theorem State.drive_wrB (s : State) (n : Nat) (o : Lvl × Lvl) (f : Fld) (b : Bool) :
    (s.drive n o).wrB f b = (s.wrB f b).drive n o := rfl

theorem State.periodEnd_goesOn {s : State} {n : Nat} (hn : n < 48) (h : s.chanAct n = 0) (idle : Bool) :
    s.periodEnd n false true idle = s.goOn n idle := by
  have hend : s.periodEnd n false true idle =
      if idle then ((s.pgLive n).drive n ((s.pgLive n).idleOut n)).wrB (PG_CH_STAT_IdleSt n) true
      else ((s.pgLive n).wrB (PG_CH_STAT_IdleSt n) false).drive n ((s.pgLive n).offOut n) := by
    rw [State.periodEnd, h]; rfl
  rw [hend, (s.pgLive_reach n).idleOut hn, (s.pgLive_reach n).offOut hn, State.drive_wrB, State.goOn]
  cases idle <;> rfl

theorem State.goOn_pg (s : State) (n : Nat) (idle : Bool) : (s.goOn n idle).pg n = { s.pg n with
    held := false, outH := (if idle then s.idleOut n else s.offOut n).1, outL := (if idle then s.idleOut n else s.offOut n).2 } := by
  simp [State.goOn, State.pgLive, State.drive]

theorem State.goOn_reach (s : State) (n : Nat) (idle : Bool) : PulseReach n s (s.goOn n idle) :=
  ((s.pgLive_reach n).wr (g := PG_CH_STAT_IdleSt n) _ (by simp) rfl).modPg n _

/-- The status of a channel in a period of its own. -/
theorem State.goOn_shows (s : State) (n : Nat) (idle : Bool) : (s.goOn n idle).on (PG_CH_STAT_Run n) = true ∧
    (s.goOn n idle).on (PG_CH_STAT_Safe n) = false ∧ (s.goOn n idle).rd (PG_CH_STAT_Trip n) = 0 ∧
    (s.goOn n idle).on (PG_CH_STAT_IdleSt n) = idle := by
  have hap : (PG_CH_STAT_Run n).apart (PG_CH_STAT_Safe n) ∧ (PG_CH_STAT_Run n).apart (PG_CH_STAT_IdleSt n) ∧
      (PG_CH_STAT_Safe n).apart (PG_CH_STAT_IdleSt n) ∧ (PG_CH_STAT_Trip n).apart (PG_CH_STAT_Run n) ∧
      (PG_CH_STAT_Trip n).apart (PG_CH_STAT_Safe n) ∧ (PG_CH_STAT_Trip n).apart (PG_CH_STAT_IdleSt n) := by
    simp [Fld.apart, PG_CH_STAT_Run, PG_CH_STAT_Safe, PG_CH_STAT_IdleSt, PG_CH_STAT_Trip]
  obtain ⟨h1, h2, h3, h4, h5, h6⟩ := hap
  simp only [State.goOn, State.pgLive, State.drive, State.wrB_eq, State.modPg_on, State.modPg_rd]
  refine ⟨?_, ?_, ?_, State.on_wr_flag _ _ rfl rfl⟩
  · rw [State.on_wr_apart _ _ rfl h2, State.on_wr_apart _ _ rfl h1, State.modPg_on, State.on_wr_flag _ _ rfl rfl]
  · rw [State.on_wr_apart _ _ rfl h3, State.on_wr_flag _ _ rfl rfl]
  · rw [State.rd_wr_apart _ _ rfl h6, State.rd_wr_apart _ _ rfl h5, State.modPg_rd, State.rd_wr_apart _ _ rfl h4,
      State.rd_wr_same _ _ _ rfl, Nat.zero_mod]

/-- The status and outputs of a channel that stops. -/
theorem State.pgStop_shows (s : State) (n : Nat) : (s.pgStop n).on (PG_CH_STAT_Run n) = false ∧
    (s.pgStop n).on (PG_CH_STAT_Safe n) = true ∧ (((s.pgStop n).pg n).outH, ((s.pgStop n).pg n).outL) = s.safeOut n := by
  have hap : (PG_CH_STAT_Run n).apart (PG_CH_STAT_IdleSt n) ∧ (PG_CH_STAT_Safe n).apart (PG_CH_STAT_IdleSt n) ∧
      (PG_CH_STAT_Safe n).apart (PG_CH_STAT_Run n) := by
    simp [Fld.apart, PG_CH_STAT_Run, PG_CH_STAT_Safe, PG_CH_STAT_IdleSt]
  obtain ⟨h1, h2, h3⟩ := hap
  simp only [State.pgStop, State.pgSafe, State.wrB_eq, State.modPg_on]
  refine ⟨?_, ?_, by simp [State.drive]⟩
  · rw [State.on_wr_apart _ _ rfl h1, State.on_wr_flag _ _ rfl rfl]
  · rw [State.on_wr_apart _ _ rfl h2, State.on_wr_apart _ _ rfl h3, State.on_wr_flag _ _ rfl rfl]

/-! ### A tile learns of a switching period (R161) -/

theorem State.ltSwitched_eq (s : State) (k : Nat) : s.ltSwitched k = { s with lt := (s.ltSwitched k).lt } := by
  refine List.foldlRecOn (motive := fun x : State => x = { s with lt := x.lt }) _ _ rfl fun x hx m _ => ?_
  split_ifs
  · rw [hx]; rfl
  · exact hx

theorem State.ltSwitched_pg (s : State) (k n : Nat) : (s.ltSwitched k).pg n = s.pg n := by rw [State.ltSwitched_eq]; rfl
theorem State.ltSwitched_rd (s : State) (k : Nat) (f : Fld) : (s.ltSwitched k).rd f = s.rd f := by rw [State.ltSwitched_eq]; rfl
theorem State.ltSwitched_on (s : State) (k : Nat) (f : Fld) : (s.ltSwitched k).on f = s.on f := by rw [State.ltSwitched_eq]; rfl

theorem Reach.ltSwitched {s x : State} {fs : List Fld} {ps : List Part} (h : Reach s x fs ps) (k : Nat) (hm : Part.lt ∈ ps) :
    Reach s (x.ltSwitched k) fs ps :=
  List.foldlRecOn (motive := fun x => Reach s x fs ps) _ _ h fun _ hx m _ => (hx.modLt m _ hm).ite hx

/-- A channel that does not run reaches no tile. -/
theorem State.ltSwitched_off {s : State} {k : Nat} (h : s.on (PG_CH_STAT_Run k) = false) : s.ltSwitched k = s :=
  forN_unchanged fun _ _ => if_neg (by simp [h])

/-! ### PERIOD_START -/

section Period
variable {s : State} {n : Fin 48} (href : s.referred n = []) (hq : s.tripsQuiet) (j : Fin 20)
include href hq

theorem exec_periodStart_quiet : exec (.periodStart n j) s = done s (((s.periodPlan n j).periodEnd n (s.periodStops n) (s.periodRuns n)
    (s.periodIdles n j)).ltSwitched n) := by
  rw [exec_periodStart, State.periodBegin_quiet n.isLt href hq]

theorem periodStart_still (hrun : s.on (PG_CH_STAT_Run n) = false) (harm : (s.pg n).armed = false) (hstop : (s.pg n).stopping = false) :
    Answers (exec (.periodStart n j) s) fun t => (t.pg n).len = periodLen (s.rd (PG_GRP_CFG_Mul (n / 4))) j ∧
      (t.pg n).outH = (s.pg n).outH ∧ (t.pg n).outL = (s.pg n).outL ∧ Frame s t [] [.sense] := by
  have hruns : s.periodRuns n = false := by rw [State.periodRuns, State.periodStarts, hrun, harm]; rfl
  have hstops : s.periodStops n = false := by rw [State.periodStops, hrun, hstop]; rfl
  have hend : (s.periodPlan n j).periodEnd n false false (s.periodIdles n j) = s.newPeriod n j := by
    rw [State.periodPlan, hruns]; rfl
  have hoff : (s.newPeriod n j).on (PG_CH_STAT_Run n) = false := hrun
  rw [exec_periodStart_quiet href hq, hstops, hruns, hend, State.ltSwitched_off hoff, answers_done, State.answer_pg, State.newPeriod,
    State.pg_modPg]
  exact ⟨rfl, rfl, rfl, ((Reach.refl s _ _).modPg _ _ (by simp)).frame _⟩

theorem periodStart_stops (hstop : (s.pg n).stopping = true) : Answers (exec (.periodStart n j) s) fun t =>
    t.on (PG_CH_STAT_Run n) = false ∧ t.on (PG_CH_STAT_Safe n) ∧ ((t.pg n).outH, (t.pg n).outL) = s.safeOut n := by
  have hstops : s.periodStops n = true := by rw [State.periodStops, hstop]; rfl
  obtain ⟨hrun, hsafe, hout⟩ := (s.periodPlan n j).pgStop_shows n
  have hend (runs idle : Bool) : (s.periodPlan n j).periodEnd n true runs idle = (s.periodPlan n j).pgStop n := rfl
  rw [exec_periodStart_quiet href hq, hstops, hend, State.ltSwitched_off hrun, answers_done, State.answer_pg,
    State.answer_on _ _ (pgStat_plain n rfl), State.answer_on _ _ (pgStat_plain n rfl), hout, (s.periodPlan_reach n.isLt j).safeOut n.isLt]
  exact ⟨hrun, hsafe, rfl⟩

variable (hlatch : s.rd (PG_GRP_STAT_TripLatch (n / 4)) = 0) (hgo : s.on (PG_CH_STAT_Run n) = true ∨ (s.pg n).armed = true)
  (hmay : s.pgMayRun n = true) (hstop : (s.pg n).stopping = false)
include hlatch hgo hmay hstop

/-- A channel that starts or goes on places its edges and runs. -/
theorem exec_periodStart_runs : exec (.periodStart n j) s =
    done s ((((s.newPeriod n j).placeEdges n).goOn n (s.periodIdles n j)).ltSwitched n) := by
  have hstops : s.periodStops n = false := by rw [State.periodStops, hmay, hstop]; simp
  have hruns : s.periodRuns n = true := by
    rw [State.periodRuns, State.periodStarts, hstops, hmay]; simpa using hgo
  have hplaced := s.placed_reach n.isLt j
  have hact : ((s.newPeriod n j).placeEdges n).chanAct n = 0 :=
    State.chanAct_quiet (hplaced.tripsQuiet n.isLt hq).2 ((hplaced.tripLatch n.isLt).trans hlatch)
  rw [exec_periodStart_quiet href hq, hstops, hruns, State.periodPlan, hruns, State.when_true, State.periodEnd_goesOn n.isLt hact]

theorem periodStart_aligned (halign : s.rd (PG_CH_CFG_Align n) < 3) : Answers (exec (.periodStart n j) s) fun t =>
    let len := periodLen (s.rd (PG_GRP_CFG_Mul (n / 4))) j
    let d := (limitDuty (s.pg n).duty len (s.rd (PG_CH_LIMIT_MinOn n)) (s.rd (PG_CH_LIMIT_MaxOn n))).1
    (t.pg n).len = len ∧ (t.pg n).dutyNow = d ∧ ((t.pg n).rise, (t.pg n).fall) = edgesOf (s.rd (PG_CH_CFG_Align n)) d len ∧
      (t.pg n).pulse = decide (d ≠ 0) := by
  obtain ⟨hlen, hduty, -, -⟩ := s.newPeriod_pg n j
  rw [exec_periodStart_runs href hq j hlatch hgo hmay hstop, answers_done, State.answer_pg, State.ltSwitched_pg, State.goOn_pg,
    s.placed_pg n.isLt, PgCh.placed, if_neg (by omega), ← hlen, ← hduty]
  exact ⟨rfl, rfl, rfl, rfl⟩

theorem periodStart_explicit (halign : s.rd (PG_CH_CFG_Align n) = 3) : Answers (exec (.periodStart n j) s) fun t =>
    let len := periodLen (s.rd (PG_GRP_CFG_Mul (n / 4))) j
    (t.pg n).len = len ∧ (t.pg n).rise = (s.pg n).duty % 65536 ∧ (t.pg n).fall = min ((s.pg n).duty / 65536) len ∧
      (t.pg n).pulse = decide ((s.pg n).duty % 65536 < (s.pg n).duty / 65536 ∧ (s.pg n).duty % 65536 < len) := by
  obtain ⟨hlen, hduty, -, -⟩ := s.newPeriod_pg n j
  rw [exec_periodStart_runs href hq j hlatch hgo hmay hstop, answers_done, State.answer_pg, State.ltSwitched_pg, State.goOn_pg,
    s.placed_pg n.isLt, PgCh.placed, if_pos halign, ← hlen, ← hduty]
  exact ⟨rfl, rfl, rfl, rfl⟩

theorem periodStart_shows : Answers (exec (.periodStart n j) s) fun t => t.on (PG_CH_STAT_Run n) ∧ t.on (PG_CH_STAT_Safe n) = false ∧
    (t.pg n).riseDone = false ∧ (t.pg n).fallDone = false ∧ t.rd (PG_CH_STAT_Trip n) = 0 ∧
    (s.on (PG_CH_CTL_Idle n) → t.on (PG_CH_STAT_IdleSt n) ∧ ((t.pg n).outH, (t.pg n).outL) = s.idleOut n) ∧
    (s.on (PG_CH_CTL_Idle n) = false → (s.pg n).relAt ≠ some s.frame →
      t.on (PG_CH_STAT_IdleSt n) = false ∧ ((t.pg n).outH, (t.pg n).outL) = s.offOut n) ∧
    Frame s t (periodFlds n) [.sense, .lt] := by
  have hplaced := s.placed_reach n.isLt j
  obtain ⟨hrun, hsafe, htrip, hidle⟩ := ((s.newPeriod n j).placeEdges n).goOn_shows n (s.periodIdles n j)
  have hreach := (hplaced.trans (State.goOn_reach _ n (s.periodIdles n j))).reach
  have hdone : (((s.newPeriod n j).placeEdges n).pg n).riseDone = false ∧ (((s.newPeriod n j).placeEdges n).pg n).fallDone = false := by
    obtain ⟨-, -, hrise, hfall⟩ := s.newPeriod_pg n j
    rw [s.placed_pg n.isLt, PgCh.placed]
    split_ifs <;> exact ⟨hrise, hfall⟩
  rw [exec_periodStart_runs href hq j hlatch hgo hmay hstop, answers_done, State.answer_pg, State.answer_on _ _ (pgStat_plain n rfl),
    State.answer_on _ _ (pgStat_plain n rfl), State.answer_on _ _ (pgStat_plain n rfl), State.answer_rd _ _ (pgStat_plain n rfl),
    State.ltSwitched_pg, State.ltSwitched_on, State.ltSwitched_on, State.ltSwitched_on, State.ltSwitched_rd, State.goOn_pg, hidle,
    hplaced.idleOut n.isLt, hplaced.offOut n.isLt]
  refine ⟨hrun, hsafe, hdone.1, hdone.2, htrip, fun hi => ?_, fun hi hrel => ?_,
    ((hreach.mono (fun _ h => h) (by simp)).ltSwitched _ (by simp)).frame _⟩
  · have hidles : s.periodIdles n j = true := by rw [State.periodIdles, hi]; rfl
    exact ⟨hidles, by rw [hidles]; rfl⟩
  · have hidles : s.periodIdles n j = false := by rw [State.periodIdles, hi]; simp [hrel]
    exact ⟨hidles, by rw [hidles]; rfl⟩

end Period

/-! ### PULSE_EDGE (R110, R112, R120, R128) -/

/-- A pulse that a channel puts out in its period: the channel runs and neither idles nor is held off, and its duty gives a pulse. -/
def State.pulseLive (s : State) (n : Nat) : Bool :=
  s.on (PG_CH_STAT_Run n) && !s.on (PG_CH_STAT_IdleSt n) && !(s.pg n).held && (s.pg n).pulse && !(s.pg n).cycEnd

/-- The edge of a pulse put out is still to come, and no cycle action suppresses it (R120). -/
def State.edgeMoves (s : State) (n : Nat) (rise : Bool) : Bool :=
  s.pulseLive n && (if rise then !(s.pg n).riseDone else (s.pg n).riseDone && !(s.pg n).fallDone) && !(rise && s.chanAct n == 1)

/-- An edge of a channel is done. -/
def State.edgeDone (s : State) (n : Nat) (rise : Bool) : State :=
  s.modPg n (fun c => if rise then { c with riseDone := true } else { c with fallDone := true })

/-- An edge of a channel: it is done, and the outputs take the levels of the channel's mode. -/
def State.edgeMoved (s : State) (n : Nat) (rise : Bool) : State :=
  (s.edgeDone n rise).drive n (if rise then (s.edgeDone n rise).onOut n else (s.edgeDone n rise).offOut n)

/-- Blanking begins at an edge for the comparators that select it (R91). -/
def State.edgeBlanks (s : State) (n : Nat) (rise : Bool) : State :=
  forEach (s.referred n) s (fun s cn => s.when (s.blanksAt cn rise) (fun s => s.beginBlank cn))

/-- The outputs of a channel read back after an edge, against the levels they were driven to (R128). -/
def State.edgeRead (s : State) (n : Nat) (wasH wasL : Lvl) (readH readL : Bool) : State :=
  let mh := if (s.pg n).outH = wasH then (s.pg n).misH else readBack (s.pg n).outH readH (s.pg n).misH
  let ml := if (s.pg n).outL = wasL then (s.pg n).misL else readBack (s.pg n).outL readL (s.pg n).misL
  ((s.modPg n (fun c => { c with misH := mh, misL := ml })).when (mh == 2)
    (fun s => (s.wrB (PG_CH_STAT_Mismatch n) true).raise 98 n)).when (ml == 2)
      (fun s => (s.wrB (PG_CH_STAT_Mismatch n) true).raise 98 (n + 64))

theorem State.edge_still {s : State} {n : Nat} {rise : Bool} (h : s.edgeMoves n rise = false) (readH readL : Bool) :
    s.edge n rise readH readL = s :=
  if_pos (show (!s.edgeMoves n rise) = true by rw [h]; rfl)

/-- A moving edge of a channel no comparator refers to. -/
theorem State.edge_moves {s : State} {n : Nat} {rise : Bool} (h : s.edgeMoves n rise = true) (href : s.referred n = [])
    (readH readL : Bool) : s.edge n rise readH readL = if s.on (PG_CH_CFG_RbEn n) then
      (s.edgeMoved n rise).edgeRead n ((s.edgeDone n rise).pg n).outH ((s.edgeDone n rise).pg n).outL readH readL
    else s.edgeMoved n rise := by
  have hmoves : ¬ (!s.edgeMoves n rise) = true := by rw [h]; decide
  have href' : (s.edgeMoved n rise).referred n = [] := href
  have hrb : (s.edgeMoved n rise).on (PG_CH_CFG_RbEn n) = s.on (PG_CH_CFG_RbEn n) := rfl
  have hblanks : (s.edgeMoved n rise).edgeBlanks n rise = s.edgeMoved n rise := by rw [State.edgeBlanks, href']; rfl
  have hedge : s.edge n rise readH readL = if !((s.edgeMoved n rise).edgeBlanks n rise).on (PG_CH_CFG_RbEn n) then
      (s.edgeMoved n rise).edgeBlanks n rise
    else ((s.edgeMoved n rise).edgeBlanks n rise).edgeRead n ((s.edgeDone n rise).pg n).outH ((s.edgeDone n rise).pg n).outL
      readH readL := if_neg hmoves
  rw [hedge, hblanks, hrb]
  cases s.on (PG_CH_CFG_RbEn n) <;> simp

theorem State.edgeMoved_reach (s : State) (n : Nat) (rise : Bool) : Reach s (s.edgeMoved n rise) [] [.sense] :=
  ((Reach.refl s _ _).modPg n _ (by simp)).modPg n _ (by simp)

theorem State.edgeMoved_rise (s : State) (n : Nat) : (s.edgeMoved n true).sense =
    (s.modPg n fun c => { c with riseDone := true, outH := (s.onOut n).1, outL := (s.onOut n).2 }).sense := by
  have hout : (s.edgeDone n true).onOut n = s.onOut n := rfl
  rw [State.edgeMoved, if_pos rfl, hout, State.edgeDone, State.drive, State.modPg_modPg]
  rfl

theorem State.edgeMoved_fall (s : State) (n : Nat) : (s.edgeMoved n false).sense =
    (s.modPg n fun c => { c with fallDone := true, outH := (s.offOut n).1, outL := (s.offOut n).2 }).sense := by
  have hout : (s.edgeDone n false).offOut n = s.offOut n := rfl
  rw [State.edgeMoved, if_neg Bool.false_ne_true, hout, State.edgeDone, State.drive, State.modPg_modPg]
  rfl

/-- The levels before and after a rise in the complementary mode. -/
theorem State.edgeMoved_levels (s : State) (n : Nat) (hmode : s.rd (PG_CH_CFG_OutMode n) = 0) :
    ((s.edgeDone n true).pg n).outH = (s.pg n).outH ∧ ((s.edgeDone n true).pg n).outL = (s.pg n).outL ∧
    ((s.edgeMoved n true).pg n).outH = .high ∧ ((s.edgeMoved n true).pg n).outL = .low ∧
    ((s.edgeMoved n true).pg n).misH = (s.pg n).misH := by
  have hon : (s.edgeDone n true).onOut n = (.high, .low) := by
    rw [State.onOut, State.edgeDone, State.modPg_rd, hmode]; rfl
  rw [State.edgeMoved, if_pos rfl, hon, State.drive, State.pg_modPg, State.edgeDone, State.pg_modPg]
  exact ⟨rfl, rfl, rfl, rfl, rfl⟩

/-- The second mismatch of H in a row, L matching (R128). -/
def State.missed (s : State) (n : Nat) : State :=
  (s.modPg n fun c => { c with misH := 2, misL := 0 }).wrB (PG_CH_STAT_Mismatch n) true

/-- H driven high and L driven low, both read back low. -/
theorem State.edgeRead_missed {s : State} {n : Nat} (hH : (s.pg n).outH = .high) (hL : (s.pg n).outL = .low)
    (hmis : (s.pg n).misH = 1) :
    s.edgeRead n .low .high false false = (s.missed n).raise 98 n := by
  rw [State.edgeRead, hH, hL, hmis]
  rfl

theorem State.missed_pg (s : State) (n : Nat) : (s.missed n).pg n = { s.pg n with misH := 2, misL := 0 } := by
  rw [State.missed, State.wrB_eq, State.pg_wr, State.pg_modPg]

theorem pulseEdge_dead {s : State} {n : Fin 48} (rise readH readL : Bool) (h : s.on (PG_CH_STAT_Run n) = false ∨
    s.on (PG_CH_STAT_IdleSt n) = true ∨ (s.pg n).pulse = false ∨ (s.pg n).held = true ∨ (s.pg n).cycEnd = true) :
    Answers (exec (.pulseEdge n rise readH readL) s) fun t => Frame s t [] [] := by
  have hlive : s.pulseLive n = false := by
    rw [State.pulseLive]
    rcases h with h | h | h | h | h <;> simp [h]
  rw [exec_pulseEdge, State.edge_still (by rw [State.edgeMoves, hlive]; rfl)]
  exact answers_unchanged rfl

section Edge
variable {s : State} {n : Fin 48} (hlive : s.pulseLive n = true) (href : s.referred n = [])
include hlive href

theorem pulseEdge_rises (readH readL : Bool) (hrb : s.on (PG_CH_CFG_RbEn n) = false) (hrise : (s.pg n).riseDone = false)
    (hact : s.chanAct n ≠ 1) : Answers (exec (.pulseEdge n true readH readL) s) fun t =>
      t.sense = (s.modPg n fun c => { c with riseDone := true, outH := (s.onOut n).1, outL := (s.onOut n).2 }).sense ∧
      Frame s t [] [.sense] := by
  have hmoves : s.edgeMoves n true = true := by rw [State.edgeMoves, hlive, hrise]; simpa using hact
  rw [exec_pulseEdge, State.edge_moves hmoves href, if_neg (by simp [hrb]), answers_done, State.requeue_sense, State.settle_sense]
  exact ⟨s.edgeMoved_rise n, (s.edgeMoved_reach n true).frame _⟩

theorem pulseEdge_falls (readH readL : Bool) (hrb : s.on (PG_CH_CFG_RbEn n) = false) (hrise : (s.pg n).riseDone = true)
    (hfall : (s.pg n).fallDone = false) : Answers (exec (.pulseEdge n false readH readL) s) fun t =>
      t.sense = (s.modPg n fun c => { c with fallDone := true, outH := (s.offOut n).1, outL := (s.offOut n).2 }).sense ∧
      Frame s t [] [.sense] := by
  have hmoves : s.edgeMoves n false = true := by rw [State.edgeMoves, hlive, hrise, hfall]; rfl
  rw [exec_pulseEdge, State.edge_moves hmoves href, if_neg (by simp [hrb]), answers_done, State.requeue_sense, State.settle_sense]
  exact ⟨s.edgeMoved_fall n, (s.edgeMoved_reach n false).frame _⟩

/-- A rise of a half-bridge output that reads back low a second time in a row (R128). -/
theorem pulseEdge_mismatch (hrb : s.on (PG_CH_CFG_RbEn n) = true) (hrise : (s.pg n).riseDone = false) (hact : s.chanAct n ≠ 1)
    (hmode : s.rd (PG_CH_CFG_OutMode n) = 0) (hlow : (s.pg n).outH = .low) (hhigh : (s.pg n).outL = .high) (hmis : (s.pg n).misH = 1)
    (ha : s.on (FLT_SRC_CFG_Assigned 98) = true) : Answers (exec (.pulseEdge n true false false) s) fun t =>
      t.on (PG_CH_STAT_Mismatch n) ∧ Raised t 98 n ∧ (t.pg n).outH = .high ∧ (t.pg n).misH = 2 ∧
      FrameFault s t [PG_CH_STAT_Mismatch n] [.sense] := by
  have hmoves : s.edgeMoves n true = true := by rw [State.edgeMoves, hlive, hrise]; simpa using hact
  obtain ⟨hdoneH, hdoneL, hmovedH, hmovedL, hmovedMis⟩ := s.edgeMoved_levels n hmode
  have hedge : s.edge n true false false = ((s.edgeMoved n true).missed n).raise 98 n := by
    rw [State.edge_moves hmoves href, if_pos hrb, hdoneH, hdoneL, hlow, hhigh,
      State.edgeRead_missed hmovedH hmovedL (hmovedMis.trans hmis)]
  have hreach : Reach s ((s.edgeMoved n true).missed n) [PG_CH_STAT_Mismatch n] [.sense] :=
    (((s.edgeMoved_reach n true).mono (by simp) (fun _ h => h)).modPg n _ (by simp)).wr _ (by simp) rfl
  have hassigned : ((s.edgeMoved n true).missed n).on (FLT_SRC_CFG_Assigned 98) = true := by
    rw [State.missed, State.wrB_eq, State.on,
      State.rd_wr_off _ _ (by simp only [FLT_SRC_CFG_Assigned, FLT_SRC_CFG, PG_CH_STAT_Mismatch, PG_CH_STAT]; omega)]
    exact ha
  have hside := FaultSide.raise ((s.edgeMoved n true).missed n) 98 n (by decide)
  rw [exec_pulseEdge, hedge, answers_done, State.answer_pg, State.answer_on _ _ (pgStat_plain n rfl),
    hside.on (offFault_of_high (by simp only [PG_CH_STAT_Mismatch, PG_CH_STAT]; omega)), State.pg, hside.sense, ← State.pg,
    State.missed_pg]
  exact ⟨State.on_wr_flag _ _ rfl rfl, (State.raise_raised _ n (by decide) (by decide) hassigned).answer (by decide) _, hmovedH, rfl,
    (hreach.fault.raise _ (by decide)).frame _⟩

end Edge

/-- Settles O21: a period start by what the channel does in the new period, an edge by whether its pulse is put out. -/
theorem pulsePeriods : Obligations.PulsePeriods := fun s n =>
  ⟨fun href hmask htrips hlatch j => ⟨periodStart_still href ⟨hmask, htrips⟩ j, periodStart_stops href ⟨hmask, htrips⟩ j,
    fun hgo hmay hstop => ⟨periodStart_aligned href ⟨hmask, htrips⟩ j hlatch hgo hmay hstop,
      periodStart_explicit href ⟨hmask, htrips⟩ j hlatch hgo hmay hstop,
      periodStart_shows href ⟨hmask, htrips⟩ j hlatch hgo hmay hstop⟩⟩,
   pulseEdge_dead,
   fun hrun hidle hpulse hheld hcyc href =>
    have hlive : s.pulseLive n = true := by rw [State.pulseLive, hrun, hidle, hpulse, hheld, hcyc]; rfl
    ⟨pulseEdge_rises hlive href, pulseEdge_falls hlive href, pulseEdge_mismatch hlive href⟩⟩

end Sys2Proof.Machine
end

section
/-!
SUPPORT. Control writes of a shelf loop, and LOOP_MODE at its target (R175, R185, R187-R192, R194).
-/
namespace Sys2Proof.Machine

set_option Elab.async false

theorem exec_slEnWrite (m : Fin 16) (en : Bool) (s : State) : exec (.slEnWrite m en) s = done s (s.slEnable m en) := rfl
theorem exec_slClr (m : Fin 16) (s : State) : exec (.slClr m) s = done s (s.slClear m) := rfl
theorem exec_rcClr (m : Fin 16) (s : State) : exec (.rcClr m) s = done s (s.modSl m fun c => { c with rcClr := true }) := rfl
theorem exec_rcDataWrite (m : Fin 16) (value : BitVec 32) (s : State) :
    exec (.rcDataWrite m value) s = done s (s.rcDataWrite m value.toNat) := rfl
theorem exec_slTargetWrite (m : Fin 16) (value : BitVec 32) (s : State) :
    exec (.slTargetWrite m value) s = done s (s.wr (SL_TARGET_V m) value.toNat) := rfl
theorem exec_socWrite (m : Fin 16) (value : BitVec 32) (s : State) : exec (.socWrite m value) s = done s (s.socWrite m value.toNat) := rfl

/-! ### A shelf loop and its registers -/

/-- The fields that the control writes of a shelf loop set are no status fields. -/
theorem slFld_plain (m : Fin 16) : ∀ f ∈ [SL_CTL_En m, SL_STAT_Stage m, SL_STAT_SocValid m, SL_RC_DATA_V m, SL_TARGET_V m, SL_BAT_SOC_V m],
    f.plain = true := by revert m; decide +kernel

/-- An effect on shelf loops. -/
theorem Reach.setSl {s x : State} {fs : List Fld} {ps : List Part} (h : Reach s x fs ps) (v : List SlSt) (hm : Part.sl ∈ ps) :
    Reach s { x with sl := v } fs ps := by
  refine ⟨h.regs, fun p hp => ?_⟩
  cases p
  case sl => exact absurd hm hp
  all_goals exact h.parts _ hp

theorem Reach.modSl {s x : State} {fs : List Fld} {ps : List Part} (h : Reach s x fs ps) (m : Nat) (g : SlSt → SlSt)
    (hm : Part.sl ∈ ps) : Reach s (x.modSl m g) fs ps := h.setSl _ hm

@[simp] theorem State.slc_wr (s : State) (f : Fld) (v m : Nat) : (s.wr f v).slc m = s.slc m := rfl
@[simp] theorem State.slc_modSl (s : State) (m : Nat) (g : SlSt → SlSt) : (s.modSl m g).slc m = g (s.slc m) := nth_upd_same _ _ _
theorem State.answer_slc (x : State) (q : List Instr) (m : Nat) : (x.settle.requeue q).slc m = x.slc m := by
  rw [State.slc, State.requeue_sl, State.settle_sl, State.slc]

/-- A word field reads back the word written. -/
theorem State.rd_wr_word (s : State) {f : Fld} (v : BitVec 32) (hlo : f.lo = 0) (hhi : f.hi = 31) : (s.wr f v.toNat).rd f = v.toNat := by
  have hsize : f.size = 2 ^ 32 := by rw [Fld.size, hlo, hhi]
  rw [State.rd_wr_same _ _ _ (by simp [Fld.ok, hlo, hhi]), hsize]
  exact Nat.mod_eq_of_lt v.isLt

/-- The two's complement reading of a word (R7). -/
theorem signed_toNat (v : BitVec 32) : signed 32 v.toNat = v.toInt := by
  rw [signed, BitVec.toInt, Nat.mod_eq_of_lt v.isLt]

/-! ### Enable, target and state of charge (R175, R189, R194) -/

theorem slEnWrite_answers (s : State) (m : Fin 16) (en : Bool) : Answers (exec (.slEnWrite m en) s) fun t => t.on (SL_CTL_En m) = en ∧
    t.sl = (s.modSl m fun c => { c with disPend := !en }).sl ∧ Frame s t [SL_CTL_En m] [.sl] := by
  rw [exec_slEnWrite, State.slEnable, answers_done, State.answer_on _ _ (slFld_plain m _ (by simp)), State.modSl_on, State.wrB_eq,
    State.on_wr_flag _ _ rfl rfl, State.requeue_sl, State.settle_sl]
  exact ⟨rfl, rfl, (((Reach.refl s _ _).wr _ (by simp) rfl).modSl _ _ (by simp)).frame _⟩

theorem slTargetWrite_answers (s : State) (m : Fin 16) (value : BitVec 32) : Answers (exec (.slTargetWrite m value) s) fun t =>
    t.rd (SL_TARGET_V m) = value.toNat ∧ Frame s t [SL_TARGET_V m] [] := by
  rw [exec_slTargetWrite, answers_done, State.answer_rd _ _ (slFld_plain m _ (by simp))]
  exact ⟨s.rd_wr_word value rfl rfl, ((Reach.refl s _ _).wr _ (by simp) rfl).frame _⟩

/-- The point of the state of charge leads to the register, its mark and the accumulator. -/
theorem State.socWrite_eq (s : State) (m : Fin 16) (v : Nat) : s.socWrite m v =
    ((s.wr (SL_BAT_SOC_V m) v).wr (SL_STAT_SocValid m) (b2n true)).modSl m
      (fun c => { c with soc := (max 0 (signed 32 v)).toNat * 2 ^ 32 }) := by
  have hid : ¬ 0x5000 + 32 * m.val + 9 < 0x5000 := by omega
  have hkind : (0x5000 + 32 * m.val + 9) % 32 = 9 := by omega
  have hloop : (0x5000 + 32 * m.val + 9 - 0x5000) / 32 = m := by omega
  rw [State.socWrite, State.writeOwn, if_neg hid]
  simp only [hkind, hloop, State.modSl, State.wrB_eq, State.wr_sl]

theorem socWrite_answers (s : State) (m : Fin 16) (value : BitVec 32) : Answers (exec (.socWrite m value) s) fun t =>
    t.rd (SL_BAT_SOC_V m) = value.toNat ∧ t.on (SL_STAT_SocValid m) ∧ (t.slc m).soc = (max 0 value.toInt).toNat * 2 ^ 32 ∧
    Frame s t [SL_BAT_SOC_V m, SL_STAT_SocValid m] [.sl] := by
  have hoff : (SL_BAT_SOC_V m).off ≠ (SL_STAT_SocValid m).off := by
    simp only [SL_BAT_SOC_V, SL_BAT_SOC, SL_STAT_SocValid, SL_STAT]
    omega
  rw [exec_socWrite, State.socWrite_eq, answers_done, State.answer_rd _ _ (slFld_plain m _ (by simp)),
    State.answer_on _ _ (slFld_plain m _ (by simp)), State.answer_slc, State.slc_modSl, State.modSl_rd, State.modSl_on,
    State.rd_wr_off _ _ hoff, s.rd_wr_word value rfl rfl, State.on_wr_flag _ _ rfl rfl, signed_toNat]
  exact ⟨rfl, rfl, rfl, ((((Reach.refl s _ _).wr _ (by simp) rfl).wr _ (by simp) rfl).modSl _ _ (by simp)).frame _⟩

/-! ### The table of the repetitive controller (R185) -/

theorem rcClr_answers (s : State) (m : Fin 16) : Answers (exec (.rcClr m) s) fun t =>
    t.sl = (s.modSl m fun c => { c with rcClr := true }).sl ∧ Frame s t [] [.sl] := by
  rw [exec_rcClr, answers_done, State.requeue_sl, State.settle_sl]
  exact ⟨rfl, ((Reach.refl s _ _).modSl _ _ (by simp)).frame _⟩

/-- A write of a bin, 0 included, is read back there and nowhere else. -/
theorem State.rcAt_rcSet (s : State) (m b : Nat) (v : Int) (j : Nat) : (s.rcSet m b v).rcAt m j = if j = b then v else s.rcAt m j := by
  rw [State.rcAt, State.rcSet, State.slc_modSl, State.rcAt]
  by_cases hv : v = 0
  · simp only [hv, if_true, assoc_assocDel]
    split_ifs <;> rfl
  · simp only [hv, if_false, assoc_assocPut]
    split_ifs <;> rfl

theorem State.answer_rcAt (x : State) (q : List Instr) (m b : Nat) : (x.settle.requeue q).rcAt m b = x.rcAt m b := by
  rw [State.rcAt, State.answer_slc, State.rcAt]

theorem rcDataWrite_answers (s : State) (m : Fin 16) (value : BitVec 32) : Answers (exec (.rcDataWrite m value) s) fun t =>
    t.rcAt m (s.rd (SL_RC_ADDR_Bin m)) = value.toInt ∧ (∀ b ≠ s.rd (SL_RC_ADDR_Bin m), t.rcAt m b = s.rcAt m b) ∧
    t.rd (SL_RC_DATA_V m) = value.toNat ∧ Frame s t [SL_RC_DATA_V m] [.sl] := by
  rw [exec_rcDataWrite, State.rcDataWrite, answers_done, State.answer_rcAt, State.rcAt_rcSet, if_pos rfl, signed_toNat,
    State.answer_rd _ _ (slFld_plain m _ (by simp)), State.rcSet, State.modSl_rd, s.rd_wr_word value rfl rfl]
  refine ⟨rfl, fun b hb => ?_, rfl, (((Reach.refl s _ _).wr _ (by simp) rfl).modSl _ _ (by simp)).frame _⟩
  rw [State.answer_rcAt, ← State.rcSet, State.rcAt_rcSet, if_neg hb]
  rfl

/-! ### Entry to a mode (R192) -/

/-- The registers that the entry to a mode may set: u_int, the manual output and the trims. -/
def entryFlds (m : Nat) : List Fld := SL_U_INT_V m :: SL_MAN_OUT_V m :: (List.range 8).map (SL_MEM_TRIM_V m)

theorem entryFlds_ok {m : Nat} {f : Fld} (h : f ∈ entryFlds m) : f.ok = true := by
  simp only [entryFlds, List.mem_cons, List.mem_map] at h
  rcases h with rfl | rfl | ⟨k, -, rfl⟩ <;> rfl

theorem trim_mem_entryFlds (m : Nat) {k : Nat} (h : k < 8) : SL_MEM_TRIM_V m k ∈ entryFlds m := by
  simp only [entryFlds, List.mem_cons, List.mem_map, List.mem_range]
  exact .inr (.inr ⟨k, h, rfl⟩)

/-- The loop has entered a mode, and nothing else changed than what an entry may set. -/
structure LoopEntered (m mode : Nat) (s x : State) : Prop where
  reach : Reach s x (entryFlds m) [.sl]
  mode : (x.slc m).mode = mode

namespace LoopEntered
variable {m mode : Nat} {s x : State}

theorem wr (h : LoopEntered m mode s x) {f : Fld} (v : Nat) (hf : f ∈ entryFlds m) : LoopEntered m mode s (x.wr f v) :=
  ⟨h.reach.wr v hf (entryFlds_ok hf), h.mode⟩

theorem modSl (h : LoopEntered m mode s x) {g : SlSt → SlSt} (hg : ∀ c, (g c).mode = c.mode) : LoopEntered m mode s (x.modSl m g) :=
  ⟨h.reach.modSl m g (by simp), by rw [State.slc_modSl, hg, h.mode]⟩

/-- The preset reaches u_int and the trims of members alone. -/
theorem slPreset (h : LoopEntered m mode s x) (ff : Int) : LoopEntered m mode s (x.slPreset m ff) := by
  rw [State.slPreset]
  refine List.foldlRecOn _ _ ((h.wr _ (by simp [entryFlds])).modSl fun _ => rfl) fun y hy k hk => ?_
  have htrim : SL_MEM_TRIM_V m k ∈ entryFlds m := trim_mem_entryFlds m (List.mem_range.1 (List.mem_filter.1 hk).1)
  split
  · split
    · exact hy.wr _ htrim
    · exact hy.wr _ htrim
  · exact hy

end LoopEntered

theorem State.slEnter_entered (s : State) (m mode : Nat) : LoopEntered m mode s (s.slEnter m mode) := by
  have hmode : LoopEntered m mode s (s.modSl m fun c => { c with mode := mode, wasClaimed := false }) :=
    ⟨(Reach.refl s _ _).modSl _ _ (by simp), by rw [State.slc_modSl]⟩
  unfold State.slEnter
  dsimp only
  split
  · exact hmode.slPreset _
  · exact List.foldlRecOn _ _ ((hmode.slPreset _).wr _ (by simp [entryFlds])) fun y hy k hk =>
      hy.wr 0 (trim_mem_entryFlds m (List.mem_range.1 hk))
  · exact hmode

/-- Off and Follow have no preset. -/
theorem State.slEnter_of_le_one (s : State) (m : Nat) {mode : Nat} (h : mode ≤ 1) :
    s.slEnter m mode = s.modSl m fun c => { c with mode := mode, wasClaimed := false } := by
  unfold State.slEnter
  split
  next => omega
  next => omega
  next => rfl

/-! ### Clear (R191) -/

/-- Rest sets the stage, u_int and the counts (R188). -/
theorem State.batEnter_rest (s : State) (m : Nat) : ∃ (u : Int) (g : SlSt → SlSt),
    s.batEnter m 0 = ((s.wr (SL_STAT_Stage m) 0).modSl m g).wrS (SL_U_INT_V m) u := ⟨_, _, rfl⟩

theorem State.batEnter_rest_reach (s : State) (m : Nat) : Reach s (s.batEnter m 0) [SL_STAT_Stage m, SL_U_INT_V m] [.sl] := by
  obtain ⟨u, g, heq⟩ := s.batEnter_rest m
  rw [heq]
  exact (((Reach.refl s _ _).wr _ (by simp) rfl).modSl m g (by simp)).wr _ (by simp) rfl

theorem State.batEnter_rest_stage (s : State) (m : Nat) : (s.batEnter m 0).rd (SL_STAT_Stage m) = 0 := by
  obtain ⟨u, g, heq⟩ := s.batEnter_rest m
  rw [heq, State.wrS_eq, State.rd_wr_off _ _ (by simp only [SL_STAT_Stage, SL_STAT, SL_U_INT_V, SL_U_INT]; omega), State.modSl_rd,
    State.rd_wr_same _ _ _ rfl, Nat.zero_mod]

theorem slClr_faulted {s : State} {m : Fin 16} (hbat : s.slBattery m = true) (hmode : (s.slc m).mode = 5) :
    Answers (exec (.slClr m) s) fun t => t.rd (SL_STAT_Stage m) = 0 ∧ (t.slc m).mode = s.rd (SL_CFG_InitMode m) ∧
      (s.rd (SL_CFG_InitMode m) ≤ 1 → Frame s t [SL_STAT_Stage m, SL_U_INT_V m] [.sl]) := by
  have hplain : (SL_STAT_Stage m).plain = true := slFld_plain m _ (by simp)
  have hfar : (entryFlds m).all (SL_STAT_Stage m).apart = true := by clear hbat hmode hplain; revert m; decide +kernel
  have hentered := (s.batEnter m 0).slEnter_entered m (s.rd (SL_CFG_InitMode m))
  rw [exec_slClr, State.slClear, if_pos (by simp [hbat, hmode]), answers_done, State.answer_rd _ _ hplain, State.answer_slc]
  refine ⟨(hentered.reach.regs _ hplain hfar).trans (s.batEnter_rest_stage m), hentered.mode, fun hinit => ?_⟩
  rw [State.slEnter_of_le_one _ _ hinit]
  exact ((s.batEnter_rest_reach m).modSl _ _ (by simp)).frame _

theorem slClr_idle {s : State} {m : Fin 16} (h : s.slBattery m = false ∨ (s.slc m).mode ≠ 5) :
    Answers (exec (.slClr m) s) fun t => Frame s t [] [] := by
  rw [exec_slClr, State.slClear, if_neg (by rcases h with h | h <;> simp [h])]
  exact answers_unchanged rfl

/-! ### LOOP_MODE (R190, R191) -/

/-- R191 refuses the mode for the loop as it stands. -/
def State.slRefuses (s : State) (m mode : Nat) : Prop :=
  4 ≤ mode ∨ s.slMode m = 4 ∨ (mode = 2 ∧ s.on (SL_STAT_InLost m) = true) ∨ (s.slMode m = 5 ∧ mode ≠ 0)

theorem State.slLoopMode_refused {s : State} {m mode : Nat} (h : s.slRefuses m mode) (tag : Nat) : s.slLoopMode tag m mode =
    (s.modCmd tag (fun c => c.ran [.start])).complete tag .refusedState (s.slMode m) := if_pos h

theorem State.slLoopMode_taken {s : State} {m mode : Nat} (h : ¬ s.slRefuses m mode) (tag : Nat) : s.slLoopMode tag m mode =
    (s.modCmd tag (fun c => c.ran [.start])).modSl m (fun l => { l with modePend := l.modePend ++ [(tag, mode)] }) := if_neg h

theorem State.loopModeCmd_shelf {s : State} {tag : Nat} {m : Fin 16} {c : Cmd} (h : s.ready tag 0x13 = some c)
    (hp : c.point = 0x5005 + 32 * m.val) : s.loopModeCmd tag =
      if !zeroAt c.payload 1 39 then s.complete tag .refusedState (s.slMode m) else s.slLoopMode tag m (numAt c.payload 0 1) := by
  have htile : ¬ (0x4000 ≤ c.point ∧ c.point < 0x4300 ∧ c.point % 32 = 4) := by omega
  have hshelf : 0x5000 ≤ c.point ∧ c.point < 0x5200 ∧ c.point % 32 = 5 := by omega
  have hm : (c.point - 0x5000) / 32 = m := by omega
  rw [State.loopModeCmd, h]
  simp only [if_neg htile, if_pos hshelf, hm]

section Mode
variable {s : State} {tag : Fin 256} {m : Fin 16} {c : Cmd} (h : s.ready tag 0x13 = some c) (hp : c.point = 0x5005 + 32 * m.val)
include h hp

theorem loopMode_shelf_refuses (hbad : zeroAt c.payload 1 39 = false ∨ s.slRefuses m (numAt c.payload 0 1)) :
    Answers (exec (.loopMode tag) s) fun t => Completes s t c .refusedState (s.slMode m) := by
  have hfind := (State.ready_eq_some.1 h).1
  rw [exec_loopMode, State.loopModeCmd_shelf h hp]
  cases hz : zeroAt c.payload 1 39
  case false => exact (complete_alone hfind (Reach.refl s _ _) rfl _ (by decide)).imp fun _ ⟨ht, hc, _⟩ => ⟨ht, hc⟩
  case true =>
    have hrefuses : s.slRefuses m (numAt c.payload 0 1) := hbad.resolve_left (by simp [hz])
    rw [if_neg (by decide), State.slLoopMode_refused hrefuses]
    exact (complete_ran_alone hfind [.start] _ (by decide)).imp fun _ ⟨ht, hc, _⟩ => ⟨ht, hc⟩

theorem loopMode_shelf_waits (hzero : zeroAt c.payload 1 39 = true) (hok : ¬ s.slRefuses m (numAt c.payload 0 1)) :
    Answers (exec (.loopMode tag) s) fun t => t.findCmd tag.val = some (c.ran [.start]) ∧
      t.sl = (s.modSl m fun l => { l with modePend := l.modePend ++ [(tag.val, numAt c.payload 0 1)] }).sl ∧
      Frame s t [] [.rings, .sl] := by
  rw [exec_loopMode, State.loopModeCmd_shelf h hp, if_neg (by simp [hzero]), State.slLoopMode_taken hok, answers_done,
    State.answer_findCmd, State.requeue_sl, State.settle_sl]
  exact ⟨State.findCmd_ran (State.ready_eq_some.1 h).1 [.start], rfl,
    (((Reach.refl s _ _).modCmd _ _ (by simp)).modSl _ _ (by simp)).frame _⟩

end Mode

/-- Settles O27: each control write of a shelf loop, and LOOP_MODE by whether R191 refuses it. -/
theorem shelfLoopControls : Obligations.ShelfLoopControls := fun s m =>
  ⟨slEnWrite_answers s m, slClr_faulted, slClr_idle, rcClr_answers s m, rcDataWrite_answers s m, slTargetWrite_answers s m,
   socWrite_answers s m, fun _ _ h hp => ⟨loopMode_shelf_refuses h hp, fun hzero hlt h4 hlost hfault =>
    loopMode_shelf_waits h hp hzero (by
      rintro (hbig | hstandby | ⟨hauto, hon⟩ | ⟨hin, hne⟩)
      · omega
      · exact h4 hstandby
      · simp [hlost hauto] at hon
      · exact hne (hfault hin))⟩⟩

end Sys2Proof.Machine
end

section
/-!
SUPPORT. Frames of the parts that feed, capping and hold-up change, of messages sent on the link, and of effects that raise other sources
than a given one.
-/
namespace Sys2Proof.Machine

set_option Elab.async false

/-! ### Effects on one part of the state -/

namespace Reach
variable {s x : State} {fs : List Fld} {ps : List Part}

theorem modCap (h : Reach s x fs ps) (g : CapSt → CapSt) (hm : Part.cap ∈ ps) : Reach s (x.modCap g) fs ps := by
  refine ⟨h.regs, fun p hp => ?_⟩
  cases p
  case cap => exact absurd hm hp
  all_goals exact h.parts _ hp

theorem modFg (h : Reach s x fs ps) (k : Nat) (g : FgSt → FgSt) (hm : Part.cap ∈ ps) : Reach s (x.modFg k g) fs ps :=
  h.modCap (fun c => { c with fg := upd c.fg k g }) hm

theorem modRed (h : Reach s x fs ps) (g : RedSt → RedSt) (hm : Part.red ∈ ps) : Reach s (x.modRed g) fs ps := by
  refine ⟨h.regs, fun p hp => ?_⟩
  cases p
  case red => exact absurd hm hp
  all_goals exact h.parts _ hp

theorem modPnt (h : Reach s x fs ps) (g : PntState → PntState) (hm : Part.pnt ∈ ps) : Reach s (x.modPnt g) fs ps := by
  refine ⟨h.regs, fun p hp => ?_⟩
  cases p
  case pnt => exact absurd hm hp
  all_goals exact h.parts _ hp

theorem setRbt (h : Reach s x fs ps) (v : RbtState) (hm : Part.rbt ∈ ps) : Reach s { x with rbt := v } fs ps := by
  refine ⟨h.regs, fun p hp => ?_⟩
  cases p
  case rbt => exact absurd hm hp
  all_goals exact h.parts _ hp

theorem setSeq (h : Reach s x fs ps) (v : SeqSt) (hm : Part.seq ∈ ps) : Reach s { x with seq := v } fs ps := by
  refine ⟨h.regs, fun p hp => ?_⟩
  cases p
  case seq => exact absurd hm hp
  all_goals exact h.parts _ hp

/-- An effect on the recorder that leaves its requests and their losses. -/
theorem setRecords (h : Reach s x fs ps) {v : OnyxState} (hf : v.fifo = x.onx.fifo) (hl : v.lostPend = x.onx.lostPend)
    (hs : v.lossSeen = x.onx.lossSeen) (hm : Part.records ∈ ps) : Reach s { x with onx := v } fs ps := by
  refine ⟨h.regs, fun p hp => ?_⟩
  cases p
  case records => exact absurd hm hp
  case requests =>
    obtain ⟨h1, h2, h3⟩ : x.onx.fifo = s.onx.fifo ∧ x.onx.lostPend = s.onx.lostPend ∧ x.onx.lossSeen = s.onx.lossSeen := h.parts _ hp
    exact ⟨hf.trans h1, hl.trans h2, hs.trans h3⟩
  all_goals exact h.parts _ hp

/-- An effect for each element of a list. -/
theorem each {α : Type} (l : List α) {f : State → α → State} (h : Reach s x fs ps)
    (hf : ∀ a ∈ l, ∀ y, Reach s y fs ps → Reach s (f y a) fs ps) : Reach s (forEach l x f) fs ps := by
  induction l generalizing x with
  | nil => exact h
  | cons a t ih => exact ih (hf a (by simp) x h) fun b hb => hf b (List.mem_cons_of_mem _ hb)

/-- The value of a field that is apart from what was reached. -/
theorem rd (h : Reach s x fs ps) {f : Fld} (hp : f.plain = true) (ha : fs.all f.apart = true) : x.rd f = s.rd f := h.regs f hp ha

theorem on (h : Reach s x fs ps) {f : Fld} (hp : f.plain = true) (ha : fs.all f.apart = true) : x.on f = s.on f := by
  rw [State.on, h.rd hp ha, State.on]

end Reach

/-! ### Messages sent on the link (R377) -/

/-- Fields and parts that a message sent changes: its port's count, an injection that it meets, its sequence number. -/
def sendFlds : List Fld := [TL_PORT_TX_CNT_Cnt 0, TL_PORT_TX_CNT_Cnt 1, FLT_INJ_Armed]
def sendParts : List Part := [.tl, .flt, .out]

theorem State.linkPort_reach (s : State) {p : Nat} (hp : p < 2) (dest seq : Nat) (body : LinkBody) :
    Reach s (s.linkPort p dest seq body) sendFlds sendParts := by
  have harm := (Reach.refl s sendFlds sendParts).takeArmed 8 p (by decide) (by decide)
  have hport : TL_PORT_TX_CNT_Cnt p ∈ sendFlds := by
    have : p = 0 ∨ p = 1 := by omega
    rcases this with rfl | rfl <;> decide
  rw [State.linkPort]
  exact (harm.wr _ hport rfl).emit _ (by decide)

/-- A message sent reaches its own count, the injection it meets and its sequence number, whatever way it takes. -/
theorem State.linkSend_reach (s : State) (dest : Nat) (body : LinkBody) : Reach s (s.linkSend dest body) sendFlds sendParts := by
  have hseq := (Reach.refl s sendFlds sendParts).modTl (fun t => { t with txSeq := upd t.txSeq dest (fun n => (n + 1) % 2 ^ 32) })
    (by decide)
  have hport (seq : Nat) (b : Bool) {p : Nat} (hp : p < 2) {y : State} (hy : Reach s y sendFlds sendParts) :
      Reach s (y.when b fun s => s.linkPort p 8 seq body) sendFlds sendParts := hy.when b (hy.trans (y.linkPort_reach hp _ _ _))
  rw [State.linkSend]
  refine Reach.ite (Reach.refl _ _ _) (Reach.ite ?_ ?_)
  · exact hport _ _ (by decide) (hport _ _ (by decide) hseq)
  · split
    next p hroute => exact hseq.trans (State.linkPort_reach _ (State.routeOf_lt hroute) _ _ _)
    next => exact hseq

theorem Reach.linkSend {s x : State} {fs : List Fld} {ps : List Part} (h : Reach s x fs ps) (dest : Nat) (body : LinkBody)
    (hf : ∀ f ∈ sendFlds, f ∈ fs) (hp : ∀ p ∈ sendParts, p ∈ ps) : Reach s (x.linkSend dest body) fs ps :=
  h.trans ((x.linkSend_reach dest body).mono hf hp)

/-! ### The configuration of the sources -/

/-- From `s` to `t` the configuration of every source stays. -/
def SourceCfgKept (s t : State) : Prop := ∀ a, 0x5400 ≤ a → a < 0x5800 → t.word a = s.word a

namespace SourceCfgKept
variable {s t u : State}

theorem refl (s : State) : SourceCfgKept s s := fun _ _ _ => rfl

theorem trans (h : SourceCfgKept s t) (k : SourceCfgKept t u) : SourceCfgKept s u := fun a h1 h2 => (k a h1 h2).trans (h a h1 h2)

theorem of_regs (h : t.regs = s.regs) : SourceCfgKept s t := fun a _ _ => by rw [State.word, h, State.word]

theorem wr (h : SourceCfgKept s t) (f : Fld) (v : Nat) (hf : f.off < 0x5400 ∨ 0x5800 ≤ f.off) : SourceCfgKept s (t.wr f v) :=
  fun a h1 h2 => (State.word_wr_other t f v (by omega)).trans (h a h1 h2)

theorem when (b : Bool) {g : State → State} (k : SourceCfgKept t (g t)) (h : SourceCfgKept s t) : SourceCfgKept s (t.when b g) := by
  cases b
  · exact h
  · exact h.trans k

theorem requestRaw (s : State) (r : RecReq) : SourceCfgKept s (s.requestRaw r) := by
  rw [State.requestRaw]
  split
  · exact of_regs rfl
  · exact ((refl s).wr ONX_LOST_CNT_Cnt _ (by decide)).trans (of_regs rfl)

theorem raiseFirst (s : State) (src syn cls : Nat) (inj : Bool) : SourceCfgKept s (s.raiseFirst src syn cls inj) := by
  rw [State.raiseFirst]
  split
  · exact (refl s).wr _ _ (by decide)
  · exact ((((((refl s).wr _ _ (by decide)).wr _ _ (by decide)).wr _ _ (by decide)).wr _ _ (by decide)).wr _ _ (by decide)).wr _ _
      (by decide)

theorem raiseReact (s : State) (src syn cls r : Nat) (u inj : Bool) : SourceCfgKept s (s.raiseReact src syn cls r u inj) := by
  have hblock (x : State) : SourceCfgKept x (x.askBlock src syn) := by
    rw [State.askBlock]; split <;> exact of_regs rfl
  rw [State.raiseReact]
  refine when _ (requestRaw _ _) (when _ (of_regs rfl) (when _ (of_regs rfl) (when _ (hblock _) (when _ (of_regs rfl) ?_))))
  exact when _ (of_regs rfl) (when _ (of_regs rfl) (when _ (of_regs (State.cause_regs _ _)) (refl s)))

theorem raiseCore (s : State) {src : Nat} (syn cls : Nat) (inj : Bool) (hs : src < 256) :
    SourceCfgKept s (s.raiseCore src syn cls inj) := by
  have hcnt : FLT_SRC_CNT src < 0x5400 ∨ 0x5800 ≤ FLT_SRC_CNT src := by simp only [FLT_SRC_CNT]; omega
  have hgrp : FLT_GRP_STAT (src / 32) < 0x5400 ∨ 0x5800 ≤ FLT_GRP_STAT (src / 32) := by simp only [FLT_GRP_STAT]; omega
  have hcount := ((refl s).wr (FLT_SRC_CNT_Raises src) (min (s.rd (FLT_SRC_CNT_Raises src) + 1) (2 ^ 16 - 1)) hcnt).wr
    (FLT_SRC_CNT_Syn src) syn hcnt
  have hmark (x : State) (k : Nat) (u : Bool) : SourceCfgKept x (x.raiseMark src k u) := by
    rw [State.raiseMark]
    refine when _ ((refl _).wr FLT_ESC_CNT_Cnt _ (by decide)) ?_
    exact ((refl x).wr (FLT_GRP_STAT_Bits (src / 32)) _ hgrp).trans (of_regs rfl)
  rw [State.raiseCore]
  split
  · exact refl s
  · simp only
    split
    · exact hcount
    · exact ((hcount.trans (hmark _ _ _)).trans (raiseFirst _ _ _ _ _)).trans (raiseReact _ _ _ _ _ _ _)

theorem noteLoss (s : State) : SourceCfgKept s s.noteLoss := by
  rw [State.noteLoss]
  split
  · have hseen : SourceCfgKept s { s with onx := { s.onx with lossSeen := true } } := of_regs rfl
    exact hseen.trans (raiseCore _ _ _ _ (by decide))
  · exact refl s

/-- A raise leaves the configuration of the sources. -/
theorem raise (s : State) {src : Nat} (syn : Nat) (hs : src < 256) : SourceCfgKept s (s.raise src syn) :=
  (raiseCore s _ _ _ hs).trans (noteLoss _)

theorem assigned (h : SourceCfgKept s t) {src : Nat} (hs : src < 256) : t.on (FLT_SRC_CFG_Assigned src) = s.on (FLT_SRC_CFG_Assigned src) := by
  have hlo : 0x5400 ≤ (FLT_SRC_CFG_Assigned src).off := by simp only [FLT_SRC_CFG_Assigned, FLT_SRC_CFG]; omega
  have hhi : (FLT_SRC_CFG_Assigned src).off < 0x5800 := by simp only [FLT_SRC_CFG_Assigned, FLT_SRC_CFG]; omega
  rw [State.on, State.rd, h _ hlo hhi, State.on, State.rd]

end SourceCfgKept

/-! ### Raises of other sources -/

/-- A raise of another source keeps the mark, the raise of 233 for a lost record (R408) included. -/
theorem MarkKept.raise (s : State) {src src' : Nat} (syn : Nat) (hs : src < 256) (hs' : src' < 256) (hne : src ≠ src')
    (h233 : src ≠ 233) : MarkKept src s (s.raise src' syn) :=
  (MarkKept.raiseCore s _ _ _ hs hs' hne).trans (MarkKept.noteLoss _ hs h233)

/-- No register of a source: neither its status bit, its configuration nor its counts. -/
def offSource (a : Nat) : Prop := a < 0x5040 ∨ 0x6000 ≤ a

theorem sourceFld_plain {f : Fld} (h1 : 0x5040 ≤ f.off) (h2 : f.off < 0x6000) : f.plain = true :=
  Fld.plain_of_range (by decide +kernel) h1 h2

/-- An effect that reaches no register of a source leaves those registers. -/
theorem Reach.rd_source {s x : State} {fs : List Fld} {ps : List Part} (h : Reach s x fs ps) (ho : ∀ f ∈ fs, offSource f.off) {f : Fld}
    (h1 : 0x5040 ≤ f.off) (h2 : f.off < 0x6000) : x.rd f = s.rd f := by
  refine h.rd (sourceFld_plain h1 h2) (List.all_eq_true.2 fun g hg => ?_)
  have hne : f.off ≠ g.off := by have := ho g hg; simp only [offSource] at this; omega
  simp [Fld.apart, hne]

/-- Effects that raise no source but others than `src`: what they reach, and the mark and the configuration of `src` as they were. -/
structure Spares (src : Nat) (s x : State) (fs : List Fld) (ps : List Part) : Prop where
  reach : FaultReach s x fs ps
  mark : MarkKept src s x
  assigned : x.on (FLT_SRC_CFG_Assigned src) = s.on (FLT_SRC_CFG_Assigned src)

namespace Spares
variable {src : Nat} {s x y : State} {fs : List Fld} {ps : List Part}

theorem refl (src : Nat) (s : State) (fs : List Fld) (ps : List Part) : Spares src s s fs ps :=
  ⟨(Reach.refl s fs ps).fault, MarkKept.refl src s, rfl⟩

theorem trans (h : Spares src s x fs ps) (k : Spares src x y fs ps) : Spares src s y fs ps :=
  ⟨h.reach.trans k.reach, h.mark.trans k.mark, k.assigned.trans h.assigned⟩

/-- An effect without a raise. -/
theorem andThen (h : Spares src s x fs ps) (k : Reach x y fs ps) (ho : ∀ f ∈ fs, offSource f.off) (hs : src < 256) :
    Spares src s y fs ps := by
  have hgrp := k.rd_source ho (f := FLT_GRP_STAT_Bits (src / 32)) (by simp only [FLT_GRP_STAT_Bits, FLT_GRP_STAT]; omega)
    (by simp only [FLT_GRP_STAT_Bits, FLT_GRP_STAT]; omega)
  have hsyn := k.rd_source ho (f := FLT_SRC_CNT_Syn src) (by simp only [FLT_SRC_CNT_Syn, FLT_SRC_CNT]; omega)
    (by simp only [FLT_SRC_CNT_Syn, FLT_SRC_CNT]; omega)
  have hcfg := k.rd_source ho (f := FLT_SRC_CFG_Assigned src) (by simp only [FLT_SRC_CFG_Assigned, FLT_SRC_CFG]; omega)
    (by simp only [FLT_SRC_CFG_Assigned, FLT_SRC_CFG]; omega)
  refine h.trans ⟨k.fault, ⟨fun hu => ?_, hsyn⟩, ?_⟩
  · rwa [State.unacked, hgrp, ← State.unacked]
  · rw [State.on, hcfg, State.on]

theorem raise (h : Spares src s x fs ps) {src' : Nat} (syn : Nat) (hs : src < 256) (hs' : src' < 256) (hne : src ≠ src')
    (h233 : src ≠ 233) : Spares src s (x.raise src' syn) fs ps :=
  h.trans ⟨(FaultSide.raise x src' syn hs').reach fs ps, MarkKept.raise x syn hs hs' hne h233,
    (SourceCfgKept.raise x syn hs').assigned hs⟩

theorem when (h : Spares src s x fs ps) (b : Bool) {g : State → State} (k : Spares src s (g x) fs ps) : Spares src s (x.when b g) fs ps := by
  cases b
  · exact h
  · exact k

theorem each {α : Type} (l : List α) {f : State → α → State} (h : Spares src s x fs ps)
    (hf : ∀ a ∈ l, ∀ y, Spares src s y fs ps → Spares src s (f y a) fs ps) : Spares src s (forEach l x f) fs ps := by
  induction l generalizing x with
  | nil => exact h
  | cons a t ih => exact ih (hf a (by simp) x h) fun b hb => hf b (List.mem_cons_of_mem _ hb)

/-- A raise of the source itself stays in sight. -/
theorem raised (h : Spares src x y fs ps) {syn : Nat} (hr : Raised x src syn) : Raised y src syn :=
  ⟨h.mark.unacked hr.1, h.mark.syn.trans hr.2⟩

end Spares

/-- The value of a field outside the collector that is apart from what was reached. -/
theorem FaultReach.rd {s x : State} {fs : List Fld} {ps : List Part} (h : FaultReach s x fs ps) {f : Fld} (hp : f.plain = true)
    (ha : fs.all f.apart = true) (ho : offFault f.off) : x.rd f = s.rd f := h.regs f hp ha ho

end Sys2Proof.Machine
end

section
/-!
SUPPORT. The hold-up manager (R223-R234): what shedding and throttling reach, its states, and its control writes.
-/
namespace Sys2Proof.Machine

set_option Elab.async false

theorem exec_holdUpStage (s : State) : exec .holdUpStage s = done s (s.stage State.huStage) := rfl
theorem exec_huReturnNormal (s : State) : exec .huReturnNormal s = done s s.huReturn := rfl
theorem exec_huShutLong (s : State) : exec .huShutLong s = done s s.huLong := rfl
theorem exec_huEnWrite (en : Bool) (s : State) : exec (.huEnWrite en) s = done s (s.huEnable en) := rfl
theorem exec_huRestartWrite (s : State) : exec .huRestartWrite s = done s s.huRestartWrite := rfl

/-- A stage of the cores does nothing while they restart (R457). -/
theorem State.stage_of_restart {s : State} (h : s.frm.coreRst = true) (f : State → State) : s.stage f = s := by
  rw [State.stage_eq, if_pos h]

theorem State.stage_of_running {s : State} (h : s.frm.coreRst = false) (f : State → State) : s.stage f = f s := by
  rw [State.stage_eq, if_neg (by simp [h])]

/-! ### Shed groups and throttle lines (R212, R213, R223) -/

/-- The fields of an e-fuse channel that a request of capping or hold-up writes. -/
def efShedFlds (e : Nat) : List Fld :=
  [EF_STAT_HuOff e, EF_STAT_ShedOff e, EF_STAT_State e, EF_STAT_Pg e, EF_STAT_GateGood e, EF_STAT_Limiting e]

/-- What bringing shed groups and throttle lines into their state may write. -/
def shedFlds : List Fld :=
  CAP_STAT_ThrDrive :: CAP_SHED_STATE_Sg :: HIF_EQ_LOST_CNT_Cnt :: sendFlds ++ (List.range 16).flatMap efShedFlds

def shedParts : List Part := [.ef, .rings] ++ sendParts

theorem efShedFlds_mem {e : Nat} (he : e < 16) {f : Fld} (hf : f ∈ efShedFlds e) : f ∈ shedFlds :=
  List.mem_append_right _ (List.mem_flatMap.2 ⟨e, List.mem_range.2 he, hf⟩)

theorem shedFlds_offSource : ∀ f ∈ shedFlds, offSource f.off := by
  unfold offSource
  decide

/-- No register of the hold-up manager is among them. -/
theorem shedFlds_off : ∀ f ∈ shedFlds, f.off < 0x25800 ∨ 0x25900 ≤ f.off := by decide

theorem huFld_plain {f : Fld} (h1 : 0x25800 ≤ f.off) (h2 : f.off < 0x25900) : f.plain = true :=
  Fld.plain_of_range (by decide +kernel) h1 h2

/-- The manager's registers stay where shed groups and throttle lines are brought into their state. -/
theorem FaultReach.rd_hu {s x : State} (h : FaultReach s x shedFlds shedParts) {f : Fld} (h1 : 0x25800 ≤ f.off) (h2 : f.off < 0x25900) :
    x.rd f = s.rd f := by
  refine h.rd (huFld_plain h1 h2) (List.all_eq_true.2 fun g hg => ?_) (offFault_of_high (by omega))
  have hne : f.off ≠ g.off := by have := shedFlds_off g hg; omega
  simp [Fld.apart, hne]

/-- A request of capping or hold-up ends a channel's demand or leaves the channel (R241). -/
theorem Reach.efDemandEnd {s x : State} (h : Reach s x shedFlds shedParts) {e : Nat} (he : e < 16) (soft : Bool) :
    Reach s (x.efDemandEnd e soft) shedFlds shedParts := by
  have hm (f : Fld) (hf : f ∈ efShedFlds e) : f ∈ shedFlds := efShedFlds_mem he hf
  have hoff := h.when (g := fun s => s.efGateOff e soft) (x.efState e != 2)
    (h.efGateOff e soft (hm _ (by simp [efShedFlds])) (hm _ (by simp [efShedFlds])) (by decide))
  exact (hoff.efEnter e 1 false (hm _ (by simp [efShedFlds])) (hm _ (by simp [efShedFlds])) (by decide) (by decide) (by decide)).ite h

theorem Reach.efHuOff {s x : State} (h : Reach s x shedFlds shedParts) {e : Nat} (he : e < 16) (b : Bool) :
    Reach s (x.efHuOff e b) shedFlds shedParts :=
  (h.wr (g := EF_STAT_HuOff e) _ (efShedFlds_mem he (by simp [efShedFlds])) rfl).efDemandEnd he false

theorem Reach.efShed {s x : State} (h : Reach s x shedFlds shedParts) {e : Nat} (he : e < 16) (b : Bool) :
    Reach s (x.efShed e b) shedFlds shedParts :=
  (h.wr (g := EF_STAT_ShedOff e) _ (efShedFlds_mem he (by simp [efShedFlds])) rfl).efDemandEnd he false

/-- The throttle lines in their state: the lines shown, and a message to the peer. -/
theorem State.updThr_reach (s : State) : Reach s s.updThr shedFlds shedParts := by
  have hshow := (Reach.refl s shedFlds shedParts).wr (g := CAP_STAT_ThrDrive) s.thrDrive (by simp [shedFlds]) (by decide)
  rw [State.updThr]
  exact (Reach.refl _ _ _).ite ((hshow.linkSend _ _ (by decide) (by decide)).ite hshow)

/-- The shed groups in their state: only CAP_ACT_FAIL is raised (R234). -/
theorem State.updSheds_spares (s : State) {src : Nat} (hs : src < 256) (h166 : src ≠ 166) (h233 : src ≠ 233) :
    Spares src s s.updSheds shedFlds shedParts := by
  have hhu := ((Reach.refl s shedFlds shedParts).wr (g := CAP_SHED_STATE_Sg) s.sgEng (by decide) (by decide)).eachN 16
    (f := fun y e => if y.on (EF_STAT_HuOff e) = (s.sgChans (s.cap.huShed.foldl (fun a e => a ||| 2 ^ e.1) 0)).testBit e then y
      else y.efHuOff e ((s.sgChans (s.cap.huShed.foldl (fun a e => a ||| 2 ^ e.1) 0)).testBit e))
    fun e he y hy => hy.ite (hy.efHuOff he _)
  have hstart := (Spares.refl src s shedFlds shedParts).andThen hhu shedFlds_offSource hs
  rw [State.updSheds]
  refine Spares.andThen ?_ ((Reach.refl _ _ _).eachN 16 fun e he y hy => hy.ite (hy.efShed he _)) shedFlds_offSource hs
  exact hstart.each _ fun g _ y hy => hy.when _ (hy.raise _ hs (by decide) h166 h233)

theorem State.updSheds_reach (s : State) : FaultReach s s.updSheds shedFlds shedParts :=
  (s.updSheds_spares (src := 168) (by decide) (by decide) (by decide)).reach

/-! ### What hold-up engages and releases (R223) -/

/-- The engagement noted: shed groups with their frame, throttle lines. -/
def State.huNote (s : State) (sgs : List Nat) (thr : Nat) : State := s.modCap (fun c => { c with
  huShed := sgs.foldl (fun l g => if (assoc l g).isSome then l else assocPut l g s.frame) c.huShed, huThr := c.huThr ||| thr, huRel := false })

theorem State.huEngage_eq (s : State) (sgs : List Nat) (thr : Nat) : s.huEngage sgs thr = (s.huNote sgs thr).updThr.updSheds := rfl

theorem State.huEngage_spares (s : State) (sgs : List Nat) (thr : Nat) {src : Nat} (hs : src < 256) (h166 : src ≠ 166) (h233 : src ≠ 233) :
    Spares src (s.huNote sgs thr) (s.huEngage sgs thr) shedFlds shedParts := by
  rw [State.huEngage_eq]
  exact ((Spares.refl _ _ _ _).andThen (State.updThr_reach _) shedFlds_offSource hs).trans (State.updSheds_spares _ hs h166 h233)

theorem State.huEngage_reach (s : State) (sgs : List Nat) (thr : Nat) :
    FaultReach (s.huNote sgs thr) (s.huEngage sgs thr) shedFlds shedParts :=
  (s.huEngage_spares sgs thr (src := 168) (by decide) (by decide) (by decide)).reach

/-- The hold-up manager's own registers stay. -/
theorem State.huEngage_rd (s : State) (sgs : List Nat) (thr : Nat) {f : Fld} (h1 : 0x25800 ≤ f.off) (h2 : f.off < 0x25900) :
    (s.huEngage sgs thr).rd f = s.rd f := (s.huEngage_reach sgs thr).rd_hu h1 h2

theorem State.huEngage_cap (s : State) (sgs : List Nat) (thr : Nat) : (s.huEngage sgs thr).cap = (s.huNote sgs thr).cap :=
  (s.huEngage_reach sgs thr).parts .cap (by decide) (by decide)

theorem State.huEngage_rbt (s : State) (sgs : List Nat) (thr : Nat) : (s.huEngage sgs thr).rbt = s.rbt :=
  (s.huEngage_reach sgs thr).parts .rbt (by decide) (by decide)

/-- Nothing waits to be released. -/
theorem State.huFree_of_none {s : State} (h : s.cap.huRel = false) : s.huFree = s := by
  rw [State.huFree, h]; rfl

/-! ### Return to Normal (R223, R228) -/

/-- Normal again, what the manager held noted for release. -/
def State.huCalm (s : State) : State :=
  let s := (s.wr HU_STAT_State 0).modCap (fun c => { c with huThr := 0, huRel := true })
  { s.wrB RBT_NVM_STAT_Gasp s.rbt.preReset with rbt := { s.rbt with gasp := false } }

theorem State.huNormal_eq (s : State) : s.huNormal = s.huCalm.updThr.huFree := rfl

/-- The shed groups that MinHold still holds (R232). -/
def State.huHolding (s : State) : State :=
  let l := s.cap.huShed.filter (fun e => decide (s.frame - e.2 < s.rd CAP_TIMING_MinHold))
  s.modCap (fun c => { c with huShed := l, huRel := !l.isEmpty })

theorem State.huFree_eq (s : State) : s.huFree = if !s.cap.huRel then s else s.huHolding.updSheds := rfl

/-- What a release of shed groups leaves: the manager's registers, its throttle lines and the last-gasp requester. -/
theorem State.huFree_keeps (s : State) : (∀ f : Fld, 0x25800 ≤ f.off → f.off < 0x25900 → s.huFree.rd f = s.rd f) ∧
    s.huFree.cap.huThr = s.cap.huThr ∧ s.huFree.rbt = s.rbt := by
  rw [State.huFree_eq]
  split
  · exact ⟨fun _ _ _ => rfl, rfl, rfl⟩
  · have hfree := s.huHolding.updSheds_reach
    have hcap : s.huHolding.updSheds.cap = s.huHolding.cap := hfree.parts .cap (by decide) (by decide)
    have hrbt : s.huHolding.updSheds.rbt = s.huHolding.rbt := hfree.parts .rbt (by decide) (by decide)
    exact ⟨fun f h1 h2 => hfree.rd_hu h1 h2, by rw [hcap]; rfl, hrbt⟩

theorem State.huCalm_reach (s : State) : Reach (s.wr HU_STAT_State 0) s.huCalm [RBT_NVM_STAT_Gasp] [.cap, .rbt] := by
  rw [State.huCalm]
  exact (((Reach.refl _ _ _).modCap _ (by decide)).wr _ (by decide) (by decide)).setRbt _ (by decide)

theorem State.huCalm_cap (s : State) : s.huCalm.cap.huThr = 0 := rfl
theorem State.huCalm_rbt (s : State) : s.huCalm.rbt.gasp = false := rfl

theorem State.huNormal_shows (s : State) : s.huNormal.rd HU_STAT_State = 0 ∧ s.huNormal.cap.huThr = 0 ∧ s.huNormal.rbt.gasp = false := by
  obtain ⟨hrd, hthr, hrbt⟩ := s.huCalm.updThr.huFree_keeps
  have hlines := s.huCalm.updThr_reach
  have hcap : s.huCalm.updThr.cap = s.huCalm.cap := hlines.parts .cap (by decide)
  have hgasp : s.huCalm.updThr.rbt = s.huCalm.rbt := hlines.parts .rbt (by decide)
  have hstate : s.huCalm.rd HU_STAT_State = 0 := by
    rw [s.huCalm_reach.rd (by decide +kernel) (by decide), State.rd_wr_same _ _ _ (by decide), Nat.zero_mod]
  rw [State.huNormal_eq]
  refine ⟨?_, ?_, ?_⟩
  · rw [hrd _ (by decide) (by decide), hlines.fault.rd_hu (by decide) (by decide), hstate]
  · rw [hthr, hcap, State.huCalm_cap]
  · rw [hrbt, hgasp, State.huCalm_rbt]

theorem State.huReturn_of_back {s : State} (hen : s.on HU_CTL_En = true) (h1 : s.rd HU_STAT_State = 1) (hb : s.huBack = true)
    (hg : s.gaspDue = false) : s.huReturn = s.huNormal := by
  simp [State.huReturn, hen, h1, hb, hg]

theorem huReturnNormal_returns {s : State} (hen : s.on HU_CTL_En = true) (h1 : s.rd HU_STAT_State = 1) (hb : s.huBack = true)
    (hg : s.gaspDue = false) : Answers (exec .huReturnNormal s) fun t => t.rd HU_STAT_State = 0 ∧ t.rbt.gasp = false := by
  obtain ⟨hstate, -, hgasp⟩ := s.huNormal_shows
  rw [exec_huReturnNormal, State.huReturn_of_back hen h1 hb hg, answers_done, State.answer_rd _ _ (by decide +kernel), State.requeue_rbt,
    State.settle_rbt]
  exact ⟨hstate, hgasp⟩

theorem huReturnNormal_stays {s : State} (h : s.on HU_CTL_En = false ∨ s.rd HU_STAT_State ≠ 1 ∨ s.huBack = false ∨ s.gaspDue = true) :
    Answers (exec .huReturnNormal s) fun t => Frame s t [] [] := by
  have hstay : s.huReturn = s := if_neg (by
    simp only [Bool.and_eq_true, beq_iff_eq, Bool.not_eq_true']
    rintro ⟨⟨⟨hen, h1⟩, hb⟩, hg⟩
    simp [hen, h1, hb, hg] at h)
  exact answers_unchanged (by rw [exec_huReturnNormal, hstay])

/-! ### The stage (R223) -/

/-- The frame's bookkeeping: the judgement kept for the next frame, the age of Shutdown, GASP taken. -/
def State.huTick (s : State) : State :=
  s.modCap (fun c => { c with wasValid := s.on HU_STAT_InValid, shutFor := c.shutFor + 1, gaspIn := false })

/-- The input has returned in RideThrough or Shutdown. -/
def State.huInputBack (s : State) : Bool :=
  s.on HU_STAT_InValid && !s.cap.wasValid && (s.rd HU_STAT_State == 1 || s.rd HU_STAT_State == 2)

/-- What the manager does in its state, without GASP of another device. -/
def State.huAct (s : State) : State :=
  match s.rd HU_STAT_State with
  | 0 => if s.cap.inLost then (if s.rideThrough.gaspDue then s.rideThrough.lastGasp false else s.rideThrough) else s
  | 1 => if s.gaspDue then s.lastGasp false else s.huReturn
  | 2 => if s.rd SEQ_STAT_State = 0 then ((s.huRecord 0x0104 s.cap.shutFor 0 0).wr HU_STAT_State 3).huRestart else s.huLong
  | _ => s.huRestart

/-- The stage ends: a restart asked for is forgotten, the input's return recorded, the restart that waits shown. -/
def State.huClose (s : State) (back : Bool) : State :=
  let s := (s.modCap (fun c => { c with restartReq := false })).when back (fun s => s.huRecord 0x0102 (s.rd HU_STAT_State) 0 0)
  s.wrB HU_STAT_RestartPend (s.rd HU_STAT_State == 3 && s.on HU_CFG_AutoRestart)

section
variable {s : State} (hen : s.on HU_CTL_En = true) (hrel : s.cap.huRel = false) (hmsg : (s.cap.gaspIn && s.on HU_CFG_SetGasp) = false)
include hen hrel hmsg

theorem State.huStage_runs : s.huStage = s.huTick.huAct.huClose s.huInputBack := by
  rw [State.huStage, State.huFree_of_none hrel]
  simp only [hen, hmsg, Bool.false_or, State.huAct, State.huTick, State.modCap_rd]
  rfl

end

end Sys2Proof.Machine
end

section
/-!
SUPPORT. The hold-up manager's ways out of a state (R223, R225, R227, R228): ride-through, last gasp, Down; what the stage answers.
-/
namespace Sys2Proof.Machine

set_option Elab.async false

/-- A source's mark outlasts an effect that reaches no register of a source. -/
theorem Reach.raisedStill {x y : State} {fs : List Fld} {ps : List Part} (h : Reach x y fs ps) (ho : ∀ f ∈ fs, offSource f.off)
    {src syn : Nat} (hs : src < 256) (hr : Raised x src syn) : Raised y src syn :=
  ((Spares.refl src x fs ps).andThen h ho hs).raised hr

theorem Spares.mono {src : Nat} {s x : State} {fs fs' : List Fld} {ps ps' : List Part} (h : Spares src s x fs ps)
    (hf : ∀ f ∈ fs, f ∈ fs') (hp : ∀ p ∈ ps, p ∈ ps') : Spares src s x fs' ps' :=
  ⟨⟨fun f pl ha => h.reach.regs f pl (List.all_eq_true.2 fun g hg => List.all_eq_true.1 ha g (hf g hg)),
    fun p hn => h.reach.parts p (fun hm => hn (hp p hm))⟩, h.mark, h.assigned⟩

/-- What an engagement reaches, the note of it included. -/
theorem State.huEngage_all (s : State) (sgs : List Nat) (thr : Nat) {src : Nat} (hs : src < 256) (h166 : src ≠ 166) (h233 : src ≠ 233) :
    Spares src s (s.huEngage sgs thr) shedFlds (.cap :: shedParts) := by
  have hnote : Reach s (s.huNote sgs thr) shedFlds (.cap :: shedParts) := (Reach.refl _ _ _).modCap _ (by simp)
  exact ((Spares.refl _ _ _ _).andThen hnote shedFlds_offSource hs).trans
    ((s.huEngage_spares sgs thr hs h166 h233).mono (by simp) fun _ => List.mem_cons_of_mem _)

/-- The margin of last gasp rests on the energies of the last judgement alone (R225). -/
theorem State.gaspDue_of_cap {s t : State} (ha : t.cap.eAvail = s.cap.eAvail) (hp : t.cap.pOut = s.cap.pOut)
    (hn : t.cap.eNeed = s.cap.eNeed) : t.gaspDue = s.gaspDue := by
  rw [State.gaspDue, State.huMargin, ha, hp, hn, State.gaspDue, State.huMargin]

theorem State.huRecord_reach (s : State) (code p0 p1 p2 : Nat) : Reach s (s.huRecord code p0 p1 p2) [] [.records] :=
  (Reach.refl s [] [.records]).setRecords rfl rfl rfl (by decide)

theorem State.huClose_reach (s : State) (back : Bool) : Reach s (s.huClose back) [HU_STAT_RestartPend] [.cap, .records] := by
  have hreq := (Reach.refl s [HU_STAT_RestartPend] [.cap, .records]).modCap (fun c => { c with restartReq := false }) (by decide)
  rw [State.huClose]
  exact (hreq.when _ (hreq.trans ((State.huRecord_reach _ _ _ _ _).mono (by simp) (by simp)))).wr _ (by decide) (by decide)

/-- Without an input that returns the stage ends with no record. -/
theorem State.huClose_reach_quiet (s : State) : Reach s (s.huClose false) [HU_STAT_RestartPend] [.cap] :=
  ((Reach.refl s _ _).modCap _ (by decide)).wr _ (by decide) (by decide)

theorem State.huClose_cap (s : State) (back : Bool) : (s.huClose back).cap = { s.cap with restartReq := false } := by
  cases back <;> rfl

/-- What the end of the stage leaves of what the state's work shows. -/
theorem State.huClose_rd (s : State) (back : Bool) {f : Fld} (hf : f.plain = true) (ha : f.apart HU_STAT_RestartPend = true) :
    (s.huClose back).rd f = s.rd f := (s.huClose_reach back).rd hf (by simpa using ha)

theorem State.huClose_raised (s : State) (back : Bool) {src syn : Nat} (hs : src < 256) (hr : Raised s src syn) :
    Raised (s.huClose back) src syn := (s.huClose_reach back).raisedStill (by unfold offSource; decide) hs hr

/-! ### Ride-through -/

/-- RideThrough entered and counted. -/
def State.huLoseInput (s : State) : State := (s.wr HU_STAT_State 1).inc HU_INPUT_LOSS_CNT_Cnt

/-- What ride-through sheds and throttles. -/
def State.huRide (s : State) : State :=
  s.huEngage ((List.range 32).filter (fun g => s.on (CAP_SG_CFG_EfMask g) && s.on (CAP_SG_CFG_RtShed g))) (s.rd HU_RT_THR_Thr)

theorem State.huRide_spares (s : State) : Spares 167 s s.huRide shedFlds (.cap :: shedParts) :=
  s.huEngage_all _ _ (by decide) (by decide) (by decide)

/-- The loss raised and recorded. -/
def State.huRideNoted (s : State) : State :=
  let s := (s.raise 167 s.cap.lostMask).huRecord 0x0101 s.cap.lostMask (jMilli s.cap.eAvail) 0
  { s with onx := { s.onx with refused1 := false } }

theorem State.rideThrough_eq (s : State) : s.rideThrough = s.huLoseInput.huRide.huRideNoted := rfl

theorem State.huRideNoted_reach (s : State) : Reach (s.raise 167 s.cap.lostMask) s.huRideNoted [] [.records] :=
  (State.huRecord_reach _ _ _ _ _).setRecords rfl rfl rfl (by decide)

theorem State.huRideNoted_cap (s : State) : s.huRideNoted.cap = s.cap := by
  have hrec : s.huRideNoted.cap = (s.raise 167 s.cap.lostMask).cap := s.huRideNoted_reach.parts .cap (by decide)
  rw [hrec, (FaultSide.raise _ _ _ (by decide)).cap]

/-- The manager's registers through ride-through. -/
theorem State.rideThrough_rd (s : State) {f : Fld} (h1 : 0x25800 ≤ f.off) (h2 : f.off < 0x25900) :
    s.rideThrough.rd f = s.huLoseInput.rd f := by
  rw [State.rideThrough_eq, (State.huRideNoted_reach _).rd (huFld_plain h1 h2) rfl,
    (FaultSide.raise _ _ _ (by decide)).rd (offFault_of_high (by omega)), State.huRide, State.huEngage_rd _ _ _ h1 h2]

theorem State.huRide_cap (s : State) : s.huRide.cap.lostMask = s.cap.lostMask ∧ s.huRide.cap.eAvail = s.cap.eAvail ∧
    s.huRide.cap.pOut = s.cap.pOut ∧ s.huRide.cap.eNeed = s.cap.eNeed := by
  rw [State.huRide, State.huEngage_cap]
  exact ⟨rfl, rfl, rfl, rfl⟩

theorem State.rideThrough_gaspDue (s : State) : s.rideThrough.gaspDue = s.gaspDue := by
  have hcap : s.rideThrough.cap = s.huLoseInput.huRide.cap := by rw [State.rideThrough_eq, State.huRideNoted_cap]
  obtain ⟨-, havail, hout, hneed⟩ := s.huLoseInput.huRide_cap
  exact State.gaspDue_of_cap (by rw [hcap, havail]; rfl) (by rw [hcap, hout]; rfl) (by rw [hcap, hneed]; rfl)

/-- Ride-through shows its state, counts the loss and raises 167. -/
theorem State.rideThrough_shows {s : State} (ha : s.on (FLT_SRC_CFG_Assigned 167) = true) : s.rideThrough.rd HU_STAT_State = 1 ∧
    Raised s.rideThrough 167 s.cap.lostMask ∧
    s.rideThrough.rd HU_INPUT_LOSS_CNT_Cnt = (s.rd HU_INPUT_LOSS_CNT_Cnt + 1) % 2 ^ 32 := by
  have henter : Reach s s.huLoseInput [HU_STAT_State, HU_INPUT_LOSS_CNT_Cnt] [] :=
    ((Reach.refl s _ _).wr _ (by decide) (by decide)).inc (by decide) (by decide)
  have hspare := s.huLoseInput.huRide_spares
  have hassigned : s.huLoseInput.huRide.on (FLT_SRC_CFG_Assigned 167) = true := by
    rw [hspare.assigned, henter.on (by decide +kernel) (by decide), ha]
  have hraised := State.raise_raised s.huLoseInput.huRide s.huLoseInput.huRide.cap.lostMask (src := 167) (by decide) (by decide) hassigned
  rw [s.huLoseInput.huRide_cap.1] at hraised
  refine ⟨?_, ?_, ?_⟩
  · rw [s.rideThrough_rd (by decide) (by decide), State.huLoseInput, State.inc_eq, State.rd_wr_off _ _ (by decide),
      State.rd_wr_same _ _ _ (by decide)]; rfl
  · rw [State.rideThrough_eq]
    refine (State.huRideNoted_reach _).raisedStill (by simp) (by decide) ?_
    rw [s.huLoseInput.huRide_cap.1]
    exact hraised
  · rw [s.rideThrough_rd (by decide) (by decide), State.huLoseInput, State.inc_eq, State.rd_wr_same _ _ _ (by decide),
      State.rd_wr_off _ _ (by decide)]; rfl

end Sys2Proof.Machine
end

section
/-!
O32. Last gasp, Down, the stage's cases (R223-R228) and the manager's other commands.
-/
namespace Sys2Proof.Machine

set_option Elab.async false

/-! ### Last gasp (R227, R229) -/

theorem State.seqTake_reach (s : State) (q : SeqReq) : Reach s (s.seqTake q) [] [.seq] := by
  have hreq : Reach s { s with seq := { s.seq with reqs := s.seq.reqs ++ [q] } } [] [.seq] := (Reach.refl _ _ _).setSeq _ (by decide)
  unfold State.seqTake
  split
  · exact Reach.ite (hreq.eachN 32 fun r _ y hy => hy.setSeq _ (by decide)) hreq
  · exact hreq

/-- Last gasp recorded and counted. -/
def State.huGaspCount (s : State) : State :=
  (s.huRecord 0x0103 (jMilli s.cap.eAvail) (jMilli s.cap.eNeed) s.nPend).inc HU_GASP_CNT_Cnt

/-- The last-gasp requester has the port (R410). -/
def State.huGaspPort (s : State) : State :=
  { s with rbt := { s.rbt with gasp := true }, onx := { s.onx with resCnt := 0 } }

/-- Everything that can be shed is, and every line throttles. -/
def State.huGaspShed (s : State) : State :=
  s.huEngage ((List.range 32).filter (fun g => s.on (CAP_SG_CFG_EfMask g))) 255

/-- Shutdown begins: the sequencer asked to go off, the set told. -/
def State.huShutdown (s : State) (byMsg : Bool) : State :=
  let s := ((s.seqTake .off).wr HU_STAT_State 2).modCap (fun c => { c with shutFor := 0, shutLong := false, gaspIn := false })
  s.when (s.on HU_CFG_SetGasp && !byMsg) (fun s => s.linkSend 8 (.bytes 0x13 []))

theorem State.lastGasp_eq (s : State) (byMsg : Bool) :
    s.lastGasp byMsg = ((s.huGaspCount.raise 168 (b2n byMsg)).huGaspPort.huGaspShed).huShutdown byMsg := rfl

theorem State.huGaspCount_reach (s : State) : Reach s s.huGaspCount [HU_GASP_CNT_Cnt] [.records] :=
  ((State.huRecord_reach s _ _ _ _).mono (by simp) (by simp)).inc (by decide) (by decide)

theorem State.huGaspPort_reach (s : State) : Reach s s.huGaspPort [] [.rbt, .records] := by
  have hport : Reach s { s with rbt := { s.rbt with gasp := true } } [] [.rbt, .records] := (Reach.refl _ _ _).setRbt _ (by decide)
  exact hport.setRecords rfl rfl rfl (by decide)

theorem State.huShutdown_reach (s : State) (byMsg : Bool) :
    Reach ((s.seqTake .off).wr HU_STAT_State 2) (s.huShutdown byMsg) sendFlds (.cap :: sendParts) := by
  have hcap := (Reach.refl ((s.seqTake .off).wr HU_STAT_State 2) sendFlds (.cap :: sendParts)).modCap
    (fun c => { c with shutFor := 0, shutLong := false, gaspIn := false }) (by decide)
  exact hcap.when (g := fun s => s.linkSend 8 (.bytes 0x13 [])) _ (hcap.linkSend _ _ (fun _ => id) fun _ => List.mem_cons_of_mem _)

theorem State.huShutdown_all (s : State) (byMsg : Bool) :
    Reach s (s.huShutdown byMsg) (HU_STAT_State :: sendFlds) (.seq :: .cap :: sendParts) :=
  (((s.seqTake_reach .off).mono (by simp) (by simp)).wr _ (by simp) (by decide)).trans
    ((s.huShutdown_reach byMsg).mono (fun _ => List.mem_cons_of_mem _) fun _ => List.mem_cons_of_mem _)

theorem State.huShutdown_state (s : State) (byMsg : Bool) : (s.huShutdown byMsg).rd HU_STAT_State = 2 := by
  rw [(s.huShutdown_reach byMsg).rd (by decide +kernel) (by decide), State.rd_wr_same _ _ _ (by decide)]; rfl

/-- Last gasp shows its state, counts itself, raises 168 and holds the port's requester. -/
theorem State.lastGasp_shows {s : State} (byMsg : Bool) (ha : s.on (FLT_SRC_CFG_Assigned 168) = true) :
    (s.lastGasp byMsg).rd HU_STAT_State = 2 ∧ Raised (s.lastGasp byMsg) 168 (b2n byMsg) ∧ (s.lastGasp byMsg).rbt.gasp = true ∧
    (s.lastGasp byMsg).rd HU_GASP_CNT_Cnt = (s.rd HU_GASP_CNT_Cnt + 1) % 2 ^ 32 := by
  have hassigned : s.huGaspCount.on (FLT_SRC_CFG_Assigned 168) = true := by
    rw [s.huGaspCount_reach.on (by decide +kernel) (by decide), ha]
  have hraised := State.raise_raised s.huGaspCount (b2n byMsg) (src := 168) (by decide) (by decide) hassigned
  have hport := (s.huGaspCount.raise 168 (b2n byMsg)).huGaspPort_reach
  have hshed : Spares 168 (s.huGaspCount.raise 168 (b2n byMsg)).huGaspPort
      (s.huGaspCount.raise 168 (b2n byMsg)).huGaspPort.huGaspShed shedFlds (.cap :: shedParts) :=
    State.huEngage_all _ _ _ (by decide) (by decide) (by decide)
  have hshut := (s.huGaspCount.raise 168 (b2n byMsg)).huGaspPort.huGaspShed.huShutdown_all byMsg
  rw [State.lastGasp_eq]
  refine ⟨State.huShutdown_state _ _, ?_, ?_, ?_⟩
  · exact hshut.raisedStill (by unfold offSource; decide) (by decide)
      (hshed.raised (hport.raisedStill (by simp) (by decide) hraised))
  · have hrbt : (((s.huGaspCount.raise 168 (b2n byMsg)).huGaspPort.huGaspShed).huShutdown byMsg).rbt =
        (s.huGaspCount.raise 168 (b2n byMsg)).huGaspPort.huGaspShed.rbt := hshut.parts .rbt (by decide)
    rw [hrbt, State.huGaspShed, State.huEngage_rbt]
    rfl
  · rw [hshut.rd (by decide +kernel) (by decide), State.huGaspShed, State.huEngage_rd _ _ _ (by decide) (by decide),
      hport.rd (by decide +kernel) rfl, (FaultSide.raise _ _ _ (by decide)).rd (offFault_of_high (by decide)), State.huGaspCount,
      State.inc_eq, State.rd_wr_same _ _ _ (by decide), (State.huRecord_reach _ _ _ _ _).rd (by decide +kernel) rfl]
    rfl

/-! ### The stage -/

theorem State.huTick_reach (s : State) : Reach s s.huTick [] [.cap] := (Reach.refl s [] [.cap]).modCap _ (by decide)

section
variable {s : State}

theorem State.huAct_steady (h0 : s.rd HU_STAT_State = 0) (hl : s.cap.inLost = false) : s.huAct = s := by
  rw [State.huAct, h0]; simp [hl]

theorem State.huAct_lost (h0 : s.rd HU_STAT_State = 0) (hl : s.cap.inLost = true) (hg : s.gaspDue = false) : s.huAct = s.rideThrough := by
  rw [State.huAct, h0]; simp [hl, State.rideThrough_gaspDue, hg]

theorem State.huAct_gasp (h1 : s.rd HU_STAT_State = 1) (hg : s.gaspDue = true) : s.huAct = s.lastGasp false := by
  rw [State.huAct, h1]; simp [hg]

theorem State.huAct_ride (h1 : s.rd HU_STAT_State = 1) (hg : s.gaspDue = false) : s.huAct = s.huReturn := by
  rw [State.huAct, h1]; simp [hg]

theorem State.huAct_down (h2 : s.rd HU_STAT_State = 2) (hq : s.rd SEQ_STAT_State = 0) :
    s.huAct = ((s.huRecord 0x0104 s.cap.shutFor 0 0).wr HU_STAT_State 3).huRestart := by
  rw [State.huAct, h2]; simp [hq]

end

end Sys2Proof.Machine
end

section
/-!
O32. The hold-up manager's stage in each state, its other commands, and the statement that they make up.
-/
namespace Sys2Proof.Machine

set_option Elab.async false

/-- Disabled with nothing to release, the stage does nothing. -/
theorem State.huStage_disabled {s : State} (hen : s.on HU_CTL_En = false) (hrel : s.cap.huRel = false) : s.huStage = s := by
  rw [State.huStage, State.huFree_of_none hrel, hen]; rfl

theorem holdUpStage_idle {s : State} (h : s.frm.coreRst = true ∨ (s.on HU_CTL_En = false ∧ s.cap.huRel = false)) :
    Answers (exec .holdUpStage s) fun t => Frame s t [] [] := by
  refine answers_unchanged ?_
  rw [exec_holdUpStage, State.stage_eq]
  split
  next => rfl
  next hrun =>
    obtain ⟨hen, hrel⟩ := h.resolve_left hrun
    rw [State.huStage_disabled hen hrel]

section
variable {s : State} (hrst : s.frm.coreRst = false) (hen : s.on HU_CTL_En = true) (hrel : s.cap.huRel = false)
  (hmsg : (s.cap.gaspIn && s.on HU_CFG_SetGasp) = false)
include hrst hen hrel hmsg

theorem exec_holdUpStage_runs : exec .holdUpStage s = done s (s.huTick.huAct.huClose s.huInputBack) := by
  rw [exec_holdUpStage, State.stage_of_running hrst, State.huStage_runs hen hrel hmsg]

theorem holdUpStage_steady (h0 : s.rd HU_STAT_State = 0) (hl : s.cap.inLost = false) :
    Answers (exec .holdUpStage s) fun t => t.rd HU_STAT_State = 0 ∧ t.cap.wasValid = s.on HU_STAT_InValid ∧
      Frame s t [HU_STAT_RestartPend] [.cap] := by
  have hact : s.huTick.huAct = s.huTick := State.huAct_steady h0 hl
  have hback : s.huInputBack = false := by simp [State.huInputBack, h0]
  have hreach : Reach s (s.huTick.huClose false) [HU_STAT_RestartPend] [.cap] :=
    (s.huTick_reach.mono (by simp) (by simp)).trans (State.huClose_reach_quiet _)
  rw [exec_holdUpStage_runs hrst hen hrel hmsg, hact, hback, answers_done, State.answer_rd _ _ (by decide +kernel),
    State.huClose_rd _ _ (by decide +kernel) (by decide)]
  exact ⟨h0, by rw [State.requeue_cap, State.settle_cap, State.huClose_cap]; rfl, hreach.frame _⟩

theorem holdUpStage_loses (h0 : s.rd HU_STAT_State = 0) (hl : s.cap.inLost = true) (hg : s.gaspDue = false)
    (ha : s.on (FLT_SRC_CFG_Assigned 167) = true) : Answers (exec .holdUpStage s) fun t => t.rd HU_STAT_State = 1 ∧
      Raised t 167 s.cap.lostMask ∧ t.rd HU_INPUT_LOSS_CNT_Cnt = (s.rd HU_INPUT_LOSS_CNT_Cnt + 1) % 2 ^ 32 := by
  have hact : s.huTick.huAct = s.huTick.rideThrough := State.huAct_lost h0 hl hg
  obtain ⟨hstate, hraised, hcnt⟩ := State.rideThrough_shows (s := s.huTick) ha
  rw [exec_holdUpStage_runs hrst hen hrel hmsg, hact, answers_done, State.answer_rd _ _ (by decide +kernel),
    State.answer_rd _ _ (by decide +kernel), State.huClose_rd _ _ (by decide +kernel) (by decide),
    State.huClose_rd _ _ (by decide +kernel) (by decide)]
  exact ⟨hstate, (State.huClose_raised _ _ (by decide) hraised).answer (by decide) _, hcnt⟩

theorem holdUpStage_gasps (h1 : s.rd HU_STAT_State = 1) (hg : s.gaspDue = true) (ha : s.on (FLT_SRC_CFG_Assigned 168) = true) :
    Answers (exec .holdUpStage s) fun t => t.rd HU_STAT_State = 2 ∧ Raised t 168 0 ∧ t.rbt.gasp = true ∧
      t.rd HU_GASP_CNT_Cnt = (s.rd HU_GASP_CNT_Cnt + 1) % 2 ^ 32 := by
  have hact : s.huTick.huAct = s.huTick.lastGasp false := State.huAct_gasp h1 hg
  obtain ⟨hstate, hraised, hgasp, hcnt⟩ := State.lastGasp_shows (s := s.huTick) false ha
  have hrbt : ((s.huTick.lastGasp false).huClose s.huInputBack).rbt = (s.huTick.lastGasp false).rbt :=
    (State.huClose_reach _ _).parts .rbt (by decide)
  rw [exec_holdUpStage_runs hrst hen hrel hmsg, hact, answers_done, State.answer_rd _ _ (by decide +kernel),
    State.answer_rd _ _ (by decide +kernel), State.huClose_rd _ _ (by decide +kernel) (by decide),
    State.huClose_rd _ _ (by decide +kernel) (by decide), State.requeue_rbt, State.settle_rbt, hrbt]
  exact ⟨hstate, (State.huClose_raised _ _ (by decide) hraised).answer (by decide) _, hgasp, hcnt⟩

theorem holdUpStage_returns (h1 : s.rd HU_STAT_State = 1) (hg : s.gaspDue = false) (hb : s.huBack = true) :
    Answers (exec .holdUpStage s) fun t => t.rd HU_STAT_State = 0 ∧ t.cap.huThr = 0 := by
  have hact : s.huTick.huAct = s.huTick.huNormal :=
    (State.huAct_ride (s := s.huTick) h1 hg).trans (State.huReturn_of_back (s := s.huTick) hen h1 hb hg)
  obtain ⟨hstate, hthr, -⟩ := s.huTick.huNormal_shows
  rw [exec_holdUpStage_runs hrst hen hrel hmsg, hact, answers_done, State.answer_rd _ _ (by decide +kernel),
    State.huClose_rd _ _ (by decide +kernel) (by decide), State.requeue_cap, State.settle_cap, State.huClose_cap]
  exact ⟨hstate, hthr⟩

theorem holdUpStage_down (h2 : s.rd HU_STAT_State = 2) (hq : s.rd SEQ_STAT_State = 0) (hb : s.huBack = false) :
    Answers (exec .holdUpStage s) fun t => t.rd HU_STAT_State = 3 ∧
      Frame s t [HU_STAT_State, HU_STAT_RestartPend] [.cap, .records] := by
  set down := (s.huTick.huRecord 0x0104 s.huTick.cap.shutFor 0 0).wr HU_STAT_State 3 with hdown
  have hreach : Reach s down [HU_STAT_State, HU_STAT_RestartPend] [.cap, .records] :=
    ((s.huTick_reach.mono (by simp) (by simp)).trans ((State.huRecord_reach _ _ _ _ _).mono (by simp) (by simp))).wr _ (by decide)
      (by decide)
  have hstay : down.huRestart = down := by
    have hback : down.huBack = false := by
      rw [State.huBack, hreach.rd (by decide +kernel) (by decide), hreach.rd (by decide +kernel) (by decide), ← State.huBack, hb]
    exact if_neg (by simp [hback])
  have hact : s.huTick.huAct = down := (State.huAct_down (s := s.huTick) h2 hq).trans hstay
  have hstate : down.rd HU_STAT_State = 3 := by rw [hdown, State.rd_wr_same _ _ _ (by decide)]; rfl
  rw [exec_holdUpStage_runs hrst hen hrel hmsg, hact, answers_done, State.answer_rd _ _ (by decide +kernel),
    State.huClose_rd _ _ (by decide +kernel) (by decide)]
  exact ⟨hstate, (hreach.trans ((State.huClose_reach _ _).mono (by simp) (by simp))).frame _⟩

end

/-! ### The other commands -/

/-- The long Shutdown noted, so that it is raised once. -/
def State.huMarkLong (s : State) : State := s.modCap (fun c => { c with shutLong := true })

theorem huShutLong_raises {s : State} (h2 : s.rd HU_STAT_State = 2) (hlong : 10000 < s.cap.shutFor) (hfirst : s.cap.shutLong = false)
    (ha : s.on (FLT_SRC_CFG_Assigned 171) = true) : Answers (exec .huShutLong s) fun t => Raised t 171 0 ∧
      t.cap = { s.cap with shutLong := true } ∧ FrameFault s t [] [.cap] := by
  have heq : s.huLong = s.huMarkLong.raise 171 0 := if_pos ⟨h2, hlong, hfirst⟩
  have hmark : Reach s s.huMarkLong [] [.cap] := (Reach.refl _ _ _).modCap _ (by decide)
  have hassigned : s.huMarkLong.on (FLT_SRC_CFG_Assigned 171) = true := ha
  have hraised := State.raise_raised s.huMarkLong (src := 171) 0 (by decide) (by decide) hassigned
  have hcap : (s.huMarkLong.raise 171 0).cap = s.huMarkLong.cap := (FaultSide.raise _ _ _ (by decide)).cap
  rw [exec_huShutLong, heq, answers_done, State.requeue_cap, State.settle_cap, hcap]
  exact ⟨hraised.answer (by decide) _, rfl, (hmark.fault.raise 0 (by decide)).frame _⟩

theorem huShutLong_waits {s : State} (h : s.rd HU_STAT_State ≠ 2 ∨ s.cap.shutFor ≤ 10000 ∨ s.cap.shutLong = true) :
    Answers (exec .huShutLong s) fun t => Frame s t [] [] := by
  have hstay : s.huLong = s := if_neg (by
    rintro ⟨h2, hlong, hfirst⟩
    rcases h with h | h | h
    · exact h h2
    · omega
    · simp [hfirst] at h)
  exact answers_unchanged (by rw [exec_huShutLong, hstay])

theorem huEnWrite_stores {s : State} {en : Bool} (h : en = true ∨ s.rd HU_STAT_State = 0) : Answers (exec (.huEnWrite en) s) fun t =>
    t.on HU_CTL_En = en ∧ Frame s t [HU_CTL_En] [] := by
  have heq : s.huEnable en = s.wr HU_CTL_En (b2n en) := if_pos (by simpa using h)
  rw [exec_huEnWrite, heq, answers_done, State.answer_on _ _ (by decide +kernel), State.on_wr_flag _ _ (by decide) rfl]
  exact ⟨rfl, ((Reach.refl s _ _).wr _ (by decide) (by decide)).frame _⟩

theorem huEnWrite_ignored {s : State} (h : s.rd HU_STAT_State ≠ 0) : Answers (exec (.huEnWrite false) s) fun t => Frame s t [] [] := by
  have hstay : s.huEnable false = s := if_neg (by simpa using h)
  exact answers_unchanged (by rw [exec_huEnWrite, hstay])

theorem huRestartWrite_asks {s : State} (h : s.rd HU_STAT_State = 3) : Answers (exec .huRestartWrite s) fun t =>
    t.cap = { s.cap with restartReq := true } ∧ Frame s t [] [.cap] := by
  have heq : s.huRestartWrite = s.modCap (fun c => { c with restartReq := true }) := if_pos h
  rw [exec_huRestartWrite, heq, answers_done, State.requeue_cap, State.settle_cap]
  exact ⟨rfl, ((Reach.refl s _ _).modCap _ (by decide)).frame _⟩

theorem huRestartWrite_ignored {s : State} (h : s.rd HU_STAT_State ≠ 3) : Answers (exec .huRestartWrite s) fun t => Frame s t [] [] := by
  have hstay : s.huRestartWrite = s := if_neg h
  exact answers_unchanged (by rw [exec_huRestartWrite, hstay])

/-- Settles O32: the stage is cut into the frame's bookkeeping, the work of its state and its end, and each state has one way out. -/
theorem holdUp : Obligations.HoldUp := fun _ =>
  ⟨holdUpStage_idle,
    fun hrst hen hrel hmsg => ⟨holdUpStage_steady hrst hen hrel hmsg, holdUpStage_loses hrst hen hrel hmsg,
      holdUpStage_gasps hrst hen hrel hmsg, holdUpStage_returns hrst hen hrel hmsg, holdUpStage_down hrst hen hrel hmsg⟩,
    huReturnNormal_returns, huReturnNormal_stays, huShutLong_raises, huShutLong_waits, fun _ => huEnWrite_stores, huEnWrite_ignored,
    huRestartWrite_asks, huRestartWrite_ignored⟩

end Sys2Proof.Machine
end

section
/-!
SUPPORT. Remote feed (R200-R206, R216): the estimator stage of a group cut into its phases, and what each of them reaches.
-/
namespace Sys2Proof.Machine

set_option Elab.async false

/-! ### The phases of the estimator stage -/

/-- A restart that was asked for (R204). -/
def State.fgAsked (s : State) (g : Nat) : State :=
  if (s.fgc g).estReq then (s.modFg g (fun c => { c with estReq := false })).fgRestartNom g else s

/-- The good frames of the pairs that are away, counted (R201). -/
def State.fgAway (s : State) (g : Nat) : State :=
  forEach ((s.fgPairs g).filter (fun p => !(s.fgPresent g).contains p)) s (fun s p =>
    s.modFg g (fun c => { c with retFor := upd c.retFor p (fun n => if s.pairGood g p then n + 1 else 0) }))

/-- The pairs that return in this stage. -/
def State.fgBack (s : State) (g : Nat) : List Nat := ((s.fgAway g).fgPairs g).filter (fun p => (s.fgAway g).pairBackDue g p)

/-- Pairs lost and returned (R201, R216). -/
def State.fgPairsDone (s : State) (g : Nat) : State :=
  let x := forEach (s.pairsGone g) (s.fgAway g) (fun s p => s.pairLose g p)
  let x := x.when (!(s.pairsGone g).isEmpty)
    (fun x => x.fgScaleLoss g ((s.pairsGone g).foldl (fun a p => a + (s.fgc g).shares.getD p 0) 0))
  forEach (s.fgBack g) x (fun s p => s.pairBack g p)

/-- The current of the present pairs. -/
def State.fgCurrent (s : State) (g : Nat) : Int := (s.fgPresent g).foldl (fun a p => a + (s.tmAvg (s.fgPairCh g p)).int) (0 : Int)

/-- The latest voltage lies below VIN_LOSS (R203). -/
def State.fgLow (s : State) (g : Nat) : Bool :=
  match s.tmLatest (s.rd (FG_CFG_VrCh g)) with
  | some v => decide (v < s.rdS (FG_VIN_LOSS_V g)) | none => false

/-- The latch of the boundary taken. -/
def State.fgTaken (s : State) (g : Nat) : State := s.modFg g (fun c => { c with latch := false })

/-- The group declared lost. -/
def State.fgDown (s : State) (g : Nat) : State := (s.wrB (FG_STAT_Lost g) true).modFg g (fun c => { c with okFor := 0 })

/-- The group lost or returned (R203). -/
def State.fgGroup (s : State) (g : Nat) (vr : PVal) : State :=
  if (s.fgTaken g).on (FG_STAT_Lost g) then
    let ok := !(s.fgc g).latch && !vr.isBad && decide (vr.int ≥ (s.fgTaken g).rdS (FG_VIN_OK_V g))
    let s := (s.fgTaken g).modFg g (fun c => { c with okFor := if ok then c.okFor + 1 else 0 })
    if s.groupBackDue g then s.groupBack g else s
  else if (s.fgc g).latch || (s.fgTaken g).fgLow g || ((s.fgTaken g).fgPresent g).isEmpty then ((s.fgTaken g).fgDown g).raise 162 g
  else s.fgTaken g

/-- The averages kept for the next frame. -/
def State.fgNote (s : State) (g : Nat) (vr : PVal) (i : Int) : State :=
  s.modFg g (fun c => { c with prev := if c.seen then some (c.i, s.rdS (FG_PDRAW_V g)) else none, i := i,
                               vr := vr.int, vrOk := !vr.isBad, seen := true })

/-- The power drawn. -/
def State.fgPower (s : State) (g : Nat) (vr : PVal) (i : Int) : Int :=
  if s.on (FG_STAT_Lost g) then 0 else satS 32 (divRnd (vr.int * i) 65536)

/-- The estimator's work of a group that is present (R202, R204, R205). -/
def State.fgLearn (s : State) (g : Nat) (vr : PVal) (good used : Bool) (i : Int) : State :=
  let s := s.when (good && decide (i ≥ 4 * s.rdS (FG_PAIR_LOSS_I_V g)) && decide (0 < i)) (fun s => s.fgShares g i)
  let s := s.when used (fun s => s.fgUpdate g (q16f vr.int) (q16f i))
  (s.fgJudge g used).fgShow g

/-- The power drawn shown, and what follows of it. -/
def State.fgDrawn (s : State) (g : Nat) (vr : PVal) (good used : Bool) (i : Int) : State :=
  let x := (s.fgNote g vr i).wrS (FG_PDRAW_V g) (s.fgPower g vr i)
  if s.on (FG_STAT_Lost g) then x.fgShow g else x.fgLearn g vr good used i

/-- Every input of the estimator is GOOD. -/
def State.fgGood (s : State) (g : Nat) : Bool :=
  (s.tmAvg (s.rd (FG_CFG_VrCh g))).good && (s.fgPairs g).all (fun p => (s.tmAvg (s.fgPairCh g p)).good)

theorem State.fgStage_eq (s : State) (g : Nat) : s.fgStage g =
    (((s.fgAsked g).fgPairsDone g).fgGroup g ((s.fgAsked g).tmAvg ((s.fgAsked g).rd (FG_CFG_VrCh g)))).fgDrawn g
      ((s.fgAsked g).tmAvg ((s.fgAsked g).rd (FG_CFG_VrCh g))) ((s.fgAsked g).fgGood g)
      ((s.fgAsked g).fgGood g && ((s.fgAsked g).pairsGone g).isEmpty && ((s.fgAsked g).fgBack g).isEmpty)
      ((((s.fgAsked g).fgPairsDone g).fgTaken g).fgCurrent g) := by
  rfl

end Sys2Proof.Machine
end

section
/-!
SUPPORT. Remote feed: what the phases of the estimator stage reach.
-/
namespace Sys2Proof.Machine

set_option Elab.async false

theorem State.fgc_modFg (s : State) (g : Nat) (f : FgSt → FgSt) : (s.modFg g f).fgc g = f (s.fgc g) := nth_upd_same _ _ _

theorem fgFld_plain {f : Fld} (h1 : 0x24400 ≤ f.off) (h2 : f.off < 0x24C00) : f.plain = true :=
  Fld.plain_of_range (by decide +kernel) h1 h2

/-! ### Fields of a group -/

/-- Fields that lost and returned pairs, restarts and scaled estimates write. -/
def pairFlds (g : Nat) : List Fld := [FG_STAT_PairPresent g, FG_STAT_Scaled g, FG_RESTART_CNT_Cnt g, FG_PAIR_LOSS_CNT_Cnt g]

/-- Fields that the judgement of an estimate writes. -/
def learnFlds (g : Nat) : List Fld :=
  [FG_STAT_RangeErr g, FG_STAT_Exc g, FG_STAT_EstValid g, FG_STAT_Scaled g, FG_STAT_Held g, FG_RESTART_CNT_Cnt g, FG_VS_EST_V g,
    FG_R_EST_V g, FG_SHARE_S g 0, FG_SHARE_S g 1]

/-- Fields that the estimator stage of a group writes. -/
def stageFlds (g : Nat) : List Fld := FG_STAT_Lost g :: FG_PDRAW_V g :: pairFlds g ++ learnFlds g

/-- A well-formed field in a word of the block of registers. -/
def Fld.inBlock (f : Fld) (base n : Nat) : Prop := f.ok = true ∧ ∃ k < n, f.off = base + 4 * k

/-- What stays clear of a block's words stays clear of every field in it. -/
theorem Fld.apart_of_block {f h : Fld} {base n : Nat} (hb : h.inBlock base n) (ha : (regsFrom base n).all f.apart = true) :
    f.apart h = true := by
  obtain ⟨hok, k, hk, hoff⟩ := hb
  have hword := List.all_eq_true.1 ha ⟨base + 4 * k, 31, 0⟩ (List.mem_map.2 ⟨k, List.mem_range.2 hk, rfl⟩)
  simp only [Fld.ok, Bool.and_eq_true, decide_eq_true_eq] at hok
  simp only [Fld.apart, Bool.or_eq_true, bne_iff_ne, decide_eq_true_eq, hoff] at hword ⊢
  omega

theorem FaultReach.block {s x : State} {fs : List Fld} {ps : List Part} {base n : Nat} (h : FaultReach s x fs ps)
    (hb : ∀ f ∈ fs, f.inBlock base n) : FaultReach s x (regsFrom base n) ps :=
  ⟨fun f hf ha ho => h.regs f hf (List.all_eq_true.2 fun g hg => Fld.apart_of_block (hb g hg) ha) ho, h.parts⟩

theorem stageFlds_block (g : Nat) : ∀ f ∈ stageFlds g, f.inBlock (0x24400 + 0x100 * g) 64 := by
  have hblock (f : Fld) (k : Nat) (hk : k < 64) (hok : f.ok = true) (ho : f.off = 0x24400 + 0x100 * g + 4 * k) :
      f.inBlock (0x24400 + 0x100 * g) 64 := ⟨hok, k, hk, ho⟩
  have hstat (hi lo : Nat) (h : (decide (lo ≤ hi) && decide (hi < 32)) = true) : (⟨FG_STAT g, hi, lo⟩ : Fld).inBlock (0x24400 + 0x100 * g) 64 :=
    hblock _ 2 (by decide) h (by simp only [FG_STAT]; omega)
  simp only [stageFlds, pairFlds, learnFlds, List.cons_append, List.nil_append, List.forall_mem_cons, List.not_mem_nil, false_implies,
    implies_true, and_true]
  refine ⟨hstat _ _ rfl, hblock _ 36 (by decide) rfl (by simp only [FG_PDRAW_V, FG_PDRAW]; omega), hstat _ _ rfl, hstat _ _ rfl,
    hblock _ 42 (by decide) rfl (by simp only [FG_RESTART_CNT_Cnt, FG_RESTART_CNT]; omega),
    hblock _ 41 (by decide) rfl (by simp only [FG_PAIR_LOSS_CNT_Cnt, FG_PAIR_LOSS_CNT]; omega), hstat _ _ rfl, hstat _ _ rfl, hstat _ _ rfl,
    hstat _ _ rfl, hstat _ _ rfl, hblock _ 42 (by decide) rfl (by simp only [FG_RESTART_CNT_Cnt, FG_RESTART_CNT]; omega),
    hblock _ 32 (by decide) rfl (by simp only [FG_VS_EST_V, FG_VS_EST]; omega),
    hblock _ 33 (by decide) rfl (by simp only [FG_R_EST_V, FG_R_EST]; omega),
    hblock _ 38 (by decide) rfl (by simp only [FG_SHARE_S, FG_SHARE]; omega),
    hblock _ 39 (by decide) rfl (by simp only [FG_SHARE_S, FG_SHARE]; omega)⟩

theorem pairFlds_offSource (g : Nat) : ∀ f ∈ pairFlds g, offSource f.off := by
  simp only [pairFlds, List.forall_mem_cons, List.not_mem_nil, false_implies, implies_true, and_true, offSource, FG_STAT_PairPresent,
    FG_STAT_Scaled, FG_STAT, FG_RESTART_CNT_Cnt, FG_RESTART_CNT, FG_PAIR_LOSS_CNT_Cnt, FG_PAIR_LOSS_CNT]
  omega

/-! ### The estimator's steps -/

section
variable {g : Nat} {s x : State} {fs : List Fld}

theorem Reach.fgRestart (h : Reach s x fs [.cap]) (hf : FG_RESTART_CNT_Cnt g ∈ fs) : Reach s (x.fgRestart g) fs [.cap] :=
  (h.modFg _ _ (by decide)).inc hf rfl

theorem Reach.fgRestartNom (h : Reach s x fs [.cap]) (hf : FG_RESTART_CNT_Cnt g ∈ fs) : Reach s (x.fgRestartNom g) fs [.cap] :=
  (h.modFg _ _ (by decide)).fgRestart hf

theorem Reach.fgScale (h : Reach s x fs [.cap]) (hs : FG_STAT_Scaled g ∈ fs) (hf : FG_RESTART_CNT_Cnt g ∈ fs) (k : Nat → Nat) :
    Reach s (x.fgScale g k) fs [.cap] := ((h.modFg _ _ (by decide)).wr _ hs rfl).fgRestart hf

theorem Reach.fgShow (h : Reach s x fs [.cap]) (h0 : FG_SHARE_S g 0 ∈ fs) (h1 : FG_SHARE_S g 1 ∈ fs) : Reach s (x.fgShow g) fs [.cap] :=
  h.eachN 2 fun w hw y hy => hy.wr _ (by have : w = 0 ∨ w = 1 := by omega
                                         rcases this with rfl | rfl <;> assumption) rfl

theorem Reach.fgShares (h : Reach s x fs [.cap]) (i : Int) : Reach s (x.fgShares g i) fs [.cap] :=
  h.each _ fun _ _ _ hy => hy.modFg _ _ (by decide)

theorem Reach.fgUpdate (h : Reach s x fs [.cap]) (hf : FG_RESTART_CNT_Cnt g ∈ fs) (y i : Nat) : Reach s (x.fgUpdate g y i) fs [.cap] := by
  rw [State.fgUpdate]
  exact Reach.ite ((h.modFg _ _ (by decide)).fgRestart hf) (h.modFg _ _ (by decide))

end

/-- The judgement of an estimate that lies in its bounds, or has been restarted (R205). -/
def State.fgJudged (s : State) (g : Nat) : State :=
  let ok := decide ((s.fgc g).used ≥ s.rd (FG_EST_EstMinFrames g)) && s.fgExc g 1 &&
    fWithin (s.fgc g).vs (s.rdS (FG_VS_MIN_V g)) (s.rdS (FG_VS_MAX_V g)) &&
    fWithin (s.fgc g).r (s.rdS (FG_R_MIN_V g)) (s.rdS (FG_R_MAX_V g))
  let s := (s.wrB (FG_STAT_Exc g) (s.fgExc g 1)).wrB (FG_STAT_EstValid g) ok
  let s := s.when ok (fun s => (s.modFg g (fun c => { c with last := some (c.vs, c.r) })).wrB (FG_STAT_Scaled g) false)
  let s := s.wrB (FG_STAT_Held g) (!ok && (s.fgc g).last.isSome)
  (s.wrS (FG_VS_EST_V g) (ftoQ 32 16 (s.fgForce g).1)).wrS (FG_R_EST_V g) (ftoQ 32 16 (s.fgForce g).2)

/-- The bounds that the estimate violates. -/
def State.fgInV (s : State) (g : Nat) : Bool := fWithin (s.fgc g).vs (s.rdS (FG_VS_MIN_V g)) (s.rdS (FG_VS_MAX_V g))
def State.fgInR (s : State) (g : Nat) : Bool := fWithin (s.fgc g).r (s.rdS (FG_R_MIN_V g)) (s.rdS (FG_R_MAX_V g))

theorem State.fgJudge_eq (s : State) (g : Nat) (updated : Bool) : s.fgJudge g updated =
    (if updated && !(s.fgInV g && s.fgInR g) then
      ((s.raise 160 (g + (if s.fgInV g then 8 else 0))).wrB (FG_STAT_RangeErr g) true).fgRestartNom g else s).fgJudged g := rfl

theorem State.fgJudged_reach (s : State) (g : Nat) : Reach s (s.fgJudged g) (learnFlds g) [.cap] := by
  have hvalid (a b : Nat) := ((Reach.refl s (learnFlds g) [.cap]).wr (g := FG_STAT_Exc g) a (by simp [learnFlds]) rfl).wr
    (g := FG_STAT_EstValid g) b (by simp [learnFlds]) rfl
  have hkept (a b : Nat) := ((hvalid a b).modFg g (fun c => { c with last := some (c.vs, c.r) }) (by decide)).wr
    (g := FG_STAT_Scaled g) 0 (by simp [learnFlds]) rfl
  have hshown {x : State} (h : Reach s x (learnFlds g) [.cap]) (a b c : Nat) :
      Reach s (((x.wr (FG_STAT_Held g) a).wr (FG_VS_EST_V g) b).wr (FG_R_EST_V g) c) (learnFlds g) [.cap] :=
    ((h.wr _ (by simp [learnFlds]) rfl).wr _ (by simp [learnFlds]) rfl).wr _ (by simp [learnFlds]) rfl
  exact hshown ((hvalid _ _).when _ (hkept _ _)) _ _ _

theorem State.fgJudge_reach (s : State) (g : Nat) (updated : Bool) : FaultReach s (s.fgJudge g updated) (learnFlds g) [.cap] := by
  have hout (syn : Nat) : FaultReach s (((s.raise 160 syn).wrB (FG_STAT_RangeErr g) true).fgRestartNom g) (learnFlds g) [.cap] :=
    ((FaultSide.raise s 160 syn (by decide)).reach _ _).andThen
      (((Reach.refl _ _ _).wr _ (by simp [learnFlds]) rfl).fgRestartNom (by simp [learnFlds]))
  rw [State.fgJudge_eq]
  split
  · exact (hout _).andThen (State.fgJudged_reach _ g)
  · exact (State.fgJudged_reach s g).fault

theorem State.fgLearn_reach (s : State) (g : Nat) (vr : PVal) (good used : Bool) (i : Int) :
    FaultReach s (s.fgLearn g vr good used i) (learnFlds g) [.cap] := by
  have hshares := (Reach.refl s (learnFlds g) [.cap]).when (g := fun s => s.fgShares g i)
    (good && decide (i ≥ 4 * s.rdS (FG_PAIR_LOSS_I_V g)) && decide (0 < i)) ((Reach.refl _ _ _).fgShares i)
  have hupdate := hshares.when (g := fun s => s.fgUpdate g (q16f vr.int) (q16f i)) used
    (hshares.fgUpdate (g := g) (by simp [learnFlds]) (q16f vr.int) (q16f i))
  exact (hupdate.fault.trans (State.fgJudge_reach _ g used)).andThen
    ((Reach.refl _ _ _).fgShow (by simp [learnFlds]) (by simp [learnFlds]))

/-! ### Pairs -/

/-- Work on a group's pairs: other sources than 162 raised, the latch of the boundary as it was. -/
structure PairWork (g : Nat) (s x : State) : Prop where
  spares : Spares 162 s x (pairFlds g) [.cap]
  latch : (x.fgc g).latch = (s.fgc g).latch

namespace PairWork
variable {g : Nat} {s x : State}

theorem refl (g : Nat) (s : State) : PairWork g s s := ⟨Spares.refl _ _ _ _, rfl⟩

theorem modFg (h : PairWork g s x) (f : FgSt → FgSt) (hf : ∀ c, (f c).latch = c.latch := by intro _; rfl) : PairWork g s (x.modFg g f) :=
  ⟨h.spares.andThen ((Reach.refl _ _ _).modFg _ _ (by decide)) (pairFlds_offSource g) (by decide),
    by rw [State.fgc_modFg, hf, h.latch]⟩

theorem wr (h : PairWork g s x) {f : Fld} (v : Nat) (hm : f ∈ pairFlds g) (hf : f.ok = true) : PairWork g s (x.wr f v) :=
  ⟨h.spares.andThen ((Reach.refl _ _ _).wr _ hm hf) (pairFlds_offSource g) (by decide), h.latch⟩

theorem raise (h : PairWork g s x) (syn : Nat) : PairWork g s (x.raise 161 syn) :=
  ⟨h.spares.raise syn (by decide) (by decide) (by decide) (by decide),
    by rw [State.fgc, (FaultSide.raise x 161 syn (by decide)).cap, ← State.fgc, h.latch]⟩

theorem when (h : PairWork g s x) (b : Bool) {k : State → State} (hk : PairWork g s (k x)) : PairWork g s (x.when b k) := by
  cases b
  · exact h
  · exact hk

theorem each {α : Type} (l : List α) {f : State → α → State} (h : PairWork g s x) (hf : ∀ a ∈ l, ∀ y, PairWork g s y → PairWork g s (f y a)) :
    PairWork g s (forEach l x f) := by
  induction l generalizing x with
  | nil => exact h
  | cons a t ih => exact ih (hf a (by simp) x h) fun b hb => hf b (List.mem_cons_of_mem _ hb)

theorem fgRestart (h : PairWork g s x) : PairWork g s (x.fgRestart g) := by
  rw [State.fgRestart]
  exact (h.modFg _).wr _ (by simp [pairFlds]) rfl

theorem fgRestartNom (h : PairWork g s x) : PairWork g s (x.fgRestartNom g) := by
  rw [State.fgRestartNom]
  exact (h.modFg _).fgRestart

theorem fgScale (h : PairWork g s x) (k : Nat → Nat) : PairWork g s (x.fgScale g k) := by
  rw [State.fgScale]
  exact ((h.modFg _).wr _ (by simp [pairFlds]) rfl).fgRestart

theorem pairLose (h : PairWork g s x) (p : Nat) : PairWork g s (x.pairLose g p) := by
  rw [State.pairLose, State.inc_eq]
  exact (((h.wr _ (by simp [pairFlds]) rfl).modFg _).wr _ (by simp [pairFlds]) rfl).raise _

theorem pairBack (h : PairWork g s x) (p : Nat) : PairWork g s (x.pairBack g p) := by
  rw [State.pairBack, State.fgScaleBack]
  exact ((h.wr _ (by simp [pairFlds]) rfl).modFg _).fgScale _

theorem fgAsked (g : Nat) (s : State) : PairWork g s (s.fgAsked g) := by
  rw [State.fgAsked]
  split
  · exact ((PairWork.refl g s).modFg _).fgRestartNom
  · exact refl g s

theorem fgAway (g : Nat) (s : State) : PairWork g s (s.fgAway g) :=
  (refl g s).each _ fun _ _ _ h => h.modFg _

theorem fgPairsDone (g : Nat) (s : State) : PairWork g s (s.fgPairsDone g) := by
  have hgone := (fgAway g s).each (s.pairsGone g) fun p _ _ h => h.pairLose p
  have hscaled : PairWork g s ((forEach (s.pairsGone g) (s.fgAway g) fun s p => s.pairLose g p).when (!(s.pairsGone g).isEmpty)
      fun x => x.fgScaleLoss g ((s.pairsGone g).foldl (fun a p => a + (s.fgc g).shares.getD p 0) 0)) := by
    refine hgone.when _ ?_
    rw [State.fgScaleLoss]
    exact hgone.fgScale _
  exact hscaled.each _ fun p _ _ h => h.pairBack p

theorem trans {y : State} (h : PairWork g s x) (k : PairWork g x y) : PairWork g s y := ⟨h.spares.trans k.spares, k.latch.trans h.latch⟩

end PairWork

end Sys2Proof.Machine
end

section
/-!
O31. The estimator stage of a lone home (R201-R205, R219): what it reaches, a group lost, the power drawn.
-/
namespace Sys2Proof.Machine

set_option Elab.async false

/-! ### The stage's registers -/

theorem FaultReach.mono {s x : State} {fs fs' : List Fld} {ps : List Part} (h : FaultReach s x fs ps) (hf : ∀ f ∈ fs, f ∈ fs') :
    FaultReach s x fs' ps :=
  ⟨fun f pl ha => h.regs f pl (List.all_eq_true.2 fun g hg => List.all_eq_true.1 ha g (hf g hg)), h.parts⟩

theorem pairFlds_stage (g : Nat) : ∀ f ∈ pairFlds g, f ∈ stageFlds g := by
  intro f hf; simp only [stageFlds, List.cons_append, List.mem_cons, List.mem_append]; tauto

theorem learnFlds_stage (g : Nat) : ∀ f ∈ learnFlds g, f ∈ stageFlds g := by
  intro f hf; simp only [stageFlds, List.cons_append, List.mem_cons, List.mem_append]; tauto

/-- A register outside the group's block stays where the stage's fields alone are written. -/
theorem FaultReach.rd_offBlock {s x : State} {g : Nat} (h : FaultReach s x (stageFlds g) [.cap]) {f : Fld} (hp : f.plain = true)
    (hoff : f.off < 0x24400 ∨ 0x24C00 ≤ f.off) (hg : g < 8) (ho : offFault f.off) : x.rd f = s.rd f := by
  refine h.rd hp (List.all_eq_true.2 fun e he => ?_) ho
  obtain ⟨-, k, hk, heq⟩ := stageFlds_block g e he
  have hne : f.off ≠ e.off := by omega
  simp [Fld.apart, hne]

theorem State.fgGroup_reach (s : State) (g : Nat) (vr : PVal) : FaultReach s (s.fgGroup g vr) (stageFlds g) [.cap] := by
  have htaken : Reach s (s.fgTaken g) (stageFlds g) [.cap] := (Reach.refl _ _ _).modFg _ _ (by decide)
  have hdown : Reach s ((s.fgTaken g).fgDown g) (stageFlds g) [.cap] := (htaken.wr _ (by simp [stageFlds]) rfl).modFg _ _ (by decide)
  have hback {x : State} (h : Reach s x (stageFlds g) [.cap]) : Reach s (x.groupBack g) (stageFlds g) [.cap] :=
    ((h.wr _ (by simp [stageFlds]) rfl).modFg _ _ (by decide)).fgRestart (by simp [stageFlds, pairFlds])
  rw [State.fgGroup]
  split
  · exact (Reach.ite (hback (htaken.modFg _ _ (by decide))) (htaken.modFg _ _ (by decide))).fault
  · split
    · exact hdown.fault.raise _ (by decide)
    · exact htaken.fault

theorem State.fgDrawn_reach (s : State) (g : Nat) (vr : PVal) (good used : Bool) (i : Int) :
    FaultReach s (s.fgDrawn g vr good used i) (stageFlds g) [.cap] := by
  have hnote : Reach s ((s.fgNote g vr i).wrS (FG_PDRAW_V g) (s.fgPower g vr i)) (stageFlds g) [.cap] :=
    ((Reach.refl _ _ _).modFg _ _ (by decide)).wr _ (by simp [stageFlds]) rfl
  rw [State.fgDrawn]
  split
  · exact hnote.fault.andThen ((Reach.refl _ _ _).fgShow (by simp [stageFlds, learnFlds]) (by simp [stageFlds, learnFlds]))
  · exact hnote.fault.trans ((State.fgLearn_reach _ g vr good used i).mono (learnFlds_stage g))

/-- The pairs' phase of the stage, a restart asked for included. -/
theorem State.fgPairs_work (s : State) (g : Nat) : PairWork g s ((s.fgAsked g).fgPairsDone g) :=
  (PairWork.fgAsked g s).trans (PairWork.fgPairsDone g _)

theorem State.fgStage_reach (s : State) (g : Nat) : FaultReach s (s.fgStage g) (stageFlds g) [.cap] := by
  rw [State.fgStage_eq]
  exact (((s.fgPairs_work g).spares.reach.mono (pairFlds_stage g)).trans (State.fgGroup_reach _ g _)).trans (State.fgDrawn_reach _ g _ _ _ _)

/-- A lone home's stage is that of its group: there is no set to report to (R219). -/
theorem State.feedStage_lone {s : State} {g : Nat} (hg : g < 8) (hgroups : s.groups = [g]) (hset : s.rd TL_CFG_SetSize ≤ 1) :
    s.feedStage = s.fgStage g := by
  have hsize : (s.fgStage g).rd TL_CFG_SetSize = s.rd TL_CFG_SetSize :=
    (s.fgStage_reach g).rd_offBlock (by decide +kernel) (by decide) hg (offFault_of_high (by decide))
  rw [State.feedStage, hgroups]
  exact if_pos (by simp only [forEach, List.foldl_cons, List.foldl_nil, hsize, hset, decide_true, Bool.or_true, Bool.true_or])

theorem exec_feedEstimatorStage (s : State) : exec .feedEstimatorStage s = done s (s.stage State.feedStage) := rfl
theorem exec_energyPredictor (s : State) : exec .energyPredictor s = done s (s.stage State.predict) := rfl

/-! ### A group lost -/

theorem State.fgGroup_lost {s : State} {g : Nat} (vr : PVal) (hl : s.on (FG_STAT_Lost g) = false) (hlatch : (s.fgc g).latch = true) :
    s.fgGroup g vr = ((s.fgTaken g).fgDown g).raise 162 g := by
  have hl' : (s.fgTaken g).on (FG_STAT_Lost g) = false := hl
  simp [State.fgGroup, hl', hlatch]

theorem State.fgDrawn_lost {s : State} {g : Nat} (vr : PVal) (good used : Bool) (i : Int) (hl : s.on (FG_STAT_Lost g) = true) :
    s.fgDrawn g vr good used i = ((s.fgNote g vr i).wr (FG_PDRAW_V g) 0).fgShow g := by
  rw [State.fgDrawn, if_pos hl, State.fgPower, if_pos hl]
  rfl

theorem State.fgDown_shows (s : State) (g : Nat) : (s.fgDown g).on (FG_STAT_Lost g) = true := by
  rw [State.fgDown, State.on, State.modFg_rd, State.wrB_eq, ← State.on, State.on_wr_flag _ _ rfl rfl]

/-- A group declared lost shows it, and the next frame begins without its latch. -/
theorem State.fgTaken_down (s : State) (g : Nat) : Reach s ((s.fgTaken g).fgDown g) [FG_STAT_Lost g] [.cap] ∧
    (((s.fgTaken g).fgDown g).fgc g).latch = false := by
  refine ⟨(((Reach.refl _ _ _).modFg _ _ (by decide)).wr _ (by simp) rfl).modFg _ _ (by decide), ?_⟩
  have hwr : (((s.fgTaken g).wrB (FG_STAT_Lost g) true).fgc g) = (s.fgTaken g).fgc g := by rw [State.wrB_eq, State.fgc, State.wr_cap, State.fgc]
  rw [State.fgDown, State.fgc_modFg, hwr, State.fgTaken, State.fgc_modFg]

/-- What is shown of a group that is lost: no power drawn. -/
theorem State.fgDrawn_none (s : State) {g : Nat} (hg : g < 8) (vr : PVal) (i : Int) :
    Reach s (((s.fgNote g vr i).wr (FG_PDRAW_V g) 0).fgShow g) [FG_PDRAW_V g, FG_SHARE_S g 0, FG_SHARE_S g 1] [.cap] ∧
    (((s.fgNote g vr i).wr (FG_PDRAW_V g) 0).fgShow g).rd (FG_PDRAW_V g) = 0 ∧
    ((((s.fgNote g vr i).wr (FG_PDRAW_V g) 0).fgShow g).fgc g).latch = (s.fgc g).latch := by
  have hnote : Reach s ((s.fgNote g vr i).wr (FG_PDRAW_V g) 0) [FG_PDRAW_V g, FG_SHARE_S g 0, FG_SHARE_S g 1] [.cap] :=
    ((Reach.refl _ _ _).modFg _ _ (by decide)).wr _ (by simp) rfl
  have hshow : Reach ((s.fgNote g vr i).wr (FG_PDRAW_V g) 0) (((s.fgNote g vr i).wr (FG_PDRAW_V g) 0).fgShow g)
      [FG_SHARE_S g 0, FG_SHARE_S g 1] [] := (Reach.refl _ _ _).eachN 2 fun w hw y hy => hy.wr _ (by
        have : w = 0 ∨ w = 1 := by omega
        rcases this with rfl | rfl <;> simp) rfl
  have hcap : (((s.fgNote g vr i).wr (FG_PDRAW_V g) 0).fgShow g).cap = (s.fgNote g vr i).cap := hshow.parts .cap (by simp)
  refine ⟨hnote.fgShow (by simp) (by simp), ?_, ?_⟩
  · rw [hshow.rd (fgFld_plain (by simp only [FG_PDRAW_V, FG_PDRAW]; omega) (by simp only [FG_PDRAW_V, FG_PDRAW]; omega))
      (by simp [Fld.apart, FG_PDRAW_V, FG_PDRAW, FG_SHARE_S, FG_SHARE]; omega), State.rd_wr_same _ _ _ rfl]
    rfl
  · rw [State.fgc, hcap, ← State.fgc, State.fgNote, State.fgc_modFg]

section
variable {s : State} {g : Fin 8} (hrst : s.frm.coreRst = false) (hgroups : s.groups = [g.val]) (hset : s.rd TL_CFG_SetSize ≤ 1)
include hrst hgroups hset

theorem exec_feedEstimatorStage_lone : exec .feedEstimatorStage s = done s (s.fgStage g) := by
  rw [exec_feedEstimatorStage, State.stage_of_running hrst, State.feedStage_lone g.isLt hgroups hset]

theorem feedEstimatorStage_reaches :
    Answers (exec .feedEstimatorStage s) fun t => FrameFault s t (regsFrom (0x24400 + 0x100 * g) 64) [.cap] := by
  rw [exec_feedEstimatorStage_lone hrst hgroups hset, answers_done]
  exact ((s.fgStage_reach g).block (stageFlds_block g)).frame _

theorem feedEstimatorStage_loses (hl : s.on (FG_STAT_Lost g) = false) (hlatch : (s.fgc g).latch = true)
    (ha : s.on (FLT_SRC_CFG_Assigned 162) = true) : Answers (exec .feedEstimatorStage s) fun t => t.on (FG_STAT_Lost g) = true ∧
      Raised t 162 g ∧ t.rd (FG_PDRAW_V g) = 0 ∧ (t.fgc g).latch = false := by
  obtain ⟨hspares, hkept⟩ := s.fgPairs_work g
  have hstat : (FG_STAT_Lost g).plain = true :=
    fgFld_plain (by simp only [FG_STAT_Lost, FG_STAT]; omega) (by simp only [FG_STAT_Lost, FG_STAT]; omega)
  have hpdraw : (FG_PDRAW_V g).plain = true :=
    fgFld_plain (by simp only [FG_PDRAW_V, FG_PDRAW]; omega) (by simp only [FG_PDRAW_V, FG_PDRAW]; omega)
  rw [exec_feedEstimatorStage_lone hrst hgroups hset, State.fgStage_eq]
  generalize (s.fgAsked g).fgPairsDone g = x at *
  have hlx : x.on (FG_STAT_Lost g) = false := by
    rw [State.on, hspares.reach.rd hstat (by simp [pairFlds, Fld.apart, FG_STAT_Lost, FG_STAT, FG_STAT_PairPresent, FG_STAT_Scaled,
      FG_RESTART_CNT_Cnt, FG_RESTART_CNT, FG_PAIR_LOSS_CNT_Cnt, FG_PAIR_LOSS_CNT]) (offFault_of_high (by
        simp only [FG_STAT_Lost, FG_STAT]; omega)), ← State.on, hl]
  rw [State.fgGroup_lost _ hlx (hkept.trans hlatch)]
  obtain ⟨hdown, hclear⟩ := x.fgTaken_down g
  have hshow := (x.fgTaken g).fgDown_shows g
  generalize (x.fgTaken g).fgDown g = y at *
  have hassigned : y.on (FLT_SRC_CFG_Assigned 162) = true := by
    rw [hdown.on (by decide +kernel) (by simp [Fld.apart, FLT_SRC_CFG_Assigned, FLT_SRC_CFG, FG_STAT_Lost, FG_STAT]),
      hspares.assigned, ha]
  have hraised := State.raise_raised y g (src := 162) (by decide) (by decide) hassigned
  have hside := FaultSide.raise y 162 g (by decide)
  have hlost : (y.raise 162 g).on (FG_STAT_Lost g) = true := by
    rw [hside.on (offFault_of_high (by simp only [FG_STAT_Lost, FG_STAT]; omega)), hshow]
  rw [State.fgDrawn_lost _ _ _ _ hlost]
  generalize (s.fgAsked g).tmAvg _ = vr
  generalize State.fgCurrent _ _ = i
  obtain ⟨hdrawn, hzero, hlatch'⟩ := (y.raise 162 g).fgDrawn_none g.isLt vr i
  rw [answers_done, State.answer_on _ _ hstat, State.answer_rd _ _ hpdraw]
  refine ⟨?_, ?_, hzero, ?_⟩
  · rw [hdrawn.on hstat (by simp [Fld.apart, FG_STAT_Lost, FG_STAT, FG_PDRAW_V, FG_PDRAW, FG_SHARE_S, FG_SHARE]; omega), hlost]
  · refine (hdrawn.raisedStill ?_ (by decide) hraised).answer (by decide) _
    simp [offSource, FG_PDRAW_V, FG_PDRAW, FG_SHARE_S, FG_SHARE]
    omega
  · rw [State.fgc, State.requeue_cap, State.settle_cap, ← State.fgc, hlatch', State.fgc, hside.cap, ← State.fgc, hclear]

end

end Sys2Proof.Machine
end

section
/-!
O31. The power drawn by a group whose pairs are all present (R202, R203).
-/
namespace Sys2Proof.Machine

set_option Elab.async false

/-! ### What a restart asked for leaves -/

/-- All but the count of restarts and the estimator's own state stays. -/
theorem State.fgAsked_same (s : State) (g : Nat) : (∀ a, a ≠ FG_RESTART_CNT g → (s.fgAsked g).word a = s.word a) ∧
    (s.fgAsked g).pnt = s.pnt := by
  have hinc (x : State) : (∀ a, a ≠ FG_RESTART_CNT g → (x.fgRestartNom g).word a = x.word a) ∧ (x.fgRestartNom g).pnt = x.pnt := by
    rw [State.fgRestartNom, State.fgRestart, State.inc_eq, State.wr_pnt]
    exact ⟨fun a ha => State.word_wr_other _ _ _ ha, rfl⟩
  rw [State.fgAsked]
  split
  · exact hinc (s.modFg g fun c => { c with estReq := false })
  · exact ⟨fun _ _ => rfl, rfl⟩

theorem State.cached_of_pnt {s x : State} (hp : x.pnt = s.pnt) (id : Nat) : x.cached id = s.cached id := by
  rw [State.cached, hp, State.cached]

theorem State.tmAvg_of_pnt {s x : State} (hp : x.pnt = s.pnt) (k : Nat) : x.tmAvg k = s.tmAvg k := State.cached_of_pnt hp _

theorem State.tmLatest_of_pnt {s x : State} (hp : x.pnt = s.pnt) (k : Nat) : x.tmLatest k = s.tmLatest k := by
  rw [State.tmLatest, State.cached_of_pnt hp, State.tmLatest]

section
variable {s x : State} {g : Nat} (hw : ∀ a, a ≠ FG_RESTART_CNT g → x.word a = s.word a) (hp : x.pnt = s.pnt)
include hw

theorem State.rd_of_words {f : Fld} (hf : f.off ≠ FG_RESTART_CNT g) : x.rd f = s.rd f := by rw [State.rd, hw _ hf, State.rd]

theorem State.rdS_of_words {f : Fld} (hf : f.off ≠ FG_RESTART_CNT g) : x.rdS f = s.rdS f := by
  rw [State.rdS, State.rd_of_words hw hf, State.rdS]

theorem State.fgPairs_of_words : x.fgPairs g = s.fgPairs g := by
  rw [State.fgPairs, State.rd_of_words hw (by simp only [FG_PAIRS_PairEn, FG_PAIRS, FG_RESTART_CNT]; omega), State.fgPairs]

theorem State.fgPresent_of_words : x.fgPresent g = s.fgPresent g := by
  rw [State.fgPresent, State.rd_of_words hw (by simp only [FG_STAT_PairPresent, FG_STAT, FG_RESTART_CNT]; omega), State.fgPresent]

theorem State.fgPairCh_of_words {p : Nat} (h : p < 8) : x.fgPairCh g p = s.fgPairCh g p := by
  rw [State.fgPairCh, hw _ (by simp only [FG_PAIR_CH, FG_RESTART_CNT]; omega), State.fgPairCh]

include hp

theorem State.pairLow_of_words {p : Nat} (h : p < 8) : x.pairLow g p = s.pairLow g p := by
  rw [State.pairLow, State.fgPairCh_of_words hw h, State.tmLatest_of_pnt hp, State.pairLow]
  have hlim : x.rdS (FG_PAIR_LOSS_I_V g) = s.rdS (FG_PAIR_LOSS_I_V g) :=
    State.rdS_of_words hw (by simp only [FG_PAIR_LOSS_I_V, FG_PAIR_LOSS_I, FG_RESTART_CNT]; omega)
  rw [hlim]

theorem State.pairsGone_of_words : x.pairsGone g = s.pairsGone g := by
  have hlow {p : Nat} (h : p ∈ s.fgPresent g) : x.pairLow g p = s.pairLow g p :=
    State.pairLow_of_words hw hp (List.mem_range.1 (List.mem_filter.1 h).1)
  have hany (p : Nat) : ((s.fgPresent g).any fun o => o != p && !x.pairLow g o) = (s.fgPresent g).any fun o => o != p && !s.pairLow g o := by
    rw [Bool.eq_iff_iff, List.any_eq_true, List.any_eq_true]
    exact exists_congr fun o => and_congr_right fun ho => by rw [hlow ho]
  rw [State.pairsGone, State.pairsGone, State.fgPresent_of_words hw]
  exact List.filter_congr fun p hm => by rw [hlow hm, hany]

theorem State.fgCurrent_of_words : x.fgCurrent g = (s.fgPresent g).foldl (fun a p => a + (s.tmAvg (s.fgPairCh g p)).int) (0 : Int) := by
  have hpair (a : Int) (p : Nat) (hm : p ∈ s.fgPresent g) :
      a + (x.tmAvg (x.fgPairCh g p)).int = a + (s.tmAvg (s.fgPairCh g p)).int := by
    rw [State.fgPairCh_of_words hw (List.mem_range.1 (List.mem_filter.1 hm).1), State.tmAvg_of_pnt hp]
  rw [State.fgCurrent, State.fgPresent_of_words hw]
  exact List.foldl_ext _ _ _ hpair

end

theorem State.fgCurrent_taken (s : State) (g : Nat) : (s.fgTaken g).fgCurrent g = s.fgCurrent g := by
  rw [State.fgTaken]; rfl

/-! ### All pairs present -/

section
variable {s : State} {g : Nat}

/-- No pair lost, none away: the phase of the pairs does nothing. -/
theorem State.fgPairsDone_calm (hall : s.fgPresent g = s.fgPairs g) (hgone : s.pairsGone g = []) : s.fgPairsDone g = s := by
  have haway : s.fgAway g = s := by
    have hnone : (s.fgPairs g).filter (fun p => !(s.fgPresent g).contains p) = [] :=
      List.filter_eq_nil_iff.2 fun p hm => by simpa [hall] using hm
    rw [State.fgAway, hnone]; rfl
  have hback : s.fgBack g = [] := by
    rw [State.fgBack, haway]
    exact List.filter_eq_nil_iff.2 fun p hm => by simp [State.pairBackDue, hall, hm]
  rw [State.fgPairsDone, hgone, hback, haway]
  rfl

/-- A group that is present and stays so. -/
theorem State.fgGroup_present (vr : PVal) (hl : s.on (FG_STAT_Lost g) = false) (hlatch : (s.fgc g).latch = false) (hlow : s.fgLow g = false)
    (hpres : s.fgPresent g ≠ []) : s.fgGroup g vr = s.fgTaken g := by
  have hl' : (s.fgTaken g).on (FG_STAT_Lost g) = false := hl
  have hlow' : (s.fgTaken g).fgLow g = false := hlow
  have hpres' : ((s.fgTaken g).fgPresent g).isEmpty = false := by
    rw [Bool.eq_false_iff, ne_eq, List.isEmpty_iff]
    exact hpres
  simp [State.fgGroup, hl', hlatch, hlow', hpres']

/-- What a group that is present shows. -/
theorem State.fgDrawn_present (hg : g < 8) (vr : PVal) (good used : Bool) (i : Int) (hl : s.on (FG_STAT_Lost g) = false) :
    (s.fgDrawn g vr good used i).on (FG_STAT_Lost g) = false ∧
    (s.fgDrawn g vr good used i).rdS (FG_PDRAW_V g) = satS 32 (divRnd (vr.int * i) 65536) := by
  have hlearn := State.fgLearn_reach ((s.fgNote g vr i).wrS (FG_PDRAW_V g) (s.fgPower g vr i)) g vr good used i
  have heq : s.fgDrawn g vr good used i = ((s.fgNote g vr i).wrS (FG_PDRAW_V g) (s.fgPower g vr i)).fgLearn g vr good used i := by
    rw [State.fgDrawn, if_neg (by simp [hl])]
  have hstat : (FG_STAT_Lost g).plain = true :=
    fgFld_plain (by simp only [FG_STAT_Lost, FG_STAT]; omega) (by simp only [FG_STAT_Lost, FG_STAT]; omega)
  have hpdraw : (FG_PDRAW_V g).plain = true :=
    fgFld_plain (by simp only [FG_PDRAW_V, FG_PDRAW]; omega) (by simp only [FG_PDRAW_V, FG_PDRAW]; omega)
  have hnote : (s.fgNote g vr i).on (FG_STAT_Lost g) = s.on (FG_STAT_Lost g) := State.modFg_on _ _ _ _
  obtain ⟨hlo, hhi⟩ := satS_range (divRnd (vr.int * i) 65536)
  rw [heq]
  constructor
  · rw [State.on, hlearn.rd hstat ?_ (offFault_of_high (by simp only [FG_STAT_Lost, FG_STAT]; omega)), ← State.on, State.wrS_eq,
      State.on_wr_apart _ _ rfl (by simp [Fld.apart, FG_STAT_Lost, FG_STAT, FG_PDRAW_V, FG_PDRAW]), hnote, hl]
    simp [learnFlds, Fld.apart, FG_STAT_Lost, FG_STAT, FG_STAT_RangeErr, FG_STAT_Exc, FG_STAT_EstValid, FG_STAT_Scaled, FG_STAT_Held,
      FG_RESTART_CNT_Cnt, FG_RESTART_CNT, FG_VS_EST_V, FG_VS_EST, FG_R_EST_V, FG_R_EST, FG_SHARE_S, FG_SHARE]
    omega
  · have hcut : unsigned 32 (satS 32 (divRnd (vr.int * i) 65536)) % 2 ^ 32 = unsigned 32 (satS 32 (divRnd (vr.int * i) 65536)) :=
      Nat.mod_eq_of_lt (unsigned_lt _)
    rw [State.rdS, hlearn.rd hpdraw ?_ (offFault_of_high (by simp only [FG_PDRAW_V, FG_PDRAW]; omega)), State.wrS_eq,
      State.rd_wr_same _ _ _ rfl, State.fgPower, if_neg (by simp [hl])]
    · exact (congrArg (signed 32) hcut).trans (signed_unsigned hlo hhi)
    · simp [learnFlds, Fld.apart, FG_PDRAW_V, FG_PDRAW, FG_STAT, FG_STAT_RangeErr, FG_STAT_Exc, FG_STAT_EstValid, FG_STAT_Scaled,
        FG_STAT_Held, FG_RESTART_CNT_Cnt, FG_RESTART_CNT, FG_VS_EST_V, FG_VS_EST, FG_R_EST_V, FG_R_EST, FG_SHARE_S, FG_SHARE]
      omega

end

section
variable {s : State} {g : Fin 8}

theorem feedEstimatorStage_draws (hrst : s.frm.coreRst = false) (hgroups : s.groups = [g.val]) (hset : s.rd TL_CFG_SetSize ≤ 1)
    (hl : s.on (FG_STAT_Lost g) = false) (hlatch : (s.fgc g).latch = false) (hall : s.fgPresent g = s.fgPairs g)
    (hsome : s.fgPairs g ≠ []) (hgone : s.pairsGone g = [])
    (hhigh : ∀ v, s.tmLatest (s.rd (FG_CFG_VrCh g)) = some v → s.rdS (FG_VIN_LOSS_V g) ≤ v) :
    Answers (exec .feedEstimatorStage s) fun t => t.on (FG_STAT_Lost g) = false ∧
      t.rdS (FG_PDRAW_V g) = satS 32 (divRnd ((s.tmAvg (s.rd (FG_CFG_VrCh g))).int *
        (s.fgPresent g).foldl (fun a p => a + (s.tmAvg (s.fgPairCh g p)).int) 0) 65536) := by
  have hask := (PairWork.fgAsked g.val s).latch
  obtain ⟨hw, hp⟩ := s.fgAsked_same g
  rw [exec_feedEstimatorStage_lone hrst hgroups hset, State.fgStage_eq]
  generalize s.fgAsked g = x at *
  have hch : x.rd (FG_CFG_VrCh g) = s.rd (FG_CFG_VrCh g) :=
    State.rd_of_words hw (by simp only [FG_CFG_VrCh, FG_CFG, FG_RESTART_CNT]; omega)
  have hmin : x.rdS (FG_VIN_LOSS_V g) = s.rdS (FG_VIN_LOSS_V g) :=
    State.rdS_of_words hw (by simp only [FG_VIN_LOSS_V, FG_VIN_LOSS, FG_RESTART_CNT]; omega)
  have hlost : x.on (FG_STAT_Lost g) = false := by
    rw [State.on, State.rd_of_words hw (by simp only [FG_STAT_Lost, FG_STAT, FG_RESTART_CNT]; omega), ← State.on, hl]
  have hlow : x.fgLow g = false := by
    rw [State.fgLow, hch, State.tmLatest_of_pnt hp, hmin]
    split
    next v hv => exact decide_eq_false (Int.not_lt.2 (hhigh v hv))
    next => rfl
  have hpres : x.fgPresent g ≠ [] := by rw [State.fgPresent_of_words hw, hall]; exact hsome
  have hpairs : x.fgPairsDone g = x :=
    State.fgPairsDone_calm (by rw [State.fgPresent_of_words hw, State.fgPairs_of_words hw, hall])
      (by rw [State.pairsGone_of_words hw hp, hgone])
  have hnot : (x.fgTaken g).on (FG_STAT_Lost g) = false := hlost
  rw [hpairs, State.fgGroup_present _ hlost (hask.trans hlatch) hlow hpres, State.fgCurrent_taken, State.fgCurrent_of_words hw hp, hch,
    State.tmAvg_of_pnt hp, answers_done]
  generalize x.fgTaken g = y at *
  obtain ⟨hshow, hdraw⟩ := State.fgDrawn_present g.isLt (s.tmAvg (s.rd (FG_CFG_VrCh g))) (x.fgGood g)
    (x.fgGood g && (x.pairsGone g).isEmpty && (x.fgBack g).isEmpty)
    ((s.fgPresent g).foldl (fun a p => a + (s.tmAvg (s.fgPairCh g p)).int) 0) hnot
  generalize y.fgDrawn g _ _ _ _ = z at *
  have hstat : (FG_STAT_Lost g).plain = true :=
    fgFld_plain (by simp only [FG_STAT_Lost, FG_STAT]; omega) (by simp only [FG_STAT_Lost, FG_STAT]; omega)
  have hpdraw : (FG_PDRAW_V g).plain = true :=
    fgFld_plain (by simp only [FG_PDRAW_V, FG_PDRAW]; omega) (by simp only [FG_PDRAW_V, FG_PDRAW]; omega)
  rw [State.answer_on _ _ hstat, State.rdS, State.answer_rd _ _ hpdraw, ← State.rdS]
  exact ⟨hshow, hdraw⟩

end

end Sys2Proof.Machine
end

section
/-!
O31. The energy predictor (R222, R224-R226), pairs and groups that return, the wave and a restart asked for (R201, R203, R204, R206).
-/
namespace Sys2Proof.Machine

set_option Elab.async false

/-! ### The predictor's phases -/

/-- The groups of the mask that are lost, as a mask (R222). -/
def State.huLostMask (s : State) : Nat :=
  (bitsOf 8 (s.rd HU_CFG_InMask)).foldl (fun a g => if s.on (FG_STAT_Lost g) then a ||| 2 ^ g else a) 0

/-- The bus judged as an input (R222). -/
def State.huBus (s : State) : PVal := s.tmAvg (s.rd HU_CH_BusV)

/-- The input is lost. -/
def State.huIsLost (s : State) : Bool :=
  (s.rd HU_CFG_InMask != 0 && s.huLostMask == s.rd HU_CFG_InMask) ||
    (s.on HU_CFG_BusCheck && !s.huBus.isBad && decide (s.huBus.int < s.rdS HU_VBUS_LOSS_V))

/-- The input is good. -/
def State.huIsValid (s : State) : Bool :=
  (s.rd HU_CFG_InMask == 0 || (bitsOf 8 (s.rd HU_CFG_InMask)).any (fun g => s.on (FG_CFG_En g) && !s.on (FG_STAT_Lost g) && (s.fgc g).vrOk &&
    decide ((s.fgc g).vr ≥ s.rdS (FG_VIN_OK_V g)))) &&
    (!s.on HU_CFG_BusCheck || (!s.huBus.isBad && decide (s.huBus.int ≥ s.rdS HU_VBUS_OK_V)))

/-- The input's judgement shown. -/
def State.huJudged (s : State) (lost ok : Bool) (mask : Nat) : State :=
  let s := s.modCap (fun c => { c with inLost := lost, lostMask := mask })
  (s.wrB HU_STAT_InValid ok).wr HU_STAT_ValidCnt (if ok then min 65535 (s.rd HU_STAT_ValidCnt + 1) else 0)

/-- The stores' terms taken together: what is BAD and was armed raised (R226), the demand, the energies (R224, R225). -/
def State.huTerms (s : State) (ec : Int) (cBad cInit : Bool) (eb : Int) (bBad bInit : Bool) : State :=
  let bad := b2n cBad + 2 * b2n bBad
  let good := b2n (!cBad && !cInit) + 2 * b2n (!bBad && !bInit)
  let s := s.when (bad != 0) (fun s => s.wrB HU_STAT_StoreBad true)
  let s := s.when (bad &&& s.cap.armed != 0) (fun s => s.raise 169 bad)
  let pw := s.tmAvg (s.rd HU_CH_PwrCh)
  let pOut := if s.rd HU_CH_PwrCh = 255 ∨ pw.isBad = true then s.rdS HU_PMAX_V else pw.int
  let need := ((s.nPend + s.rd HU_CFG_ResRecs : Nat) : Int) * eRec +
    (s.rdS HU_E_SHUT_V + s.rdS HU_E_MARGIN_V) * ((2 ^ 48 * 20000000 : Nat) : Int)
  let s := s.modCap (fun c => { c with armed := maskOff c.armed bad ||| good, eAvail := ec + eb, eNeed := need, pOut := pOut })
  ((s.wrS HU_EAVAIL_V (jQ16 s.cap.eAvail)).wrS HU_ENEED_V (jQ16 s.cap.eNeed)).wrS HU_ALLOW_V (satS 32 (s.huMargin / eRec))

/-- The terms of the stores in use: the capacitor, the battery, or both. -/
def State.huTermC (s : State) : Int × Bool × Bool := if s.rd HU_CFG_Store = 0 ∨ s.rd HU_CFG_Store = 2 then s.eCap else (0, false, true)
def State.huTermB (s : State) : Int × Bool × Bool := if s.rd HU_CFG_Store = 1 ∨ s.rd HU_CFG_Store = 2 then s.eBat else (0, false, true)

def State.huStores (s : State) : State :=
  s.huTerms s.huTermC.1 s.huTermC.2.1 s.huTermC.2.2 s.huTermB.1 s.huTermB.2.1 s.huTermB.2.2

/-- The predictor as its two phases; the state between them is named before the terms of the stores are taken apart. -/
theorem State.predict_eq (s : State) : s.predict = (s.huJudged s.huIsLost s.huIsValid s.huLostMask).huStores := by
  suffices h : State.predict = fun s => (s.huJudged s.huIsLost s.huIsValid s.huLostMask).huStores from congrFun h s
  delta State.predict
  funext s
  extract_lets mask lostM gLost gOk bus chk lost ok s1 s2 st
  have hjudged : s2 = s.huJudged s.huIsLost s.huIsValid s.huLostMask := rfl
  have hstore : st = s2.rd HU_CFG_Store := rfl
  rw [← hjudged, hstore]
  obtain ⟨x, hx⟩ : ∃ x, x = s2 := ⟨s2, rfl⟩
  rw [← hx]
  split
  next ec cBad cInit hc =>
  split
  next eb bBad bInit hb =>
  rw [State.huStores, State.huTermC, State.huTermB, hc, hb]
  rfl

/-- The energies shown (R224, R225). -/
def State.huShow (s : State) : State :=
  ((s.wrS HU_EAVAIL_V (jQ16 s.cap.eAvail)).wrS HU_ENEED_V (jQ16 s.cap.eNeed)).wrS HU_ALLOW_V (satS 32 (s.huMargin / eRec))

/-- What is needed and drawn, kept with the energy of a good capacitor alone. -/
def State.huDemand (s : State) (e : Int) : State :=
  s.modCap (fun c => { c with
    armed := maskOff c.armed 0 ||| 1
    eAvail := e
    eNeed := ((s.nPend + s.rd HU_CFG_ResRecs : Nat) : Int) * eRec +
      (s.rdS HU_E_SHUT_V + s.rdS HU_E_MARGIN_V) * ((2 ^ 48 * 20000000 : Nat) : Int)
    pOut := if s.rd HU_CH_PwrCh = 255 ∨ (s.tmAvg (s.rd HU_CH_PwrCh)).isBad = true then s.rdS HU_PMAX_V
      else (s.tmAvg (s.rd HU_CH_PwrCh)).int })

theorem State.huTerms_good (s : State) (e : Int) : s.huTerms e false false 0 false true = (s.huDemand e).huShow := by
  have hcalm : (s.when (b2n false + 2 * b2n false != 0) (fun s => s.wrB HU_STAT_StoreBad true)) = s := rfl
  have hquiet : (s.when (b2n false + 2 * b2n false &&& s.cap.armed != 0) (fun s => s.raise 169 (b2n false + 2 * b2n false))) = s := by
    simp [b2n]
  rw [State.huTerms, hcalm, hquiet, Int.add_zero]
  rfl

theorem State.huJudged_reach (s : State) (lost ok : Bool) (mask : Nat) :
    Reach s (s.huJudged lost ok mask) [HU_STAT_InValid, HU_STAT_ValidCnt] [.cap] :=
  (((Reach.refl s _ _).modCap _ (by decide)).wr _ (by decide) (by decide)).wr _ (by decide) (by decide)

/-- The judgement of a good input. -/
theorem State.huJudged_shows (s : State) (mask : Nat) : (s.huJudged false true mask).on HU_STAT_InValid = true ∧
    (s.huJudged false true mask).rd HU_STAT_ValidCnt = min 65535 (s.rd HU_STAT_ValidCnt + 1) ∧
    (s.huJudged false true mask).cap.inLost = false := by
  rw [State.huJudged]
  refine ⟨?_, ?_, rfl⟩
  · rw [State.on_wr_apart _ _ (by decide) (by decide), State.wrB_eq, State.on_wr_flag _ _ (by decide) rfl]
  · rw [State.rd_wr_same _ _ _ (by decide), if_pos rfl, State.modCap_rd]
    exact Nat.mod_eq_of_lt (Nat.lt_of_le_of_lt (Nat.min_le_left _ _) (by decide))

/-- The capacitor's term rests on registers and points that the judgement of the input leaves. -/
theorem State.eCap_of_reach {s x : State} (h : Reach s x [HU_STAT_InValid, HU_STAT_ValidCnt] [.cap]) : x.eCap = s.eCap := by
  have hp : x.pnt = s.pnt := h.parts .pnt (by decide)
  have hrd (f : Fld) (h1 : 0x25800 ≤ f.off) (h2 : f.off < 0x25900) (ha : [HU_STAT_InValid, HU_STAT_ValidCnt].all f.apart = true) :
      x.rd f = s.rd f := h.rd (huFld_plain h1 h2) ha
  rw [State.eCap, State.rdS, hrd HU_CH_StoreV (by decide) (by decide) (by decide), State.cached_of_pnt hp,
    hrd HU_CAP_VMIN_V (by decide) (by decide) (by decide), hrd HU_CAP_C_V (by decide) (by decide) (by decide),
    hrd HU_ETA_EtaCap (by decide) (by decide) (by decide), State.eCap, State.rdS]

/-- A good capacitor alone: nothing is BAD. -/
theorem State.huStores_capacitor {s : State} {e : Int} (h0 : s.rd HU_CFG_Store = 0) (he : s.eCap = (e, false, false)) :
    s.huStores = (s.huDemand e).huShow := by
  have hc : s.huTermC = (e, false, false) := by rw [State.huTermC, if_pos (Or.inl h0), he]
  have hb : s.huTermB = (0, false, true) := by rw [State.huTermB, if_neg (by rw [h0]; decide)]
  rw [State.huStores, hc, hb, State.huTerms_good]

theorem State.huShow_reach (s : State) : Reach s s.huShow [HU_EAVAIL_V, HU_ENEED_V, HU_ALLOW_V] [] := by
  rw [State.huShow]
  exact (((Reach.refl _ _ _).wr _ (by decide) (by decide)).wr _ (by decide) (by decide)).wr _ (by decide) (by decide)

theorem State.huDemand_reach (s : State) (e : Int) : Reach s (s.huDemand e).huShow [HU_EAVAIL_V, HU_ENEED_V, HU_ALLOW_V] [.cap] := by
  have hkept : Reach s (s.huDemand e) [HU_EAVAIL_V, HU_ENEED_V, HU_ALLOW_V] [.cap] := (Reach.refl _ _ _).modCap _ (by decide)
  exact hkept.trans ((State.huShow_reach _).mono (fun _ => id) (by simp))

/-- The energy available, as the register shows it. -/
theorem State.huShow_avail (s : State) : s.huShow.rdS HU_EAVAIL_V = jQ16 s.cap.eAvail := by
  obtain ⟨hlo, hhi⟩ := satS_range (divRnd (s.cap.eAvail * 65536) joule)
  have hcut : unsigned 32 (jQ16 s.cap.eAvail) % 2 ^ 32 = unsigned 32 (jQ16 s.cap.eAvail) := Nat.mod_eq_of_lt (unsigned_lt _)
  rw [State.huShow, State.rdS, State.wrS_eq, State.rd_wr_off _ _ (by decide), State.wrS_eq, State.rd_wr_off _ _ (by decide), State.wrS_eq,
    State.rd_wr_same _ _ _ (by decide)]
  exact (congrArg (signed 32) hcut).trans (signed_unsigned hlo hhi)

theorem State.huDemand_shows (s : State) (e : Int) : (s.huDemand e).huShow.rdS HU_EAVAIL_V = jQ16 e ∧
    (s.huDemand e).huShow.cap.eAvail = e ∧ (s.huDemand e).huShow.cap.inLost = s.cap.inLost := by
  have hcap : (s.huDemand e).huShow.cap = (s.huDemand e).cap := (State.huShow_reach _).parts .cap (by simp)
  rw [State.huShow_avail, hcap]
  exact ⟨rfl, rfl, rfl⟩

theorem energyPredictor_good {s : State} (hrst : s.frm.coreRst = false) (hmask : s.rd HU_CFG_InMask = 0)
    (hchk : s.on HU_CFG_BusCheck = false) (hstore : s.rd HU_CFG_Store = 0) (e : Int) (he : s.eCap = (e, false, false)) :
    Answers (exec .energyPredictor s) fun t => t.on HU_STAT_InValid = true ∧
      t.rd HU_STAT_ValidCnt = min 65535 (s.rd HU_STAT_ValidCnt + 1) ∧ t.rdS HU_EAVAIL_V = jQ16 e ∧ t.cap.eAvail = e ∧
      t.cap.inLost = false ∧ Frame s t [HU_STAT_InValid, HU_STAT_ValidCnt, HU_EAVAIL_V, HU_ENEED_V, HU_ALLOW_V] [.cap] := by
  have hlost : s.huIsLost = false := by simp [State.huIsLost, hmask, hchk]
  have hvalid : s.huIsValid = true := by simp [State.huIsValid, hmask, hchk]
  have hjudge := s.huJudged_reach false true s.huLostMask
  obtain ⟨hin, hcnt, hflag⟩ := s.huJudged_shows s.huLostMask
  rw [exec_energyPredictor, State.stage_of_running hrst, State.predict_eq, hlost, hvalid]
  generalize s.huJudged false true s.huLostMask = x at *
  have hsum : x.huStores = (x.huDemand e).huShow :=
    State.huStores_capacitor (by rw [hjudge.rd (by decide +kernel) (by decide), hstore]) (by rw [State.eCap_of_reach hjudge, he])
  rw [hsum, answers_done]
  have hdemand := x.huDemand_reach e
  obtain ⟨hshow, havail, hkept⟩ := x.huDemand_shows e
  generalize (x.huDemand e).huShow = y at *
  rw [State.answer_on _ _ (by decide +kernel), State.answer_rd _ _ (by decide +kernel), State.rdS, State.answer_rd _ _ (by decide +kernel),
    ← State.rdS, State.requeue_cap, State.settle_cap, hdemand.on (by decide +kernel) (by decide),
    hdemand.rd (by decide +kernel) (by decide)]
  exact ⟨hin, hcnt, hshow, havail, hkept.trans hflag,
    ((hjudge.mono (by simp) (fun _ => id)).trans (hdemand.mono (by simp) (fun _ => id))).frame _⟩

/-! ### Returns, the wave and a restart asked for -/

theorem exec_feedPairReturn (g p : Fin 8) (s : State) :
    exec (.feedPairReturn g p) s = done s (if s.pairBackDue g p then s.pairBack g p else s) := rfl
theorem exec_feedGroupReturn (g : Fin 8) (s : State) :
    exec (.feedGroupReturn g) s = done s (if s.groupBackDue g then s.groupBack g else s) := rfl
theorem exec_pertToggle (g : Fin 8) (s : State) : exec (.pertToggle g) s = done s (s.pertToggle g) := rfl
theorem exec_estRestart (g : Fin 8) (s : State) : exec (.estRestart g) s = done s (s.modFg g (fun c => { c with estReq := true })) := rfl

theorem State.answer_fgc (x : State) (q : List Instr) (g : Nat) : (x.settle.requeue q).fgc g = x.fgc g := by
  rw [State.fgc, State.requeue_cap, State.settle_cap, State.fgc]

/-- A restart counts itself and leaves the resistance. -/
theorem State.fgRestart_shows (s : State) (g : Nat) : ((s.fgRestart g).fgc g).r = (s.fgc g).r ∧ ((s.fgRestart g).fgc g).used = 0 ∧
    (s.fgRestart g).rd (FG_RESTART_CNT_Cnt g) = (s.rd (FG_RESTART_CNT_Cnt g) + 1) % 2 ^ 32 := by
  have hcap (x : State) : (x.inc (FG_RESTART_CNT_Cnt g)).fgc g = x.fgc g := by rw [State.fgc, State.inc_eq, State.wr_cap, State.fgc]
  rw [State.fgRestart, hcap, State.fgc_modFg, State.inc_eq, State.rd_wr_same _ _ _ rfl, State.modFg_rd]
  exact ⟨rfl, rfl, rfl⟩

/-- A scaled estimate: R by the function given, the restart counted. -/
theorem State.fgScale_shows (s : State) (g : Nat) (f : Nat → Nat) : ((s.fgScale g f).fgc g).r = f (s.fgc g).r ∧
    (s.fgScale g f).rd (FG_RESTART_CNT_Cnt g) = (s.rd (FG_RESTART_CNT_Cnt g) + 1) % 2 ^ 32 := by
  have hcap (x : State) : (x.wrB (FG_STAT_Scaled g) true).fgc g = x.fgc g := by rw [State.fgc, State.wrB_eq, State.wr_cap, State.fgc]
  rw [State.fgScale]
  obtain ⟨hr, -, hcnt⟩ := ((s.modFg g fun c => { c with r := f c.r, last := c.last.map fun l => (l.1, f l.2) }).wrB
    (FG_STAT_Scaled g) true).fgRestart_shows g
  rw [hr, hcnt, hcap, State.fgc_modFg, State.wrB_eq, State.rd_wr_off _ _ (by
    simp only [FG_RESTART_CNT_Cnt, FG_RESTART_CNT, FG_STAT_Scaled, FG_STAT]; omega), State.modFg_rd]
  exact ⟨rfl, rfl⟩

/-- The pair shown present, its count of good frames cleared. -/
def State.pairShown (s : State) (g p : Nat) : State :=
  (s.wr (FG_STAT_PairPresent g) (setBit (s.rd (FG_STAT_PairPresent g)) p true)).modFg g
    (fun c => { c with retFor := upd c.retFor p (fun _ => 0) })

theorem State.pairBack_eq (s : State) (g p : Nat) : s.pairBack g p = (s.pairShown g p).fgScale g
    (fun r => fmul r (f32Round (((2 ^ 24 : Nat) : Int) - (s.fgc g).shares.getD p 0) 1 (-24))) := by rfl

theorem State.pairShown_shows (s : State) {g p : Nat} (hp : p < 8) :
    (s.pairShown g p).rd (FG_STAT_PairPresent g) = setBit (s.rd (FG_STAT_PairPresent g)) p true ∧
    ((s.pairShown g p).fgc g).r = (s.fgc g).r ∧ (s.pairShown g p).rd (FG_RESTART_CNT_Cnt g) = s.rd (FG_RESTART_CNT_Cnt g) := by
  have hlt : s.rd (FG_STAT_PairPresent g) < 2 ^ 8 := Nat.mod_lt _ (Nat.two_pow_pos _)
  have hcap (x : State) (v : Nat) : (x.wr (FG_STAT_PairPresent g) v).fgc g = x.fgc g := by rw [State.fgc, State.wr_cap, State.fgc]
  rw [State.pairShown, State.modFg_rd, State.modFg_rd, State.fgc_modFg, hcap, State.rd_wr_same _ _ _ rfl, State.rd_wr_off _ _ (by
    simp only [FG_RESTART_CNT_Cnt, FG_RESTART_CNT, FG_STAT_PairPresent, FG_STAT]; omega)]
  exact ⟨Nat.mod_eq_of_lt (setBit_lt _ hlt hp), rfl, rfl⟩

/-- What follows a pair's return: the scaled estimate with its restart. -/
theorem State.fgScale_reach (s : State) (g : Nat) (f : Nat → Nat) :
    Reach s (s.fgScale g f) [FG_STAT_Scaled g, FG_RESTART_CNT_Cnt g] [.cap] := (Reach.refl _ _ _).fgScale (by simp) (by simp) f

theorem feedPairReturn_returns {s : State} {g p : Fin 8} (h : s.pairBackDue g p = true) : Answers (exec (.feedPairReturn g p) s) fun t =>
    t.rd (FG_STAT_PairPresent g) = setBit (s.rd (FG_STAT_PairPresent g)) p true ∧
    (t.fgc g).r = fmul (s.fgc g).r (f32Round (((2 ^ 24 : Nat) : Int) - (s.fgc g).shares.getD p 0) 1 (-24)) ∧
    t.rd (FG_RESTART_CNT_Cnt g) = (s.rd (FG_RESTART_CNT_Cnt g) + 1) % 2 ^ 32 ∧
    Frame s t [FG_STAT_PairPresent g, FG_STAT_Scaled g, FG_RESTART_CNT_Cnt g] [.cap] := by
  have hpres : (FG_STAT_PairPresent g).plain = true :=
    fgFld_plain (by simp only [FG_STAT_PairPresent, FG_STAT]; omega) (by simp only [FG_STAT_PairPresent, FG_STAT]; omega)
  have hcount : (FG_RESTART_CNT_Cnt g).plain = true :=
    fgFld_plain (by simp only [FG_RESTART_CNT_Cnt, FG_RESTART_CNT]; omega) (by simp only [FG_RESTART_CNT_Cnt, FG_RESTART_CNT]; omega)
  have hshown : Reach s (s.pairShown g p) [FG_STAT_PairPresent g, FG_STAT_Scaled g, FG_RESTART_CNT_Cnt g] [.cap] :=
    ((Reach.refl _ _ _).wr _ (by simp) rfl).modFg _ _ (by decide)
  obtain ⟨hbit, hr, hcnt⟩ := s.pairShown_shows (g := g) p.isLt
  rw [exec_feedPairReturn, if_pos h, State.pairBack_eq]
  generalize s.pairShown g p = x at *
  obtain ⟨hr', hcnt'⟩ := x.fgScale_shows g fun r => fmul r (f32Round (((2 ^ 24 : Nat) : Int) - (s.fgc g).shares.getD p 0) 1 (-24))
  have hscale := x.fgScale_reach g fun r => fmul r (f32Round (((2 ^ 24 : Nat) : Int) - (s.fgc g).shares.getD p 0) 1 (-24))
  rw [answers_done, State.answer_rd _ _ hpres, State.answer_rd _ _ hcount, State.answer_fgc, hr',
    hcnt', hr, hcnt, hscale.rd hpres (by simp [Fld.apart, FG_STAT_PairPresent, FG_STAT, FG_STAT_Scaled, FG_RESTART_CNT_Cnt, FG_RESTART_CNT])]
  exact ⟨hbit, rfl, rfl, (hshown.trans (hscale.mono (by simp) (fun _ => id))).frame _⟩

theorem feedPairReturn_waits {s : State} {g p : Fin 8} (h : s.pairBackDue g p = false) :
    Answers (exec (.feedPairReturn g p) s) fun t => Frame s t [] [] :=
  answers_unchanged (by rw [exec_feedPairReturn, if_neg (by simp [h])])

/-- The group shown present again. -/
def State.groupShown (s : State) (g : Nat) : State := (s.wrB (FG_STAT_Lost g) false).modFg g (fun c => { c with okFor := 0 })

theorem State.groupBack_eq (s : State) (g : Nat) : s.groupBack g = (s.groupShown g).fgRestart g := rfl

theorem State.groupShown_shows (s : State) (g : Nat) : (s.groupShown g).on (FG_STAT_Lost g) = false ∧
    (s.groupShown g).rd (FG_RESTART_CNT_Cnt g) = s.rd (FG_RESTART_CNT_Cnt g) := by
  rw [State.groupShown, State.modFg_on, State.modFg_rd, State.wrB_eq, State.on_wr_flag _ _ rfl rfl, State.rd_wr_off _ _ (by
    simp only [FG_RESTART_CNT_Cnt, FG_RESTART_CNT, FG_STAT_Lost, FG_STAT]; omega)]
  exact ⟨rfl, rfl⟩

theorem feedGroupReturn_returns {s : State} {g : Fin 8} (h : s.groupBackDue g = true) : Answers (exec (.feedGroupReturn g) s) fun t =>
    t.on (FG_STAT_Lost g) = false ∧ (t.fgc g).used = 0 ∧
    t.rd (FG_RESTART_CNT_Cnt g) = (s.rd (FG_RESTART_CNT_Cnt g) + 1) % 2 ^ 32 ∧
    Frame s t [FG_STAT_Lost g, FG_RESTART_CNT_Cnt g] [.cap] := by
  have hstat : (FG_STAT_Lost g).plain = true :=
    fgFld_plain (by simp only [FG_STAT_Lost, FG_STAT]; omega) (by simp only [FG_STAT_Lost, FG_STAT]; omega)
  have hcount : (FG_RESTART_CNT_Cnt g).plain = true :=
    fgFld_plain (by simp only [FG_RESTART_CNT_Cnt, FG_RESTART_CNT]; omega) (by simp only [FG_RESTART_CNT_Cnt, FG_RESTART_CNT]; omega)
  have hshown : Reach s (s.groupShown g) [FG_STAT_Lost g, FG_RESTART_CNT_Cnt g] [.cap] :=
    ((Reach.refl _ _ _).wr _ (by simp) rfl).modFg _ _ (by decide)
  obtain ⟨hlost, hcnt⟩ := s.groupShown_shows g
  rw [exec_feedGroupReturn, if_pos h, State.groupBack_eq]
  generalize s.groupShown g = x at *
  obtain ⟨-, hused, hcnt'⟩ := x.fgRestart_shows g
  have hrestart : Reach x (x.fgRestart g) [FG_RESTART_CNT_Cnt g] [.cap] := (Reach.refl _ _ _).fgRestart (by simp)
  rw [answers_done, State.answer_on _ _ hstat, State.answer_rd _ _ hcount, State.answer_fgc, hused,
    hcnt', hcnt, hrestart.on hstat (by simp [Fld.apart, FG_STAT_Lost, FG_STAT, FG_RESTART_CNT_Cnt, FG_RESTART_CNT]), hlost]
  exact ⟨rfl, rfl, rfl, (hshown.trans (hrestart.mono (by simp) (fun _ => id))).frame _⟩

theorem feedGroupReturn_waits {s : State} {g : Fin 8} (h : s.groupBackDue g = false) :
    Answers (exec (.feedGroupReturn g) s) fun t => Frame s t [] [] :=
  answers_unchanged (by rw [exec_feedGroupReturn, if_neg (by simp [h])])

/-- A change of a group beside its registers, as a command of its own. -/
theorem answers_modFg (s : State) (g : Nat) (f : FgSt → FgSt) :
    Answers (done s (s.modFg g f)) fun t => t.cap = (s.modFg g f).cap ∧ Frame s t [] [.cap] := by
  rw [answers_done, State.requeue_cap, State.settle_cap]
  exact ⟨rfl, ((Reach.refl s [] [.cap]).modFg _ _ (by decide)).frame _⟩

theorem pertToggle_toggles {s : State} {g : Fin 8} (h : s.pertDue g = true) : Answers (exec (.pertToggle g) s) fun t =>
    t.cap = (s.modFg g fun c => { c with pertFor := 0, pertHigh := !c.pertHigh }).cap ∧ Frame s t [] [.cap] := by
  rw [exec_pertToggle, State.pertToggle, if_pos h]
  exact answers_modFg _ _ _

theorem pertToggle_waits {s : State} {g : Fin 8} (h : s.pertDue g = false) : Answers (exec (.pertToggle g) s) fun t => Frame s t [] [] :=
  answers_unchanged (by rw [exec_pertToggle, State.pertToggle, if_neg (by simp [h])])

theorem estRestart_asks (s : State) (g : Fin 8) : Answers (exec (.estRestart g) s) fun t =>
    t.cap = (s.modFg g fun c => { c with estReq := true }).cap ∧ Frame s t [] [.cap] := by
  rw [exec_estRestart]
  exact answers_modFg _ _ _

theorem feedStages_restart {s : State} (h : s.frm.coreRst = true) : (Answers (exec .feedEstimatorStage s) fun t => Frame s t [] []) ∧
    (Answers (exec .energyPredictor s) fun t => Frame s t [] []) :=
  ⟨answers_unchanged (by rw [exec_feedEstimatorStage, State.stage_of_restart h]),
    answers_unchanged (by rw [exec_energyPredictor, State.stage_of_restart h])⟩

/-- Settles O31: the estimator stage by its phases (pairs, group, power drawn, estimate), the predictor by its judgement and its stores. -/
theorem feedStages : Obligations.FeedStages := fun _ _ _ =>
  ⟨feedStages_restart,
    fun hrst hgroups hset => ⟨feedEstimatorStage_reaches hrst hgroups hset, feedEstimatorStage_loses hrst hgroups hset,
      feedEstimatorStage_draws hrst hgroups hset⟩,
    energyPredictor_good, feedPairReturn_returns, feedPairReturn_waits, feedGroupReturn_returns, feedGroupReturn_waits, pertToggle_toggles,
    pertToggle_waits, estRestart_asks _ _⟩

end Sys2Proof.Machine
end

section
/-!
SUPPORT. A message taken by the receiver's checks (R377, R379): what the checks leave of the state, and what a receiver may rely on.
-/
namespace Sys2Proof.Machine

set_option Elab.async false

/-- The state in which the receiver of a message runs: its port's count, and the sequence numbers seen. -/
structure Taken (s : State) (h : LinkHdr) (x : State) : Prop where
  reach : Reach s x [TL_PORT_RX_CNT_Cnt h.port] [.tl, .red]
  regs : x.regs = (s.inc (TL_PORT_RX_CNT_Cnt h.port)).regs
  tl : ∃ b, x.tl = { s.tl with rxBcast := b }

theorem Taken.counted (s : State) (h : LinkHdr) : Taken s h (s.inc (TL_PORT_RX_CNT_Cnt h.port)) :=
  ⟨(Reach.refl s _ _).inc (by simp) rfl, rfl, s.tl.rxBcast, rfl⟩

theorem Taken.modRed {s x : State} {h : LinkHdr} (k : Taken s h x) (g : RedSt → RedSt) : Taken s h (x.modRed g) :=
  ⟨k.reach.modRed g (by decide), k.regs, k.tl⟩

theorem Taken.heard {s x : State} {h : LinkHdr} (k : Taken s h x) (b : List (Nat × Nat)) : Taken s h (x.modTl fun t => { t with rxBcast := b }) := by
  obtain ⟨b', htl⟩ := k.tl
  exact ⟨k.reach.modTl _ (by decide), k.regs, b, by rw [State.modTl_tl, htl]⟩

/-- A message that passes the checks is handed to its receiver. -/
theorem State.accept_taken {s : State} {h : LinkHdr} (ht : LinkTaken s h) : ∃ x, s.accept h false = (true, x) ∧ Taken s h x := by
  obtain ⟨hup, hsrc, hvalid, hgen, hbcast, hdirect⟩ := ht
  have hcount := Taken.counted s h
  have hsame : ((s.inc (TL_PORT_RX_CNT_Cnt h.port)).on (TL_GEN_SEEN_Valid h.src) &&
      (s.inc (TL_PORT_RX_CNT_Cnt h.port)).rd (TL_GEN_SEEN_Gen h.src) == h.gen.toNat) = true := by
    rw [State.inc_eq, State.on, State.rd_wr_off _ _ (by
        simp only [TL_GEN_SEEN_Valid, TL_GEN_SEEN, TL_PORT_RX_CNT_Cnt, TL_PORT_RX_CNT]; omega), ← State.on, hvalid,
      State.rd_wr_off _ _ (by simp only [TL_GEN_SEEN_Gen, TL_GEN_SEEN, TL_PORT_RX_CNT_Cnt, TL_PORT_RX_CNT]; omega), hgen]
    simp
  have hrole : (s.inc (TL_PORT_RX_CNT_Cnt h.port)).redState = s.redState := by
    rw [State.redState, State.inc_eq, State.rd_wr_off _ _ (by
      simp only [RED_STAT_State, RED_STAT, TL_PORT_RX_CNT_Cnt, TL_PORT_RX_CNT]; omega), State.redState]
  have hpeer : (s.inc (TL_PORT_RX_CNT_Cnt h.port)).peerPos = s.peerPos := by
    rw [State.peerPos, State.inc_eq, State.rd_wr_off _ _ (by
      simp only [RED_CFG_PeerPos, RED_CFG, TL_PORT_RX_CNT_Cnt, TL_PORT_RX_CNT]; omega), State.peerPos]
  have hmine : h.bcast = true ∨ h.dest.val = s.me := by
    cases hb : h.bcast
    · exact Or.inr (hdirect hb).1
    · exact Or.inl rfl
  rw [State.accept, if_neg (by rcases hmine with e | e <;> simp [hup, hsrc, e])]
  have htl : (s.inc (TL_PORT_RX_CNT_Cnt h.port)).tl = s.tl := rfl
  have hred : (s.inc (TL_PORT_RX_CNT_Cnt h.port)).red = s.red := rfl
  generalize s.inc (TL_PORT_RX_CNT_Cnt h.port) = x at *
  simp only [hsame, Bool.not_true, Bool.false_and, Bool.false_eq_true, if_false, if_true, htl, hrole, hpeer]
  cases hb : h.bcast
  case true =>
    simp only [if_true]
    split
    next n hn =>
      rw [if_pos (hbcast hb n hn)]
      exact ⟨_, rfl, hcount.heard _⟩
    next => exact ⟨_, rfl, hcount.heard _⟩
  case false =>
    simp only [Bool.false_eq_true, if_false]
    split
    next hstand =>
      rw [if_neg]
      · exact ⟨_, rfl, hcount.modRed _⟩
      rw [hred]
      split
      next n hn => simpa using (hdirect hb).2 hstand.1 hstand.2 n hn
      next => exact Bool.false_ne_true
    next => exact ⟨x, rfl, hcount⟩

/-- The receiver of a message that passes the checks. -/
theorem State.received_taken {s : State} {h : LinkHdr} (ht : LinkTaken s h) : ∃ x, Taken s h x ∧ ∀ f, s.received h f = f x := by
  obtain ⟨x, hx, htaken⟩ := State.accept_taken ht
  exact ⟨x, htaken, fun f => by rw [State.received, hx]; rfl⟩

namespace Taken
variable {s x : State} {h : LinkHdr} (k : Taken s h x)
include k

theorem word {a : Nat} (ha : a ≠ TL_PORT_RX_CNT h.port) : x.word a = s.word a := by
  rw [State.word, k.regs]
  exact State.word_wr_other s _ _ ha

theorem rd {f : Fld} (hf : f.off ≠ TL_PORT_RX_CNT h.port) : x.rd f = s.rd f := by rw [State.rd, k.word hf, State.rd]

theorem on {f : Fld} (hf : f.off ≠ TL_PORT_RX_CNT h.port) : x.on f = s.on f := by rw [State.on, k.rd hf, State.on]

/-- The low part of the map, where the devices' registers stand, has no count of a port. -/
theorem rd_low {f : Fld} (hf : f.off < 0x34000) : x.rd f = s.rd f := k.rd (by simp only [TL_PORT_RX_CNT]; omega)

theorem on_low {f : Fld} (hf : f.off < 0x34000) : x.on f = s.on f := k.on (by simp only [TL_PORT_RX_CNT]; omega)

theorem pins : x.pins = s.pins := by
  rw [State.pins, k.regs, State.pins]
  exact pinsOf_putFld s.regs _ (by simp only [TL_PORT_RX_CNT_Cnt, TL_PORT_RX_CNT]; omega)

theorem pin (i w : Nat) : x.pin i w = s.pin i w := by
  rw [State.pin, k.word (by simp only [pinKey, TL_PORT_RX_CNT]; omega), State.pin]

theorem pinsOfPeer (q id : Nat) : x.pinsOfPeer q id = s.pinsOfPeer q id := by
  rw [State.pinsOfPeer, k.pins, State.pinsOfPeer]
  exact List.filter_congr fun e _ => by rw [k.pin]

theorem pinOf (id : Nat) : x.pinOf id = s.pinOf id := by rw [State.pinOf, k.pins, State.pinOf]

theorem me : x.me = s.me := k.rd_low (by decide)

theorem pointKnown (id : Nat) : x.pointKnown id = s.pointKnown id := by
  have hdrv : x.on (PNT_DRV_CFG_En (id - 0x40000)) = s.on (PNT_DRV_CFG_En (id - 0x40000)) :=
    k.on (by simp only [PNT_DRV_CFG_En, PNT_DRV_CFG, TL_PORT_RX_CNT]; omega)
  rw [State.pointKnown, hdrv, State.pointKnown]

theorem pinned (id : Nat) : x.pinned id = s.pinned id := by
  rw [State.pinned, k.pointKnown, k.pinOf, State.pinned]

/-- No owner of a domain-0 point, shelf loop or rail, is decided by the count of a port. -/
theorem slOwns (id : Nat) : x.slOwns id = s.slOwns id := by
  have hmode (m : Nat) : x.rd (SL_STAT_Mode m) = s.rd (SL_STAT_Mode m) := k.rd (by simp only [SL_STAT_Mode, SL_STAT, TL_PORT_RX_CNT]; omega)
  have hen (m j : Nat) : x.on (SL_MEM_CFG_En m j) = s.on (SL_MEM_CFG_En m j) :=
    k.on (by simp only [SL_MEM_CFG_En, SL_MEM_CFG, TL_PORT_RX_CNT]; omega)
  have hout (m j : Nat) : x.rd (SL_MEM_OUT_Id m j) = s.rd (SL_MEM_OUT_Id m j) :=
    k.rd (by simp only [SL_MEM_OUT_Id, SL_MEM_OUT, TL_PORT_RX_CNT]; omega)
  simp only [State.slOwns, hmode, hen, hout]

theorem ownRefuses (id : Nat) : x.ownRefuses id = s.ownRefuses id := by rw [State.ownRefuses, k.slOwns, State.ownRefuses]

theorem railOwns (id : Nat) : x.railOwns id = s.railOwns id := by
  have hen (r : Nat) : x.on (SEQ_RAIL_CFG_En r) = s.on (SEQ_RAIL_CFG_En r) :=
    k.on (by simp only [SEQ_RAIL_CFG_En, SEQ_RAIL_CFG, TL_PORT_RX_CNT]; omega)
  have hkind (r : Nat) : x.rd (SEQ_RAIL_CFG_Kind r) = s.rd (SEQ_RAIL_CFG_Kind r) :=
    k.rd (by simp only [SEQ_RAIL_CFG_Kind, SEQ_RAIL_CFG, TL_PORT_RX_CNT]; omega)
  have hpoint (r : Nat) : x.rd (SEQ_RAIL_PNT_Point r) = s.rd (SEQ_RAIL_PNT_Point r) :=
    k.rd (by simp only [SEQ_RAIL_PNT_Point, SEQ_RAIL_PNT, TL_PORT_RX_CNT]; omega)
  simp only [State.railOwns, hen, hkind, hpoint]

theorem cap : x.cap = s.cap := k.reach.parts .cap (by decide)

theorem pnt : x.pnt = s.pnt := k.reach.parts .pnt (by decide)

/-- The host interface stays, the interrupts that wait included. -/
theorem hif : x.hif = s.hif := by
  have hrings : x.hif = { s.hif with vecs := x.hif.vecs, pba := x.hif.pba } := k.reach.parts .rings (by decide)
  obtain ⟨hvecs, hpba⟩ : x.hif.vecs = s.hif.vecs ∧ x.hif.pba = s.hif.pba := k.reach.parts .irq (by decide)
  rw [hrings, hvecs, hpba]

end Taken

end Sys2Proof.Machine
end

section
/-!
SUPPORT. Engaging actuators (R212): the allocation received and the wrong-side engagements stay through it; messages of capping (R219, R220).
-/
namespace Sys2Proof.Machine

set_option Elab.async false

/-! ### What engaging leaves -/

/-- The allocation received and the wrong-side engagements are as they were. -/
def AllocKept (s x : State) : Prop := x.cap.alloc = s.cap.alloc ∧ x.cap.wsEng = s.cap.wsEng

namespace AllocKept
variable {s x y : State}

theorem refl (s : State) : AllocKept s s := ⟨rfl, rfl⟩

theorem trans (h : AllocKept s x) (k : AllocKept x y) : AllocKept s y := ⟨k.1.trans h.1, k.2.trans h.2⟩

theorem of_cap (h : AllocKept s x) (hc : y.cap = x.cap) : AllocKept s y := h.trans ⟨by rw [hc], by rw [hc]⟩

theorem modCap (h : AllocKept s x) (g : CapSt → CapSt) (ha : ∀ c, (g c).alloc = c.alloc := by intro _; rfl)
    (hw : ∀ c, (g c).wsEng = c.wsEng := by intro _; rfl) : AllocKept s (x.modCap g) := h.trans ⟨ha _, hw _⟩

theorem wr (h : AllocKept s x) (f : Fld) (v : Nat) : AllocKept s (x.wr f v) := h.of_cap (State.wr_cap _ _ _)

theorem raise (h : AllocKept s x) {src : Nat} (syn : Nat) (hs : src < 256) : AllocKept s (x.raise src syn) :=
  h.of_cap (FaultSide.raise x src syn hs).cap

theorem when (h : AllocKept s x) (b : Bool) {g : State → State} (k : AllocKept s (g x)) : AllocKept s (x.when b g) := by
  cases b
  · exact h
  · exact k

theorem each {α : Type} (l : List α) {f : State → α → State} (h : AllocKept s x) (hf : ∀ a y, AllocKept s y → AllocKept s (f y a)) :
    AllocKept s (forEach l x f) := by
  induction l generalizing x with
  | nil => exact h
  | cons a t ih => exact ih (hf a x h)

theorem ltClaim (h : AllocKept s x) (n : Nat) (v : Option Int) : AllocKept s (x.ltClaim n v) := by
  have hclamp (z : Int) : AllocKept s (x.ltClampTgt n z).2 := by
    rw [State.ltClampTgt]
    exact h.when _ (h.wr _ _)
  cases v with
  | none => exact h.of_cap rfl
  | some z => exact (hclamp z).of_cap rfl

theorem updThr (h : AllocKept s x) : AllocKept s x.updThr := h.of_cap (x.updThr_reach.parts .cap (by decide))

theorem updSheds (h : AllocKept s x) : AllocKept s x.updSheds := h.of_cap (x.updSheds_reach.parts .cap (by decide) (by decide))

theorem updPol (h : AllocKept s x) (fresh gone : List Nat) : AllocKept s (x.updPol fresh gone) := by
  have hfresh := h.each fresh (f := fun s i => s.when (s.claimRefused (s.rd (CAP_POL_CFG_Tile i))) (fun s => s.raise 166 (8 + i)))
    fun i y hy => hy.when _ (hy.raise _ (by decide))
  rw [State.updPol]
  refine each _ (each _ (each _ hfresh fun i y hy => ?_) fun i y hy => ?_) fun n y hy => ?_
  · dsimp only
    split
    · exact hy.modCap _
    · split
      · exact (hy.modCap _).ltClaim _ _
      · exact hy.ltClaim _ _
  · dsimp only
    split
    · exact hy.ltClaim _ _
    · exact (hy.modCap _).ltClaim _ _
  · split
    · split
      · exact hy
      · exact hy.ltClaim _ _
    · exact hy

theorem engage (h : AllocKept s x) (want : List Nat) : AllocKept s (x.engage want) := by
  rw [State.engage]
  exact ((h.modCap _).updThr.updSheds).updPol _ _

theorem capShow (h : AllocKept s x) : AllocKept s x.capShow := by
  rw [State.capShow]
  exact ((h.each _ fun g y hy => hy.wr _ _).wr _ _).wr _ _

end AllocKept

/-! ### CAP_ALLOC and WS_SHED -/

/-- The entries of this device that an allocation engages (R219). -/
def State.allocKeys (s : State) (thr pol sg : Nat) : List Nat :=
  (bitsOf 8 thr).map (fun k => 128 * s.me + k) ++ (bitsOf 24 pol).map (fun k => 128 * s.me + 8 + k) ++
    (bitsOf 32 sg).map (fun k => 128 * s.me + 64 + k)

theorem State.gotAlloc_master {s : State} (h : s.on GLB_STAT_ShelfMaster = true) (thr pol sg : Nat) : s.gotAlloc thr pol sg = s := if_pos h

theorem State.gotAlloc_alloc {s : State} (h : s.on GLB_STAT_ShelfMaster = false) (thr pol sg : Nat) :
    (s.gotAlloc thr pol sg).cap.alloc = s.allocKeys thr pol sg := by
  rw [State.gotAlloc, if_neg (by simp [h])]
  exact ((AllocKept.refl _).engage _).capShow.1

/-- A shed group of this device chosen on the wrong side is engaged (R220). -/
theorem State.gotWsShed_wsEng {s : State} (h : s.on GLB_STAT_ShelfMaster = false) (home : Nat) {g : Nat} (hg : g < 32)
    (hnew : s.cap.wsEng.contains (128 * s.me + 64 + g) = false) :
    (s.gotWsShed home [32 * s.me + g]).cap.wsEng = s.cap.wsEng ++ [128 * s.me + 64 + g] := by
  have hkey : 128 * ((32 * s.me + g) / 32) + 64 + (32 * s.me + g) % 32 = 128 * s.me + 64 + g := by omega
  have hmine : (128 * s.me + 64 + g) / 128 = s.me := by omega
  have hkeys : ([32 * s.me + g].map fun x => 128 * (x / 32) + 64 + x % 32).filter
      (fun k => k / 128 == s.me && !s.cap.wsEng.contains k) = [128 * s.me + 64 + g] := by
    rw [List.map_cons, List.map_nil, hkey]
    simp only [List.filter_cons, List.filter_nil, hmine, hnew, beq_self_eq_true, Bool.not_false, Bool.and_self, if_true]
  rw [State.gotWsShed, if_neg (by simp [h])]
  simp only [hkeys]
  exact ((AllocKept.refl _).engage _).capShow.2

end Sys2Proof.Machine
end

section
/-!
O48. Messages of the set (R217, R219, R220, R229, R382, R383), each from the state in which its receiver runs.
-/
namespace Sys2Proof.Machine

set_option Elab.async false

/-! ### Answers of a receiver -/

/-- What a message answers, from the state in which its receiver runs. -/
theorem answers_taken {s : State} {h : LinkHdr} (ht : LinkTaken s h) {r : Res} (f : State → State) (hr : r = done s (s.received h f))
    {P : State → Prop} (hP : ∀ x, Taken s h x → P ((f x).settle.requeue s.pending)) : Answers r P := by
  obtain ⟨x, htaken, hx⟩ := State.received_taken ht
  rw [hr, hx, answers_done]
  exact hP x htaken

section
variable {s : State} {h : LinkHdr} (ht : LinkTaken s h)
include ht

/-! ### Reports, allocations, tables -/

theorem feedReport_replaces (r : FeedRep) : Answers (exec (.feedReport h [r]) s) fun t =>
    Frame s t [TL_PORT_RX_CNT_Cnt h.port] [.tl, .red] ∧
    t.tl.reports = s.tl.reports.filter (fun x => !(x.1 == h.src.val && x.2.2.group == r.group)) ++ [(h.src.val, h.setFrame.toNat, r)] := by
  refine answers_taken ht (fun s => s.gotFeedReport h.src h.setFrame.toNat [r]) rfl fun x k => ?_
  obtain ⟨b, htl⟩ := k.tl
  have heq : x.gotFeedReport h.src h.setFrame.toNat [r] = x.modTl fun t => { t with
      reports := t.reports.filter (fun e => !(e.1 == h.src.val && e.2.2.group == r.group)) ++ [(h.src.val, h.setFrame.toNat, r)] } := rfl
  rw [heq]
  exact ⟨(k.reach.modTl _ (by decide)).frame _, by rw [State.requeue_tl, State.settle_tl, State.modTl_tl, htl]⟩

theorem capAlloc_master (thr : BitVec 8) (pol : BitVec 24) (sg : BitVec 32) (hm : s.on GLB_STAT_ShelfMaster = true) :
    Answers (exec (.capAlloc h thr pol sg) s) fun t => Frame s t [TL_PORT_RX_CNT_Cnt h.port] [.tl, .red] := by
  refine answers_taken ht (fun s => s.gotAlloc thr.toNat pol.toNat sg.toNat) rfl fun x k => ?_
  rw [State.gotAlloc_master ((k.on_low (by decide)).trans hm)]
  exact k.reach.frame _

theorem capAlloc_follows (thr : BitVec 8) (pol : BitVec 24) (sg : BitVec 32) (hm : s.on GLB_STAT_ShelfMaster = false) :
    Answers (exec (.capAlloc h thr pol sg) s) fun t => t.cap.alloc = s.allocKeys thr.toNat pol.toNat sg.toNat := by
  refine answers_taken ht (fun s => s.gotAlloc thr.toNat pol.toNat sg.toNat) rfl fun x k => ?_
  rw [State.requeue_cap, State.settle_cap, State.gotAlloc_alloc ((k.on_low (by decide)).trans hm), State.allocKeys, k.me, State.allocKeys]

theorem wsShed_engages (g : Fin 32) (hm : s.on GLB_STAT_ShelfMaster = false)
    (hnew : s.cap.wsEng.contains (128 * s.me + 64 + g) = false) (e : Fin 256) (he : e.val = 32 * s.me + g) :
    Answers (exec (.wsShed h [e]) s) fun t => t.cap.wsEng = s.cap.wsEng ++ [128 * s.me + 64 + g] := by
  refine answers_taken ht (fun s => s.gotWsShed h.src ([e].map Fin.val)) rfl fun x k => ?_
  have hlist : [e].map Fin.val = [32 * x.me + g.val] := by rw [List.map_cons, List.map_nil, he, k.me]
  rw [State.requeue_cap, State.settle_cap, hlist, State.gotWsShed_wsEng ((k.on_low (by decide)).trans hm) _ g.isLt
    (by rw [k.cap, k.me, hnew]), k.cap, k.me]

theorem gasp_waits : Answers (exec (.gasp h) s) fun t => t.cap = { s.cap with gaspIn := true } ∧
    Frame s t [TL_PORT_RX_CNT_Cnt h.port] [.tl, .red, .cap] := by
  refine answers_taken ht (fun s => s.modCap (fun c => { c with gaspIn := true })) rfl fun x k => ?_
  have hcap : (x.modCap fun c => { c with gaspIn := true }).cap = { x.cap with gaspIn := true } := rfl
  rw [State.requeue_cap, State.settle_cap, hcap, k.cap]
  exact ⟨rfl, ((k.reach.mono (fun _ => id) (by simp)).modCap _ (by decide)).frame _⟩

theorem actTable_replaces (l : List ActEntry) : Answers (exec (.actTable h l) s) fun t => assoc t.tl.actTables h.src = some l ∧
    Frame s t [TL_PORT_RX_CNT_Cnt h.port] [.tl, .red] := by
  refine answers_taken ht (fun s => s.modTl (fun t => { t with actTables := assocPut t.actTables h.src l })) rfl fun x k => ?_
  rw [State.requeue_tl, State.settle_tl, State.modTl_tl, assoc_assocPut_same]
  exact ⟨rfl, (k.reach.modTl _ (by decide)).frame _⟩

end

/-! ### Forwarded points (R382) -/

theorem State.linkPort_tl (s : State) (p dest seq : Nat) (body : LinkBody) : (s.linkPort p dest seq body).tl = s.tl := by
  have harm : (s.takeArmed 8 p).2.tl = s.tl := by
    rcases s.takeArmed_eq 8 p with e | e <;> rw [e]
    rw [State.disarm, State.modFlt_tl, State.wr_tl]
  exact harm

/-- A message sent leaves the points that are forwarded. -/
theorem State.linkSend_subs (s : State) (dest : Nat) (body : LinkBody) : (s.linkSend dest body).tl.subs = s.tl.subs := by
  have hport (x : State) (b : Bool) (p seq : Nat) : (x.when b fun s => s.linkPort p 8 seq body).tl = x.tl := by
    cases b
    · rfl
    · exact x.linkPort_tl _ _ _ _
  rw [State.linkSend]
  split
  · rfl
  · dsimp only
    split
    · rw [hport, hport]
    · split
      · rw [State.linkPort_tl]
      · rfl

/-- The points that a peer's subscription of one point leaves. -/
def State.subsRest (s : State) (q id : Nat) : List (Nat × Nat × Nat) := s.tl.subs.filter (fun x => !(x.1 == q && x.2.1 == id))

/-- A subscription of one point: taken, or refused. -/
theorem State.gotSubscribe_one (s : State) (q : Nat) {p : List Byte} (hp : p.length = 6) (hn : numAt p 4 2 ≠ 0) :
    s.gotSubscribe q p =
      if s.pinned (numAt p 0 4 % 2 ^ 20) && decide ((s.subsRest q (numAt p 0 4 % 2 ^ 20)).length < 4 * s.rd TL_CFG_FwdMsgs) then
        s.modTl fun t => { t with subs := s.subsRest q (numAt p 0 4 % 2 ^ 20) ++ [(q, numAt p 0 4 % 2 ^ 20, numAt p 4 2)] }
      else s.linkSend q (.bytes 0x21 (leBytes 4 (numAt p 0 4 % 2 ^ 20))) := by
  have hl : ((List.range (p.length / 6)).map (fun i => (numAt p (6 * i) 4 % 2 ^ 20, numAt p (6 * i + 4) 2))).filter (fun e => e.2 != 0) =
      [(numAt p 0 4 % 2 ^ 20, numAt p 4 2)] := by
    simp [hp, hn]
  rw [State.gotSubscribe]
  simp only [hl, List.foldl_cons, List.foldl_nil, State.subsRest]
  by_cases htaken : (s.pinned (numAt p 0 4 % 2 ^ 20) &&
      decide ((s.tl.subs.filter (fun x => !(x.1 == q && x.2.1 == numAt p 0 4 % 2 ^ 20))).length < 4 * s.rd TL_CFG_FwdMsgs)) = true
  · rw [if_pos htaken]
    exact (if_pos htaken).symm
  · rw [if_neg htaken]
    refine Eq.trans ?_ (if_neg htaken).symm
    exact congrArg (fun l => s.linkSend q (.bytes 0x21 l)) (List.append_nil _)

section
variable {s : State} {h : LinkHdr} (ht : LinkTaken s h)
include ht

theorem subscribe_takes {b : List Byte} (hb : b.length = 6) (hn : numAt b 4 2 ≠ 0) (hpin : s.pinned (numAt b 0 4 % 2 ^ 20) = true)
    (hroom : (s.subsRest h.src (numAt b 0 4 % 2 ^ 20)).length < 4 * s.rd TL_CFG_FwdMsgs) : Answers (exec (.subscribe h b) s) fun t =>
      t.tl.subs = s.subsRest h.src (numAt b 0 4 % 2 ^ 20) ++ [(h.src.val, numAt b 0 4 % 2 ^ 20, numAt b 4 2)] ∧
      Frame s t [TL_PORT_RX_CNT_Cnt h.port] [.tl, .red] := by
  refine answers_taken ht (fun s => s.gotSubscribe h.src b) rfl fun x k => ?_
  obtain ⟨l, htl⟩ := k.tl
  have hrest (q id : Nat) : x.subsRest q id = s.subsRest q id := by rw [State.subsRest, htl, State.subsRest]
  have hmsgs : x.rd TL_CFG_FwdMsgs = s.rd TL_CFG_FwdMsgs := k.rd (by simp only [TL_CFG_FwdMsgs, TL_CFG, TL_PORT_RX_CNT]; omega)
  rw [State.gotSubscribe_one _ _ hb hn, if_pos (by rw [k.pinned, hrest, hmsgs, hpin, decide_eq_true hroom]; rfl), State.requeue_tl, State.settle_tl,
    State.modTl_tl, hrest]
  exact ⟨rfl, (k.reach.modTl _ (by decide)).frame _⟩

theorem subscribe_refuses {b : List Byte} (hb : b.length = 6) (hn : numAt b 4 2 ≠ 0)
    (hno : s.pinned (numAt b 0 4 % 2 ^ 20) = false ∨ 4 * s.rd TL_CFG_FwdMsgs ≤ (s.subsRest h.src (numAt b 0 4 % 2 ^ 20)).length) :
    Answers (exec (.subscribe h b) s) fun t => t.tl.subs = s.tl.subs ∧
      Frame s t [TL_PORT_RX_CNT_Cnt h.port, TL_PORT_TX_CNT_Cnt 0, TL_PORT_TX_CNT_Cnt 1, FLT_INJ_Armed] [.tl, .red, .flt, .out] := by
  refine answers_taken ht (fun s => s.gotSubscribe h.src b) rfl fun x k => ?_
  obtain ⟨l, htl⟩ := k.tl
  have hrest (q id : Nat) : x.subsRest q id = s.subsRest q id := by rw [State.subsRest, htl, State.subsRest]
  have hmsgs : x.rd TL_CFG_FwdMsgs = s.rd TL_CFG_FwdMsgs := k.rd (by simp only [TL_CFG_FwdMsgs, TL_CFG, TL_PORT_RX_CNT]; omega)
  have hrefuse : ¬(x.pinned (numAt b 0 4 % 2 ^ 20) &&
      decide ((x.subsRest h.src (numAt b 0 4 % 2 ^ 20)).length < 4 * x.rd TL_CFG_FwdMsgs)) = true := by
    rw [k.pinned, hrest, hmsgs, Bool.and_eq_true, decide_eq_true_eq]
    rintro ⟨hpin, hroom⟩
    rcases hno with e | e
    · exact Bool.false_ne_true (e.symm.trans hpin)
    · omega
  rw [State.gotSubscribe_one _ _ hb hn, if_neg hrefuse, State.requeue_tl, State.settle_tl, State.linkSend_subs, htl]
  refine ⟨rfl, Reach.frame (Reach.linkSend (k.reach.mono (by simp) ?_) _ _ ?_ ?_) _⟩
  · decide
  · exact fun _ => List.mem_cons_of_mem _
  · decide

/-- A refused point returns to Init and is reported (R382). -/
theorem subNack_returns (e : Nat × Nat) {b : List Byte} (hb : b.length = 4)
    (he : s.pinsOfPeer h.src (numAt b 0 4 % 2 ^ 20) = [e]) (ha : s.on (FLT_SRC_CFG_Assigned 53) = true) :
    Answers (exec (.subNack h b) s) fun t => t.cached (e.2 % 2 ^ 20) = {} ∧ Raised t 53 e.1 := by
  refine answers_taken ht (fun s => forEach ((List.range (b.length / 4)).map (fun i => numAt b (4 * i) 4 % 2 ^ 20)) s (fun s id =>
    forEach (s.pinsOfPeer h.src id) s (fun s e => (s.setCache (e.2 % 2 ^ 20) {}).raise 53 e.1))) rfl fun x k => ?_
  have hids : (List.range (b.length / 4)).map (fun i => numAt b (4 * i) 4 % 2 ^ 20) = [numAt b 0 4 % 2 ^ 20] := by simp [hb]
  simp only [hids, forEach, List.foldl_cons, List.foldl_nil, k.pinsOfPeer, he]
  have hraised := State.raise_raised (x.setCache (e.2 % 2 ^ 20) {}) e.1 (src := 53) (by decide) (by decide)
    ((k.on_low (by decide)).trans ha)
  have hside := FaultSide.raise (x.setCache (e.2 % 2 ^ 20) {}) 53 e.1 (by decide)
  have hcache : ((x.setCache (e.2 % 2 ^ 20) {}).raise 53 e.1).cached (e.2 % 2 ^ 20) = {} := by
    rw [State.cached_of_pnt hside.pnt, State.cached, State.setCache, assoc_assocPut_same]
    rfl
  exact ⟨(State.cached_of_pnt (by rw [State.requeue_pnt, State.settle_pnt]) _).trans hcache, hraised.answer (by decide) _⟩

/-- A forwarded value arrives with its stamp in this device's frames (R382). -/
theorem fwd_arrives (e : Nat × Nat) {b : List Byte} (hb : b.length = 12)
    (he : s.pinsOfPeer h.src (numAt b 0 4 % 2 ^ 20) = [e]) : Answers (exec (.fwd h b) s) fun t =>
      t.pnt = { s.pnt with arrivals := s.pnt.arrivals ++ [(e.2 % 2 ^ 20, some
        { v := BitVec.ofNat 32 (numAt b 4 4), q := numAt b 0 4 / 2 ^ 24,
          stamp := (numAt b 8 4 + 2 ^ 32 - s.rd FRM_SET_OFF_LO_Lo) % 2 ^ 32 })] } ∧
      Frame s t [TL_PORT_RX_CNT_Cnt h.port] [.tl, .red, .pnt] := by
  refine answers_taken ht (fun s => forEach (List.range (b.length / 12)) s (fun s i =>
    let a := numAt b (12 * i) 4
    let stamp := (numAt b (12 * i + 8) 4 + 2 ^ 32 - s.rd FRM_SET_OFF_LO_Lo) % 2 ^ 32
    forEach (s.pinsOfPeer h.src (a % 2 ^ 20)) s (fun s e =>
      s.arrive (e.2 % 2 ^ 20) (some { v := BitVec.ofNat 32 (numAt b (12 * i + 4) 4), q := a / 2 ^ 24, stamp := stamp })))) rfl
    fun x k => ?_
  have hone : List.range (b.length / 12) = [0] := by rw [hb]; rfl
  have hoff : x.rd FRM_SET_OFF_LO_Lo = s.rd FRM_SET_OFF_LO_Lo := k.rd_low (by decide)
  have harrive (n : Nat) (p : Option PVal) : Reach s (x.arrive n p) [TL_PORT_RX_CNT_Cnt h.port] [.tl, .red, .pnt] :=
    (k.reach.mono (fun _ => id) (by simp)).modPnt (fun p' => { p' with arrivals := p'.arrivals ++ [(n, p)] }) (by decide)
  simp only [hone, forEach, List.foldl_cons, List.foldl_nil, Nat.mul_zero, Nat.zero_add, k.pinsOfPeer, he, hoff]
  refine ⟨?_, (harrive _ _).frame _⟩
  rw [State.requeue_pnt, State.settle_pnt, State.arrive, k.pnt]

end

end Sys2Proof.Machine
end

section
/-!
O48. Remote writes (R333, R383): the write asked for, its acknowledgement and its time-out; the statement that the messages make up.
-/
namespace Sys2Proof.Machine

set_option Elab.async false

theorem State.completeCmd_tl (x : State) (c : Cmd) (st : Status) (result : Nat) : (x.completeCmd c st result).tl = x.tl := by
  have harm : (x.takeArmed 7 c.pair).2.tl = x.tl := by
    rcases x.takeArmed_eq 7 c.pair with e | e <;> rw [e]
    rw [State.disarm, State.modFlt_tl, State.wr_tl]
  have hhold : (x.holdTag c st).tl = x.tl := by
    rw [State.holdTag]
    cases st == .notAdmitted
    · rw [State.when_false, State.wr_tl, harm]
    · rw [State.when_true, State.incSat_eq, State.wr_tl, State.wr_tl, harm]
  rw [State.completeCmd_eq]
  exact hhold

/-- A manual duty is a published point of domain 0, written at its register. -/
theorem dutyPoint : ∀ n : Fin 24, domainOf (0x4002 + 32 * n) = 0 ∧ published (0x4002 + 32 * n) = true ∧
    (0x4002 + 32 * n.val) % 32 = 2 ∧ (0x4002 + 32 * n.val - 0x4000) / 32 = n ∧ 0x4002 + 32 * n.val < 0x5000 := by decide

theorem dutyFld_plain : ∀ n : Fin 24, (LT_MAN_DUTY_Duty n).plain = true := by decide +kernel

theorem State.writeOwn_duty (s : State) (n : Fin 24) (v : Nat) :
    s.writeOwn (0x4002 + 32 * n) v = s.wr (LT_MAN_DUTY_Duty n) (min v 65535) := by
  obtain ⟨-, -, hreg, htile, hlt⟩ := dutyPoint n
  rw [State.writeOwn, if_pos hlt, htile, if_pos hreg]

/-- A duty that nothing else owns is written at once. -/
theorem State.remoteWrite_duty {s : State} {n : Fin 24} (hpin : s.pinOf (0x4002 + 32 * n) = none)
    (hown : s.ownRefuses (0x4002 + 32 * n) = false) (hrail : s.railOwns (0x4002 + 32 * n) = false) (v : Nat) :
    s.remoteWrite (0x4002 + 32 * n) v = (.ok, s.wr (LT_MAN_DUTY_Duty n) (min v 65535)) := by
  obtain ⟨hdom, hpub, -⟩ := dutyPoint n
  have hknown : s.pointKnown (0x4002 + 32 * n) = true := by rw [State.pointKnown, hdom]; exact hpub
  rw [State.remoteWrite, hknown, hpin, hdom, hown, hrail, State.writeOwn_duty]
  rfl

/-- The write acknowledged is no longer waited for. -/
def State.ackTaken (s : State) (q req : Nat) : State :=
  s.modTl fun t => { t with pwrites := t.pwrites.filter (fun x => !(x.1 == req && x.2.1 == q)) }

theorem State.gotAck_cmd {s : State} {q req code tag : Nat} {st : Status} {c : Cmd}
    (hfound : s.tl.pwrites.find? (fun x => x.1 == req && x.2.1 == q) = some (req, q, .cmd tag)) (hcode : Status.ofCode code = some st)
    (hfind : s.findCmd tag = some c) : s.gotAck q req code = (s.ackTaken q req).completeCmd c st c.result := by
  have hfind' : (s.ackTaken q req).findCmd tag = some c := hfind
  have hcomplete : (s.ackTaken q req).complete tag st (match (s.ackTaken q req).findCmd tag with | some c => c.result | none => 0) =
      (s.ackTaken q req).completeCmd c st c.result := by
    rw [State.complete_of_find hfind', hfind']
  rw [State.gotAck, hfound, hcode]
  exact hcomplete

section
variable {s : State} {h : LinkHdr} (ht : LinkTaken s h) (b : List Byte)
include ht

theorem pwrite_unknown (hno : s.pointKnown (numAt b 0 4 % 2 ^ 20) = false) : Answers (exec (.pwrite h b) s) fun t =>
    t.tl.pwIn = s.tl.pwIn ++ [(h.src.val, numAt b 8 4, 15)] ∧ Frame s t [TL_PORT_RX_CNT_Cnt h.port] [.tl, .red] := by
  refine answers_taken ht (fun s => let (st, s) := s.remoteWrite (numAt b 0 4 % 2 ^ 20) (numAt b 4 4)
    s.modTl (fun t => { t with pwIn := t.pwIn ++ [(h.src.val, numAt b 8 4, st.code)] })) rfl fun x k => ?_
  obtain ⟨l, htl⟩ := k.tl
  have hwrite : x.remoteWrite (numAt b 0 4 % 2 ^ 20) (numAt b 4 4) = (.pointUnknown, x) := by
    rw [State.remoteWrite, k.pointKnown, hno]; rfl
  simp only [hwrite]
  rw [State.requeue_tl, State.settle_tl, State.modTl_tl, htl]
  exact ⟨rfl, (k.reach.modTl _ (by decide)).frame _⟩

theorem pwrite_duty (n : Fin 24) (hid : numAt b 0 4 % 2 ^ 20 = 0x4002 + 32 * n) (hpin : s.pinOf (0x4002 + 32 * n) = none)
    (hown : s.ownRefuses (0x4002 + 32 * n) = false) (hrail : s.railOwns (0x4002 + 32 * n) = false) :
    Answers (exec (.pwrite h b) s) fun t => t.rd (LT_MAN_DUTY_Duty n) = min (numAt b 4 4) 65535 ∧
      t.tl.pwIn = s.tl.pwIn ++ [(h.src.val, numAt b 8 4, 0)] ∧
      Frame s t [TL_PORT_RX_CNT_Cnt h.port, LT_MAN_DUTY_Duty n] [.tl, .red] := by
  refine answers_taken ht (fun s => let (st, s) := s.remoteWrite (numAt b 0 4 % 2 ^ 20) (numAt b 4 4)
    s.modTl (fun t => { t with pwIn := t.pwIn ++ [(h.src.val, numAt b 8 4, st.code)] })) rfl fun x k => ?_
  obtain ⟨l, htl⟩ := k.tl
  have hwrite := State.remoteWrite_duty (s := x) (by rw [k.pinOf, hpin]) (by rw [k.ownRefuses, hown]) (by rw [k.railOwns, hrail])
    (numAt b 4 4)
  simp only [hid, hwrite]
  rw [State.answer_rd _ _ (dutyFld_plain n), State.requeue_tl, State.settle_tl, State.modTl_tl, State.modTl_rd, State.rd_wr_same _ _ _ rfl, State.wr_tl,
    htl]
  refine ⟨?_, rfl, (((k.reach.mono (by simp) (fun _ => id)).wr _ (by simp) rfl).modTl _ (by decide)).frame _⟩
  exact Nat.mod_eq_of_lt (Nat.lt_of_le_of_lt (Nat.min_le_right _ _) (by decide : 65535 < 2 ^ 16))

/-- The acknowledgement of a command's write completes it. -/
theorem pwriteAck_completes (tag : Fin 256) (c : Cmd) (st : Status)
    (hsent : s.tl.pwrites = [(numAt b 0 4, h.src.val, .cmd tag.val)]) (hfind : s.findCmd tag.val = some c)
    (hcode : Status.ofCode (numAt b 4 1) = some st) (hst : st ≠ .notAdmitted) : Answers (exec (.pwriteAck h b) s) fun t =>
      Completes s t c st c.result ∧ t.tl.pwrites = [] ∧
      Frame s t [TL_PORT_RX_CNT_Cnt h.port, HIF_TAG_State c.tag, FLT_INJ_Armed] [.tl, .red, .rings, .flt] := by
  refine answers_taken ht (fun s => s.gotAck h.src (numAt b 0 4) (numAt b 4 1)) rfl fun x k => ?_
  obtain ⟨l, htl⟩ := k.tl
  have htag : c.tag < 256 := by rw [State.findCmd_tag hfind]; exact tag.isLt
  have hlist : x.tl.pwrites = [(numAt b 0 4, h.src.val, .cmd tag.val)] := by rw [htl, hsent]
  have heq : x.gotAck h.src (numAt b 0 4) (numAt b 4 1) = (x.ackTaken h.src (numAt b 0 4)).completeCmd c st c.result :=
    State.gotAck_cmd (by simp [hlist]) hcode ((State.findCmd_of_hif (by rw [k.hif]) _).trans hfind)
  have hempty : (x.ackTaken h.src (numAt b 0 4)).tl.pwrites = [] := by rw [State.ackTaken, State.modTl_tl]; simp [hlist]
  have hcomps : (x.ackTaken h.src (numAt b 0 4)).hif.comps = s.hif.comps := by rw [State.ackTaken, State.modTl_hif, k.hif]
  have hframe : (x.ackTaken h.src (numAt b 0 4)).frame32 = s.frame32 := k.rd_low (by decide)
  have hreach : Reach s (x.ackTaken h.src (numAt b 0 4)) [TL_PORT_RX_CNT_Cnt h.port, HIF_TAG_State c.tag, FLT_INJ_Armed]
      [.tl, .red, .rings, .flt] := (k.reach.mono (by simp) (by simp)).modTl _ (by decide)
  rw [heq]
  generalize x.ackTaken h.src (numAt b 0 4) = y at *
  refine ⟨((State.completeCmd_completes y c st c.result).from hcomps hframe).answer htag _, ?_,
    (hreach.completeCmd c c.result hst (by simp) (by simp) (by decide) (by decide)).frame _⟩
  rw [State.requeue_tl, State.settle_tl, State.completeCmd_tl, hempty]

theorem pwriteAck_stray (hnone : s.tl.pwrites = []) :
    Answers (exec (.pwriteAck h b) s) fun t => Frame s t [TL_PORT_RX_CNT_Cnt h.port] [.tl, .red] := by
  refine answers_taken ht (fun s => s.gotAck h.src (numAt b 0 4) (numAt b 4 1)) rfl fun x k => ?_
  obtain ⟨l, htl⟩ := k.tl
  have hstay : x.gotAck h.src (numAt b 0 4) (numAt b 4 1) = x := by simp [State.gotAck, htl, hnone]
  rw [hstay]
  exact k.reach.frame _

end

/-! ### The window (R333) -/

theorem exec_pwriteTimeout (tag : Fin 256) (s : State) : exec (.pwriteTimeout tag) s = done s (s.pwTimeout tag) := rfl

section
variable {s : State} {tag : Fin 256} {c : Cmd} (hfind : s.findCmd tag.val = some c)
include hfind

theorem pwriteTimeout_ends (hsent : s.tl.pwrites.any (fun x => x.2.2 == .cmd tag.val) = true) (hdl : c.deadline ≠ 0)
    (hlate : c.arrival + min c.deadline 1024 ≤ s.frame) : Answers (exec (.pwriteTimeout tag) s) fun t =>
      Completes s t c .timeout c.result ∧
      t.tl = { s.tl with pwrites := s.tl.pwrites.filter (fun x => x.2.2 != .cmd tag.val) } ∧
      Frame s t [HIF_TAG_State c.tag, FLT_INJ_Armed] [.tl, .rings, .flt] := by
  have htag : c.tag < 256 := by rw [State.findCmd_tag hfind]; exact tag.isLt
  have heq : s.pwTimeout tag = (s.completeCmd c .timeout c.result).modTl
      (fun t => { t with pwrites := t.pwrites.filter (fun x => x.2.2 != .cmd tag.val) }) := by
    rw [State.pwTimeout, hfind, ← State.complete_of_find hfind]
    exact if_pos (by rw [hsent, decide_eq_true hlate, bne_iff_ne.2 hdl]; rfl)
  have hdone := State.completeCmd_completes s c .timeout c.result
  have htl := s.completeCmd_tl c .timeout c.result
  have hreach : Reach s (s.completeCmd c .timeout c.result) [HIF_TAG_State c.tag, FLT_INJ_Armed] [.tl, .rings, .flt] :=
    (Reach.refl _ _ _).completeCmd c c.result (by decide) (by simp) (by simp) (by decide) (by decide)
  rw [exec_pwriteTimeout, heq, answers_done]
  generalize s.completeCmd c .timeout c.result = y at *
  have hclear : Completes s (y.modTl fun t => { t with pwrites := t.pwrites.filter (fun x => x.2.2 != .cmd tag.val) }) c .timeout c.result :=
    hdone
  refine ⟨hclear.answer htag _, ?_, (hreach.modTl _ (by decide)).frame _⟩
  rw [State.requeue_tl, State.settle_tl, State.modTl_tl, htl]

theorem pwriteTimeout_waits (h : s.tl.pwrites.any (fun x => x.2.2 == .cmd tag.val) = false ∨ c.deadline = 0 ∨
    s.frame < c.arrival + min c.deadline 1024) : Answers (exec (.pwriteTimeout tag) s) fun t => Frame s t [] [] := by
  have hstay : s.pwTimeout tag = s := by
    rw [State.pwTimeout, hfind]
    refine if_neg ?_
    rw [Bool.and_eq_true, Bool.and_eq_true, decide_eq_true_eq, bne_iff_ne]
    rintro ⟨⟨hsent, hdl⟩, hlate⟩
    rcases h with e | e | e
    · exact Bool.false_ne_true (e.symm.trans hsent)
    · exact hdl e
    · omega
  exact answers_unchanged (by rw [exec_pwriteTimeout, hstay])

end

/-- Settles O48: a message that passes the checks finds its receiver in a state that differs by its port's count and the sequence numbers
seen; each receiver is followed from there. -/
theorem setMessages : Obligations.SetMessages := fun _ =>
  ⟨fun _ b ht => ⟨feedReport_replaces ht, capAlloc_master ht, capAlloc_follows ht, wsShed_engages ht, gasp_waits ht, actTable_replaces ht,
      fun hb hn => ⟨subscribe_takes ht hb hn, subscribe_refuses ht hb hn⟩, fun e hb => subNack_returns ht e hb, fun e hb => fwd_arrives ht e hb,
      pwrite_unknown ht b, pwrite_duty ht b, pwriteAck_completes ht b, pwriteAck_stray ht b⟩,
    fun _ _ hfind => ⟨pwriteTimeout_ends hfind, pwriteTimeout_waits hfind⟩⟩

end Sys2Proof.Machine
end
